-- ==== Sys2Proof/Word.lean ====
section
/-! DEFINITION. The word type of the Sundane's registers and its plainest arithmetic.
Every register is 32 bits wide (00_scope.md, "Registers and 64-bit pairs"); a `_FF` or `_PH` quantity is a signed
64-bit fixed-point value (R9). -/

namespace Sys2Proof

/-- A register word: every register of the Sundane is 32 bits wide. -/
abbrev Word := BitVec 32

/-- One byte of memory. -/
abbrev Byte := BitVec 8

/-- The signed value of a 64-bit quantity held as two halves (R9, R11). -/
def signed64 (lo hi : Word) : Int := ((hi ++ lo : BitVec 64)).toInt

/-- The low half of the two's complement 64-bit form of an integer (R11). -/
def lo64 (x : Int) : Word := (BitVec.ofInt 64 x).setWidth 32

/-- The high half of the two's complement 64-bit form of an integer (R11). -/
def hi64 (x : Int) : Word := ((BitVec.ofInt 64 x) >>> 32).setWidth 32

/-- Saturation at the ends of the range `lo` to `hi`. -/
def clampInt (lo hi x : Int) : Int := if x < lo then lo else if hi < x then hi else x

/-- A computed `_FF` or `_PH` result saturates at the nearest end of the 64-bit range (R10). -/
def sat64 (x : Int) : Int := clampInt (-0x8000000000000000) 0x7fffffffffffffff x

/-- Whether a computed `_FF` or `_PH` result falls outside its range (R10). -/
def out64 (x : Int) : Bool := x < -0x8000000000000000 || 0x7fffffffffffffff < x

/-- The value of a `w`-bit field read as two's complement. -/
def signedOf (w v : Nat) : Int := if v < 2 ^ (w - 1) then v else (v : Int) - 2 ^ w

/-- The `w`-bit two's complement pattern of an integer, as a natural number. -/
def patternOf (w : Nat) (x : Int) : Nat := (x % (2 : Int) ^ w).toNat

/-- The numeric value of a Boolean bit. -/
def bit (b : Bool) : Nat := if b then 1 else 0

/-- Integer absolute value, as a natural number. -/
def absN (x : Int) : Nat := x.natAbs

end Sys2Proof
end

