-- ==== Sys2Proof/Syntax.lean ====
section
/-! DEFINITION. The commands of the Sundane, one constructor per row of the opcode table, with the operands that arrive with
them. `at_` is the pivot time of the command since the last model tick, in units of 2^-12 ns (assumption 2). -/

namespace Sys2Proof

/-- The registers of an output whose write R150 describes. -/
inductive OutReg where
  | cfg | freq | period | width | anchor
deriving DecidableEq, Repr

/-- What the tracking update of a channel measures over one integration (R165, R166): the pseudorange in 2^-16 ns, the advance of the
carrier phase over the integration in 2^-32 cycles, the Doppler in 1/64 Hz, C/N0 in 0.25 dB-Hz, and the lock and validity marks. -/
structure TkMeas where
  pr : BitVec 64
  cp : BitVec 64
  dop : BitVec 20
  cn0 : BitVec 8
  codeLock : Bool
  carrierLock : Bool
  halfCycle : Bool
  ephValid : Bool
deriving DecidableEq, Repr

/-- A (satellite, signal) pair that the allocator may place, with its predicted elevation in degrees where almanac and position
give one (R163). -/
structure TrackCand where
  sys : BitVec 3
  sv : BitVec 6
  sig : BitVec 4
  port : Fin 4
  elev : Option Int
deriving DecidableEq, Repr

/-- A signal at a solution epoch (R170): its channel; its transmit time on GPS time in `_PH` units, counted from the epoch of device
time; the satellite's position then in mm ECEF; corr in `_PH` units; the satellite's elevation in degrees; and the broadcast offset of its
constellation in `_PH` units where it is decoded (R169). -/
structure SigEst where
  tk : Fin 256
  tx : Int
  sat : Int × Int × Int
  corr : Int
  elev : Int
  ofs : Option Int
deriving DecidableEq, Repr

/-- The data-block starts of a port's transmit replica around an instant (R183): a start, in units of 2^-60/25 ns so that every
block period is a whole number, and the numbers of the slots, counted from it, that the PCS uses for alignment markers. -/
structure BlockGrid where
  phase : Int
  markers : List Int
deriving DecidableEq, Repr

/-- A slow-protocol PDU as the ESMC receiver parses it (R191): the fields its acceptance rests on, the QL TLV's SSM and the
extended QL TLV's code. -/
structure EsmcPdu where
  dst : BitVec 48
  etherType : BitVec 16
  subtype : Byte
  oui : BitVec 24
  ituSubtype : BitVec 16
  version : BitVec 4
  ql : Option (BitVec 4)
  ext : Option Byte
deriving DecidableEq, Repr

/-- A PTP sourcePortIdentity. -/
structure PtpPort where
  clock : BitVec 64
  port : BitVec 16
deriving DecidableEq, Repr

/-- What the PTP block takes from a received PTP message: its source addresses (no IP address over L2), sourcePortIdentity,
domain, sequence number, correctionField in 2^-16 ns, and whether it came as unicast. -/
structure PtpMsg where
  mac : List Byte
  ip : List Byte
  id : PtpPort
  domain : Byte
  seq : BitVec 16
  correction : BitVec 64
  unicast : Bool
deriving DecidableEq, Repr

/-- The dataset of a received Announce (R250). -/
structure PtpData where
  prio1 : Byte
  cls : Byte
  acc : Byte
  oslv : BitVec 16
  prio2 : Byte
  gm : BitVec 64
  steps : BitVec 16
deriving DecidableEq, Repr

/-- What a timing block carries (R297), as its receiver takes it: the partner's departure stamp of its previous timing block, its
arrival stamp of one of this device's timing blocks, in 2^-16 ns of the partner's device time, how many blocks this device has
sent since that one, the partner's two delay sums in `_PH` units, and its quality tag. -/
structure LinkBlock where
  dep : Int
  arr : Int
  echo : Nat
  txSum : Int
  rxSum : Int
  tag : Byte
deriving DecidableEq, Repr

/-- A pair heartbeat (R318): the state, the health verdict, the last epoch sent or committed, d and m in `_PH` units, and the
sender's PREFER. -/
structure PairBeat where
  state : Fin 8
  health : Fin 4
  epoch : BitVec 32
  d : Option (BitVec 64)
  m : Option (BitVec 64)
  prefer : Bool
deriving DecidableEq, Repr

/-- A copy epoch (R324): its number, the snapshot time in 2^-60 ns of device time, the NTS section sealed under K, and the host
state area as address and byte pairs, unlisted bytes being zero. -/
structure PairEpoch where
  num : BitVec 32
  time : Int
  nts : List Byte
  host : List (Nat × Byte)
deriving DecidableEq, Repr

/-- How an arriving epoch ends (R324): complete with good CRC and tags, complete with a bad CRC, with a bad frame tag, or still
incomplete when the next begins. -/
inductive EpochEnd where
  | good | badCrc | badTag | cut
deriving DecidableEq, Repr

/-- Where an uncorrectable SRAM word lies (R360): a bucket of the visitor book, a stored record of a channel's queue, the capture
pool, an entry of the PTP client table, a big-number window, the checkpoint area, an unscheduled frame of a port, the finished
frame of a reservation, a received frame of a port, or the oldest fetched descriptor of a queue. -/
inductive EccPlace where
  | book (bucket : Fin 1048576)
  | record (ch : Fin 128) (i : Nat)
  | pool
  | client (entry : Fin 16384)
  | window (slot : Fin 16)
  | checkpoint
  | frame (port : Fin 8) (i : Nat)
  | reserved (port : Fin 8) (i : Nat)
  | received (port : Fin 8)
  | descriptor (queue : Fin 32)
  | request (pipeline : Fin 4) (i : Nat)
deriving DecidableEq, Repr

/-- One error that a scrub pass finds (R359): the 64-bit word of the SRAM, where it lies, and whether it is uncorrectable. -/
structure EccError where
  word : BitVec 23
  place : EccPlace
  ue : Bool
deriving DecidableEq, Repr


/-- The commands: writes and reads of registers, operations of the ports and links, events on pins, and instants that fall
(the rows of opcode_table.json; each docstring is the row's rule). -/
inductive Instr where
  /-- R12. A host read of NAME_LO returns the live low half and copies the live high half into the pair's latch. -/
  | readLo (ofs at_ : Nat)
  /-- R13. A host write of NAME_LO goes into the staging register and has no effect on the device. -/
  | writeLo (ofs : Nat) (v : Word)
  /-- R13. A host write of NAME_HI commits the staged (or live) low half and the written high half together in one core cycle. -/
  | writeHi (ofs : Nat) (v : Word) (at_ : Nat)
  /-- R14. A host read of an RC field returns its value and clears it, keeping any event of the same cycle. -/
  | rcRead (ofs at_ : Nat)
  /-- R14. A host write to a register field that has no row of its own acts by its access code (RW, W1C, W1S). -/
  | registerWrite (ofs : Nat) (v : Word) (at_ : Nat)
  /-- R16. A read of an unoccupied BAR0 offset returns zero and a write there is dropped and counted. -/
  | unmappedAccess (ofs : Nat) (write : Bool)
  /-- R382. A BAR0 access of wrong size or alignment reads zero, drops its write and is counted. -/
  | accessBad (write : Bool)
  /-- R352. POR_N low or power-up resets every domain (PWR reset). -/
  | por (powerUp : Bool) (strap : Fin 8) (pfailLow : Bool)
  /-- R410. PERST_N low resets only the PCIe endpoint; DMA queues stop and crossing 25 follows its partner-reset rules. -/
  | perst (low : Bool)
  /-- R394. A GLB_RESET write with SOFT = 1 and CONFIRM = 0xA5 causes a device soft reset (DEV reset). -/
  | softReset (confirm : BitVec 8)
  /-- R395. A GLB_BLK_RST write requests the BLK reset of the selected blocks. -/
  | blkReset (blocks : BitVec 13) (at_ : Nat)
  /-- R395. A GLB_INST_RST write with GO requests the INST reset of one instance. -/
  | instReset (block : Fin 16) (index : Fin 256) (at_ : Nat)
  /-- R395. A held BLK or INST reset completes, BUSY clears and the block or instance takes its image values. -/
  | blkResetDone
  /-- R32. The pivot has no edge for 1 µs or is outside 15 % over 10 µs: outputs mute, stamps stop, alarms are raised and the time becomes unverified. -/
  | pivotFault
  /-- R32. The pivot has stayed in tolerance for 1 s after a fault and the device performs a soft reset. -/
  | pivotRecovered
  /-- R342. The pivot has been within tolerance for 10 ms in PIVOT_WAIT; PLL_LOCK begins and the warm-up count starts. -/
  | pivotStable
  /-- R342. The pivot is absent for 1 µs before RUN; start-up returns to PIVOT_WAIT and the warm-up count clears. -/
  | pivotLostAtStart
  /-- R342. The core PLL locks and the FACTORY phase begins. -/
  | pllLocked
  /-- R342. The factory image has been applied and the USER_LOAD phase begins. -/
  | factoryApplied
  /-- R338. The image selection completes and the chosen image is applied, with the collection address and H posted. -/
  | imageSelected (answersA answersB : Bool)
  /-- R342. The warm-up count reaches WARMUP_S and the RESTORE phase begins. -/
  | warmupDone
  /-- R343. The checkpoint is restored, in part when CFG_HASH differs, or none is usable; RUN begins and blocks are released in order. -/
  | restoreDone (startMs : Nat)
  /-- R45. A host read of TB_TIME_SEC_LO captures device time and the UTC and NTP views in one core cycle. -/
  | timeCapture (at_ : Nat)
  /-- R46. Every 1 ms of pivot time the timebase updates e and device time, slews the residual and evaluates the standing reports. -/
  | modelTick
  /-- R48. A host write of TB_PM_TEMP_EXT supplies the temperature input and clears TEMP_STALE. -/
  | tempExtWrite (v : BitVec 16)
  /-- R48. With TEXT = 1, 10 s without a TB_PM_TEMP_EXT write zero the temperature term and set TEMP_STALE. -/
  | tempStale
  /-- R50. A host write of TB_UTC_OFS stages a new TAI − UTC offset. -/
  | utcOfsWrite (v : BitVec 16)
  /-- R50. At the next whole second of device time the written TAI − UTC offset comes into force. -/
  | utcOfsInForce
  /-- R51. A TB_LEAP_CFG write with ARM = 1 while ARM is 0 checks the leap schedule and arms the leap or refuses it with LEAP_BAD. -/
  | leapArm (delete : Bool) (at_ : Nat)
  /-- R51. A TB_LEAP_CFG write with ARM = 0 disarms an armed leap, except during an inserted second. -/
  | leapDisarm (at_ : Nat)
  /-- R53. Device time enters the NTP or PTP warning window of an armed leap and LI or LEAP61/LEAP59 is set. -/
  | leapWarning (at_ : Nat)
  /-- R52. Device time reaches S_L − 1 for an armed insertion and IN_LEAP marks 23:59:60. -/
  | leapInsertedSecond (at_ : Nat)
  /-- R52. Device time reaches S_L: the new offset takes force, ARM and the warnings clear and LEAP_DONE is set. -/
  | leapDone (at_ : Nat)
  /-- R56. The steering owner delivers an (x, y) pair, which the servo accepts for the next tick or refuses. -/
  | ownerUpdate (x y : Int)
  /-- R59. A loop set in TB_VERIFY_MASK reports its phase offset of device time at its epoch. -/
  | verifyReport (k : Fin 24) (x : Int)
  /-- R59. A source makes no report for two of its epochs and its standing report lapses. -/
  | standingReportLapse (loop : Option (Fin 24))
  /-- R60. A TB_STEP_AUTH write with AUTH = 1 and a matching SEQ authorises the pending offset, and any other such write is a mismatch. -/
  | stepAuth (seq : BitVec 16) (at_ : Nat)
  /-- R60. A TB_STEP_AUTH write with REJECT = 1 and a matching SEQ discards the pending step. -/
  | stepReject (seq : BitVec 16)
  /-- R60. A TB_CTRL write with PREAUTH_ARM sets PREAUTH. -/
  | preauthArm
  /-- R60. A TB_CTRL write with PREAUTH_CANCEL clears PREAUTH. -/
  | preauthCancel
  /-- R62. A TB_CTRL write with SET_GO commits TB_SET for application, discarding any pending step, or is refused with HOST_SET_BAD. -/
  | setGo (at_ : Nat)
  /-- R61. At the first model tick at least 10 µs after an authorisation or SET_GO, the step or set is applied to device time and carried to the replicas and the consumers. -/
  | stepApply
  /-- R64. A TB_CTRL write with DECLARE_VERIFIED makes the time VERIFIED when HOST_VERIFY_EN = 1. -/
  | declareVerified
  /-- R64. A TB_CTRL write with WITHDRAW_VERIFIED returns the time to UNVERIFIED and sets VERIFIED_LOST. -/
  | withdrawVerified
  /-- R67. Every 320 ns the phase comparator measures each replica against core time, trims its rate word and moves its state. -/
  | replicaCompare (k : Fin 24) (err : Int)
  /-- R66. A replica's time reaches the tagged device time of a step and the replica applies the step. -/
  | replicaStep (k : Fin 24)
  /-- R73. A selected edge at a channel's balls is stamped, subject to dead time, converted to device time and passed to the internal consumers and the channel queue. -/
  | edge (ch : Fin 128) (rising : Bool) (at_ : Nat)
  /-- R84. As device time passes, a held start or waiting stop older than W expires unpaired. -/
  | pairExpiry (ch : Fin 128) (at_ : Nat)
  /-- R83. A write of EVT_CH_PAIR or EVT_CH_PAIR_WIN clears the pairing state, or the configuration is refused with CFG_BAD. -/
  | pairConfigWrite (ch : Fin 128) (window : Bool) (v : Word)
  /-- R72. A write that changes MODE, TERM, THRESH or HYST starts settling and sets SETTLING. -/
  | frontEndWrite (ch : Fin 128) (thresh : Bool) (v : Word)
  /-- R72. The front-end setting has settled within 5 µs and SETTLING clears. -/
  | settlingDone (ch : Fin 128)
  /-- R81. A releasable record is written to its bank's event DMA ring when the ring has room. -/
  | recordCommit (ch : Fin 128)
  /-- R81. A releasable record stays uncommitted beyond COMMIT_INT with room in its ring: an event-queue commit deadline fault. -/
  | commitLate (ch : Fin 128) (at_ : Nat)
  /-- R87. A calibration slot instant falls: a slot starts if the relief stamper is IDLE, or the instant is skipped and counted. -/
  | slotInstant (bank : Fin 8)
  /-- R87. The relief stamper's calibration pass ends, passing to SHADOW_IN or failing to FAULT. -/
  | reliefPassDone (bank : Fin 8) (complete : Bool) (delay : Int) (pulses : List (Bool × Nat)) (at_ : Nat)
  /-- R88. T_sw + 1 µs is reached and the stamper hand-over between relief and channel completes. -/
  | handoverSwitch (bank : Fin 8)
  /-- R87. A channel stamper's calibration pass ends, rejoining the front end or failing to SPARE. -/
  | channelPassDone (bank : Fin 8) (complete : Bool) (delay : Int) (pulses : List (Bool × Nat)) (at_ : Nat)
  /-- R90. An EVT_BK_CAL_CMD write with GO makes POS the next to calibrate, held, refused with BUSY_IN_SERVICE or forced. -/
  | calRequest (bank : Fin 8) (pos : Fin 16) (force : Bool)
  /-- R87. An EVT_BK_CAL_CMD write with RETRY restarts a failed relief or channel pass. -/
  | calRetry (bank : Fin 8)
  /-- R89. A stamper's calibration passes CAL_MAX_AGE; its records lose bit 3 and CAL_STATE becomes stale. -/
  | calAgeExpiry (bank : Fin 8) (pos : Option (Fin 16))
  /-- R368. PFAIL_N goes low: the power-fail checkpoint is latched and every block takes its power-fail action. -/
  | pfailLow (at_ : Nat)
  /-- R368. PFAIL_N returns high while power holds; storing resumes and waiting checkpoint requests are served. -/
  | pfailHigh (at_ : Nat)
  /-- R103. Every 10 ms the Registrar evaluates every slot's state and ranks the eligible slots of each loop. -/
  | evaluationCycle
  /-- R93. A source delivers a sample and the Registrar forms x and y for its slot. -/
  | referenceSample (slot : Fin 64) (v : Int) (at_ : Nat)
  /-- R102. A ledger line received on its trigger pin is accepted for the latest pulse or discarded with a flag. -/
  | ledgerLine (slot : Fin 64) (bytes : List Byte) (dur at_ : Nat)
  /-- R102. 900 ms after a pulse with no accepted line, the pulse yields no sample and LL_MISSING is set. -/
  | ledgerLineTimeout (slot : Fin 64)
  /-- R102. No pulse arrives for 1.5 × PERIOD on a type 1 slot, which is loss of signal. -/
  | pulseAbsent (slot : Fin 64)
  /-- R103. A slot's signal has been absent for HOLDOFF and the slot goes LOST. -/
  | holdoffExpiry (slot : Fin 64)
  /-- R103. A slot's qualification timer reaches QUAL_TIME and the slot becomes QUALIFIED or enters WTR. -/
  | qualTimerDone (slot : Fin 64)
  /-- R103. Wait-to-restore ends and the slot becomes QUALIFIED. -/
  | wtrExpiry (slot : Fin 64)
  /-- R103. A write of RGS_SLOT_CFG.EN turns the slot OFF or moves it to LOST. -/
  | slotEnable (slot : Fin 64) (en : Bool)
  /-- R103. An RGS_SLOT_CMD write with WTR_CLEAR ends the slot's wait-to-restore. -/
  | wtrClear (slot : Fin 64)
  /-- R112. An RGS_SLOT_CMD write with DISPUTE_CLEAR clears the slot's DISPUTED bit. -/
  | disputeClear (slot : Fin 64)
  /-- R107. A loop's switch align timer expires and the switch moves to COMMIT. -/
  | alignTimer (k : Fin 24)
  /-- R110. Once per second the Registrar compares equal slot pairs and marks disputed slots or holds loops on dispute. -/
  | disputeCheck
  /-- R118. At a loop epoch the loop applies Registrar events, resolves authorisations, takes numeric writes and runs its filter or holdover prediction. -/
  | loopEpoch (k : Fin 24) (meas : Option Int) (at_ : Nat)
  /-- R118. A loop's epoch work is not complete 20 µs after the epoch; the epoch is skipped and DEADLINE is set. -/
  | loopDeadlineMiss (k : Fin 24) (at_ : Nat)
  /-- R122. A LOOP_STEP_AUTH write with AUTH and a matching SEQ adds the pending offset to r at the next epoch. -/
  | loopAuth (k : Fin 24) (seq : BitVec 16) (at_ : Nat)
  /-- R122. A LOOP_STEP_AUTH write with ALIGN and a matching SEQ aligns p to x at the next epoch. -/
  | loopAlign (k : Fin 24) (seq : BitVec 16) (at_ : Nat)
  /-- R122. A LOOP_STEP_AUTH write with REJECT and a matching SEQ discards the pending step at the next epoch. -/
  | loopReject (k : Fin 24) (seq : BitVec 16) (at_ : Nat)
  /-- R120. A write of LOOP_CFG.EN turns the loop OFF or moves it to FREERUN. -/
  | loopEnable (k : Fin 24) (en : Bool)
  /-- R124. A change of LOOP_CFG.OPEN switches the loop bumplessly between filter and numeric steer. -/
  | openChange (k : Fin 24) (open_ : Bool)
  /-- R123. A committed LOOP_NUM_PH write is added to num_ph_sum while OPEN = 1, or discarded. -/
  | numPhWrite (k : Fin 24) (v : BitVec 64) (at_ : Nat)
  /-- R133. At window close the engine measures the members, forms ensemble time with the outlier test, updates members, steer and budget, and delivers to the timebase. -/
  | ensembleEpoch (at_ : Nat)
  /-- R132. Ensemble epoch work has not completed by +510 ms; the work is discarded and EPOCH_LATE is set. -/
  | epochLate (at_ : Nat)
  /-- R137. A write of MB_CFG.EN turns the member OFF or enters TRIAL. -/
  | memberEnable (i : Fin 32) (en : Bool)
  /-- R137. An MB_CMD write with RETRY returns a SUSPENDED member to TRIAL. -/
  | memberRetry (i : Fin 32)
  /-- R137. An MB_CMD write with SUSPEND suspends an ACTIVE member. -/
  | memberSuspend (i : Fin 32)
  /-- R139. A committed ENS_MAN_PH write is added to man_ph_sum when no role 3 loop exists. -/
  | manPhWrite (v : BitVec 64)
  /-- R150. A write changing MODE, OUT_FREQ, PERIOD, WIDTH, ANCHOR, DRIVE or POL of a running output raises cause CFG. -/
  | outputConfigWrite (n : Fin 16) (r : OutReg) (v : BitVec 64)
  /-- R150. A write of OUT_OFS_PH moves the output schedule at the first rising edge at least 1 µs later under the edge rule. -/
  | outputOffsetWrite (n : Fin 16) (v : BitVec 64) (at_ : Nat)
  /-- R152. At the next falling edge after a mute cause arises, the output mutes, adopting new CFG values where due. -/
  | outputMute (n : Fin 16)
  /-- R152. At the first rising edge at least 1 µs after the last cause clears, the output unmutes and UNMUTED_EV is set. -/
  | outputUnmute (n : Fin 16)
  /-- R154. An OUT_CFG write with REALIGN returns a HELD output to ALIGNING. -/
  | realign (n : Fin 16)
  /-- R157. A TRG_CTRL write with ARM is checked and arms or replaces the trigger schedule, or is refused. -/
  | triggerArm (j : Fin 32) (at_ : Nat)
  /-- R157. A TRG_CTRL write with DISARM disarms the trigger at once. -/
  | triggerDisarm (j : Fin 32)
  /-- R156. A scheduled trigger instant falls and the pin is driven active for WIDTH, skipped or suppressed. -/
  | triggerInstant (j : Fin 32)
  /-- R161. Once per millisecond a GIn_CLK edge is stamped against core time and the samples are counted. -/
  | sampleClockCompare (port : Fin 4) (samples : List Byte) (at_ : Nat)
  /-- R161. A sample port clock is absent for 1 µs or off rate by 1 %; channels are freed and snapshots truncated. -/
  | gnssClockFault (port : Fin 4)
  /-- R161. A sample clock has been in tolerance for 10 ms and CLK_OK returns to 1. -/
  | gnssClockOk (port : Fin 4)
  /-- R163. Once per second the allocator fills free tracking channels with trackable pairs. -/
  | trackAllocation (cands : List TrackCand)
  /-- R163. A GNSS_TK_CMD write with PIN places one pair on a channel, or is refused with CFG_BAD. -/
  | trackPin (k : Fin 256) (v : Word)
  /-- R164. A GNSS_TK_CMD write with RELEASE frees the channel and unpins it. -/
  | trackRelease (k : Fin 256)
  /-- R164. An acquiring channel finds its signal at 30 dB-Hz or more and enters PULLIN. -/
  | signalFound (k : Fin 256)
  /-- R164. An acquiring channel finds nothing in 10 s and is freed or keeps searching if pinned. -/
  | acquisitionTimeout (k : Fin 256)
  /-- R164. Code, carrier and bit sync lock and the channel enters TRACK. -/
  | pullinLock (k : Fin 256)
  /-- R164. Pull-in fails to lock within 2 s and the channel returns to ACQUIRE. -/
  | pullinTimeout (k : Fin 256)
  /-- R164. A tracking channel loses lock or falls below 20 dB-Hz for 1 s and enters REACQ. -/
  | trackLoss (k : Fin 256)
  /-- R164. A reacquiring channel locks within 2 s and returns to TRACK with a cycle slip flagged. -/
  | reacqLock (k : Fin 256)
  /-- R164. A reacquiring channel fails to lock in 2 s and is freed or reacquires if pinned. -/
  | reacqTimeout (k : Fin 256)
  /-- R164. An unpinned tracked satellite falls 2° below ELEV_MASK and its channel is freed. -/
  | satelliteSet (k : Fin 256)
  /-- R165. A tracking channel's 1 ms coherent integration is processed by the tracking update. -/
  | integration (k : Fin 256) (m : TkMeas)
  /-- R165. An integration is not processed within 1 ms of its end; it is marked invalid and INT_LATE counted. -/
  | integrationLate (k : Fin 256) (at_ : Nat)
  /-- R166. At each whole or tenth second the baseband writes an observable record per tracking channel. -/
  | observableEpoch (at_ : Nat)
  /-- R170. At each whole second a time solution judges signals and constellations, forms x and issues its verdict. -/
  | solutionEpoch (sol : Fin 4) (sigs : List SigEst) (leap : Option Int) (fix : Int × Int × Int) (at_ : Nat)
  /-- R168. The survey has averaged over SURVEY_TIME and the position is held. -/
  | surveyDone (sol : Fin 4)
  /-- R168. A host commit of GNSS_SOL_POS_Z in host position mode holds the position at once. -/
  | positionCommit (sol : Fin 4) (z : BitVec 64)
  /-- R168. A GNSS_SOL_CFG write with RESURVEY clears POS_HELD. -/
  | resurvey (sol : Fin 4)
  /-- R171. A GNSS_SOL_CFG write with FIT_RESET empties every clock-check fit. -/
  | fitReset (sol : Fin 4)
  /-- R174. A GNSS_SNAP_CTRL write with GO_NOW starts a snapshot at the next sample, or is refused. -/
  | goNow (at_ : Nat)
  /-- R174. A GNSS_SNAP_CTRL write with GO_AT arms a snapshot for START, or is refused. -/
  | goAt (at_ : Nat)
  /-- R174. Device time reaches START of an armed snapshot and capture begins. -/
  | snapshotStart (at_ : Nat)
  /-- R174. A GNSS_SNAP_CTRL write with ABORT ends the capture with TRUNC. -/
  | snapshotAbort
  /-- R174. A capture completes, SNAP_DONE is set and the GNSS interrupt is raised. -/
  | snapshotDone
  /-- R181. A port's PCS locks, the link comes up and its delays are recomputed. -/
  | ethLinkUp (n : Fin 8) (txDly rxDly : BitVec 64)
  /-- R186. A port's link is lost and LINK_DOWN_EV is set. -/
  | ethLinkDown (n : Fin 8)
  /-- R190. A received frame is stamped, filtered by destination address and classified by its pipeline. -/
  | frameRx (n : Fin 8) (bytes : List Byte) (at_ : Nat)
  /-- R191. An accepted ESMC PDU updates the received QL and the type 3 slot's grade. -/
  | esmcPduRx (n : Fin 8) (p : EsmcPdu)
  /-- R97. No valid ESMC PDU arrives for 5 s and the QL becomes QL-FAILED with grade 15. -/
  | esmcTimeout (n : Fin 8)
  /-- R192. Each second a port with ESMC_TX_EN sends an information PDU. -/
  | esmcInfoTx (n : Fin 8)
  /-- R192. A change of the transmitted QL sends an event PDU within 10 ms. -/
  | esmcEventTx (n : Fin 8)
  /-- R193. A valid PAUSE frame pauses the port for its quanta, or is counted and discarded. -/
  | pauseRx (n : Fin 8) (opcode quanta : BitVec 16) (at_ : Nat)
  /-- R193. The pause time of a port runs out. -/
  | pauseEnd (n : Fin 8) (at_ : Nat)
  /-- R212. At target − 400 ns the pipeline chooses t_d, reserves the departure and fixes T3, or drops the request under NOSLOT. -/
  | reserve (p : Fin 4) (g : BlockGrid)
  /-- R205. An answer frame is complete and handed to the MAC. -/
  | answerBuilt (p : Fin 4) (id at_ : Nat)
  /-- R186. At t_d the MAC sends the frame's start block or drops the frame under the first applying cause. -/
  | departure (n : Fin 8)
  /-- R185. A frame that is not scheduled starts when it fits before the next reservation, its gate is open and the port is not paused. -/
  | unscheduledTx (n : Fin 8) (i at_ : Nat)
  /-- R194. A host read of EP_TSQ_POP removes the head entry and latches its time. -/
  | tsqPop (n : Fin 8)
  /-- R188. A gate-list entry interval or cycle ends and the next gate states take effect. -/
  | gateEntry (n : Fin 8) (at_ : Nat)
  /-- R189. A write of GATE_EN starts the gate list in phase or turns it OFF with all gates open. -/
  | gateEnable (n : Fin 8) (en : Bool) (at_ : Nat)
  /-- R189. An EP_GATE_CFG write with CHANGE checks the administrative list and fixes a change time, or refuses with GATE_ERR. -/
  | gateChange (n : Fin 8) (at_ : Nat)
  /-- R189. The replica reaches the change time and the administrative list becomes operational. -/
  | gateChangeTime (n : Fin 8)
  /-- R202. An ANS_RULE_CTRL write with COMMIT requests the exchange of the rule banks. -/
  | ruleCommit (p : Fin 4)
  /-- R202. At the next frame boundary the rule banks exchange roles and the copy begins. -/
  | bankSwap (p : Fin 4)
  /-- R202. The shadow bank copy completes and COMMIT_DONE is set. -/
  | bankCopyDone (p : Fin 4)
  /-- R203. A write of ANS_ADDR_CFG commits the whole local address entry in one core cycle. -/
  | addressCommit (p : Fin 4) (a : Fin 16) (v : Word)
  /-- R197. Clearing a pipeline's EN aborts its requests in flight and leaves its reservations unfilled. -/
  | pipelineDisable (p : Fin 4)
  /-- R217. The visitor book sweep empties entries whose LAST lies 32,768 s or more in the past. -/
  | vbSweep (at_ : Nat)
  /-- R218. An ANS_VB_CTRL write with CLEAR empties the visitor book and draws a new hash key. -/
  | vbClear
  /-- R218. The visitor book clear completes and VB_BUSY clears. -/
  | vbClearDone
  /-- R231. A unit completes phase 1 of an NTS request: cookie opened, request verified, new cookies sealed, or a NAK or drop outcome. -/
  | ntsPhase1 (u : Fin 16)
  /-- R231. A unit completes phase 2 after RESERVE and hands the authenticated answer to the MAC, or the request is POOL_LATE. -/
  | ntsPhase2 (u : Fin 16) (at_ : Nat)
  /-- R226. NTS EN = 1 with the store EMPTY draws a new key into staging. -/
  | ntsEnable
  /-- R226. A rotation instant falls and a new master key is drawn and a checkpoint requested. -/
  | rotationDue
  /-- R226. An NTS_CTRL write with ROTATE makes a rotation due. -/
  | rotate
  /-- R226. No checkpoint commits the staged key within 10 s; staging is zeroised and ROT_FAIL set. -/
  | rotationTimeout
  /-- R228. An NTS_CTRL write with ZEROISE and CONFIRM 0xC3 erases all key generations and requests a checkpoint. -/
  | zeroise (confirm : Byte)
  /-- R237. An NTS_CTRL write with SELFTEST queues a known-answer test on a unit, or is refused without FORCE. -/
  | ntsSelftest (u : Fin 16) (force : Bool)
  /-- R237. A unit's known-answer test ends, marking the unit FAULT on failure. -/
  | ntsSelftestDone (u : Fin 16) (ok : Bool)
  /-- R230. A fetched mint descriptor is sealed into cookies under CUR, or fails with a status. -/
  | mintJob
  /-- R230. A mint job ends and its completion record is appended to the mint ring. -/
  | mintCompletion
  /-- R242. At a planned Sync instant minus 400 ns a server instance reserves a one-step Sync, or sends a two-step Sync. -/
  | syncInstant (i : Fin 16) (client : Option (Fin 16384)) (k : Nat) (g : BlockGrid)
  /-- R243. A two-step Sync's queue entry arrives and the Follow_Up is sent, or it is suppressed. -/
  | followUp (i : Fin 16)
  /-- R243. A two-step Sync's queue entry does not arrive within 1 ms; the Follow_Up is suppressed and TSQ_MISS counted. -/
  | tsqTimeout (i : Fin 16)
  /-- R247. A server instance sends an Announce with the class, accuracy, time source and provenance TLV of that instant. -/
  | announceTx (i : Fin 16) (client : Option (Fin 16384)) (at_ : Nat)
  /-- R244. A received Delay_Req is answered with a Delay_Resp within 50 µs, or discarded or denied. -/
  | delayReq (i : Fin 16) (m : PtpMsg) (at_ : Nat)
  /-- R245. A REQUEST_UNICAST_TRANSMISSION TLV is granted or denied for a unicast client. -/
  | unicastRequest (i : Fin 16) (m : PtpMsg) (type : Fin 3) (log : BitVec 8) (dur : BitVec 32) (at_ : Nat)
  /-- R245. A CANCEL_UNICAST_TRANSMISSION ends the grant and is acknowledged. -/
  | unicastCancel (i : Fin 16) (m : PtpMsg) (type : Fin 3)
  /-- R246. The sweep finds a grant expired and frees the client entry when its last grant ends. -/
  | grantExpiry (at_ : Nat)
  /-- R250. A client instance receives an Announce, qualifies foreign masters and runs the best master choice. -/
  | announceRx (i : Fin 16) (m : PtpMsg) (d : PtpData) (at_ : Nat)
  /-- R250. No Announce from the chosen master for ANN_TIMEOUT intervals returns the client to LISTENING. -/
  | announceTimeout (i : Fin 16)
  /-- R250. 60 s before a client's grant expires, the instance requests its renewal. -/
  | grantRenew (i : Fin 16) (master : Fin 4)
  /-- R251. A client instance receives a Sync (and Follow_Up) from its master, giving t1 and t2. -/
  | syncRx (i : Fin 16) (m : PtpMsg) (sec : BitVec 48) (ns : BitVec 32) (fu : BitVec 64) (at_ : Nat)
  /-- R251. At a client Delay_Req instant the instance schedules a Delay_Req departure. -/
  | delayReqInstant (i : Fin 16) (k : Nat) (g : BlockGrid)
  /-- R251. A client receives a Delay_Resp, pairs it with a Sync and forms an exchange, or discards it. -/
  | delayRespRx (i : Fin 16) (m : PtpMsg) (sec : BitVec 48) (ns : BitVec 32)
  /-- R253. At each whole second a client instance forms one sample and applies the path-step rules. -/
  | clientSample (i : Fin 16)
  /-- R250. A SLAVE instance has no selected exchange for 2 s and its slot signal is absent. -/
  | exchangeTimeout (i : Fin 16)
  /-- R255. A PTP_CLI_CMD write with REACCEPT_RAW ends REQUAL as agreement on raw. -/
  | ptpReacceptRaw (i : Fin 16)
  /-- R255. A PTP_CLI_CMD write with REACCEPT_HELD ends REQUAL as agreement on held. -/
  | ptpReacceptHeld (i : Fin 16)
  /-- R250. A write of PTP_INST_CFG.EN starts an instance or disables it and cancels its grants. -/
  | ptpInstanceEnable (i : Fin 16) (en : Bool)
  /-- R257. A fetched big-number descriptor queues its slot, or completes with ERR_DESC, ERR_BUSY or ERR_DISABLED. -/
  | jobDescriptor
  /-- R262. A healthy core becomes free and the next queued slot or internal request is dispatched to it. -/
  | jobDispatch (at_ : Nat)
  /-- R268. At t_val validation ends and a validation error completes the job. -/
  | jobValidation (j : Fin 16)
  /-- R267. At t_job the job writes its result and its completion record. -/
  | jobComplete (j : Fin 16)
  /-- R262. The ledger or pair block submits an internal signing or key request to the engine. -/
  | internalRequest (pair : Bool)
  /-- R257. A BNE_SLOT_CTRL write with ABORT stops the slot's job and zeroises its window. -/
  | slotAbort (j : Fin 16) (at_ : Nat)
  /-- R260. Zeroisation of a window completes and the slot leaves the abort state. -/
  | zeroiseDone (j : Fin 16)
  /-- R277. A core falls due for a periodic self-test pass. -/
  | coreSelftestDue (c : Fin 16)
  /-- R278. A BNE_CTRL write with SELFTEST queues a pass for a core, refused or forced. -/
  | bneSelftest (c : Fin 16) (force : Bool) (at_ : Nat)
  /-- R276. A core's known-answer pass ends and the core rejoins or is marked FAULT. -/
  | selftestPassDone (c : Fin 16) (ok : Bool)
  /-- R283. A PERIODIC ledger instant falls and a record is latched, or missed when the queue is full. -/
  | ledgerPeriod (at_ : Nat)
  /-- R283. A PROV_CTRL write with ISSUE_NOW latches a HOST record. -/
  | issueNow (at_ : Nat)
  /-- R287. A record's signature and hash complete, the record is issued and PROV_LAST updated. -/
  | recordIssue (at_ : Nat)
  /-- R288. The boot checkpoint does not commit within 10 s; BOOT_FAIL is set and it is requested again. -/
  | bootTimeout
  /-- R292. An issued record is written to the ledger DMA ring when it has room, or the oldest waiting record is dropped. -/
  | ledgerRingWrite
  /-- R300. An enabled link gains block lock and enters LOCK with its replica in ACQUIRE. -/
  | linkBlockLock (n : Fin 8)
  /-- R300. After 1 ms of partner timing blocks the partner address and role are checked, entering RUN or setting PEER_BAD. -/
  | linkPeerCheck (n : Fin 8) (addr : BitVec 12) (role : Fin 4)
  /-- R300. A link loses block lock for 10 µs and goes DOWN. -/
  | linkLockLost (n : Fin 8)
  /-- R300. A write of LK_CFG.EN enables a link or takes it DOWN. -/
  | linkEnable (n : Fin 8) (en : Bool)
  /-- R297. Every 1,024th block position a link sends a timing block with its stamps, delays and tag. -/
  | timingBlockTx (n : Fin 8) (mix at_ : Nat)
  /-- R301. A received timing block yields f and raw and passes the path-step test. -/
  | timingBlockRx (n : Fin 8) (mix : Nat) (b : LinkBlock) (at_ : Nat)
  /-- R302. Each 10 ms the link forms the Registrar sample and, in REQUAL, compares against the confirming slots. -/
  | linkSample (n : Fin 8)
  /-- R305. An LK_CMD write with REACCEPT_RAW ends REQUAL as agreement on raw. -/
  | linkReacceptRaw (n : Fin 8)
  /-- R305. An LK_CMD write with REACCEPT_HELD ends REQUAL as agreement on held. -/
  | linkReacceptHeld (n : Fin 8)
  /-- R309. A received control frame is checked and forwarded, and acts as broadcast, barrier, time-triggered operation or late report. -/
  | controlFrame (n : Fin 8) (first second : List Byte) (at_ : Nat)
  /-- R310. An LK_BC_CTRL write with SEND issues a broadcast at the root or a broadcast request elsewhere. -/
  | bcSend
  /-- R310. A host read of LK_BC_POP removes the head mailbox entry and latches its payload. -/
  | bcPop
  /-- R311. An LK_BAR_CTRL write with ARRIVE registers the host's arrival at a barrier. -/
  | barrierArrive (id : BitVec 8)
  /-- R311. The root's arrival is BAR_TIMEOUT old without completion and the root releases with PARTIAL. -/
  | barrierTimeout
  /-- R312. An LK_TTO_CTRL write with ISSUE at the root broadcasts a time-triggered operation, or refuses it. -/
  | ttoIssue (op : Fin 4) (kind : Fin 4) (scope : BitVec 12) (at_ : Nat)
  /-- R312. Device time reaches T of an armed time-triggered operation and the snapshot or reset strobe fires. -/
  | ttoStrobe (at_ : Nat)
  /-- R318. A write of PAIR_CFG.EN turns the pair logic OFF or starts KEYING. -/
  | pairEnable (en : Bool)
  /-- R317. A partner's keying message is verified and the pair key derived, or KEY_BAD is set. -/
  | keyMessage (bytes : List Byte)
  /-- R317. A PAIR_CTRL write with REKEY, or the REKEY_INT timer, starts a new key agreement. -/
  | rekey (periodic : Bool)
  /-- R318. PAIR_WAIT ends unkeyed and the unit may enter ALONE. -/
  | pairWaitExpiry
  /-- R318. Every 1 ms the unit sends a heartbeat on the pair link. -/
  | heartbeatTx (at_ : Nat)
  /-- R318. A partner heartbeat carries state, health, epoch, d and m and may trigger promotion or a state change. -/
  | heartbeatRx (b : PairBeat) (tagOk : Bool) (at_ : Nat)
  /-- R318. No heartbeat arrives for 5 ms; the unit goes ALONE or sets LINK_LOST. -/
  | heartbeatLoss
  /-- R319. A filtered change of PARTNER_OK is taken, low promoting a standby to ALONE at once. -/
  | partnerOkChange (level cut : Bool) (at_ : Nat)
  /-- R316. A filtered change of ACTIVE_N is taken, gating departures and outputs or setting ACTIVE_MISMATCH. -/
  | activeNChange (level : Bool)
  /-- R319. A PAIR_CTRL write with PROMOTE promotes the unit, or is refused with PROMOTE_REFUSED. -/
  | promote (force : Bool) (at_ : Nat)
  /-- R318. An active unit receives the partner's PROMOTE, drops STAT3 and returns to SYNCING. -/
  | partnerPromoted (tagOk : Bool)
  /-- R320. HANDOVER_GAP after a promotion ends and the unit raises STAT3. -/
  | handoverGapExpiry
  /-- R318. A PAIR_CTRL write with DEMOTE takes an ACTIVE unit to FAILED. -/
  | demote
  /-- R318. A PAIR_CTRL write with REPAIRED returns a FAILED unit to KEYING. -/
  | repaired
  /-- R321. Once per second the unit forms d against the partner and starts or repeats an arbitration. -/
  | pairCompare (at_ : Nat)
  /-- R324. Every COPY_PERIOD the active snapshots a state epoch and sends it to the standby. -/
  | copyEpoch (at_ : Nat)
  /-- R324. A complete, valid epoch arrives at the standby, is committed and acknowledged. -/
  | epochCommit (e : PairEpoch) (how : EpochEnd)
  /-- R324. An epoch is not committed within COPY_PERIOD of its snapshot: a pair copy deadline fault. -/
  | copyLate (at_ : Nat)
  /-- R323. A sampled request's digest from the partner is compared with the local one. -/
  | rehearsalDigest (digest : List Byte) (tagOk : Bool)
  /-- R323. A digest finds no partner digest within 10 ms and counts in UNMATCHED. -/
  | digestTimeout (own : Bool)
  /-- R324. An access to PAIR_HS_DATA reads or writes a host state word and increments IDX. -/
  | hostStateAccess (write : Bool) (v : Word)
  /-- R340. A CAT_NV_CMD READ fills the page buffer from CAT_NV_ADDR, or is refused. -/
  | nvRead
  /-- R340. A CAT_NV_CMD PROGRAM writes the page buffer at a page-aligned address, or is refused. -/
  | nvProgram
  /-- R340. A CAT_NV_CMD ERASE erases the 64 KiB sector at CAT_NV_ADDR, or is refused. -/
  | nvErase
  /-- R340. An NV command completes and BUSY clears. -/
  | nvCommandDone (ok : Bool)
  /-- R340. An access to CAT_NV_DATA reads or fills the page buffer and advances one word. -/
  | nvDataAccess (write : Bool) (v : Word)
  /-- R340. A CAT_CTRL write with CHECK runs the image checks on a bank without loading it. -/
  | check (bank : Fin 2)
  /-- R340. A bank check completes, posting its result and setting CHECK_DONE. -/
  | checkDone (ok : Bool)
  /-- R344. A CAT_CTRL write with RELOAD runs a live load, keeping core state and resetting other blocks to the new image. -/
  | reload
  /-- R336. A CAT_OTP_CMD write with PROGRAM_KEY and CONFIRM 0x5A programs the owner key once. -/
  | programKey (confirm : BitVec 8)
  /-- R336. A CAT_OTP_CMD write with PROGRAM_SIG_REQ and CONFIRM 0x5A sets SIG_REQ permanently. -/
  | programSigReq (confirm : BitVec 8)
  /-- R353. A domain's clock shows no edge for 1 µs and the domain is held in reset. -/
  | clockAbsent (k : Option (Fin 56))
  /-- R353. After 16 consecutive edges of a returned clock its domain's reset is released. -/
  | clockReturn (k : Option (Fin 56))
  /-- R356. The crossing handshake completes, the FIFO is flushed and both sides enter RUN. -/
  | resyncComplete (k : Fin 56) (dropped flushed : Nat)
  /-- R350. A die-to-die flit with a bad CRC is replayed from the retry buffer. -/
  | flitCrcError (again : Bool)
  /-- R350. A flit failing four times in succession makes the die-to-die interface retrain. -/
  | retrain
  /-- R350. The die-to-die interface carries flits again after a retrain. -/
  | retrainDone
  /-- R351. The interface does not carry flits within 100 µs of a retrain start; outputs mute and a soft reset is requested. -/
  | d2dFault
  /-- R359. A scrub pass reads every SRAM word, corrects and counts ECC errors. -/
  | scrubPass (read : Bool) (errors : List EccError) (at_ : Nat)
  /-- R360. A CON_CTRL write with SCRUB_NOW starts a scrub pass at once. -/
  | scrubNow
  /-- R361. Every OUT_INT each enabled output measures its driver delay, accepting or rejecting the new value. -/
  | outputCal (out : Fin 16) (delay : Int) (at_ : Nat)
  /-- R361. Every LNK_INT the link delay monitor posts its result, subject to the 20 ps rejection rule. -/
  | linkCal (link : Fin 8) (tx rx : Int)
  /-- R362. Every 10 ms the temperature sensors and rail monitors are read and TEMP_HI or RAIL_BAD set. -/
  | telemetryRead (temps rails : List (BitVec 16))
  /-- R364. The AUX watchdog misses the sequencer for 100 ms, sets WD_EXPIRED and causes a DEV reset. -/
  | watchdogExpiry
  /-- R364. With HOST_WD_EN, no WD_KICK for HOST_WD_TIMEOUT sets WD_EXPIRED and causes a DEV reset. -/
  | hostWatchdogExpiry (at_ : Nat)
  /-- R364. A CON_CTRL write with WD_KICK restarts the host watchdog. -/
  | wdKick (at_ : Nat)
  /-- R365. A periodic checkpoint instant falls and a checkpoint is latched. -/
  | checkpointPeriodic (at_ : Nat)
  /-- R365. A CON_CTRL write with CKPT_NOW requests a checkpoint. -/
  | ckptNow (at_ : Nat)
  /-- R365. A block requests a checkpoint, served by the next latch. -/
  | checkpointRequest (at_ : Nat)
  /-- R365. A write changing PERIOD or CKPT_EN moves the next periodic instant at once. -/
  | checkpointConfigWrite (v : Word)
  /-- R366. A checkpoint write completes with COMMIT programmed and CKPT_DONE set. -/
  | checkpointCommit (ok : Bool) (at_ : Nat)
  /-- R363. A checkpoint is not committed DL after its request: a checkpoint deadline fault. -/
  | checkpointLate (at_ : Nat)
  /-- R367. Fewer than nine erased positions remain in a slot and erase-ahead begins. -/
  | eraseAhead
  /-- R370. A CON_SELFTEST write with GO starts a memory scrub or a port or link PRBS loopback test. -/
  | conSelftest (target : BitVec 5) (force : Bool)
  /-- R370. An in-service self-test ends and its result is posted with SELFTEST_DONE. -/
  | conSelftestDone (errors : Nat)
  /-- R374. A VIT_CTRL write with TRIG triggers a snapshot in its cycle. -/
  | vitTrig (at_ : Nat)
  /-- R374. A selected edge on the Vitrine trigger pin triggers a snapshot. -/
  | vitPinEdge (pin : Fin 32) (rising : Bool) (at_ : Nat)
  /-- R375. A VIT_CTRL write with ARM_TOD arms the time-of-day match, or is refused. -/
  | armTod (at_ : Nat)
  /-- R375. A VIT_CTRL write with DISARM_TOD clears TOD_ARMED at once. -/
  | disarmTod
  /-- R375. Device time reaches T of an armed match and a snapshot is triggered. -/
  | todMatch (at_ : Nat)
  /-- R376. A VIT_CTRL write with RELEASE clears HELD. -/
  | vitRelease
  /-- R380. A write of IRQ_EOI takes a vector out of service and resends its message if still asserted. -/
  | irqEoi (v : BitVec 6)
  /-- R379. An IRQ_TEST write with SET sets the raw bit of a source. -/
  | irqTest (src : BitVec 8)
  /-- R385. A host write of HIF_Q_TAIL frees up-queue places or posts down-queue descriptors, or is refused with Q_ERR. -/
  | qTailWrite (q : Fin 32) (v : Word)
  /-- R390. A write of HIF_Q_CFG.EN starts or resumes a queue from HEAD. -/
  | queueEnable (q : Fin 32) (en : Bool)
  /-- R385. A down queue fetches posted descriptors, job descriptors only when their completion ring has room. -/
  | descriptorFetch (q : Fin 32) (bytes : List Byte)
  /-- R387. A transmit descriptor is consumed and its frame queued to its port, or counted as bad or dropped. -/
  | txDescriptor (port : Fin 8) (frame : List Byte)
  /-- R387. A capture-copy descriptor copies capture pool bytes to host memory. -/
  | captureCopy
  /-- R385. The Sundane writes a queue's HEAD to its write-back location after its elements. -/
  | writeBack (q : Fin 32)
  /-- R389. An unnotified HEAD advance has waited TIMER µs and the queue's interrupt source is raised. -/
  | queueTimer (q : Fin 32)
  /-- R390. A DMA request completes with an error, stopping its queue and setting Q_ERR. -/
  | dmaError (q : Fin 32)
  /-- R393. A HIF_VB_CMD GO with OP = 0 returns visitor book entry INDEX. -/
  | vbReadIndex (i : BitVec 22)
  /-- R393. A HIF_VB_CMD GO with OP = 1 looks up a client key and returns its bucket and entry. -/
  | vbLookup (v6 : Bool)
  /-- R317. An internal request of the pair block (X25519 key pair, keying-message signature or shared secret) completes on its core, and the pair block sends its keying message or derives K and becomes KEYED. -/
  | internalRequestDone
  /-- R317. 1 s after a keying failure (KEY_BAD or an all-zero secret) the pair exchange is retried. -/
  | keyRetry
  /-- R325. The active unit receives the standby's acknowledgement of a committed epoch, which can let a staged NTS key become CUR. -/
  | epochAck (num : BitVec 32) (tagOk : Bool)
  /-- R344. The live load finishes its NV reads and checks, the other blocks take their BLK reset and the new image values, and PHASE leaves live load. -/
  | liveLoadDone (answersA answersB : Bool)
  /-- R367. An erase-ahead of a checkpoint sector completes, which adds erased positions, counts the erase and may set WEAR_WARN. -/
  | eraseDone (at_ : Nat)
  /-- R258. A host access to BAR2 reads or writes a big-number window, or reads the capture pool, returning zero and dropping and counting the write while the slot is QUEUED or RUNNING. -/
  | windowAccess (write : Bool) (ofs : Nat) (v : Word)
  /-- R380. A host write that unmasks an MSI-X vector sends the message that waited for it in the pending-bit array. -/
  | vectorUnmask (v : Fin 64)
deriving DecidableEq, Repr

end Sys2Proof
end

