-- ==== Sys2Proof/Decode.lean ====
section
/-! DEFINITION. Reading a command from a word of the opcode table. The table gives no row any bits, so no word spells a
command. -/

namespace Sys2Proof

/-- The command that a word spells by the bits of the opcode table: every row's list of fields is empty, so none. -/
def decodeTableWord (_nbits _w : Nat) : Option Instr := none

end Sys2Proof
end

