-- ==== Sys2Proof/Machine/Crc.lean ====
section
/-! DEFINITION. The cyclic redundancy checks of the device's formats: CRC-32C for ledger lines, links, images and
checkpoints, CRC-32 for Ethernet. -/

namespace Sys2Proof.Machine

/-- Eight steps of a reflected CRC. -/
def crcStep (poly : Nat) : Nat → Nat → Nat
  | 0, c => c
  | n + 1, c => crcStep poly n (if c % 2 = 1 then (c / 2) ^^^ poly else c / 2)

/-- A reflected 32-bit CRC of bytes, register preset to ones and result inverted. -/
def crcReflected (poly : Nat) (bs : List Byte) : Nat :=
  bs.foldl (fun c b => crcStep poly 8 (c ^^^ b.toNat)) 0xFFFFFFFF ^^^ 0xFFFFFFFF

/-- CRC-32C (Castagnoli). -/
def crc32c (bs : List Byte) : Nat := crcReflected 0x82F63B78 bs

/-- CRC-32 of IEEE 802.3. -/
def crc32 (bs : List Byte) : Nat := crcReflected 0xEDB88320 bs

end Sys2Proof.Machine
end

