-- ==== Sys2Proof/Config.lean ====
section
/-! DEFINITION. What an implementation fixes and the spec leaves open. Every constant here is opaque: no proof can see a
value of it. Each is named in the assumption log. -/

namespace Sys2Proof

/-- The free values of the model: the n-th value that the spec leaves open (assumption 3). -/
opaque Config.freeNat : Nat → Nat

/-- Whether an inexact quotient `n / d` is rounded up. The spec fixes the resolution of a computed value and not the
rounding of a quotient that falls between two steps (assumption 4). -/
opaque Config.roundUp : Int → Int → Bool

/-- The device serial number that GLB_SERIAL shows (R293; assumption 6). -/
opaque Config.serial : BitVec 64

/-- The 32-byte seed of the identity key, little-endian, held on the die and never readable (R293; assumption 19). -/
opaque Config.identitySeed : BitVec 256

/-- The 64-byte key-encryption key of the device, fixed at manufacture and never readable (R225; assumption 19). -/
opaque Config.kek : BitVec 512

/-- The link to the host: SPEED and WIDTH of HIF_STATUS follow from it (R381; assumption 20). -/
opaque Config.pcieLink : Nat

/-- SHA-256 of the factory image in ROM, a fixed value for a silicon revision that Denhus publishes (R338; assumption 21). -/
opaque Config.factoryHash : BitVec 256

/-- A gate list entry beyond the last one of a port, which the spec does not give: port and entry (assumption 14). -/
opaque Config.gateEntry : Nat → Nat → BitVec 32

/-- Q of the 4-bit format after Q_INV negates the most negative value, which two's complement does not hold (R160; assumption 160). -/
opaque Config.negatedMin : BitVec 4

/-- The levels that a magnitude bit of the 2-bit format stands for, in any one unit (R160, R176; assumption 161). -/
opaque Config.magnitude : Bool → Nat

/-- SEC of an event record whose time lies below zero: the time format has no such value (R43, R74; assumption 150). -/
opaque Config.secBelowZero : Int → Nat

/-- The manufacturer identity of the JTAG IDCODE, which the spec does not give (R397; assumption 184). -/
opaque Config.jtagMaker : BitVec 11

/-- A quotient on a grid: exact where the division is, and otherwise one of the two neighbours (assumption 4). -/
def Config.quot (n d : Int) : Int := n / d + (if n % d = 0 then 0 else if Config.roundUp n d then 1 else 0)

/-- The integer square root, by bisection over `k` bits. -/
def isqrtBits (n : Nat) : Nat → Nat → Nat
  | 0, r => r
  | k + 1, r => isqrtBits n k (if (r + 2 ^ k) * (r + 2 ^ k) ≤ n then r + 2 ^ k else r)

/-- The integer square root. -/
def isqrt (n : Nat) : Nat := isqrtBits n (n.log2 / 2 + 1) 0

/-- The square root of `n / d`: exact where it is a whole number, and otherwise one of the two neighbours (assumption 4). -/
def Config.root (n d : Nat) : Nat :=
  let r := isqrt (n / d)
  if r * r * d = n then r else if Config.roundUp n d then r + 1 else r

end Sys2Proof
end

