-- ==== Sys2Proof/Machine/RegTypes.lean ====
section
/-! DEFINITION. The vocabulary of the register maps: access codes (R14), reset domains (R17), the blocks of the address map
(R383), the instance kinds (R22, R395) and the descriptors of a register entry. -/

namespace Sys2Proof.Machine

/-- The access codes of R14. `rwsW1c` is an RWS field that the field's own text makes W1C. -/
inductive Access where
  | rw | ro | rc | w1c | w1s | wo | rws | rwsW1c
deriving DecidableEq, Repr

/-- The nested reset domains of R17. -/
inductive Domain where
  | pwr | dev | blk | inst
deriving DecidableEq, Repr

/-- The blocks of BAR0 (R383). -/
inductive Blk where
  | glb | cat | cdc | irq | vit | con | tb | rgs | loop | ens | out | evt | gnss | mac | ans | nts | ptp | bne | prov
  | lnk | pair | hif
deriving DecidableEq, Repr

/-- The kinds of instance that have registers in the INST domain (R17, R22, R395). -/
inductive InstKind where
  | channel | slot | loop | member | output | trigger | gnssPort | solution | track | port | pipeline | ptpInst | link
  | bneSlot | replica
deriving DecidableEq, Repr

/-- The defaults that another rule gives: the slot timers of R104, the bandwidths, BW_MODE and EPOCH of R117, and the four
words of a rule of R204. -/
inductive RuleDflt where
  | slotTimer | typeBw | loopCfg | rule0 | rule1 | rule2 | ruleAct
deriving DecidableEq, Repr

/-- One half of a Default column entry (R19): a value, the instance index, a value another rule gives, or a dash (R20). -/
inductive Dflt where
  | val (v : Nat)
  | index
  | byRule (r : RuleDflt)
  | live
deriving DecidableEq, Repr

/-- One named field of a register entry: its lowest bit, its width, its access code and its two defaults. Bits of no named
field are reserved (R15). -/
structure FieldDesc where
  lo : Nat
  width : Nat
  acc : Access
  hard : Dflt
  fac : Dflt
deriving DecidableEq, Repr

/-- One register entry of a register map. `dims` lists the strides and counts of a replicated entry, widest stride first;
`pair` marks a 64-bit quantity, whose low half lies at the offset and whose high half lies 4 bytes above (R11). -/
structure RegDesc where
  name : String
  base : Nat
  dims : List (Nat × Nat)
  pair : Bool
  dom : Domain
  blk : Blk
  kind : Option InstKind
  fields : List FieldDesc
deriving DecidableEq, Repr

/-- One field of one register: the register's BAR0 offset, the field's lowest bit and its width. -/
structure Fld where
  ofs : Nat
  lo : Nat
  width : Nat
deriving DecidableEq, Repr

end Sys2Proof.Machine
end

