-- ==== Sys2Proof/Machine/RegMapAns.lean ====
section
/-! DEFINITION. The register map of the ANS block, from the register tables of 10_answer_pipelines.md.
One descriptor per register entry (offset, reset domain, fields with access code and the two defaults of R19) and one
named offset `NAME.ofs` and one named field `NAME.FIELD` per entry of the tables. -/

namespace Sys2Proof.Machine

/-- Register descriptors of the ANS block, part 0. -/
def regsAns0 : List RegDesc := [
  ⟨"ANS_GLB_CFG", 0x400000, [], false, .blk, .ans, none,
    [⟨0, 8, .rw, (.val 1), (.val 1)⟩,
     ⟨8, 8, .rw, (.val 0xe2), (.val 0xe2)⟩,
     ⟨16, 4, .rw, (.val 4), (.val 4)⟩,
     ⟨20, 5, .rw, (.val 8), (.val 8)⟩,
     ⟨25, 1, .rw, (.val 0), (.val 1)⟩,
     ⟨26, 1, .rw, (.val 0), (.val 0)⟩,
     ⟨27, 1, .rw, (.val 0), (.val 1)⟩,
     ⟨28, 1, .rw, (.val 1), (.val 1)⟩,
     ⟨29, 1, .rw, (.val 0), (.val 0)⟩,
     ⟨30, 1, .rw, (.val 0), (.val 1)⟩]⟩,
  ⟨"ANS_GLB_HDR", 0x400004, [], false, .blk, .ans, none,
    [⟨0, 8, .rw, (.val 0x40), (.val 0x40)⟩,
     ⟨8, 6, .rw, (.val 0), (.val 0)⟩]⟩,
  ⟨"ANS_REFID", 0x400008, [], false, .blk, .ans, none,
    [⟨0, 32, .rw, (.val 0), (.val 0x444e4853)⟩]⟩,
  ⟨"ANS_ROOT_DELAY", 0x40000C, [], false, .blk, .ans, none,
    [⟨0, 32, .rw, (.val 0), (.val 0)⟩]⟩,
  ⟨"ANS_PROV", 0x400010, [], false, .blk, .ans, none,
    [⟨0, 16, .rw, (.val 0), (.val 0xf323)⟩,
     ⟨16, 1, .rw, (.val 0), (.val 1)⟩]⟩,
  ⟨"ANS_VB_CFG", 0x400014, [], false, .blk, .ans, none,
    [⟨0, 16, .rw, (.val 0x20), (.val 0x20)⟩,
     ⟨16, 8, .rw, (.val 0x10), (.val 0x10)⟩,
     ⟨24, 8, .rw, (.val 0x40), (.val 0x40)⟩]⟩,
  ⟨"ANS_VB_CTRL", 0x400018, [], false, .blk, .ans, none,
    [⟨0, 1, .wo, (.val 0), (.val 0)⟩]⟩,
  ⟨"ANS_GLB_STATUS", 0x40001C, [], false, .blk, .ans, none,
    [⟨0, 1, .ro, (.val 0), .live⟩,
     ⟨1, 1, .ro, (.val 1), .live⟩,
     ⟨2, 1, .ro, (.val 0), .live⟩]⟩,
  ⟨"ANS_VB_MISSES", 0x400020, [], false, .blk, .ans, none,
    [⟨0, 32, .rc, (.val 0), (.val 0)⟩]⟩,
  ⟨"ANS_VB_EVICTS", 0x400024, [], false, .blk, .ans, none,
    [⟨0, 32, .rc, (.val 0), (.val 0)⟩]⟩]

/-- Register descriptors of the ANS block, part 1. -/
def regsAns1 : List RegDesc := [
  ⟨"ANS_CFG", 0x410000, [(0x10000, 4)], false, .inst, .ans, some .pipeline,
    [⟨0, 1, .rw, (.val 0), (.val 0)⟩,
     ⟨1, 3, .rw, (.val 1), (.val 1)⟩,
     ⟨4, 5, .rw, (.val 0), (.val 0)⟩]⟩,
  ⟨"ANS_DELAY", 0x410004, [(0x10000, 4)], false, .inst, .ans, some .pipeline,
    [⟨0, 16, .rw, (.val 0x258), (.val 0x258)⟩,
     ⟨16, 16, .rw, (.val 0x384), (.val 0x384)⟩]⟩,
  ⟨"ANS_SLACK", 0x410008, [(0x10000, 4)], false, .inst, .ans, some .pipeline,
    [⟨0, 16, .rw, (.val 0x1f4), (.val 0x1f4)⟩]⟩,
  ⟨"ANS_STATUS", 0x41000C, [(0x10000, 4)], false, .inst, .ans, some .pipeline,
    [⟨0, 1, .ro, (.val 0), .live⟩,
     ⟨1, 1, .ro, (.val 0), .live⟩,
     ⟨2, 1, .ro, (.val 0), .live⟩,
     ⟨16, 11, .ro, (.val 0), .live⟩]⟩,
  ⟨"ANS_FLAGS", 0x410010, [(0x10000, 4)], false, .inst, .ans, some .pipeline,
    [⟨0, 1, .w1c, (.val 0), (.val 0)⟩,
     ⟨1, 1, .w1c, (.val 0), (.val 0)⟩,
     ⟨2, 1, .w1c, (.val 0), (.val 0)⟩,
     ⟨3, 1, .w1c, (.val 0), (.val 0)⟩,
     ⟨4, 1, .w1c, (.val 0), (.val 0)⟩,
     ⟨5, 1, .w1c, (.val 0), (.val 0)⟩]⟩,
  ⟨"ANS_RULE_CTRL", 0x410014, [(0x10000, 4)], false, .inst, .ans, some .pipeline,
    [⟨0, 1, .wo, (.val 0), (.val 0)⟩]⟩,
  ⟨"ANS_CNT_RX", 0x410020, [(0x10000, 4)], false, .inst, .ans, some .pipeline,
    [⟨0, 32, .rc, (.val 0), (.val 0)⟩]⟩,
  ⟨"ANS_CNT_NTP", 0x410024, [(0x10000, 4)], false, .inst, .ans, some .pipeline,
    [⟨0, 32, .rc, (.val 0), (.val 0)⟩]⟩,
  ⟨"ANS_CNT_NTS", 0x410028, [(0x10000, 4)], false, .inst, .ans, some .pipeline,
    [⟨0, 32, .rc, (.val 0), (.val 0)⟩]⟩,
  ⟨"ANS_CNT_KOD", 0x41002C, [(0x10000, 4)], false, .inst, .ans, some .pipeline,
    [⟨0, 32, .rc, (.val 0), (.val 0)⟩]⟩]

/-- Register descriptors of the ANS block, part 2. -/
def regsAns2 : List RegDesc := [
  ⟨"ANS_CNT_LIMITED", 0x410030, [(0x10000, 4)], false, .inst, .ans, some .pipeline,
    [⟨0, 32, .rc, (.val 0), (.val 0)⟩]⟩,
  ⟨"ANS_CNT_HOST", 0x410034, [(0x10000, 4)], false, .inst, .ans, some .pipeline,
    [⟨0, 32, .rc, (.val 0), (.val 0)⟩]⟩,
  ⟨"ANS_CNT_PTP", 0x410038, [(0x10000, 4)], false, .inst, .ans, some .pipeline,
    [⟨0, 32, .rc, (.val 0), (.val 0)⟩]⟩,
  ⟨"ANS_CNT_RULEDROP", 0x41003C, [(0x10000, 4)], false, .inst, .ans, some .pipeline,
    [⟨0, 32, .rc, (.val 0), (.val 0)⟩]⟩,
  ⟨"ANS_CNT_ERR0", 0x410040, [(0x10000, 4)], false, .inst, .ans, some .pipeline,
    [⟨0, 16, .rc, (.val 0), (.val 0)⟩,
     ⟨16, 16, .rc, (.val 0), (.val 0)⟩]⟩,
  ⟨"ANS_CNT_ERR1", 0x410044, [(0x10000, 4)], false, .inst, .ans, some .pipeline,
    [⟨0, 16, .rc, (.val 0), (.val 0)⟩,
     ⟨16, 16, .rc, (.val 0), (.val 0)⟩]⟩,
  ⟨"ANS_CNT_ERR2", 0x410048, [(0x10000, 4)], false, .inst, .ans, some .pipeline,
    [⟨0, 16, .rc, (.val 0), (.val 0)⟩,
     ⟨16, 16, .rc, (.val 0), (.val 0)⟩]⟩,
  ⟨"ANS_CNT_UNVER", 0x41004C, [(0x10000, 4)], false, .inst, .ans, some .pipeline,
    [⟨0, 32, .rc, (.val 0), (.val 0)⟩]⟩,
  ⟨"ANS_ADDR_W", 0x410400, [(0x10000, 4), (0x20, 16), (0x4, 4)], false, .inst, .ans, some .pipeline,
    [⟨0, 32, .rw, (.val 0), (.val 0)⟩]⟩,
  ⟨"ANS_ADDR_CFG", 0x410410, [(0x10000, 4), (0x20, 16)], false, .inst, .ans, some .pipeline,
    [⟨0, 1, .rw, (.val 0), (.val 0)⟩,
     ⟨1, 1, .rw, (.val 0), (.val 0)⟩]⟩]

/-- Register descriptors of the ANS block, part 3. -/
def regsAns3 : List RegDesc := [
  ⟨"ANS_RULE_K0", 0x411000, [(0x10000, 4), (0x10, 64)], false, .inst, .ans, some .pipeline,
    [⟨0, 1, .rw, (.val 0), (.byRule .rule0)⟩,
     ⟨1, 2, .rw, (.val 0), (.byRule .rule0)⟩,
     ⟨3, 1, .rw, (.val 0), (.byRule .rule0)⟩,
     ⟨4, 2, .rw, (.val 0), (.byRule .rule0)⟩,
     ⟨6, 16, .rw, (.val 0), (.byRule .rule0)⟩]⟩,
  ⟨"ANS_RULE_K1", 0x411004, [(0x10000, 4), (0x10, 64)], false, .inst, .ans, some .pipeline,
    [⟨0, 16, .rw, (.val 0), (.byRule .rule1)⟩,
     ⟨16, 16, .rw, (.val 0), (.byRule .rule1)⟩]⟩,
  ⟨"ANS_RULE_K2", 0x411008, [(0x10000, 4), (0x10, 64)], false, .inst, .ans, some .pipeline,
    [⟨0, 3, .rw, (.val 0), (.byRule .rule2)⟩,
     ⟨3, 3, .rw, (.val 0), (.byRule .rule2)⟩,
     ⟨6, 3, .rw, (.val 0), (.byRule .rule2)⟩,
     ⟨9, 3, .rw, (.val 0), (.byRule .rule2)⟩,
     ⟨12, 4, .rw, (.val 0), (.byRule .rule2)⟩]⟩,
  ⟨"ANS_RULE_ACT", 0x41100C, [(0x10000, 4), (0x10, 64)], false, .inst, .ans, some .pipeline,
    [⟨0, 3, .rw, (.val 0), (.byRule .ruleAct)⟩,
     ⟨3, 5, .rw, (.val 0), (.byRule .ruleAct)⟩,
     ⟨8, 1, .rw, (.val 0), (.val 0)⟩]⟩,
  ⟨"ANS_RULE_HITS", 0x412000, [(0x10000, 4), (0x4, 64)], false, .inst, .ans, some .pipeline,
    [⟨0, 32, .rc, (.val 0), (.val 0)⟩]⟩]

/-- Every register of the ANS block. -/
def regsAns : List RegDesc := regsAns0 ++ regsAns1 ++ regsAns2 ++ regsAns3

/-- ANS_GLB_CFG, BLK domain. -/
def ANS_GLB_CFG.ofs : Nat := 0x400000
@[inherit_doc ANS_GLB_CFG.ofs] def ANS_GLB_CFG.STRATUM : Fld := ⟨ANS_GLB_CFG.ofs, 0, 8⟩
@[inherit_doc ANS_GLB_CFG.ofs] def ANS_GLB_CFG.PRECISION : Fld := ⟨ANS_GLB_CFG.ofs, 8, 8⟩
@[inherit_doc ANS_GLB_CFG.ofs] def ANS_GLB_CFG.POLL_MIN : Fld := ⟨ANS_GLB_CFG.ofs, 16, 4⟩
@[inherit_doc ANS_GLB_CFG.ofs] def ANS_GLB_CFG.KOD_POLL : Fld := ⟨ANS_GLB_CFG.ofs, 20, 5⟩
@[inherit_doc ANS_GLB_CFG.ofs] def ANS_GLB_CFG.REFID_AUTO : Fld := ⟨ANS_GLB_CFG.ofs, 25, 1⟩
@[inherit_doc ANS_GLB_CFG.ofs] def ANS_GLB_CFG.UNVER_DROP : Fld := ⟨ANS_GLB_CFG.ofs, 26, 1⟩
@[inherit_doc ANS_GLB_CFG.ofs] def ANS_GLB_CFG.KOD_EN : Fld := ⟨ANS_GLB_CFG.ofs, 27, 1⟩
@[inherit_doc ANS_GLB_CFG.ofs] def ANS_GLB_CFG.CSUM4 : Fld := ⟨ANS_GLB_CFG.ofs, 28, 1⟩
@[inherit_doc ANS_GLB_CFG.ofs] def ANS_GLB_CFG.DSCP_COPY : Fld := ⟨ANS_GLB_CFG.ofs, 29, 1⟩
@[inherit_doc ANS_GLB_CFG.ofs] def ANS_GLB_CFG.VB_EN : Fld := ⟨ANS_GLB_CFG.ofs, 30, 1⟩
/-- ANS_GLB_HDR, BLK domain. -/
def ANS_GLB_HDR.ofs : Nat := 0x400004
@[inherit_doc ANS_GLB_HDR.ofs] def ANS_GLB_HDR.TTL : Fld := ⟨ANS_GLB_HDR.ofs, 0, 8⟩
@[inherit_doc ANS_GLB_HDR.ofs] def ANS_GLB_HDR.DSCP : Fld := ⟨ANS_GLB_HDR.ofs, 8, 6⟩
/-- ANS_REFID, BLK domain. -/
def ANS_REFID.ofs : Nat := 0x400008
@[inherit_doc ANS_REFID.ofs] def ANS_REFID.REFID : Fld := ⟨ANS_REFID.ofs, 0, 32⟩
/-- ANS_ROOT_DELAY, BLK domain. -/
def ANS_ROOT_DELAY.ofs : Nat := 0x40000C
@[inherit_doc ANS_ROOT_DELAY.ofs] def ANS_ROOT_DELAY.DELAY : Fld := ⟨ANS_ROOT_DELAY.ofs, 0, 32⟩
/-- ANS_PROV, BLK domain. -/
def ANS_PROV.ofs : Nat := 0x400010
@[inherit_doc ANS_PROV.ofs] def ANS_PROV.PROV_EF_TYPE : Fld := ⟨ANS_PROV.ofs, 0, 16⟩
@[inherit_doc ANS_PROV.ofs] def ANS_PROV.PROV_EN : Fld := ⟨ANS_PROV.ofs, 16, 1⟩
/-- ANS_VB_CFG, BLK domain. -/
def ANS_VB_CFG.ofs : Nat := 0x400014
@[inherit_doc ANS_VB_CFG.ofs] def ANS_VB_CFG.RATE : Fld := ⟨ANS_VB_CFG.ofs, 0, 16⟩
@[inherit_doc ANS_VB_CFG.ofs] def ANS_VB_CFG.BURST : Fld := ⟨ANS_VB_CFG.ofs, 16, 8⟩
@[inherit_doc ANS_VB_CFG.ofs] def ANS_VB_CFG.V6_PREFIX : Fld := ⟨ANS_VB_CFG.ofs, 24, 8⟩
/-- ANS_VB_CTRL, BLK domain. -/
def ANS_VB_CTRL.ofs : Nat := 0x400018
@[inherit_doc ANS_VB_CTRL.ofs] def ANS_VB_CTRL.CLEAR : Fld := ⟨ANS_VB_CTRL.ofs, 0, 1⟩
/-- ANS_GLB_STATUS, BLK domain. -/
def ANS_GLB_STATUS.ofs : Nat := 0x40001C
@[inherit_doc ANS_GLB_STATUS.ofs] def ANS_GLB_STATUS.READY : Fld := ⟨ANS_GLB_STATUS.ofs, 0, 1⟩
@[inherit_doc ANS_GLB_STATUS.ofs] def ANS_GLB_STATUS.UNVERIFIED : Fld := ⟨ANS_GLB_STATUS.ofs, 1, 1⟩
@[inherit_doc ANS_GLB_STATUS.ofs] def ANS_GLB_STATUS.VB_BUSY : Fld := ⟨ANS_GLB_STATUS.ofs, 2, 1⟩
/-- ANS_VB_MISSES, BLK domain. -/
def ANS_VB_MISSES.ofs : Nat := 0x400020
@[inherit_doc ANS_VB_MISSES.ofs] def ANS_VB_MISSES.COUNT : Fld := ⟨ANS_VB_MISSES.ofs, 0, 32⟩
/-- ANS_VB_EVICTS, BLK domain. -/
def ANS_VB_EVICTS.ofs : Nat := 0x400024
@[inherit_doc ANS_VB_EVICTS.ofs] def ANS_VB_EVICTS.COUNT : Fld := ⟨ANS_VB_EVICTS.ofs, 0, 32⟩
/-- ANS_CFG, INST domain. -/
def ANS_CFG.ofs (p : Nat) : Nat := 0x410000 + p * 0x10000
@[inherit_doc ANS_CFG.ofs] def ANS_CFG.EN (p : Nat) : Fld := ⟨ANS_CFG.ofs p, 0, 1⟩
@[inherit_doc ANS_CFG.ofs] def ANS_CFG.DEFAULT_ACTION (p : Nat) : Fld := ⟨ANS_CFG.ofs p, 1, 3⟩
@[inherit_doc ANS_CFG.ofs] def ANS_CFG.DEFAULT_QUEUE (p : Nat) : Fld := ⟨ANS_CFG.ofs p, 4, 5⟩
/-- ANS_DELAY, INST domain. -/
def ANS_DELAY.ofs (p : Nat) : Nat := 0x410004 + p * 0x10000
@[inherit_doc ANS_DELAY.ofs] def ANS_DELAY.DELAY_NTP (p : Nat) : Fld := ⟨ANS_DELAY.ofs p, 0, 16⟩
@[inherit_doc ANS_DELAY.ofs] def ANS_DELAY.DELAY_NTS (p : Nat) : Fld := ⟨ANS_DELAY.ofs p, 16, 16⟩
/-- ANS_SLACK, INST domain. -/
def ANS_SLACK.ofs (p : Nat) : Nat := 0x410008 + p * 0x10000
@[inherit_doc ANS_SLACK.ofs] def ANS_SLACK.SLACK (p : Nat) : Fld := ⟨ANS_SLACK.ofs p, 0, 16⟩
/-- ANS_STATUS, INST domain. -/
def ANS_STATUS.ofs (p : Nat) : Nat := 0x41000C + p * 0x10000
@[inherit_doc ANS_STATUS.ofs] def ANS_STATUS.READY (p : Nat) : Fld := ⟨ANS_STATUS.ofs p, 0, 1⟩
@[inherit_doc ANS_STATUS.ofs] def ANS_STATUS.BANK (p : Nat) : Fld := ⟨ANS_STATUS.ofs p, 1, 1⟩
@[inherit_doc ANS_STATUS.ofs] def ANS_STATUS.COMMIT_BUSY (p : Nat) : Fld := ⟨ANS_STATUS.ofs p, 2, 1⟩
@[inherit_doc ANS_STATUS.ofs] def ANS_STATUS.INFLIGHT (p : Nat) : Fld := ⟨ANS_STATUS.ofs p, 16, 11⟩
/-- ANS_FLAGS, INST domain. -/
def ANS_FLAGS.ofs (p : Nat) : Nat := 0x410010 + p * 0x10000
@[inherit_doc ANS_FLAGS.ofs] def ANS_FLAGS.OVERRUN (p : Nat) : Fld := ⟨ANS_FLAGS.ofs p, 0, 1⟩
@[inherit_doc ANS_FLAGS.ofs] def ANS_FLAGS.NOSLOT (p : Nat) : Fld := ⟨ANS_FLAGS.ofs p, 1, 1⟩
@[inherit_doc ANS_FLAGS.ofs] def ANS_FLAGS.CFG_BAD (p : Nat) : Fld := ⟨ANS_FLAGS.ofs p, 2, 1⟩
@[inherit_doc ANS_FLAGS.ofs] def ANS_FLAGS.COMMIT_DONE (p : Nat) : Fld := ⟨ANS_FLAGS.ofs p, 3, 1⟩
@[inherit_doc ANS_FLAGS.ofs] def ANS_FLAGS.UNANSWERABLE (p : Nat) : Fld := ⟨ANS_FLAGS.ofs p, 4, 1⟩
@[inherit_doc ANS_FLAGS.ofs] def ANS_FLAGS.STEP_DROP (p : Nat) : Fld := ⟨ANS_FLAGS.ofs p, 5, 1⟩
/-- ANS_RULE_CTRL, INST domain. -/
def ANS_RULE_CTRL.ofs (p : Nat) : Nat := 0x410014 + p * 0x10000
@[inherit_doc ANS_RULE_CTRL.ofs] def ANS_RULE_CTRL.COMMIT (p : Nat) : Fld := ⟨ANS_RULE_CTRL.ofs p, 0, 1⟩
/-- ANS_CNT_RX, INST domain. -/
def ANS_CNT_RX.ofs (p : Nat) : Nat := 0x410020 + p * 0x10000
@[inherit_doc ANS_CNT_RX.ofs] def ANS_CNT_RX.COUNT (p : Nat) : Fld := ⟨ANS_CNT_RX.ofs p, 0, 32⟩
/-- ANS_CNT_NTP, INST domain. -/
def ANS_CNT_NTP.ofs (p : Nat) : Nat := 0x410024 + p * 0x10000
@[inherit_doc ANS_CNT_NTP.ofs] def ANS_CNT_NTP.COUNT (p : Nat) : Fld := ⟨ANS_CNT_NTP.ofs p, 0, 32⟩
/-- ANS_CNT_NTS, INST domain. -/
def ANS_CNT_NTS.ofs (p : Nat) : Nat := 0x410028 + p * 0x10000
@[inherit_doc ANS_CNT_NTS.ofs] def ANS_CNT_NTS.COUNT (p : Nat) : Fld := ⟨ANS_CNT_NTS.ofs p, 0, 32⟩
/-- ANS_CNT_KOD, INST domain. -/
def ANS_CNT_KOD.ofs (p : Nat) : Nat := 0x41002C + p * 0x10000
@[inherit_doc ANS_CNT_KOD.ofs] def ANS_CNT_KOD.COUNT (p : Nat) : Fld := ⟨ANS_CNT_KOD.ofs p, 0, 32⟩
/-- ANS_CNT_LIMITED, INST domain. -/
def ANS_CNT_LIMITED.ofs (p : Nat) : Nat := 0x410030 + p * 0x10000
@[inherit_doc ANS_CNT_LIMITED.ofs] def ANS_CNT_LIMITED.COUNT (p : Nat) : Fld := ⟨ANS_CNT_LIMITED.ofs p, 0, 32⟩
/-- ANS_CNT_HOST, INST domain. -/
def ANS_CNT_HOST.ofs (p : Nat) : Nat := 0x410034 + p * 0x10000
@[inherit_doc ANS_CNT_HOST.ofs] def ANS_CNT_HOST.COUNT (p : Nat) : Fld := ⟨ANS_CNT_HOST.ofs p, 0, 32⟩
/-- ANS_CNT_PTP, INST domain. -/
def ANS_CNT_PTP.ofs (p : Nat) : Nat := 0x410038 + p * 0x10000
@[inherit_doc ANS_CNT_PTP.ofs] def ANS_CNT_PTP.COUNT (p : Nat) : Fld := ⟨ANS_CNT_PTP.ofs p, 0, 32⟩
/-- ANS_CNT_RULEDROP, INST domain. -/
def ANS_CNT_RULEDROP.ofs (p : Nat) : Nat := 0x41003C + p * 0x10000
@[inherit_doc ANS_CNT_RULEDROP.ofs] def ANS_CNT_RULEDROP.COUNT (p : Nat) : Fld := ⟨ANS_CNT_RULEDROP.ofs p, 0, 32⟩
/-- ANS_CNT_ERR0, INST domain. -/
def ANS_CNT_ERR0.ofs (p : Nat) : Nat := 0x410040 + p * 0x10000
@[inherit_doc ANS_CNT_ERR0.ofs] def ANS_CNT_ERR0.OVERRUN (p : Nat) : Fld := ⟨ANS_CNT_ERR0.ofs p, 0, 16⟩
@[inherit_doc ANS_CNT_ERR0.ofs] def ANS_CNT_ERR0.NOSLOT (p : Nat) : Fld := ⟨ANS_CNT_ERR0.ofs p, 16, 16⟩
/-- ANS_CNT_ERR1, INST domain. -/
def ANS_CNT_ERR1.ofs (p : Nat) : Nat := 0x410044 + p * 0x10000
@[inherit_doc ANS_CNT_ERR1.ofs] def ANS_CNT_ERR1.UNANSWERABLE (p : Nat) : Fld := ⟨ANS_CNT_ERR1.ofs p, 0, 16⟩
@[inherit_doc ANS_CNT_ERR1.ofs] def ANS_CNT_ERR1.STEP_DROP (p : Nat) : Fld := ⟨ANS_CNT_ERR1.ofs p, 16, 16⟩
/-- ANS_CNT_ERR2, INST domain. -/
def ANS_CNT_ERR2.ofs (p : Nat) : Nat := 0x410048 + p * 0x10000
@[inherit_doc ANS_CNT_ERR2.ofs] def ANS_CNT_ERR2.UNLOCKED (p : Nat) : Fld := ⟨ANS_CNT_ERR2.ofs p, 0, 16⟩
@[inherit_doc ANS_CNT_ERR2.ofs] def ANS_CNT_ERR2.ABORT (p : Nat) : Fld := ⟨ANS_CNT_ERR2.ofs p, 16, 16⟩
/-- ANS_CNT_UNVER, INST domain. -/
def ANS_CNT_UNVER.ofs (p : Nat) : Nat := 0x41004C + p * 0x10000
@[inherit_doc ANS_CNT_UNVER.ofs] def ANS_CNT_UNVER.COUNT (p : Nat) : Fld := ⟨ANS_CNT_UNVER.ofs p, 0, 32⟩
/-- ANS_ADDR_W, INST domain. -/
def ANS_ADDR_W.ofs (p : Nat) (a : Nat) (w : Nat) : Nat := 0x410400 + p * 0x10000 + a * 0x20 + w * 0x4
@[inherit_doc ANS_ADDR_W.ofs] def ANS_ADDR_W.OCTETS (p : Nat) (a : Nat) (w : Nat) : Fld := ⟨ANS_ADDR_W.ofs p a w, 0, 32⟩
/-- ANS_ADDR_CFG, INST domain. -/
def ANS_ADDR_CFG.ofs (p : Nat) (a : Nat) : Nat := 0x410410 + p * 0x10000 + a * 0x20
@[inherit_doc ANS_ADDR_CFG.ofs] def ANS_ADDR_CFG.VALID (p : Nat) (a : Nat) : Fld := ⟨ANS_ADDR_CFG.ofs p a, 0, 1⟩
@[inherit_doc ANS_ADDR_CFG.ofs] def ANS_ADDR_CFG.V6 (p : Nat) (a : Nat) : Fld := ⟨ANS_ADDR_CFG.ofs p a, 1, 1⟩
/-- ANS_RULE_K0, INST domain. -/
def ANS_RULE_K0.ofs (p : Nat) (r : Nat) : Nat := 0x411000 + p * 0x10000 + r * 0x10
@[inherit_doc ANS_RULE_K0.ofs] def ANS_RULE_K0.VALID (p : Nat) (r : Nat) : Fld := ⟨ANS_RULE_K0.ofs p r, 0, 1⟩
@[inherit_doc ANS_RULE_K0.ofs] def ANS_RULE_K0.L3 (p : Nat) (r : Nat) : Fld := ⟨ANS_RULE_K0.ofs p r, 1, 2⟩
@[inherit_doc ANS_RULE_K0.ofs] def ANS_RULE_K0.UDP (p : Nat) (r : Nat) : Fld := ⟨ANS_RULE_K0.ofs p r, 3, 1⟩
@[inherit_doc ANS_RULE_K0.ofs] def ANS_RULE_K0.PORTS (p : Nat) (r : Nat) : Fld := ⟨ANS_RULE_K0.ofs p r, 4, 2⟩
@[inherit_doc ANS_RULE_K0.ofs] def ANS_RULE_K0.ADDR (p : Nat) (r : Nat) : Fld := ⟨ANS_RULE_K0.ofs p r, 6, 16⟩
/-- ANS_RULE_K1, INST domain. -/
def ANS_RULE_K1.ofs (p : Nat) (r : Nat) : Nat := 0x411004 + p * 0x10000 + r * 0x10
@[inherit_doc ANS_RULE_K1.ofs] def ANS_RULE_K1.VALUE (p : Nat) (r : Nat) : Fld := ⟨ANS_RULE_K1.ofs p r, 0, 16⟩
@[inherit_doc ANS_RULE_K1.ofs] def ANS_RULE_K1.MASK (p : Nat) (r : Nat) : Fld := ⟨ANS_RULE_K1.ofs p r, 16, 16⟩
/-- ANS_RULE_K2, INST domain. -/
def ANS_RULE_K2.ofs (p : Nat) (r : Nat) : Nat := 0x411008 + p * 0x10000 + r * 0x10
@[inherit_doc ANS_RULE_K2.ofs] def ANS_RULE_K2.VN (p : Nat) (r : Nat) : Fld := ⟨ANS_RULE_K2.ofs p r, 0, 3⟩
@[inherit_doc ANS_RULE_K2.ofs] def ANS_RULE_K2.VN_MASK (p : Nat) (r : Nat) : Fld := ⟨ANS_RULE_K2.ofs p r, 3, 3⟩
@[inherit_doc ANS_RULE_K2.ofs] def ANS_RULE_K2.MODE (p : Nat) (r : Nat) : Fld := ⟨ANS_RULE_K2.ofs p r, 6, 3⟩
@[inherit_doc ANS_RULE_K2.ofs] def ANS_RULE_K2.MODE_MASK (p : Nat) (r : Nat) : Fld := ⟨ANS_RULE_K2.ofs p r, 9, 3⟩
@[inherit_doc ANS_RULE_K2.ofs] def ANS_RULE_K2.NC_SET (p : Nat) (r : Nat) : Fld := ⟨ANS_RULE_K2.ofs p r, 12, 4⟩
/-- ANS_RULE_ACT, INST domain. -/
def ANS_RULE_ACT.ofs (p : Nat) (r : Nat) : Nat := 0x41100C + p * 0x10000 + r * 0x10
@[inherit_doc ANS_RULE_ACT.ofs] def ANS_RULE_ACT.ACTION (p : Nat) (r : Nat) : Fld := ⟨ANS_RULE_ACT.ofs p r, 0, 3⟩
@[inherit_doc ANS_RULE_ACT.ofs] def ANS_RULE_ACT.QUEUE (p : Nat) (r : Nat) : Fld := ⟨ANS_RULE_ACT.ofs p r, 3, 5⟩
@[inherit_doc ANS_RULE_ACT.ofs] def ANS_RULE_ACT.NO_LIMIT (p : Nat) (r : Nat) : Fld := ⟨ANS_RULE_ACT.ofs p r, 8, 1⟩
/-- ANS_RULE_HITS, INST domain. -/
def ANS_RULE_HITS.ofs (p : Nat) (r : Nat) : Nat := 0x412000 + p * 0x10000 + r * 0x4
@[inherit_doc ANS_RULE_HITS.ofs] def ANS_RULE_HITS.COUNT (p : Nat) (r : Nat) : Fld := ⟨ANS_RULE_HITS.ofs p r, 0, 32⟩

end Sys2Proof.Machine
end

