-- ==== Sys2Proof/Machine/RegMapBne.lean ====
section
/-! DEFINITION. The register map of the BNE block, from the register tables of 13_bignum_engine.md.
One descriptor per register entry (offset, reset domain, fields with access code and the two defaults of R19) and one
named offset `NAME.ofs` and one named field `NAME.FIELD` per entry of the tables. -/

namespace Sys2Proof.Machine

/-- Register descriptors of the BNE block, part 0. -/
def regsBne0 : List RegDesc := [
  ⟨"BNE_CFG", 0x580000, [], false, .blk, .bne, none,
    [⟨0, 1, .rw, (.val 0), (.val 1)⟩,
     ⟨16, 16, .rw, (.val 0xe10), (.val 0xe10)⟩]⟩,
  ⟨"BNE_CTRL", 0x580004, [], false, .blk, .bne, none,
    [⟨0, 1, .wo, (.val 0), (.val 0)⟩,
     ⟨1, 1, .wo, (.val 0), (.val 0)⟩,
     ⟨2, 4, .wo, (.val 0), (.val 0)⟩]⟩,
  ⟨"BNE_STATUS", 0x580008, [], false, .blk, .bne, none,
    [⟨0, 1, .ro, (.val 0), .live⟩,
     ⟨1, 1, .ro, (.val 0), .live⟩,
     ⟨2, 1, .ro, (.val 0), .live⟩,
     ⟨8, 5, .ro, (.val 0), .live⟩]⟩,
  ⟨"BNE_FLAGS", 0x58000C, [], false, .blk, .bne, none,
    [⟨0, 1, .w1c, (.val 0), (.val 0)⟩,
     ⟨1, 1, .w1c, (.val 0), (.val 0)⟩,
     ⟨2, 1, .w1c, (.val 0), (.val 0)⟩,
     ⟨3, 1, .w1c, (.val 0), (.val 0)⟩,
     ⟨4, 1, .w1c, (.val 0), (.val 0)⟩,
     ⟨5, 1, .w1c, (.val 0), (.val 0)⟩]⟩,
  ⟨"BNE_CORE_STATUS", 0x580010, [], false, .blk, .bne, none,
    [⟨0, 16, .ro, (.val 0), .live⟩,
     ⟨16, 16, .ro, (.val 0), .live⟩]⟩,
  ⟨"BNE_CORE_BUSY", 0x580014, [], false, .blk, .bne, none,
    [⟨0, 16, .ro, (.val 0), .live⟩]⟩,
  ⟨"BNE_CNT_DONE", 0x580020, [], false, .blk, .bne, none,
    [⟨0, 32, .rc, (.val 0), (.val 0)⟩]⟩,
  ⟨"BNE_CNT_ERR", 0x580024, [], false, .blk, .bne, none,
    [⟨0, 16, .rc, (.val 0), (.val 0)⟩,
     ⟨16, 16, .rc, (.val 0), (.val 0)⟩]⟩,
  ⟨"BNE_CNT_ABORT", 0x580028, [], false, .blk, .bne, none,
    [⟨0, 16, .rc, (.val 0), (.val 0)⟩,
     ⟨16, 16, .rc, (.val 0), (.val 0)⟩]⟩,
  ⟨"BNE_WIN_BLOCKED", 0x58002C, [], false, .blk, .bne, none,
    [⟨0, 32, .rc, (.val 0), (.val 0)⟩]⟩]

/-- Register descriptors of the BNE block, part 1. -/
def regsBne1 : List RegDesc := [
  ⟨"BNE_CNT_INTERNAL", 0x580030, [], false, .blk, .bne, none,
    [⟨0, 32, .rc, (.val 0), (.val 0)⟩]⟩,
  ⟨"BNE_CNT_SELFTEST", 0x580034, [], false, .blk, .bne, none,
    [⟨0, 16, .rc, (.val 0), (.val 0)⟩,
     ⟨16, 16, .rc, (.val 0), (.val 0)⟩]⟩,
  ⟨"BNE_SLOT_STATUS", 0x580100, [(0x4, 16)], false, .inst, .bne, some .bneSlot,
    [⟨0, 2, .ro, (.val 0), .live⟩,
     ⟨2, 4, .ro, (.val 0), .live⟩,
     ⟨6, 1, .ro, (.val 1), .live⟩,
     ⟨8, 4, .ro, (.val 0), .live⟩]⟩,
  ⟨"BNE_SLOT_CTRL", 0x580180, [(0x4, 16)], false, .inst, .bne, some .bneSlot,
    [⟨0, 1, .wo, (.val 0), (.val 0)⟩]⟩]

/-- Every register of the BNE block. -/
def regsBne : List RegDesc := regsBne0 ++ regsBne1

/-- BNE_CFG, BLK domain. -/
def BNE_CFG.ofs : Nat := 0x580000
@[inherit_doc BNE_CFG.ofs] def BNE_CFG.EN : Fld := ⟨BNE_CFG.ofs, 0, 1⟩
@[inherit_doc BNE_CFG.ofs] def BNE_CFG.SELFTEST_INT : Fld := ⟨BNE_CFG.ofs, 16, 16⟩
/-- BNE_CTRL, BLK domain. -/
def BNE_CTRL.ofs : Nat := 0x580004
@[inherit_doc BNE_CTRL.ofs] def BNE_CTRL.SELFTEST : Fld := ⟨BNE_CTRL.ofs, 0, 1⟩
@[inherit_doc BNE_CTRL.ofs] def BNE_CTRL.FORCE : Fld := ⟨BNE_CTRL.ofs, 1, 1⟩
@[inherit_doc BNE_CTRL.ofs] def BNE_CTRL.CORE : Fld := ⟨BNE_CTRL.ofs, 2, 4⟩
/-- BNE_STATUS, BLK domain. -/
def BNE_STATUS.ofs : Nat := 0x580008
@[inherit_doc BNE_STATUS.ofs] def BNE_STATUS.READY : Fld := ⟨BNE_STATUS.ofs, 0, 1⟩
@[inherit_doc BNE_STATUS.ofs] def BNE_STATUS.RNG_OK : Fld := ⟨BNE_STATUS.ofs, 1, 1⟩
@[inherit_doc BNE_STATUS.ofs] def BNE_STATUS.INTERNAL : Fld := ⟨BNE_STATUS.ofs, 2, 1⟩
@[inherit_doc BNE_STATUS.ofs] def BNE_STATUS.HEALTHY : Fld := ⟨BNE_STATUS.ofs, 8, 5⟩
/-- BNE_FLAGS, BLK domain. -/
def BNE_FLAGS.ofs : Nat := 0x58000C
@[inherit_doc BNE_FLAGS.ofs] def BNE_FLAGS.CORE_FAULT : Fld := ⟨BNE_FLAGS.ofs, 0, 1⟩
@[inherit_doc BNE_FLAGS.ofs] def BNE_FLAGS.BUSY_IN_SERVICE : Fld := ⟨BNE_FLAGS.ofs, 1, 1⟩
@[inherit_doc BNE_FLAGS.ofs] def BNE_FLAGS.FORCED_OUT : Fld := ⟨BNE_FLAGS.ofs, 2, 1⟩
@[inherit_doc BNE_FLAGS.ofs] def BNE_FLAGS.DESC_ERR : Fld := ⟨BNE_FLAGS.ofs, 3, 1⟩
@[inherit_doc BNE_FLAGS.ofs] def BNE_FLAGS.PFAIL_ABORT : Fld := ⟨BNE_FLAGS.ofs, 4, 1⟩
@[inherit_doc BNE_FLAGS.ofs] def BNE_FLAGS.NOCORE : Fld := ⟨BNE_FLAGS.ofs, 5, 1⟩
/-- BNE_CORE_STATUS, BLK domain. -/
def BNE_CORE_STATUS.ofs : Nat := 0x580010
@[inherit_doc BNE_CORE_STATUS.ofs] def BNE_CORE_STATUS.FAULT : Fld := ⟨BNE_CORE_STATUS.ofs, 0, 16⟩
@[inherit_doc BNE_CORE_STATUS.ofs] def BNE_CORE_STATUS.TESTING : Fld := ⟨BNE_CORE_STATUS.ofs, 16, 16⟩
/-- BNE_CORE_BUSY, BLK domain. -/
def BNE_CORE_BUSY.ofs : Nat := 0x580014
@[inherit_doc BNE_CORE_BUSY.ofs] def BNE_CORE_BUSY.BUSY : Fld := ⟨BNE_CORE_BUSY.ofs, 0, 16⟩
/-- BNE_CNT_DONE, BLK domain. -/
def BNE_CNT_DONE.ofs : Nat := 0x580020
@[inherit_doc BNE_CNT_DONE.ofs] def BNE_CNT_DONE.COUNT : Fld := ⟨BNE_CNT_DONE.ofs, 0, 32⟩
/-- BNE_CNT_ERR, BLK domain. -/
def BNE_CNT_ERR.ofs : Nat := 0x580024
@[inherit_doc BNE_CNT_ERR.ofs] def BNE_CNT_ERR.VALIDATION : Fld := ⟨BNE_CNT_ERR.ofs, 0, 16⟩
@[inherit_doc BNE_CNT_ERR.ofs] def BNE_CNT_ERR.NOT_RUN : Fld := ⟨BNE_CNT_ERR.ofs, 16, 16⟩
/-- BNE_CNT_ABORT, BLK domain. -/
def BNE_CNT_ABORT.ofs : Nat := 0x580028
@[inherit_doc BNE_CNT_ABORT.ofs] def BNE_CNT_ABORT.ABORTS : Fld := ⟨BNE_CNT_ABORT.ofs, 0, 16⟩
@[inherit_doc BNE_CNT_ABORT.ofs] def BNE_CNT_ABORT.ZEROISES : Fld := ⟨BNE_CNT_ABORT.ofs, 16, 16⟩
/-- BNE_WIN_BLOCKED, BLK domain. -/
def BNE_WIN_BLOCKED.ofs : Nat := 0x58002C
@[inherit_doc BNE_WIN_BLOCKED.ofs] def BNE_WIN_BLOCKED.COUNT : Fld := ⟨BNE_WIN_BLOCKED.ofs, 0, 32⟩
/-- BNE_CNT_INTERNAL, BLK domain. -/
def BNE_CNT_INTERNAL.ofs : Nat := 0x580030
@[inherit_doc BNE_CNT_INTERNAL.ofs] def BNE_CNT_INTERNAL.COUNT : Fld := ⟨BNE_CNT_INTERNAL.ofs, 0, 32⟩
/-- BNE_CNT_SELFTEST, BLK domain. -/
def BNE_CNT_SELFTEST.ofs : Nat := 0x580034
@[inherit_doc BNE_CNT_SELFTEST.ofs] def BNE_CNT_SELFTEST.PASSES : Fld := ⟨BNE_CNT_SELFTEST.ofs, 0, 16⟩
@[inherit_doc BNE_CNT_SELFTEST.ofs] def BNE_CNT_SELFTEST.FAILS : Fld := ⟨BNE_CNT_SELFTEST.ofs, 16, 16⟩
/-- BNE_SLOT_STATUS, INST domain. -/
def BNE_SLOT_STATUS.ofs (j : Nat) : Nat := 0x580100 + j * 0x4
@[inherit_doc BNE_SLOT_STATUS.ofs] def BNE_SLOT_STATUS.STATE (j : Nat) : Fld := ⟨BNE_SLOT_STATUS.ofs j, 0, 2⟩
@[inherit_doc BNE_SLOT_STATUS.ofs] def BNE_SLOT_STATUS.CORE (j : Nat) : Fld := ⟨BNE_SLOT_STATUS.ofs j, 2, 4⟩
@[inherit_doc BNE_SLOT_STATUS.ofs] def BNE_SLOT_STATUS.ZEROED (j : Nat) : Fld := ⟨BNE_SLOT_STATUS.ofs j, 6, 1⟩
@[inherit_doc BNE_SLOT_STATUS.ofs] def BNE_SLOT_STATUS.LAST_STATUS (j : Nat) : Fld := ⟨BNE_SLOT_STATUS.ofs j, 8, 4⟩
/-- BNE_SLOT_CTRL, INST domain. -/
def BNE_SLOT_CTRL.ofs (j : Nat) : Nat := 0x580180 + j * 0x4
@[inherit_doc BNE_SLOT_CTRL.ofs] def BNE_SLOT_CTRL.ABORT (j : Nat) : Fld := ⟨BNE_SLOT_CTRL.ofs j, 0, 1⟩

end Sys2Proof.Machine
end

