-- ==== Sys2Proof/Machine/RegMapCat.lean ====
section
/-! DEFINITION. The register map of the CAT block, from the register tables of 17_catalogue_and_startup.md.
One descriptor per register entry (offset, reset domain, fields with access code and the two defaults of R19) and one
named offset `NAME.ofs` and one named field `NAME.FIELD` per entry of the tables. -/

namespace Sys2Proof.Machine

/-- Register descriptors of the CAT block, part 0. -/
def regsCat0 : List RegDesc := [
  ⟨"CAT_STATUS", 0x10000, [], false, .dev, .cat, none,
    [⟨0, 3, .ro, (.val 0), .live⟩,
     ⟨3, 2, .ro, (.val 0), .live⟩,
     ⟨5, 1, .ro, (.val 0), .live⟩,
     ⟨6, 1, .ro, (.val 0), .live⟩,
     ⟨7, 1, .ro, (.val 0), .live⟩,
     ⟨8, 1, .ro, (.val 0), .live⟩,
     ⟨9, 1, .ro, .live, .live⟩,
     ⟨10, 1, .ro, .live, .live⟩,
     ⟨11, 3, .ro, .live, .live⟩]⟩,
  ⟨"CAT_FLAGS", 0x10004, [], false, .dev, .cat, none,
    [⟨0, 1, .w1c, (.val 0), (.val 0)⟩,
     ⟨1, 1, .w1c, (.val 0), (.val 0)⟩,
     ⟨2, 1, .w1c, (.val 0), (.val 0)⟩,
     ⟨3, 1, .w1c, (.val 0), (.val 0)⟩,
     ⟨4, 1, .w1c, (.val 0), (.val 0)⟩,
     ⟨5, 1, .w1c, (.val 0), (.val 0)⟩]⟩,
  ⟨"CAT_BANK_STATUS", 0x10008, [(0x4, 2)], false, .dev, .cat, none,
    [⟨0, 1, .ro, (.val 0), .live⟩,
     ⟨1, 1, .ro, (.val 0), .live⟩,
     ⟨2, 4, .ro, (.val 0), .live⟩,
     ⟨6, 8, .ro, (.val 0), .live⟩]⟩,
  ⟨"CAT_BANK_SEQ", 0x10010, [(0x4, 2)], false, .dev, .cat, none,
    [⟨0, 32, .ro, (.val 0), .live⟩]⟩,
  ⟨"CAT_CTRL", 0x10018, [], false, .dev, .cat, none,
    [⟨0, 1, .wo, (.val 0), (.val 0)⟩,
     ⟨1, 1, .wo, (.val 0), (.val 0)⟩,
     ⟨2, 1, .wo, (.val 0), (.val 0)⟩]⟩,
  ⟨"CAT_CFG", 0x1001C, [], false, .dev, .cat, none,
    [⟨0, 1, .rws, (.val 0), (.val 0)⟩]⟩,
  ⟨"CAT_HASH", 0x10020, [(0x4, 8)], false, .dev, .cat, none,
    [⟨0, 32, .ro, (.val 0), .live⟩]⟩,
  ⟨"CAT_DEVICE", 0x10040, [], false, .dev, .cat, none,
    [⟨0, 16, .ro, (.val 0), (.val 3)⟩,
     ⟨16, 16, .ro, (.val 0), .live⟩]⟩,
  ⟨"CAT_NV_ADDR", 0x10044, [], false, .dev, .cat, none,
    [⟨0, 24, .rw, (.val 0), (.val 0)⟩]⟩,
  ⟨"CAT_NV_DATA", 0x10048, [], false, .dev, .cat, none,
    [⟨0, 32, .rw, (.val 0), (.val 0)⟩]⟩]

/-- Register descriptors of the CAT block, part 1. -/
def regsCat1 : List RegDesc := [
  ⟨"CAT_NV_CMD", 0x1004C, [], false, .dev, .cat, none,
    [⟨0, 2, .wo, (.val 0), (.val 0)⟩,
     ⟨2, 1, .wo, (.val 0), (.val 0)⟩]⟩,
  ⟨"CAT_NV_STATUS", 0x10050, [], false, .dev, .cat, none,
    [⟨0, 1, .ro, (.val 0), .live⟩]⟩,
  ⟨"CAT_OWNER_KEY", 0x10060, [(0x4, 8)], false, .pwr, .cat, none,
    [⟨0, 32, .rw, .live, .live⟩]⟩,
  ⟨"CAT_OTP_CMD", 0x10080, [], false, .pwr, .cat, none,
    [⟨0, 1, .wo, (.val 0), (.val 0)⟩,
     ⟨1, 1, .wo, (.val 0), (.val 0)⟩,
     ⟨8, 8, .wo, (.val 0), (.val 0)⟩]⟩]

/-- Every register of the CAT block. -/
def regsCat : List RegDesc := regsCat0 ++ regsCat1

/-- CAT_STATUS, DEV domain. -/
def CAT_STATUS.ofs : Nat := 0x10000
@[inherit_doc CAT_STATUS.ofs] def CAT_STATUS.PHASE : Fld := ⟨CAT_STATUS.ofs, 0, 3⟩
@[inherit_doc CAT_STATUS.ofs] def CAT_STATUS.SOURCE : Fld := ⟨CAT_STATUS.ofs, 3, 2⟩
@[inherit_doc CAT_STATUS.ofs] def CAT_STATUS.FALLBACK : Fld := ⟨CAT_STATUS.ofs, 5, 1⟩
@[inherit_doc CAT_STATUS.ofs] def CAT_STATUS.OLDER_IMAGE : Fld := ⟨CAT_STATUS.ofs, 6, 1⟩
@[inherit_doc CAT_STATUS.ofs] def CAT_STATUS.CKPT_PARTIAL : Fld := ⟨CAT_STATUS.ofs, 7, 1⟩
@[inherit_doc CAT_STATUS.ofs] def CAT_STATUS.SIG_UNCHECKED : Fld := ⟨CAT_STATUS.ofs, 8, 1⟩
@[inherit_doc CAT_STATUS.ofs] def CAT_STATUS.OWNER_KEY_SET : Fld := ⟨CAT_STATUS.ofs, 9, 1⟩
@[inherit_doc CAT_STATUS.ofs] def CAT_STATUS.SIG_REQ : Fld := ⟨CAT_STATUS.ofs, 10, 1⟩
@[inherit_doc CAT_STATUS.ofs] def CAT_STATUS.STRAP : Fld := ⟨CAT_STATUS.ofs, 11, 3⟩
/-- CAT_FLAGS, DEV domain. -/
def CAT_FLAGS.ofs : Nat := 0x10004
@[inherit_doc CAT_FLAGS.ofs] def CAT_FLAGS.FALLBACK_EV : Fld := ⟨CAT_FLAGS.ofs, 0, 1⟩
@[inherit_doc CAT_FLAGS.ofs] def CAT_FLAGS.NV_ERR : Fld := ⟨CAT_FLAGS.ofs, 1, 1⟩
@[inherit_doc CAT_FLAGS.ofs] def CAT_FLAGS.NV_PROTECT : Fld := ⟨CAT_FLAGS.ofs, 2, 1⟩
@[inherit_doc CAT_FLAGS.ofs] def CAT_FLAGS.CHECK_DONE : Fld := ⟨CAT_FLAGS.ofs, 3, 1⟩
@[inherit_doc CAT_FLAGS.ofs] def CAT_FLAGS.OTP_ERR : Fld := ⟨CAT_FLAGS.ofs, 4, 1⟩
@[inherit_doc CAT_FLAGS.ofs] def CAT_FLAGS.CFG_BAD : Fld := ⟨CAT_FLAGS.ofs, 5, 1⟩
/-- CAT_BANK_STATUS, DEV domain. -/
def CAT_BANK_STATUS.ofs (b : Nat) : Nat := 0x10008 + b * 0x4
@[inherit_doc CAT_BANK_STATUS.ofs] def CAT_BANK_STATUS.PRESENT (b : Nat) : Fld := ⟨CAT_BANK_STATUS.ofs b, 0, 1⟩
@[inherit_doc CAT_BANK_STATUS.ofs] def CAT_BANK_STATUS.CHECKED (b : Nat) : Fld := ⟨CAT_BANK_STATUS.ofs b, 1, 1⟩
@[inherit_doc CAT_BANK_STATUS.ofs] def CAT_BANK_STATUS.REASON (b : Nat) : Fld := ⟨CAT_BANK_STATUS.ofs b, 2, 4⟩
@[inherit_doc CAT_BANK_STATUS.ofs] def CAT_BANK_STATUS.DETAIL (b : Nat) : Fld := ⟨CAT_BANK_STATUS.ofs b, 6, 8⟩
/-- CAT_BANK_SEQ, DEV domain. -/
def CAT_BANK_SEQ.ofs (b : Nat) : Nat := 0x10010 + b * 0x4
@[inherit_doc CAT_BANK_SEQ.ofs] def CAT_BANK_SEQ.SEQ (b : Nat) : Fld := ⟨CAT_BANK_SEQ.ofs b, 0, 32⟩
/-- CAT_CTRL, DEV domain. -/
def CAT_CTRL.ofs : Nat := 0x10018
@[inherit_doc CAT_CTRL.ofs] def CAT_CTRL.RELOAD : Fld := ⟨CAT_CTRL.ofs, 0, 1⟩
@[inherit_doc CAT_CTRL.ofs] def CAT_CTRL.CHECK : Fld := ⟨CAT_CTRL.ofs, 1, 1⟩
@[inherit_doc CAT_CTRL.ofs] def CAT_CTRL.BANK : Fld := ⟨CAT_CTRL.ofs, 2, 1⟩
/-- CAT_CFG, DEV domain. -/
def CAT_CFG.ofs : Nat := 0x1001C
@[inherit_doc CAT_CFG.ofs] def CAT_CFG.FACTORY_NEXT : Fld := ⟨CAT_CFG.ofs, 0, 1⟩
/-- CAT_HASH, DEV domain. -/
def CAT_HASH.ofs (w : Nat) : Nat := 0x10020 + w * 0x4
@[inherit_doc CAT_HASH.ofs] def CAT_HASH.OCTETS (w : Nat) : Fld := ⟨CAT_HASH.ofs w, 0, 32⟩
/-- CAT_DEVICE, DEV domain. -/
def CAT_DEVICE.ofs : Nat := 0x10040
@[inherit_doc CAT_DEVICE.ofs] def CAT_DEVICE.WARMUP_S : Fld := ⟨CAT_DEVICE.ofs, 0, 16⟩
@[inherit_doc CAT_DEVICE.ofs] def CAT_DEVICE.START_MS : Fld := ⟨CAT_DEVICE.ofs, 16, 16⟩
/-- CAT_NV_ADDR, DEV domain. -/
def CAT_NV_ADDR.ofs : Nat := 0x10044
@[inherit_doc CAT_NV_ADDR.ofs] def CAT_NV_ADDR.ADDR : Fld := ⟨CAT_NV_ADDR.ofs, 0, 24⟩
/-- CAT_NV_DATA, DEV domain. -/
def CAT_NV_DATA.ofs : Nat := 0x10048
@[inherit_doc CAT_NV_DATA.ofs] def CAT_NV_DATA.DATA : Fld := ⟨CAT_NV_DATA.ofs, 0, 32⟩
/-- CAT_NV_CMD, DEV domain. -/
def CAT_NV_CMD.ofs : Nat := 0x1004C
@[inherit_doc CAT_NV_CMD.ofs] def CAT_NV_CMD.OP : Fld := ⟨CAT_NV_CMD.ofs, 0, 2⟩
@[inherit_doc CAT_NV_CMD.ofs] def CAT_NV_CMD.GO : Fld := ⟨CAT_NV_CMD.ofs, 2, 1⟩
/-- CAT_NV_STATUS, DEV domain. -/
def CAT_NV_STATUS.ofs : Nat := 0x10050
@[inherit_doc CAT_NV_STATUS.ofs] def CAT_NV_STATUS.BUSY : Fld := ⟨CAT_NV_STATUS.ofs, 0, 1⟩
/-- CAT_OWNER_KEY, PWR domain. -/
def CAT_OWNER_KEY.ofs (w : Nat) : Nat := 0x10060 + w * 0x4
@[inherit_doc CAT_OWNER_KEY.ofs] def CAT_OWNER_KEY.OCTETS (w : Nat) : Fld := ⟨CAT_OWNER_KEY.ofs w, 0, 32⟩
/-- CAT_OTP_CMD, PWR domain. -/
def CAT_OTP_CMD.ofs : Nat := 0x10080
@[inherit_doc CAT_OTP_CMD.ofs] def CAT_OTP_CMD.PROGRAM_KEY : Fld := ⟨CAT_OTP_CMD.ofs, 0, 1⟩
@[inherit_doc CAT_OTP_CMD.ofs] def CAT_OTP_CMD.PROGRAM_SIG_REQ : Fld := ⟨CAT_OTP_CMD.ofs, 1, 1⟩
@[inherit_doc CAT_OTP_CMD.ofs] def CAT_OTP_CMD.CONFIRM : Fld := ⟨CAT_OTP_CMD.ofs, 8, 8⟩

end Sys2Proof.Machine
end

