-- ==== Sys2Proof/Machine/RegMapCdc.lean ====
section
/-! DEFINITION. The register map of the CDC block, from the register tables of 18_clock_domains_and_resets.md.
One descriptor per register entry (offset, reset domain, fields with access code and the two defaults of R19) and one
named offset `NAME.ofs` and one named field `NAME.FIELD` per entry of the tables. -/

namespace Sys2Proof.Machine

/-- Register descriptors of the CDC block, part 0. -/
def regsCdc0 : List RegDesc := [
  ⟨"CDC_STATUS", 0x20000, [], false, .dev, .cdc, none,
    [⟨0, 1, .ro, (.val 0), .live⟩,
     ⟨1, 1, .ro, (.val 0), .live⟩,
     ⟨2, 1, .ro, (.val 0), .live⟩,
     ⟨3, 1, .ro, (.val 0), .live⟩]⟩,
  ⟨"CDC_FLAGS", 0x20004, [], false, .dev, .cdc, none,
    [⟨0, 1, .rwsW1c, (.val 0), (.val 0)⟩,
     ⟨1, 1, .w1c, (.val 0), (.val 0)⟩,
     ⟨2, 1, .w1c, (.val 0), (.val 0)⟩,
     ⟨3, 1, .w1c, (.val 0), (.val 0)⟩,
     ⟨4, 1, .w1c, (.val 0), (.val 0)⟩]⟩,
  ⟨"CDC_D2D_CNT", 0x20008, [], false, .dev, .cdc, none,
    [⟨0, 16, .rc, (.val 0), (.val 0)⟩,
     ⟨16, 16, .rc, (.val 0), (.val 0)⟩]⟩,
  ⟨"CDC_D2D_CRC", 0x2000C, [], false, .dev, .cdc, none,
    [⟨0, 32, .rc, (.val 0), (.val 0)⟩]⟩,
  ⟨"CDC_XS_STATUS", 0x20100, [(0x4, 56)], false, .dev, .cdc, none,
    [⟨0, 2, .ro, (.val 0), .live⟩,
     ⟨2, 2, .ro, (.val 0), .live⟩,
     ⟨4, 1, .ro, (.val 0), .live⟩]⟩,
  ⟨"CDC_XS_CNT", 0x20200, [(0x4, 56)], false, .dev, .cdc, none,
    [⟨0, 16, .rc, (.val 0), (.val 0)⟩,
     ⟨16, 16, .rc, (.val 0), (.val 0)⟩]⟩,
  ⟨"CDC_XS_RESYNC", 0x20300, [(0x4, 56)], false, .dev, .cdc, none,
    [⟨0, 16, .rc, (.val 0), (.val 0)⟩,
     ⟨16, 16, .rc, (.val 0), (.val 0)⟩]⟩]

/-- Every register of the CDC block. -/
def regsCdc : List RegDesc := regsCdc0

/-- CDC_STATUS, DEV domain. -/
def CDC_STATUS.ofs : Nat := 0x20000
@[inherit_doc CDC_STATUS.ofs] def CDC_STATUS.READY : Fld := ⟨CDC_STATUS.ofs, 0, 1⟩
@[inherit_doc CDC_STATUS.ofs] def CDC_STATUS.D2D_UP : Fld := ⟨CDC_STATUS.ofs, 1, 1⟩
@[inherit_doc CDC_STATUS.ofs] def CDC_STATUS.D2D_RETRAINING : Fld := ⟨CDC_STATUS.ofs, 2, 1⟩
@[inherit_doc CDC_STATUS.ofs] def CDC_STATUS.ANY_PARTNER_RESET : Fld := ⟨CDC_STATUS.ofs, 3, 1⟩
/-- CDC_FLAGS, DEV domain. -/
def CDC_FLAGS.ofs : Nat := 0x20004
@[inherit_doc CDC_FLAGS.ofs] def CDC_FLAGS.D2D_FAULT : Fld := ⟨CDC_FLAGS.ofs, 0, 1⟩
@[inherit_doc CDC_FLAGS.ofs] def CDC_FLAGS.RETRAIN_EV : Fld := ⟨CDC_FLAGS.ofs, 1, 1⟩
@[inherit_doc CDC_FLAGS.ofs] def CDC_FLAGS.DROP_EV : Fld := ⟨CDC_FLAGS.ofs, 2, 1⟩
@[inherit_doc CDC_FLAGS.ofs] def CDC_FLAGS.FLUSH_EV : Fld := ⟨CDC_FLAGS.ofs, 3, 1⟩
@[inherit_doc CDC_FLAGS.ofs] def CDC_FLAGS.CLK_LOSS_EV : Fld := ⟨CDC_FLAGS.ofs, 4, 1⟩
/-- CDC_D2D_CNT, DEV domain. -/
def CDC_D2D_CNT.ofs : Nat := 0x20008
@[inherit_doc CDC_D2D_CNT.ofs] def CDC_D2D_CNT.REPLAYS : Fld := ⟨CDC_D2D_CNT.ofs, 0, 16⟩
@[inherit_doc CDC_D2D_CNT.ofs] def CDC_D2D_CNT.RETRAINS : Fld := ⟨CDC_D2D_CNT.ofs, 16, 16⟩
/-- CDC_D2D_CRC, DEV domain. -/
def CDC_D2D_CRC.ofs : Nat := 0x2000C
@[inherit_doc CDC_D2D_CRC.ofs] def CDC_D2D_CRC.COUNT : Fld := ⟨CDC_D2D_CRC.ofs, 0, 32⟩
/-- CDC_XS_STATUS, DEV domain. -/
def CDC_XS_STATUS.ofs (k : Nat) : Nat := 0x20100 + k * 0x4
@[inherit_doc CDC_XS_STATUS.ofs] def CDC_XS_STATUS.STATE_A (k : Nat) : Fld := ⟨CDC_XS_STATUS.ofs k, 0, 2⟩
@[inherit_doc CDC_XS_STATUS.ofs] def CDC_XS_STATUS.STATE_B (k : Nat) : Fld := ⟨CDC_XS_STATUS.ofs k, 2, 2⟩
@[inherit_doc CDC_XS_STATUS.ofs] def CDC_XS_STATUS.CLK_ABSENT (k : Nat) : Fld := ⟨CDC_XS_STATUS.ofs k, 4, 1⟩
/-- CDC_XS_CNT, DEV domain. -/
def CDC_XS_CNT.ofs (k : Nat) : Nat := 0x20200 + k * 0x4
@[inherit_doc CDC_XS_CNT.ofs] def CDC_XS_CNT.DROPPED (k : Nat) : Fld := ⟨CDC_XS_CNT.ofs k, 0, 16⟩
@[inherit_doc CDC_XS_CNT.ofs] def CDC_XS_CNT.FLUSHED (k : Nat) : Fld := ⟨CDC_XS_CNT.ofs k, 16, 16⟩
/-- CDC_XS_RESYNC, DEV domain. -/
def CDC_XS_RESYNC.ofs (k : Nat) : Nat := 0x20300 + k * 0x4
@[inherit_doc CDC_XS_RESYNC.ofs] def CDC_XS_RESYNC.RESYNCS (k : Nat) : Fld := ⟨CDC_XS_RESYNC.ofs k, 0, 16⟩
@[inherit_doc CDC_XS_RESYNC.ofs] def CDC_XS_RESYNC.CLK_LOSS (k : Nat) : Fld := ⟨CDC_XS_RESYNC.ofs k, 16, 16⟩

end Sys2Proof.Machine
end

