-- ==== Sys2Proof/Machine/RegMapCon.lean ====
section
/-! DEFINITION. The register map of the CON block, from the register tables of 19_conservator.md.
One descriptor per register entry (offset, reset domain, fields with access code and the two defaults of R19) and one
named offset `NAME.ofs` and one named field `NAME.FIELD` per entry of the tables. -/

namespace Sys2Proof.Machine

/-- Register descriptors of the CON block, part 0. -/
def regsCon0 : List RegDesc := [
  ⟨"CON_CFG", 0x50000, [], false, .blk, .con, none,
    [⟨0, 1, .rw, (.val 0), (.val 1)⟩,
     ⟨1, 1, .rw, (.val 0), (.val 0)⟩,
     ⟨16, 16, .rw, (.val 0x3c), (.val 0x3c)⟩]⟩,
  ⟨"CON_CTRL", 0x50004, [], false, .blk, .con, none,
    [⟨0, 1, .wo, (.val 0), (.val 0)⟩,
     ⟨1, 1, .wo, (.val 0), (.val 0)⟩,
     ⟨2, 1, .wo, (.val 0), (.val 0)⟩]⟩,
  ⟨"CON_STATUS", 0x50008, [], false, .blk, .con, none,
    [⟨0, 1, .ro, (.val 0), .live⟩,
     ⟨1, 1, .ro, (.val 0), .live⟩,
     ⟨2, 1, .ro, (.val 0), .live⟩,
     ⟨3, 1, .ro, (.val 0), .live⟩,
     ⟨4, 1, .ro, (.val 0), .live⟩]⟩,
  ⟨"CON_FLAGS", 0x5000C, [], false, .blk, .con, none,
    [⟨0, 1, .w1c, (.val 0), (.val 0)⟩,
     ⟨1, 1, .w1c, (.val 0), (.val 0)⟩,
     ⟨2, 1, .w1c, (.val 0), (.val 0)⟩,
     ⟨3, 1, .w1c, (.val 0), (.val 0)⟩,
     ⟨4, 1, .w1c, (.val 0), (.val 0)⟩,
     ⟨5, 1, .w1c, (.val 0), (.val 0)⟩,
     ⟨6, 1, .w1c, (.val 0), (.val 0)⟩,
     ⟨7, 1, .w1c, (.val 0), (.val 0)⟩,
     ⟨8, 1, .w1c, (.val 0), (.val 0)⟩,
     ⟨9, 1, .w1c, (.val 0), (.val 0)⟩,
     ⟨10, 1, .w1c, (.val 0), (.val 0)⟩,
     ⟨11, 1, .rwsW1c, (.val 0), (.val 0)⟩]⟩,
  ⟨"CON_CKPT_SEQ", 0x50010, [], true, .blk, .con, none,
    [⟨0, 64, .ro, (.val 0), .live⟩]⟩,
  ⟨"CON_CKPT_INFO", 0x50018, [], false, .blk, .con, none,
    [⟨0, 2, .ro, (.val 0), .live⟩,
     ⟨2, 2, .ro, (.val 0), .live⟩,
     ⟨4, 1, .ro, (.val 0), .live⟩,
     ⟨8, 24, .ro, (.val 0), .live⟩]⟩,
  ⟨"CON_CKPT_CNT", 0x5001C, [], false, .blk, .con, none,
    [⟨0, 16, .rc, (.val 0), (.val 0)⟩,
     ⟨16, 16, .rc, (.val 0), (.val 0)⟩]⟩,
  ⟨"CON_CKPT_DL", 0x50020, [], false, .blk, .con, none,
    [⟨0, 16, .rw, (.val 0x3e8), (.val 0x3e8)⟩]⟩,
  ⟨"CON_SCRUB", 0x50024, [], false, .blk, .con, none,
    [⟨0, 16, .rw, (.val 0x258), (.val 0x258)⟩]⟩,
  ⟨"CON_ECC_CNT", 0x50028, [], false, .blk, .con, none,
    [⟨0, 16, .rc, (.val 0), (.val 0)⟩,
     ⟨16, 16, .rc, (.val 0), (.val 0)⟩]⟩]

/-- Register descriptors of the CON block, part 1. -/
def regsCon1 : List RegDesc := [
  ⟨"CON_ECC_LAST", 0x5002C, [], false, .blk, .con, none,
    [⟨0, 23, .ro, (.val 0), .live⟩,
     ⟨23, 3, .ro, (.val 0), .live⟩,
     ⟨26, 1, .ro, (.val 0), .live⟩]⟩,
  ⟨"CON_WEAR", 0x50030, [], false, .blk, .con, none,
    [⟨0, 24, .ro, (.val 0), .live⟩]⟩,
  ⟨"CON_TEMP_LIM", 0x50034, [], false, .blk, .con, none,
    [⟨0, 16, .rw, (.val 0x6400), (.val 0x6400)⟩]⟩,
  ⟨"CON_HOST_WD", 0x50038, [], false, .blk, .con, none,
    [⟨0, 16, .rw, (.val 0x3e8), (.val 0x3e8)⟩]⟩,
  ⟨"CON_CAL_CFG", 0x5003C, [], false, .blk, .con, none,
    [⟨0, 16, .rw, (.val 0xa), (.val 0xa)⟩,
     ⟨16, 16, .rw, (.val 1), (.val 1)⟩]⟩,
  ⟨"CON_SELFTEST", 0x50040, [], false, .blk, .con, none,
    [⟨0, 5, .wo, (.val 0), (.val 0)⟩,
     ⟨5, 1, .wo, (.val 0), (.val 0)⟩,
     ⟨6, 1, .wo, (.val 0), (.val 0)⟩]⟩,
  ⟨"CON_SELFTEST_RES", 0x50044, [], false, .blk, .con, none,
    [⟨0, 5, .ro, (.val 0), .live⟩,
     ⟨5, 1, .ro, (.val 0), .live⟩,
     ⟨6, 26, .ro, (.val 0), .live⟩]⟩,
  ⟨"CON_TEMP", 0x50100, [(0x4, 16)], false, .blk, .con, none,
    [⟨0, 16, .ro, .live, .live⟩]⟩,
  ⟨"CON_RAIL", 0x50140, [(0x4, 8)], false, .blk, .con, none,
    [⟨0, 16, .ro, .live, .live⟩,
     ⟨16, 1, .ro, (.val 0), .live⟩,
     ⟨17, 1, .ro, (.val 0), .live⟩]⟩,
  ⟨"CON_DL_FLAGS", 0x50200, [], false, .blk, .con, none,
    [⟨0, 7, .w1c, (.val 0), (.val 0)⟩]⟩]

/-- Register descriptors of the CON block, part 2. -/
def regsCon2 : List RegDesc := [
  ⟨"CON_DL_CFG", 0x50210, [(0x4, 7)], false, .blk, .con, none,
    [⟨0, 1, .rw, (.val 1), (.val 1)⟩,
     ⟨16, 16, .rw, (.val 0), (.val 0)⟩]⟩,
  ⟨"CON_DL_CNT", 0x50240, [(0x4, 7)], false, .blk, .con, none,
    [⟨0, 32, .rc, (.val 0), (.val 0)⟩]⟩]

/-- Every register of the CON block. -/
def regsCon : List RegDesc := regsCon0 ++ regsCon1 ++ regsCon2

/-- CON_CFG, BLK domain. -/
def CON_CFG.ofs : Nat := 0x50000
@[inherit_doc CON_CFG.ofs] def CON_CFG.CKPT_EN : Fld := ⟨CON_CFG.ofs, 0, 1⟩
@[inherit_doc CON_CFG.ofs] def CON_CFG.HOST_WD_EN : Fld := ⟨CON_CFG.ofs, 1, 1⟩
@[inherit_doc CON_CFG.ofs] def CON_CFG.PERIOD : Fld := ⟨CON_CFG.ofs, 16, 16⟩
/-- CON_CTRL, BLK domain. -/
def CON_CTRL.ofs : Nat := 0x50004
@[inherit_doc CON_CTRL.ofs] def CON_CTRL.CKPT_NOW : Fld := ⟨CON_CTRL.ofs, 0, 1⟩
@[inherit_doc CON_CTRL.ofs] def CON_CTRL.SCRUB_NOW : Fld := ⟨CON_CTRL.ofs, 1, 1⟩
@[inherit_doc CON_CTRL.ofs] def CON_CTRL.WD_KICK : Fld := ⟨CON_CTRL.ofs, 2, 1⟩
/-- CON_STATUS, BLK domain. -/
def CON_STATUS.ofs : Nat := 0x50008
@[inherit_doc CON_STATUS.ofs] def CON_STATUS.READY : Fld := ⟨CON_STATUS.ofs, 0, 1⟩
@[inherit_doc CON_STATUS.ofs] def CON_STATUS.CKPT_BUSY : Fld := ⟨CON_STATUS.ofs, 1, 1⟩
@[inherit_doc CON_STATUS.ofs] def CON_STATUS.NEWEST_SLOT : Fld := ⟨CON_STATUS.ofs, 2, 1⟩
@[inherit_doc CON_STATUS.ofs] def CON_STATUS.ERASING : Fld := ⟨CON_STATUS.ofs, 3, 1⟩
@[inherit_doc CON_STATUS.ofs] def CON_STATUS.STAT7 : Fld := ⟨CON_STATUS.ofs, 4, 1⟩
/-- CON_FLAGS, BLK domain. -/
def CON_FLAGS.ofs : Nat := 0x5000C
@[inherit_doc CON_FLAGS.ofs] def CON_FLAGS.CKPT_DONE : Fld := ⟨CON_FLAGS.ofs, 0, 1⟩
@[inherit_doc CON_FLAGS.ofs] def CON_FLAGS.CKPT_FAIL : Fld := ⟨CON_FLAGS.ofs, 1, 1⟩
@[inherit_doc CON_FLAGS.ofs] def CON_FLAGS.ECC_CE : Fld := ⟨CON_FLAGS.ofs, 2, 1⟩
@[inherit_doc CON_FLAGS.ofs] def CON_FLAGS.ECC_UE : Fld := ⟨CON_FLAGS.ofs, 3, 1⟩
@[inherit_doc CON_FLAGS.ofs] def CON_FLAGS.TEMP_HI : Fld := ⟨CON_FLAGS.ofs, 4, 1⟩
@[inherit_doc CON_FLAGS.ofs] def CON_FLAGS.RAIL_BAD : Fld := ⟨CON_FLAGS.ofs, 5, 1⟩
@[inherit_doc CON_FLAGS.ofs] def CON_FLAGS.CAL_FAULT : Fld := ⟨CON_FLAGS.ofs, 6, 1⟩
@[inherit_doc CON_FLAGS.ofs] def CON_FLAGS.WEAR_WARN : Fld := ⟨CON_FLAGS.ofs, 7, 1⟩
@[inherit_doc CON_FLAGS.ofs] def CON_FLAGS.BUSY_IN_SERVICE : Fld := ⟨CON_FLAGS.ofs, 8, 1⟩
@[inherit_doc CON_FLAGS.ofs] def CON_FLAGS.FORCED_OUT : Fld := ⟨CON_FLAGS.ofs, 9, 1⟩
@[inherit_doc CON_FLAGS.ofs] def CON_FLAGS.SELFTEST_DONE : Fld := ⟨CON_FLAGS.ofs, 10, 1⟩
@[inherit_doc CON_FLAGS.ofs] def CON_FLAGS.WD_EXPIRED : Fld := ⟨CON_FLAGS.ofs, 11, 1⟩
/-- CON_CKPT_SEQ, BLK domain. -/
def CON_CKPT_SEQ.ofs : Nat := 0x50010
/-- CON_CKPT_INFO, BLK domain. -/
def CON_CKPT_INFO.ofs : Nat := 0x50018
@[inherit_doc CON_CKPT_INFO.ofs] def CON_CKPT_INFO.KIND : Fld := ⟨CON_CKPT_INFO.ofs, 0, 2⟩
@[inherit_doc CON_CKPT_INFO.ofs] def CON_CKPT_INFO.RESTORED_KIND : Fld := ⟨CON_CKPT_INFO.ofs, 2, 2⟩
@[inherit_doc CON_CKPT_INFO.ofs] def CON_CKPT_INFO.RESTORED : Fld := ⟨CON_CKPT_INFO.ofs, 4, 1⟩
@[inherit_doc CON_CKPT_INFO.ofs] def CON_CKPT_INFO.AGE : Fld := ⟨CON_CKPT_INFO.ofs, 8, 24⟩
/-- CON_CKPT_CNT, BLK domain. -/
def CON_CKPT_CNT.ofs : Nat := 0x5001C
@[inherit_doc CON_CKPT_CNT.ofs] def CON_CKPT_CNT.WRITES : Fld := ⟨CON_CKPT_CNT.ofs, 0, 16⟩
@[inherit_doc CON_CKPT_CNT.ofs] def CON_CKPT_CNT.FAILS : Fld := ⟨CON_CKPT_CNT.ofs, 16, 16⟩
/-- CON_CKPT_DL, BLK domain. -/
def CON_CKPT_DL.ofs : Nat := 0x50020
@[inherit_doc CON_CKPT_DL.ofs] def CON_CKPT_DL.DL : Fld := ⟨CON_CKPT_DL.ofs, 0, 16⟩
/-- CON_SCRUB, BLK domain. -/
def CON_SCRUB.ofs : Nat := 0x50024
@[inherit_doc CON_SCRUB.ofs] def CON_SCRUB.SCRUB_PERIOD : Fld := ⟨CON_SCRUB.ofs, 0, 16⟩
/-- CON_ECC_CNT, BLK domain. -/
def CON_ECC_CNT.ofs : Nat := 0x50028
@[inherit_doc CON_ECC_CNT.ofs] def CON_ECC_CNT.CE : Fld := ⟨CON_ECC_CNT.ofs, 0, 16⟩
@[inherit_doc CON_ECC_CNT.ofs] def CON_ECC_CNT.UE : Fld := ⟨CON_ECC_CNT.ofs, 16, 16⟩
/-- CON_ECC_LAST, BLK domain. -/
def CON_ECC_LAST.ofs : Nat := 0x5002C
@[inherit_doc CON_ECC_LAST.ofs] def CON_ECC_LAST.WORD : Fld := ⟨CON_ECC_LAST.ofs, 0, 23⟩
@[inherit_doc CON_ECC_LAST.ofs] def CON_ECC_LAST.REGION : Fld := ⟨CON_ECC_LAST.ofs, 23, 3⟩
@[inherit_doc CON_ECC_LAST.ofs] def CON_ECC_LAST.UE : Fld := ⟨CON_ECC_LAST.ofs, 26, 1⟩
/-- CON_WEAR, BLK domain. -/
def CON_WEAR.ofs : Nat := 0x50030
@[inherit_doc CON_WEAR.ofs] def CON_WEAR.MAX_ERASE : Fld := ⟨CON_WEAR.ofs, 0, 24⟩
/-- CON_TEMP_LIM, BLK domain. -/
def CON_TEMP_LIM.ofs : Nat := 0x50034
@[inherit_doc CON_TEMP_LIM.ofs] def CON_TEMP_LIM.TEMP_WARN : Fld := ⟨CON_TEMP_LIM.ofs, 0, 16⟩
/-- CON_HOST_WD, BLK domain. -/
def CON_HOST_WD.ofs : Nat := 0x50038
@[inherit_doc CON_HOST_WD.ofs] def CON_HOST_WD.HOST_WD_TIMEOUT : Fld := ⟨CON_HOST_WD.ofs, 0, 16⟩
/-- CON_CAL_CFG, BLK domain. -/
def CON_CAL_CFG.ofs : Nat := 0x5003C
@[inherit_doc CON_CAL_CFG.ofs] def CON_CAL_CFG.OUT_INT : Fld := ⟨CON_CAL_CFG.ofs, 0, 16⟩
@[inherit_doc CON_CAL_CFG.ofs] def CON_CAL_CFG.LNK_INT : Fld := ⟨CON_CAL_CFG.ofs, 16, 16⟩
/-- CON_SELFTEST, BLK domain. -/
def CON_SELFTEST.ofs : Nat := 0x50040
@[inherit_doc CON_SELFTEST.ofs] def CON_SELFTEST.TARGET : Fld := ⟨CON_SELFTEST.ofs, 0, 5⟩
@[inherit_doc CON_SELFTEST.ofs] def CON_SELFTEST.GO : Fld := ⟨CON_SELFTEST.ofs, 5, 1⟩
@[inherit_doc CON_SELFTEST.ofs] def CON_SELFTEST.FORCE : Fld := ⟨CON_SELFTEST.ofs, 6, 1⟩
/-- CON_SELFTEST_RES, BLK domain. -/
def CON_SELFTEST_RES.ofs : Nat := 0x50044
@[inherit_doc CON_SELFTEST_RES.ofs] def CON_SELFTEST_RES.TARGET : Fld := ⟨CON_SELFTEST_RES.ofs, 0, 5⟩
@[inherit_doc CON_SELFTEST_RES.ofs] def CON_SELFTEST_RES.PASS : Fld := ⟨CON_SELFTEST_RES.ofs, 5, 1⟩
@[inherit_doc CON_SELFTEST_RES.ofs] def CON_SELFTEST_RES.ERRORS : Fld := ⟨CON_SELFTEST_RES.ofs, 6, 26⟩
/-- CON_TEMP, BLK domain. -/
def CON_TEMP.ofs (s : Nat) : Nat := 0x50100 + s * 0x4
@[inherit_doc CON_TEMP.ofs] def CON_TEMP.TEMP (s : Nat) : Fld := ⟨CON_TEMP.ofs s, 0, 16⟩
/-- CON_RAIL, BLK domain. -/
def CON_RAIL.ofs (r : Nat) : Nat := 0x50140 + r * 0x4
@[inherit_doc CON_RAIL.ofs] def CON_RAIL.MV (r : Nat) : Fld := ⟨CON_RAIL.ofs r, 0, 16⟩
@[inherit_doc CON_RAIL.ofs] def CON_RAIL.LOW (r : Nat) : Fld := ⟨CON_RAIL.ofs r, 16, 1⟩
@[inherit_doc CON_RAIL.ofs] def CON_RAIL.HIGH (r : Nat) : Fld := ⟨CON_RAIL.ofs r, 17, 1⟩
/-- CON_DL_FLAGS, BLK domain. -/
def CON_DL_FLAGS.ofs : Nat := 0x50200
@[inherit_doc CON_DL_FLAGS.ofs] def CON_DL_FLAGS.FAULT : Fld := ⟨CON_DL_FLAGS.ofs, 0, 7⟩
/-- CON_DL_CFG, BLK domain. -/
def CON_DL_CFG.ofs (d : Nat) : Nat := 0x50210 + d * 0x4
@[inherit_doc CON_DL_CFG.ofs] def CON_DL_CFG.STAT7_EN (d : Nat) : Fld := ⟨CON_DL_CFG.ofs d, 0, 1⟩
@[inherit_doc CON_DL_CFG.ofs] def CON_DL_CFG.ESC (d : Nat) : Fld := ⟨CON_DL_CFG.ofs d, 16, 16⟩
/-- CON_DL_CNT, BLK domain. -/
def CON_DL_CNT.ofs (d : Nat) : Nat := 0x50240 + d * 0x4
@[inherit_doc CON_DL_CNT.ofs] def CON_DL_CNT.COUNT (d : Nat) : Fld := ⟨CON_DL_CNT.ofs d, 0, 32⟩

end Sys2Proof.Machine
end

