-- ==== Sys2Proof/Machine/RegMapEns.lean ====
section
/-! DEFINITION. The register map of the ENS block, from the register tables of 06_ensemble.md.
One descriptor per register entry (offset, reset domain, fields with access code and the two defaults of R19) and one
named offset `NAME.ofs` and one named field `NAME.FIELD` per entry of the tables. -/

namespace Sys2Proof.Machine

/-- Register descriptors of the ENS block, part 0. -/
def regsEns0 : List RegDesc := [
  ⟨"ENS_CFG", 0xB0000, [], false, .blk, .ens, none,
    [⟨0, 2, .rw, (.val 0), (.val 0)⟩,
     ⟨8, 8, .rw, (.val 0x40), (.val 0x40)⟩,
     ⟨16, 16, .rw, (.val 0x4000), (.val 0x4000)⟩]⟩,
  ⟨"ENS_STATUS", 0xB0004, [], false, .blk, .ens, none,
    [⟨0, 1, .ro, (.val 0), .live⟩,
     ⟨1, 1, .ro, (.val 0), .live⟩,
     ⟨2, 1, .ro, (.val 0), .live⟩,
     ⟨3, 1, .ro, (.val 0), .live⟩,
     ⟨8, 6, .ro, (.val 0), .live⟩,
     ⟨16, 6, .ro, (.val 0), .live⟩]⟩,
  ⟨"ENS_FLAGS", 0xB0008, [], false, .blk, .ens, none,
    [⟨0, 1, .w1c, (.val 0), (.val 0)⟩,
     ⟨1, 1, .w1c, (.val 0), (.val 0)⟩,
     ⟨2, 1, .w1c, (.val 0), (.val 0)⟩,
     ⟨3, 1, .w1c, (.val 0), (.val 0)⟩,
     ⟨4, 1, .w1c, (.val 0), (.val 0)⟩,
     ⟨5, 1, .w1c, (.val 0), (.val 0)⟩,
     ⟨6, 1, .w1c, (.val 0), (.val 0)⟩,
     ⟨7, 1, .w1c, (.val 0), (.val 0)⟩]⟩,
  ⟨"ENS_CNT", 0xB000C, [], false, .blk, .ens, none,
    [⟨0, 16, .rc, (.val 0), (.val 0)⟩,
     ⟨16, 16, .rc, (.val 0), (.val 0)⟩]⟩,
  ⟨"ENS_FREQ_AVG", 0xB0010, [], false, .blk, .ens, none,
    [⟨0, 32, .rw, (.val 0x2710), (.val 0x2710)⟩]⟩,
  ⟨"ENS_VAR_AVG", 0xB0014, [], false, .blk, .ens, none,
    [⟨0, 32, .rw, (.val 0x15180), (.val 0x15180)⟩]⟩,
  ⟨"ENS_DEV_AVG", 0xB0018, [], false, .blk, .ens, none,
    [⟨0, 32, .rw, (.val 0x64), (.val 0x64)⟩]⟩,
  ⟨"ENS_TRIAL", 0xB001C, [], false, .blk, .ens, none,
    [⟨0, 32, .rw, (.val 0xe10), (.val 0xe10)⟩]⟩,
  ⟨"ENS_LIMITS", 0xB0020, [], false, .blk, .ens, none,
    [⟨0, 8, .rw, (.val 0xa), (.val 0xa)⟩,
     ⟨8, 8, .rw, (.val 0xa), (.val 0xa)⟩,
     ⟨16, 16, .rw, (.val 0xe10), (.val 0xe10)⟩]⟩,
  ⟨"ENS_OUT_FLOOR", 0xB0024, [], false, .blk, .ens, none,
    [⟨0, 32, .rw, (.val 0x28f), (.val 0x28f)⟩]⟩]

/-- Register descriptors of the ENS block, part 1. -/
def regsEns1 : List RegDesc := [
  ⟨"ENS_SIGMA_FLOOR", 0xB0028, [], false, .blk, .ens, none,
    [⟨0, 32, .rw, (.val 0x42), (.val 0x42)⟩]⟩,
  ⟨"ENS_SIGMA_INIT", 0xB002C, [], false, .blk, .ens, none,
    [⟨0, 32, .rw, (.val 0x199a), (.val 0x199a)⟩]⟩,
  ⟨"ENS_EPOCH", 0xB0030, [], false, .blk, .ens, none,
    [⟨0, 32, .ro, (.val 0), .live⟩]⟩,
  ⟨"ENS_SLEW_LIM_FF", 0xB0040, [], true, .blk, .ens, none,
    [⟨0, 64, .rw, (.val 0x1ad7f29abd), (.val 0x1ad7f29abd)⟩]⟩,
  ⟨"ENS_MAN_STEER_FF", 0xB0048, [], true, .blk, .ens, none,
    [⟨0, 64, .rw, (.val 0), (.val 0)⟩]⟩,
  ⟨"ENS_MAN_PH", 0xB0050, [], true, .blk, .ens, none,
    [⟨0, 64, .wo, (.val 0), (.val 0)⟩]⟩,
  ⟨"ENS_XDEV_PH", 0xB0060, [], true, .blk, .ens, none,
    [⟨0, 64, .ro, (.val 0), .live⟩]⟩,
  ⟨"ENS_C_PH", 0xB0068, [], true, .blk, .ens, none,
    [⟨0, 64, .ro, (.val 0), .live⟩]⟩,
  ⟨"ENS_TDEV_PH", 0xB0070, [], true, .blk, .ens, none,
    [⟨0, 64, .ro, (.val 0), .live⟩]⟩,
  ⟨"ENS_RES_PH", 0xB0078, [], true, .blk, .ens, none,
    [⟨0, 64, .ro, (.val 0), .live⟩]⟩]

/-- Register descriptors of the ENS block, part 2. -/
def regsEns2 : List RegDesc := [
  ⟨"ENS_YP_FF", 0xB0080, [], true, .blk, .ens, none,
    [⟨0, 64, .ro, (.val 0), .live⟩]⟩,
  ⟨"ENS_S_FF", 0xB0088, [], true, .blk, .ens, none,
    [⟨0, 64, .ro, (.val 0), .live⟩]⟩,
  ⟨"ENS_YENS_FF", 0xB0090, [], true, .blk, .ens, none,
    [⟨0, 64, .ro, (.val 0), .live⟩]⟩,
  ⟨"ENS_UA_PH", 0xB00A0, [], true, .blk, .ens, none,
    [⟨0, 64, .ro, (.val 0), .live⟩]⟩,
  ⟨"ENS_UL_PH", 0xB00A8, [], true, .blk, .ens, none,
    [⟨0, 64, .ro, (.val 0), .live⟩]⟩,
  ⟨"ENS_URES_PH", 0xB00B0, [], true, .blk, .ens, none,
    [⟨0, 64, .ro, (.val 0), .live⟩]⟩,
  ⟨"ENS_UNC_PH", 0xB00B8, [], true, .blk, .ens, none,
    [⟨0, 64, .ro, (.val 0), .live⟩]⟩,
  ⟨"ENS_UB_PH", 0xB00C0, [(0x8, 4)], true, .blk, .ens, none,
    [⟨0, 64, .rw, (.val 0), (.val 0)⟩]⟩,
  ⟨"ENS_UNC_INFO", 0xB00E0, [], false, .blk, .ens, none,
    [⟨0, 5, .ro, (.val 0), .live⟩,
     ⟨5, 2, .ro, (.val 0), .live⟩]⟩,
  ⟨"MB_CFG", 0xB1000, [(0x40, 32)], false, .inst, .ens, some .member,
    [⟨0, 1, .rw, (.val 0), (.val 0)⟩,
     ⟨1, 1, .rw, (.val 0), (.val 1)⟩]⟩]

/-- Register descriptors of the ENS block, part 3. -/
def regsEns3 : List RegDesc := [
  ⟨"MB_BIND", 0xB1004, [(0x40, 32)], false, .inst, .ens, some .member,
    [⟨0, 7, .ro, (.val 0), .live⟩,
     ⟨7, 1, .ro, (.val 0), .live⟩]⟩,
  ⟨"MB_STATUS", 0xB1008, [(0x40, 32)], false, .inst, .ens, some .member,
    [⟨0, 2, .ro, (.val 0), .live⟩,
     ⟨2, 1, .ro, (.val 0), .live⟩,
     ⟨3, 1, .ro, (.val 0), .live⟩,
     ⟨8, 8, .ro, (.val 0), .live⟩,
     ⟨16, 8, .ro, (.val 0), .live⟩]⟩,
  ⟨"MB_CMD", 0xB100C, [(0x40, 32)], false, .inst, .ens, some .member,
    [⟨0, 1, .wo, (.val 0), (.val 0)⟩,
     ⟨1, 1, .wo, (.val 0), (.val 0)⟩]⟩,
  ⟨"MB_CNT", 0xB1010, [(0x40, 32)], false, .inst, .ens, some .member,
    [⟨0, 16, .rc, (.val 0), (.val 0)⟩,
     ⟨16, 16, .rc, (.val 0), (.val 0)⟩]⟩,
  ⟨"MB_WEIGHT", 0xB1014, [(0x40, 32)], false, .inst, .ens, some .member,
    [⟨0, 32, .ro, (.val 0), .live⟩]⟩,
  ⟨"MB_SIGMA", 0xB1018, [(0x40, 32)], false, .inst, .ens, some .member,
    [⟨0, 32, .ro, (.val 0), .live⟩]⟩,
  ⟨"MB_TRIAL", 0xB101C, [(0x40, 32)], false, .inst, .ens, some .member,
    [⟨0, 32, .ro, (.val 0), .live⟩]⟩,
  ⟨"MB_X_PH", 0xB1020, [(0x40, 32)], true, .inst, .ens, some .member,
    [⟨0, 64, .ro, (.val 0), .live⟩]⟩,
  ⟨"MB_Y_FF", 0xB1028, [(0x40, 32)], true, .inst, .ens, some .member,
    [⟨0, 64, .ro, (.val 0), .live⟩]⟩,
  ⟨"MB_DRIFT_FF", 0xB1030, [(0x40, 32)], true, .inst, .ens, some .member,
    [⟨0, 64, .rw, (.val 0), (.val 0)⟩]⟩]

/-- Register descriptors of the ENS block, part 4. -/
def regsEns4 : List RegDesc := [
  ⟨"MB_EPS_PH", 0xB1038, [(0x40, 32)], true, .inst, .ens, some .member,
    [⟨0, 64, .ro, (.val 0), .live⟩]⟩]

/-- Every register of the ENS block. -/
def regsEns : List RegDesc := regsEns0 ++ regsEns1 ++ regsEns2 ++ regsEns3 ++ regsEns4

/-- ENS_CFG, BLK domain. -/
def ENS_CFG.ofs : Nat := 0xB0000
@[inherit_doc ENS_CFG.ofs] def ENS_CFG.TAU0 : Fld := ⟨ENS_CFG.ofs, 0, 2⟩
@[inherit_doc ENS_CFG.ofs] def ENS_CFG.OUT_K : Fld := ⟨ENS_CFG.ofs, 8, 8⟩
@[inherit_doc ENS_CFG.ofs] def ENS_CFG.WMAX : Fld := ⟨ENS_CFG.ofs, 16, 16⟩
/-- ENS_STATUS, BLK domain. -/
def ENS_STATUS.ofs : Nat := 0xB0004
@[inherit_doc ENS_STATUS.ofs] def ENS_STATUS.READY : Fld := ⟨ENS_STATUS.ofs, 0, 1⟩
@[inherit_doc ENS_STATUS.ofs] def ENS_STATUS.DELIVERING : Fld := ⟨ENS_STATUS.ofs, 1, 1⟩
@[inherit_doc ENS_STATUS.ofs] def ENS_STATUS.NO_MAJORITY : Fld := ⟨ENS_STATUS.ofs, 2, 1⟩
@[inherit_doc ENS_STATUS.ofs] def ENS_STATUS.UNTRACED : Fld := ⟨ENS_STATUS.ofs, 3, 1⟩
@[inherit_doc ENS_STATUS.ofs] def ENS_STATUS.ACTIVE_CNT : Fld := ⟨ENS_STATUS.ofs, 8, 6⟩
@[inherit_doc ENS_STATUS.ofs] def ENS_STATUS.TRIAL_CNT : Fld := ⟨ENS_STATUS.ofs, 16, 6⟩
/-- ENS_FLAGS, BLK domain. -/
def ENS_FLAGS.ofs : Nat := 0xB0008
@[inherit_doc ENS_FLAGS.ofs] def ENS_FLAGS.EPOCH_LATE : Fld := ⟨ENS_FLAGS.ofs, 0, 1⟩
@[inherit_doc ENS_FLAGS.ofs] def ENS_FLAGS.REJECTED : Fld := ⟨ENS_FLAGS.ofs, 1, 1⟩
@[inherit_doc ENS_FLAGS.ofs] def ENS_FLAGS.SUSPENDED_EV : Fld := ⟨ENS_FLAGS.ofs, 2, 1⟩
@[inherit_doc ENS_FLAGS.ofs] def ENS_FLAGS.NO_MAJ_EV : Fld := ⟨ENS_FLAGS.ofs, 3, 1⟩
@[inherit_doc ENS_FLAGS.ofs] def ENS_FLAGS.MB_ACTIVE_EV : Fld := ⟨ENS_FLAGS.ofs, 4, 1⟩
@[inherit_doc ENS_FLAGS.ofs] def ENS_FLAGS.TRIAL_RESTART : Fld := ⟨ENS_FLAGS.ofs, 5, 1⟩
@[inherit_doc ENS_FLAGS.ofs] def ENS_FLAGS.REBASED : Fld := ⟨ENS_FLAGS.ofs, 6, 1⟩
@[inherit_doc ENS_FLAGS.ofs] def ENS_FLAGS.SAT : Fld := ⟨ENS_FLAGS.ofs, 7, 1⟩
/-- ENS_CNT, BLK domain. -/
def ENS_CNT.ofs : Nat := 0xB000C
@[inherit_doc ENS_CNT.ofs] def ENS_CNT.LATE : Fld := ⟨ENS_CNT.ofs, 0, 16⟩
@[inherit_doc ENS_CNT.ofs] def ENS_CNT.REJECTS : Fld := ⟨ENS_CNT.ofs, 16, 16⟩
/-- ENS_FREQ_AVG, BLK domain. -/
def ENS_FREQ_AVG.ofs : Nat := 0xB0010
@[inherit_doc ENS_FREQ_AVG.ofs] def ENS_FREQ_AVG.N : Fld := ⟨ENS_FREQ_AVG.ofs, 0, 32⟩
/-- ENS_VAR_AVG, BLK domain. -/
def ENS_VAR_AVG.ofs : Nat := 0xB0014
@[inherit_doc ENS_VAR_AVG.ofs] def ENS_VAR_AVG.N : Fld := ⟨ENS_VAR_AVG.ofs, 0, 32⟩
/-- ENS_DEV_AVG, BLK domain. -/
def ENS_DEV_AVG.ofs : Nat := 0xB0018
@[inherit_doc ENS_DEV_AVG.ofs] def ENS_DEV_AVG.N : Fld := ⟨ENS_DEV_AVG.ofs, 0, 32⟩
/-- ENS_TRIAL, BLK domain. -/
def ENS_TRIAL.ofs : Nat := 0xB001C
@[inherit_doc ENS_TRIAL.ofs] def ENS_TRIAL.TRIAL_EPOCHS : Fld := ⟨ENS_TRIAL.ofs, 0, 32⟩
/-- ENS_LIMITS, BLK domain. -/
def ENS_LIMITS.ofs : Nat := 0xB0020
@[inherit_doc ENS_LIMITS.ofs] def ENS_LIMITS.MISS_LIMIT : Fld := ⟨ENS_LIMITS.ofs, 0, 8⟩
@[inherit_doc ENS_LIMITS.ofs] def ENS_LIMITS.REJ_LIMIT : Fld := ⟨ENS_LIMITS.ofs, 8, 8⟩
@[inherit_doc ENS_LIMITS.ofs] def ENS_LIMITS.SUSP_HOLD : Fld := ⟨ENS_LIMITS.ofs, 16, 16⟩
/-- ENS_OUT_FLOOR, BLK domain. -/
def ENS_OUT_FLOOR.ofs : Nat := 0xB0024
@[inherit_doc ENS_OUT_FLOOR.ofs] def ENS_OUT_FLOOR.FLOOR : Fld := ⟨ENS_OUT_FLOOR.ofs, 0, 32⟩
/-- ENS_SIGMA_FLOOR, BLK domain. -/
def ENS_SIGMA_FLOOR.ofs : Nat := 0xB0028
@[inherit_doc ENS_SIGMA_FLOOR.ofs] def ENS_SIGMA_FLOOR.FLOOR : Fld := ⟨ENS_SIGMA_FLOOR.ofs, 0, 32⟩
/-- ENS_SIGMA_INIT, BLK domain. -/
def ENS_SIGMA_INIT.ofs : Nat := 0xB002C
@[inherit_doc ENS_SIGMA_INIT.ofs] def ENS_SIGMA_INIT.SIGMA : Fld := ⟨ENS_SIGMA_INIT.ofs, 0, 32⟩
/-- ENS_EPOCH, BLK domain. -/
def ENS_EPOCH.ofs : Nat := 0xB0030
@[inherit_doc ENS_EPOCH.ofs] def ENS_EPOCH.K : Fld := ⟨ENS_EPOCH.ofs, 0, 32⟩
/-- ENS_SLEW_LIM_FF, BLK domain. -/
def ENS_SLEW_LIM_FF.ofs : Nat := 0xB0040
/-- ENS_MAN_STEER_FF, BLK domain. -/
def ENS_MAN_STEER_FF.ofs : Nat := 0xB0048
/-- ENS_MAN_PH, BLK domain. -/
def ENS_MAN_PH.ofs : Nat := 0xB0050
/-- ENS_XDEV_PH, BLK domain. -/
def ENS_XDEV_PH.ofs : Nat := 0xB0060
/-- ENS_C_PH, BLK domain. -/
def ENS_C_PH.ofs : Nat := 0xB0068
/-- ENS_TDEV_PH, BLK domain. -/
def ENS_TDEV_PH.ofs : Nat := 0xB0070
/-- ENS_RES_PH, BLK domain. -/
def ENS_RES_PH.ofs : Nat := 0xB0078
/-- ENS_YP_FF, BLK domain. -/
def ENS_YP_FF.ofs : Nat := 0xB0080
/-- ENS_S_FF, BLK domain. -/
def ENS_S_FF.ofs : Nat := 0xB0088
/-- ENS_YENS_FF, BLK domain. -/
def ENS_YENS_FF.ofs : Nat := 0xB0090
/-- ENS_UA_PH, BLK domain. -/
def ENS_UA_PH.ofs : Nat := 0xB00A0
/-- ENS_UL_PH, BLK domain. -/
def ENS_UL_PH.ofs : Nat := 0xB00A8
/-- ENS_URES_PH, BLK domain. -/
def ENS_URES_PH.ofs : Nat := 0xB00B0
/-- ENS_UNC_PH, BLK domain. -/
def ENS_UNC_PH.ofs : Nat := 0xB00B8
/-- ENS_UB_PH, BLK domain. -/
def ENS_UB_PH.ofs (j : Nat) : Nat := 0xB00C0 + j * 0x8
/-- ENS_UNC_INFO, BLK domain. -/
def ENS_UNC_INFO.ofs : Nat := 0xB00E0
@[inherit_doc ENS_UNC_INFO.ofs] def ENS_UNC_INFO.TRACE_LOOP : Fld := ⟨ENS_UNC_INFO.ofs, 0, 5⟩
@[inherit_doc ENS_UNC_INFO.ofs] def ENS_UNC_INFO.TRACE_ROLE : Fld := ⟨ENS_UNC_INFO.ofs, 5, 2⟩
/-- MB_CFG, INST domain. -/
def MB_CFG.ofs (i : Nat) : Nat := 0xB1000 + i * 0x40
@[inherit_doc MB_CFG.ofs] def MB_CFG.EN (i : Nat) : Fld := ⟨MB_CFG.ofs i, 0, 1⟩
@[inherit_doc MB_CFG.ofs] def MB_CFG.AUTO_RETRY (i : Nat) : Fld := ⟨MB_CFG.ofs i, 1, 1⟩
/-- MB_BIND, INST domain. -/
def MB_BIND.ofs (i : Nat) : Nat := 0xB1004 + i * 0x40
@[inherit_doc MB_BIND.ofs] def MB_BIND.CH (i : Nat) : Fld := ⟨MB_BIND.ofs i, 0, 7⟩
@[inherit_doc MB_BIND.ofs] def MB_BIND.VALID (i : Nat) : Fld := ⟨MB_BIND.ofs i, 7, 1⟩
/-- MB_STATUS, INST domain. -/
def MB_STATUS.ofs (i : Nat) : Nat := 0xB1008 + i * 0x40
@[inherit_doc MB_STATUS.ofs] def MB_STATUS.STATE (i : Nat) : Fld := ⟨MB_STATUS.ofs i, 0, 2⟩
@[inherit_doc MB_STATUS.ofs] def MB_STATUS.EXTRA (i : Nat) : Fld := ⟨MB_STATUS.ofs i, 2, 1⟩
@[inherit_doc MB_STATUS.ofs] def MB_STATUS.MISSING (i : Nat) : Fld := ⟨MB_STATUS.ofs i, 3, 1⟩
@[inherit_doc MB_STATUS.ofs] def MB_STATUS.REJ_RUN (i : Nat) : Fld := ⟨MB_STATUS.ofs i, 8, 8⟩
@[inherit_doc MB_STATUS.ofs] def MB_STATUS.MISS_RUN (i : Nat) : Fld := ⟨MB_STATUS.ofs i, 16, 8⟩
/-- MB_CMD, INST domain. -/
def MB_CMD.ofs (i : Nat) : Nat := 0xB100C + i * 0x40
@[inherit_doc MB_CMD.ofs] def MB_CMD.RETRY (i : Nat) : Fld := ⟨MB_CMD.ofs i, 0, 1⟩
@[inherit_doc MB_CMD.ofs] def MB_CMD.SUSPEND (i : Nat) : Fld := ⟨MB_CMD.ofs i, 1, 1⟩
/-- MB_CNT, INST domain. -/
def MB_CNT.ofs (i : Nat) : Nat := 0xB1010 + i * 0x40
@[inherit_doc MB_CNT.ofs] def MB_CNT.REJECTS (i : Nat) : Fld := ⟨MB_CNT.ofs i, 0, 16⟩
@[inherit_doc MB_CNT.ofs] def MB_CNT.MISSES (i : Nat) : Fld := ⟨MB_CNT.ofs i, 16, 16⟩
/-- MB_WEIGHT, INST domain. -/
def MB_WEIGHT.ofs (i : Nat) : Nat := 0xB1014 + i * 0x40
@[inherit_doc MB_WEIGHT.ofs] def MB_WEIGHT.W (i : Nat) : Fld := ⟨MB_WEIGHT.ofs i, 0, 32⟩
/-- MB_SIGMA, INST domain. -/
def MB_SIGMA.ofs (i : Nat) : Nat := 0xB1018 + i * 0x40
@[inherit_doc MB_SIGMA.ofs] def MB_SIGMA.SIGMA (i : Nat) : Fld := ⟨MB_SIGMA.ofs i, 0, 32⟩
/-- MB_TRIAL, INST domain. -/
def MB_TRIAL.ofs (i : Nat) : Nat := 0xB101C + i * 0x40
@[inherit_doc MB_TRIAL.ofs] def MB_TRIAL.COUNT (i : Nat) : Fld := ⟨MB_TRIAL.ofs i, 0, 32⟩
/-- MB_X_PH, INST domain. -/
def MB_X_PH.ofs (i : Nat) : Nat := 0xB1020 + i * 0x40
/-- MB_Y_FF, INST domain. -/
def MB_Y_FF.ofs (i : Nat) : Nat := 0xB1028 + i * 0x40
/-- MB_DRIFT_FF, INST domain. -/
def MB_DRIFT_FF.ofs (i : Nat) : Nat := 0xB1030 + i * 0x40
/-- MB_EPS_PH, INST domain. -/
def MB_EPS_PH.ofs (i : Nat) : Nat := 0xB1038 + i * 0x40

end Sys2Proof.Machine
end

