-- ==== Sys2Proof/Machine/RegMapEvt.lean ====
section
/-! DEFINITION. The register map of the EVT block, from the register tables of 03_event_timer.md.
One descriptor per register entry (offset, reset domain, fields with access code and the two defaults of R19) and one
named offset `NAME.ofs` and one named field `NAME.FIELD` per entry of the tables. -/

namespace Sys2Proof.Machine

/-- Register descriptors of the EVT block, part 0. -/
def regsEvt0 : List RegDesc := [
  ⟨"EVT_CFG", 0x180000, [], false, .blk, .evt, none,
    [⟨0, 16, .rw, (.val 0xa), (.val 0xa)⟩]⟩,
  ⟨"EVT_STATUS", 0x180004, [], false, .blk, .evt, none,
    [⟨0, 1, .ro, (.val 0), .live⟩,
     ⟨1, 1, .ro, (.val 0), .live⟩]⟩,
  ⟨"EVT_FLAGS", 0x180008, [], false, .blk, .evt, none,
    [⟨0, 1, .w1c, (.val 0), (.val 0)⟩]⟩,
  ⟨"EVT_COMMIT_LATE_CNT", 0x18000C, [], false, .blk, .evt, none,
    [⟨0, 32, .rc, (.val 0), (.val 0)⟩]⟩,
  ⟨"EVT_BK_CFG", 0x100000, [(0x10000, 8)], false, .blk, .evt, none,
    [⟨0, 1, .rw, (.val 0), (.val 1)⟩,
     ⟨1, 1, .rw, (.val 0), (.val 0)⟩,
     ⟨16, 16, .rw, (.val 0x3c), (.val 0x3c)⟩]⟩,
  ⟨"EVT_BK_SLOT", 0x100004, [(0x10000, 8)], false, .blk, .evt, none,
    [⟨0, 16, .rw, (.val 0x3e8), (.val 0x3e8)⟩]⟩,
  ⟨"EVT_BK_STATUS", 0x100008, [(0x10000, 8)], false, .blk, .evt, none,
    [⟨0, 1, .ro, (.val 0), .live⟩,
     ⟨1, 3, .ro, (.val 0), .live⟩,
     ⟨4, 4, .ro, (.val 0), .live⟩,
     ⟨8, 1, .ro, (.val 0), .live⟩,
     ⟨16, 8, .rc, (.val 0), (.val 0)⟩]⟩,
  ⟨"EVT_BK_CAL_CMD", 0x10000C, [(0x10000, 8)], false, .blk, .evt, none,
    [⟨0, 4, .wo, (.val 0), (.val 0)⟩,
     ⟨4, 1, .wo, (.val 0), (.val 0)⟩,
     ⟨5, 1, .wo, (.val 0), (.val 0)⟩,
     ⟨6, 1, .wo, (.val 0), (.val 0)⟩]⟩,
  ⟨"EVT_BK_FLAGS", 0x100010, [(0x10000, 8)], false, .blk, .evt, none,
    [⟨0, 1, .w1c, (.val 0), (.val 0)⟩,
     ⟨1, 1, .w1c, (.val 0), (.val 0)⟩,
     ⟨2, 1, .w1c, (.val 0), (.val 0)⟩,
     ⟨3, 1, .w1c, (.val 0), (.val 0)⟩,
     ⟨4, 1, .w1c, (.val 0), (.val 0)⟩]⟩,
  ⟨"EVT_CH_CFG", 0x101000, [(0x10000, 8), (0x80, 16)], false, .inst, .evt, some .channel,
    [⟨0, 1, .rw, (.val 0), (.val 0)⟩,
     ⟨1, 1, .rw, (.val 0), (.val 0)⟩,
     ⟨2, 1, .rw, (.val 0), (.val 0)⟩,
     ⟨3, 2, .rw, (.val 1), (.val 1)⟩,
     ⟨5, 1, .rw, (.val 1), (.val 1)⟩]⟩]

/-- Register descriptors of the EVT block, part 1. -/
def regsEvt1 : List RegDesc := [
  ⟨"EVT_CH_THRESH", 0x101004, [(0x10000, 8), (0x80, 16)], false, .inst, .evt, some .channel,
    [⟨0, 16, .rw, (.val 0), (.val 0)⟩,
     ⟨16, 5, .rw, (.val 0), (.val 0xa)⟩]⟩,
  ⟨"EVT_CH_PAIR", 0x101008, [(0x10000, 8), (0x80, 16)], false, .inst, .evt, some .channel,
    [⟨0, 1, .rw, (.val 0), (.val 0)⟩,
     ⟨1, 7, .rw, (.val 0), (.val 0)⟩,
     ⟨8, 1, .rw, (.val 0), (.val 0)⟩,
     ⟨9, 1, .rw, (.val 0), (.val 0)⟩]⟩,
  ⟨"EVT_CH_PAIR_WIN", 0x10100C, [(0x10000, 8), (0x80, 16)], false, .inst, .evt, some .channel,
    [⟨0, 30, .rw, (.val 0x3e8), (.val 0x3e8)⟩]⟩,
  ⟨"EVT_CH_STATUS", 0x101010, [(0x10000, 8), (0x80, 16)], false, .inst, .evt, some .channel,
    [⟨0, 2, .ro, (.val 0), .live⟩,
     ⟨2, 1, .ro, (.val 0), .live⟩,
     ⟨3, 1, .ro, (.val 0), .live⟩,
     ⟨4, 1, .ro, (.val 0), .live⟩,
     ⟨16, 16, .ro, (.val 0), .live⟩]⟩,
  ⟨"EVT_CH_QUEUE", 0x101014, [(0x10000, 8), (0x80, 16)], false, .inst, .evt, some .channel,
    [⟨0, 13, .ro, (.val 0), .live⟩]⟩,
  ⟨"EVT_CH_LOST_DEAD", 0x101018, [(0x10000, 8), (0x80, 16)], false, .inst, .evt, some .channel,
    [⟨0, 32, .rc, (.val 0), (.val 0)⟩]⟩,
  ⟨"EVT_CH_LOST_OTHER", 0x10101C, [(0x10000, 8), (0x80, 16)], false, .inst, .evt, some .channel,
    [⟨0, 16, .rc, (.val 0), (.val 0)⟩,
     ⟨16, 16, .rc, (.val 0), (.val 0)⟩]⟩,
  ⟨"EVT_CH_RECORDS", 0x101020, [(0x10000, 8), (0x80, 16)], false, .inst, .evt, some .channel,
    [⟨0, 32, .rc, (.val 0), (.val 0)⟩]⟩,
  ⟨"EVT_CH_PAIR_CNT0", 0x101024, [(0x10000, 8), (0x80, 16)], false, .inst, .evt, some .channel,
    [⟨0, 16, .rc, (.val 0), (.val 0)⟩,
     ⟨16, 16, .rc, (.val 0), (.val 0)⟩]⟩,
  ⟨"EVT_CH_PAIR_CNT1", 0x101028, [(0x10000, 8), (0x80, 16)], false, .inst, .evt, some .channel,
    [⟨0, 16, .rc, (.val 0), (.val 0)⟩,
     ⟨16, 16, .rc, (.val 0), (.val 0)⟩]⟩]

/-- Register descriptors of the EVT block, part 2. -/
def regsEvt2 : List RegDesc := [
  ⟨"EVT_CH_PAIR_CNT2", 0x10102C, [(0x10000, 8), (0x80, 16)], false, .inst, .evt, some .channel,
    [⟨0, 16, .rc, (.val 0), (.val 0)⟩]⟩,
  ⟨"EVT_CH_PAIR_LAST_PH", 0x101030, [(0x10000, 8), (0x80, 16)], true, .inst, .evt, some .channel,
    [⟨0, 64, .ro, (.val 0), .live⟩]⟩,
  ⟨"EVT_CH_OFS_PH", 0x101038, [(0x10000, 8), (0x80, 16)], true, .inst, .evt, some .channel,
    [⟨0, 64, .rw, (.val 0), (.val 0)⟩]⟩,
  ⟨"EVT_CH_RAW", 0x101040, [(0x10000, 8), (0x80, 16)], true, .inst, .evt, some .channel,
    [⟨0, 64, .ro, .live, .live⟩]⟩,
  ⟨"EVT_CH_RAW_FINE", 0x101048, [(0x10000, 8), (0x80, 16)], false, .inst, .evt, some .channel,
    [⟨0, 12, .ro, .live, .live⟩,
     ⟨12, 1, .ro, .live, .live⟩]⟩,
  ⟨"EVT_CH_CAL_DLY_PH", 0x101050, [(0x10000, 8), (0x80, 16)], true, .inst, .evt, some .channel,
    [⟨0, 64, .ro, .live, .live⟩]⟩]

/-- Every register of the EVT block. -/
def regsEvt : List RegDesc := regsEvt0 ++ regsEvt1 ++ regsEvt2

/-- EVT_CFG, BLK domain. -/
def EVT_CFG.ofs : Nat := 0x180000
@[inherit_doc EVT_CFG.ofs] def EVT_CFG.COMMIT_INT : Fld := ⟨EVT_CFG.ofs, 0, 16⟩
/-- EVT_STATUS, BLK domain. -/
def EVT_STATUS.ofs : Nat := 0x180004
@[inherit_doc EVT_STATUS.ofs] def EVT_STATUS.READY : Fld := ⟨EVT_STATUS.ofs, 0, 1⟩
@[inherit_doc EVT_STATUS.ofs] def EVT_STATUS.PFAIL_HOLD : Fld := ⟨EVT_STATUS.ofs, 1, 1⟩
/-- EVT_FLAGS, BLK domain. -/
def EVT_FLAGS.ofs : Nat := 0x180008
@[inherit_doc EVT_FLAGS.ofs] def EVT_FLAGS.COMMIT_LATE : Fld := ⟨EVT_FLAGS.ofs, 0, 1⟩
/-- EVT_COMMIT_LATE_CNT, BLK domain. -/
def EVT_COMMIT_LATE_CNT.ofs : Nat := 0x18000C
@[inherit_doc EVT_COMMIT_LATE_CNT.ofs] def EVT_COMMIT_LATE_CNT.COUNT : Fld := ⟨EVT_COMMIT_LATE_CNT.ofs, 0, 32⟩
/-- EVT_BK_CFG, BLK domain. -/
def EVT_BK_CFG.ofs (n : Nat) : Nat := 0x100000 + n * 0x10000
@[inherit_doc EVT_BK_CFG.ofs] def EVT_BK_CFG.CAL_EN (n : Nat) : Fld := ⟨EVT_BK_CFG.ofs n, 0, 1⟩
@[inherit_doc EVT_BK_CFG.ofs] def EVT_BK_CFG.CAL_REC_EN (n : Nat) : Fld := ⟨EVT_BK_CFG.ofs n, 1, 1⟩
@[inherit_doc EVT_BK_CFG.ofs] def EVT_BK_CFG.CAL_MAX_AGE (n : Nat) : Fld := ⟨EVT_BK_CFG.ofs n, 16, 16⟩
/-- EVT_BK_SLOT, BLK domain. -/
def EVT_BK_SLOT.ofs (n : Nat) : Nat := 0x100004 + n * 0x10000
@[inherit_doc EVT_BK_SLOT.ofs] def EVT_BK_SLOT.SLOT_MS (n : Nat) : Fld := ⟨EVT_BK_SLOT.ofs n, 0, 16⟩
/-- EVT_BK_STATUS, BLK domain. -/
def EVT_BK_STATUS.ofs (n : Nat) : Nat := 0x100008 + n * 0x10000
@[inherit_doc EVT_BK_STATUS.ofs] def EVT_BK_STATUS.READY (n : Nat) : Fld := ⟨EVT_BK_STATUS.ofs n, 0, 1⟩
@[inherit_doc EVT_BK_STATUS.ofs] def EVT_BK_STATUS.RELIEF_STATE (n : Nat) : Fld := ⟨EVT_BK_STATUS.ofs n, 1, 3⟩
@[inherit_doc EVT_BK_STATUS.ofs] def EVT_BK_STATUS.RELIEF_POS (n : Nat) : Fld := ⟨EVT_BK_STATUS.ofs n, 4, 4⟩
@[inherit_doc EVT_BK_STATUS.ofs] def EVT_BK_STATUS.CAL_HALTED (n : Nat) : Fld := ⟨EVT_BK_STATUS.ofs n, 8, 1⟩
@[inherit_doc EVT_BK_STATUS.ofs] def EVT_BK_STATUS.SLOTS_SKIPPED (n : Nat) : Fld := ⟨EVT_BK_STATUS.ofs n, 16, 8⟩
/-- EVT_BK_CAL_CMD, BLK domain. -/
def EVT_BK_CAL_CMD.ofs (n : Nat) : Nat := 0x10000C + n * 0x10000
@[inherit_doc EVT_BK_CAL_CMD.ofs] def EVT_BK_CAL_CMD.POS (n : Nat) : Fld := ⟨EVT_BK_CAL_CMD.ofs n, 0, 4⟩
@[inherit_doc EVT_BK_CAL_CMD.ofs] def EVT_BK_CAL_CMD.GO (n : Nat) : Fld := ⟨EVT_BK_CAL_CMD.ofs n, 4, 1⟩
@[inherit_doc EVT_BK_CAL_CMD.ofs] def EVT_BK_CAL_CMD.FORCE (n : Nat) : Fld := ⟨EVT_BK_CAL_CMD.ofs n, 5, 1⟩
@[inherit_doc EVT_BK_CAL_CMD.ofs] def EVT_BK_CAL_CMD.RETRY (n : Nat) : Fld := ⟨EVT_BK_CAL_CMD.ofs n, 6, 1⟩
/-- EVT_BK_FLAGS, BLK domain. -/
def EVT_BK_FLAGS.ofs (n : Nat) : Nat := 0x100010 + n * 0x10000
@[inherit_doc EVT_BK_FLAGS.ofs] def EVT_BK_FLAGS.RELIEF_FAULT (n : Nat) : Fld := ⟨EVT_BK_FLAGS.ofs n, 0, 1⟩
@[inherit_doc EVT_BK_FLAGS.ofs] def EVT_BK_FLAGS.CH_FAULT (n : Nat) : Fld := ⟨EVT_BK_FLAGS.ofs n, 1, 1⟩
@[inherit_doc EVT_BK_FLAGS.ofs] def EVT_BK_FLAGS.BUSY_IN_SERVICE (n : Nat) : Fld := ⟨EVT_BK_FLAGS.ofs n, 2, 1⟩
@[inherit_doc EVT_BK_FLAGS.ofs] def EVT_BK_FLAGS.FORCED_OUT (n : Nat) : Fld := ⟨EVT_BK_FLAGS.ofs n, 3, 1⟩
@[inherit_doc EVT_BK_FLAGS.ofs] def EVT_BK_FLAGS.CFG_BAD (n : Nat) : Fld := ⟨EVT_BK_FLAGS.ofs n, 4, 1⟩
/-- EVT_CH_CFG, INST domain. -/
def EVT_CH_CFG.ofs (n : Nat) : Nat := 0x101000 + n / 16 * 0x10000 + n % 16 * 0x80
@[inherit_doc EVT_CH_CFG.ofs] def EVT_CH_CFG.EN (n : Nat) : Fld := ⟨EVT_CH_CFG.ofs n, 0, 1⟩
@[inherit_doc EVT_CH_CFG.ofs] def EVT_CH_CFG.MODE (n : Nat) : Fld := ⟨EVT_CH_CFG.ofs n, 1, 1⟩
@[inherit_doc EVT_CH_CFG.ofs] def EVT_CH_CFG.TERM (n : Nat) : Fld := ⟨EVT_CH_CFG.ofs n, 2, 1⟩
@[inherit_doc EVT_CH_CFG.ofs] def EVT_CH_CFG.EDGE (n : Nat) : Fld := ⟨EVT_CH_CFG.ofs n, 3, 2⟩
@[inherit_doc EVT_CH_CFG.ofs] def EVT_CH_CFG.HOST_EN (n : Nat) : Fld := ⟨EVT_CH_CFG.ofs n, 5, 1⟩
/-- EVT_CH_THRESH, INST domain. -/
def EVT_CH_THRESH.ofs (n : Nat) : Nat := 0x101004 + n / 16 * 0x10000 + n % 16 * 0x80
@[inherit_doc EVT_CH_THRESH.ofs] def EVT_CH_THRESH.THRESH (n : Nat) : Fld := ⟨EVT_CH_THRESH.ofs n, 0, 16⟩
@[inherit_doc EVT_CH_THRESH.ofs] def EVT_CH_THRESH.HYST (n : Nat) : Fld := ⟨EVT_CH_THRESH.ofs n, 16, 5⟩
/-- EVT_CH_PAIR, INST domain. -/
def EVT_CH_PAIR.ofs (n : Nat) : Nat := 0x101008 + n / 16 * 0x10000 + n % 16 * 0x80
@[inherit_doc EVT_CH_PAIR.ofs] def EVT_CH_PAIR.PAIR_EN (n : Nat) : Fld := ⟨EVT_CH_PAIR.ofs n, 0, 1⟩
@[inherit_doc EVT_CH_PAIR.ofs] def EVT_CH_PAIR.START (n : Nat) : Fld := ⟨EVT_CH_PAIR.ofs n, 1, 7⟩
@[inherit_doc EVT_CH_PAIR.ofs] def EVT_CH_PAIR.START_EDGE (n : Nat) : Fld := ⟨EVT_CH_PAIR.ofs n, 8, 1⟩
@[inherit_doc EVT_CH_PAIR.ofs] def EVT_CH_PAIR.STOP_EDGE (n : Nat) : Fld := ⟨EVT_CH_PAIR.ofs n, 9, 1⟩
/-- EVT_CH_PAIR_WIN, INST domain. -/
def EVT_CH_PAIR_WIN.ofs (n : Nat) : Nat := 0x10100C + n / 16 * 0x10000 + n % 16 * 0x80
@[inherit_doc EVT_CH_PAIR_WIN.ofs] def EVT_CH_PAIR_WIN.W (n : Nat) : Fld := ⟨EVT_CH_PAIR_WIN.ofs n, 0, 30⟩
/-- EVT_CH_STATUS, INST domain. -/
def EVT_CH_STATUS.ofs (n : Nat) : Nat := 0x101010 + n / 16 * 0x10000 + n % 16 * 0x80
@[inherit_doc EVT_CH_STATUS.ofs] def EVT_CH_STATUS.CAL_STATE (n : Nat) : Fld := ⟨EVT_CH_STATUS.ofs n, 0, 2⟩
@[inherit_doc EVT_CH_STATUS.ofs] def EVT_CH_STATUS.SERVED_BY_RELIEF (n : Nat) : Fld := ⟨EVT_CH_STATUS.ofs n, 2, 1⟩
@[inherit_doc EVT_CH_STATUS.ofs] def EVT_CH_STATUS.STAMPER_FAULT (n : Nat) : Fld := ⟨EVT_CH_STATUS.ofs n, 3, 1⟩
@[inherit_doc EVT_CH_STATUS.ofs] def EVT_CH_STATUS.SETTLING (n : Nat) : Fld := ⟨EVT_CH_STATUS.ofs n, 4, 1⟩
@[inherit_doc EVT_CH_STATUS.ofs] def EVT_CH_STATUS.CAL_AGE (n : Nat) : Fld := ⟨EVT_CH_STATUS.ofs n, 16, 16⟩
/-- EVT_CH_QUEUE, INST domain. -/
def EVT_CH_QUEUE.ofs (n : Nat) : Nat := 0x101014 + n / 16 * 0x10000 + n % 16 * 0x80
@[inherit_doc EVT_CH_QUEUE.ofs] def EVT_CH_QUEUE.FILL (n : Nat) : Fld := ⟨EVT_CH_QUEUE.ofs n, 0, 13⟩
/-- EVT_CH_LOST_DEAD, INST domain. -/
def EVT_CH_LOST_DEAD.ofs (n : Nat) : Nat := 0x101018 + n / 16 * 0x10000 + n % 16 * 0x80
@[inherit_doc EVT_CH_LOST_DEAD.ofs] def EVT_CH_LOST_DEAD.COUNT (n : Nat) : Fld := ⟨EVT_CH_LOST_DEAD.ofs n, 0, 32⟩
/-- EVT_CH_LOST_OTHER, INST domain. -/
def EVT_CH_LOST_OTHER.ofs (n : Nat) : Nat := 0x10101C + n / 16 * 0x10000 + n % 16 * 0x80
@[inherit_doc EVT_CH_LOST_OTHER.ofs] def EVT_CH_LOST_OTHER.OVF (n : Nat) : Fld := ⟨EVT_CH_LOST_OTHER.ofs n, 0, 16⟩
@[inherit_doc EVT_CH_LOST_OTHER.ofs] def EVT_CH_LOST_OTHER.OTHER (n : Nat) : Fld := ⟨EVT_CH_LOST_OTHER.ofs n, 16, 16⟩
/-- EVT_CH_RECORDS, INST domain. -/
def EVT_CH_RECORDS.ofs (n : Nat) : Nat := 0x101020 + n / 16 * 0x10000 + n % 16 * 0x80
@[inherit_doc EVT_CH_RECORDS.ofs] def EVT_CH_RECORDS.COUNT (n : Nat) : Fld := ⟨EVT_CH_RECORDS.ofs n, 0, 32⟩
/-- EVT_CH_PAIR_CNT0, INST domain. -/
def EVT_CH_PAIR_CNT0.ofs (n : Nat) : Nat := 0x101024 + n / 16 * 0x10000 + n % 16 * 0x80
@[inherit_doc EVT_CH_PAIR_CNT0.ofs] def EVT_CH_PAIR_CNT0.PAIRED (n : Nat) : Fld := ⟨EVT_CH_PAIR_CNT0.ofs n, 0, 16⟩
@[inherit_doc EVT_CH_PAIR_CNT0.ofs] def EVT_CH_PAIR_CNT0.UNRESOLVED (n : Nat) : Fld := ⟨EVT_CH_PAIR_CNT0.ofs n, 16, 16⟩
/-- EVT_CH_PAIR_CNT1, INST domain. -/
def EVT_CH_PAIR_CNT1.ofs (n : Nat) : Nat := 0x101028 + n / 16 * 0x10000 + n % 16 * 0x80
@[inherit_doc EVT_CH_PAIR_CNT1.ofs] def EVT_CH_PAIR_CNT1.REVERSED (n : Nat) : Fld := ⟨EVT_CH_PAIR_CNT1.ofs n, 0, 16⟩
@[inherit_doc EVT_CH_PAIR_CNT1.ofs] def EVT_CH_PAIR_CNT1.UNP_START (n : Nat) : Fld := ⟨EVT_CH_PAIR_CNT1.ofs n, 16, 16⟩
/-- EVT_CH_PAIR_CNT2, INST domain. -/
def EVT_CH_PAIR_CNT2.ofs (n : Nat) : Nat := 0x10102C + n / 16 * 0x10000 + n % 16 * 0x80
@[inherit_doc EVT_CH_PAIR_CNT2.ofs] def EVT_CH_PAIR_CNT2.UNP_STOP (n : Nat) : Fld := ⟨EVT_CH_PAIR_CNT2.ofs n, 0, 16⟩
/-- EVT_CH_PAIR_LAST_PH, INST domain. -/
def EVT_CH_PAIR_LAST_PH.ofs (n : Nat) : Nat := 0x101030 + n / 16 * 0x10000 + n % 16 * 0x80
/-- EVT_CH_OFS_PH, INST domain. -/
def EVT_CH_OFS_PH.ofs (n : Nat) : Nat := 0x101038 + n / 16 * 0x10000 + n % 16 * 0x80
/-- EVT_CH_RAW, INST domain. -/
def EVT_CH_RAW.ofs (n : Nat) : Nat := 0x101040 + n / 16 * 0x10000 + n % 16 * 0x80
/-- EVT_CH_RAW_FINE, INST domain. -/
def EVT_CH_RAW_FINE.ofs (n : Nat) : Nat := 0x101048 + n / 16 * 0x10000 + n % 16 * 0x80
@[inherit_doc EVT_CH_RAW_FINE.ofs] def EVT_CH_RAW_FINE.FINE (n : Nat) : Fld := ⟨EVT_CH_RAW_FINE.ofs n, 0, 12⟩
@[inherit_doc EVT_CH_RAW_FINE.ofs] def EVT_CH_RAW_FINE.BY_RELIEF (n : Nat) : Fld := ⟨EVT_CH_RAW_FINE.ofs n, 12, 1⟩
/-- EVT_CH_CAL_DLY_PH, INST domain. -/
def EVT_CH_CAL_DLY_PH.ofs (n : Nat) : Nat := 0x101050 + n / 16 * 0x10000 + n % 16 * 0x80

end Sys2Proof.Machine
end

