-- ==== Sys2Proof/Machine/RegMapGlb.lean ====
section
/-! DEFINITION. The register map of the GLB block, from the register tables of 21_host_interface.md, 22_pins_and_electrical.md.
One descriptor per register entry (offset, reset domain, fields with access code and the two defaults of R19) and one
named offset `NAME.ofs` and one named field `NAME.FIELD` per entry of the tables. -/

namespace Sys2Proof.Machine

/-- Register descriptors of the GLB block, part 0. -/
def regsGlb0 : List RegDesc := [
  ⟨"GLB_ID", 0x0, [], false, .pwr, .glb, none,
    [⟨0, 16, .ro, (.val 0x9640), (.val 0x9640)⟩,
     ⟨16, 8, .ro, (.val 1), (.val 1)⟩]⟩,
  ⟨"GLB_SIL", 0x4, [], false, .pwr, .glb, none,
    [⟨0, 16, .ro, (.val 1), (.val 1)⟩]⟩,
  ⟨"GLB_SERIAL", 0x8, [], true, .pwr, .glb, none,
    [⟨0, 64, .ro, .live, .live⟩]⟩,
  ⟨"GLB_RESET", 0x10, [], false, .dev, .glb, none,
    [⟨0, 1, .wo, (.val 0), (.val 0)⟩,
     ⟨8, 8, .wo, (.val 0), (.val 0)⟩]⟩,
  ⟨"GLB_RESET_CAUSE", 0x14, [], false, .pwr, .glb, none,
    [⟨0, 4, .ro, (.val 0), .live⟩,
     ⟨16, 16, .ro, (.val 0), .live⟩]⟩,
  ⟨"GLB_BLK_RST", 0x18, [], false, .dev, .glb, none,
    [⟨0, 13, .wo, (.val 0), (.val 0)⟩]⟩,
  ⟨"GLB_INST_RST", 0x1C, [], false, .dev, .glb, none,
    [⟨0, 4, .wo, (.val 0), (.val 0)⟩,
     ⟨4, 8, .wo, (.val 0), (.val 0)⟩,
     ⟨12, 1, .wo, (.val 0), (.val 0)⟩]⟩,
  ⟨"GLB_RST_STATUS", 0x20, [], false, .dev, .glb, none,
    [⟨0, 1, .ro, (.val 0), .live⟩,
     ⟨1, 1, .w1c, (.val 0), (.val 0)⟩]⟩,
  ⟨"GLB_SCRATCH", 0x24, [], false, .dev, .glb, none,
    [⟨0, 32, .rw, (.val 0), (.val 0)⟩]⟩,
  ⟨"GLB_STAT_CFG", 0x40, [(0x4, 8)], false, .dev, .glb, none,
    [⟨0, 4, .rw, .index, .index⟩,
     ⟨4, 1, .rw, (.val 0), (.val 0)⟩,
     ⟨5, 1, .rw, (.val 0), (.val 0)⟩,
     ⟨6, 1, .rw, (.val 0), (.val 0)⟩]⟩]

/-- Every register of the GLB block. -/
def regsGlb : List RegDesc := regsGlb0

/-- GLB_ID, PWR domain. -/
def GLB_ID.ofs : Nat := 0x0
@[inherit_doc GLB_ID.ofs] def GLB_ID.DEVICE : Fld := ⟨GLB_ID.ofs, 0, 16⟩
@[inherit_doc GLB_ID.ofs] def GLB_ID.FAMILY : Fld := ⟨GLB_ID.ofs, 16, 8⟩
/-- GLB_SIL, PWR domain. -/
def GLB_SIL.ofs : Nat := 0x4
@[inherit_doc GLB_SIL.ofs] def GLB_SIL.SIL_REV : Fld := ⟨GLB_SIL.ofs, 0, 16⟩
/-- GLB_SERIAL, PWR domain. -/
def GLB_SERIAL.ofs : Nat := 0x8
/-- GLB_RESET, DEV domain. -/
def GLB_RESET.ofs : Nat := 0x10
@[inherit_doc GLB_RESET.ofs] def GLB_RESET.SOFT : Fld := ⟨GLB_RESET.ofs, 0, 1⟩
@[inherit_doc GLB_RESET.ofs] def GLB_RESET.CONFIRM : Fld := ⟨GLB_RESET.ofs, 8, 8⟩
/-- GLB_RESET_CAUSE, PWR domain. -/
def GLB_RESET_CAUSE.ofs : Nat := 0x14
@[inherit_doc GLB_RESET_CAUSE.ofs] def GLB_RESET_CAUSE.CAUSE : Fld := ⟨GLB_RESET_CAUSE.ofs, 0, 4⟩
@[inherit_doc GLB_RESET_CAUSE.ofs] def GLB_RESET_CAUSE.DEV_RESETS : Fld := ⟨GLB_RESET_CAUSE.ofs, 16, 16⟩
/-- GLB_BLK_RST, DEV domain. -/
def GLB_BLK_RST.ofs : Nat := 0x18
@[inherit_doc GLB_BLK_RST.ofs] def GLB_BLK_RST.BLOCKS : Fld := ⟨GLB_BLK_RST.ofs, 0, 13⟩
/-- GLB_INST_RST, DEV domain. -/
def GLB_INST_RST.ofs : Nat := 0x1C
@[inherit_doc GLB_INST_RST.ofs] def GLB_INST_RST.BLOCK : Fld := ⟨GLB_INST_RST.ofs, 0, 4⟩
@[inherit_doc GLB_INST_RST.ofs] def GLB_INST_RST.INDEX : Fld := ⟨GLB_INST_RST.ofs, 4, 8⟩
@[inherit_doc GLB_INST_RST.ofs] def GLB_INST_RST.GO : Fld := ⟨GLB_INST_RST.ofs, 12, 1⟩
/-- GLB_RST_STATUS, DEV domain. -/
def GLB_RST_STATUS.ofs : Nat := 0x20
@[inherit_doc GLB_RST_STATUS.ofs] def GLB_RST_STATUS.BUSY : Fld := ⟨GLB_RST_STATUS.ofs, 0, 1⟩
@[inherit_doc GLB_RST_STATUS.ofs] def GLB_RST_STATUS.RST_BAD : Fld := ⟨GLB_RST_STATUS.ofs, 1, 1⟩
/-- GLB_SCRATCH, DEV domain. -/
def GLB_SCRATCH.ofs : Nat := 0x24
@[inherit_doc GLB_SCRATCH.ofs] def GLB_SCRATCH.DATA : Fld := ⟨GLB_SCRATCH.ofs, 0, 32⟩
/-- GLB_STAT_CFG, DEV domain. -/
def GLB_STAT_CFG.ofs (p : Nat) : Nat := 0x40 + p * 0x4
@[inherit_doc GLB_STAT_CFG.ofs] def GLB_STAT_CFG.SEL (p : Nat) : Fld := ⟨GLB_STAT_CFG.ofs p, 0, 4⟩
@[inherit_doc GLB_STAT_CFG.ofs] def GLB_STAT_CFG.POL (p : Nat) : Fld := ⟨GLB_STAT_CFG.ofs p, 4, 1⟩
@[inherit_doc GLB_STAT_CFG.ofs] def GLB_STAT_CFG.OD (p : Nat) : Fld := ⟨GLB_STAT_CFG.ofs p, 5, 1⟩
@[inherit_doc GLB_STAT_CFG.ofs] def GLB_STAT_CFG.HOST_LEVEL (p : Nat) : Fld := ⟨GLB_STAT_CFG.ofs p, 6, 1⟩

end Sys2Proof.Machine
end

