-- ==== Sys2Proof/Machine/RegMapGnss.lean ====
section
/-! DEFINITION. The register map of the GNSS block, from the register tables of 08_gnss_baseband.md.
One descriptor per register entry (offset, reset domain, fields with access code and the two defaults of R19) and one
named offset `NAME.ofs` and one named field `NAME.FIELD` per entry of the tables. -/

namespace Sys2Proof.Machine

/-- Register descriptors of the GNSS block, part 0. -/
def regsGnss0 : List RegDesc := [
  ⟨"GNSS_CFG", 0x200000, [], false, .blk, .gnss, none,
    [⟨0, 5, .rw, (.val 0), (.val 0x1f)⟩,
     ⟨5, 7, .rw, (.val 0xa), (.val 0xa)⟩,
     ⟨12, 2, .rw, (.val 0), (.val 1)⟩]⟩,
  ⟨"GNSS_STATUS", 0x200004, [], false, .blk, .gnss, none,
    [⟨0, 1, .ro, (.val 0), .live⟩,
     ⟨8, 9, .ro, (.val 0), .live⟩]⟩,
  ⟨"GNSS_FLAGS", 0x200008, [], false, .blk, .gnss, none,
    [⟨0, 1, .w1c, (.val 0), (.val 0)⟩,
     ⟨1, 1, .w1c, (.val 0), (.val 0)⟩,
     ⟨2, 1, .w1c, (.val 0), (.val 0)⟩,
     ⟨3, 1, .w1c, (.val 0), (.val 0)⟩,
     ⟨4, 1, .w1c, (.val 0), (.val 0)⟩]⟩,
  ⟨"GNSS_CNT", 0x20000C, [], false, .blk, .gnss, none,
    [⟨0, 32, .rc, (.val 0), (.val 0)⟩]⟩,
  ⟨"GNSS_CHECK_CFG", 0x200010, [], false, .blk, .gnss, none,
    [⟨0, 16, .rw, (.val 0x3c), (.val 0x3c)⟩,
     ⟨16, 16, .rw, (.val 0x1e), (.val 0x1e)⟩]⟩,
  ⟨"GNSS_CLK_CFG", 0x200014, [], false, .blk, .gnss, none,
    [⟨0, 16, .rw, (.val 0x19), (.val 0x19)⟩,
     ⟨16, 16, .rw, (.val 0x64), (.val 0x64)⟩]⟩,
  ⟨"GNSS_CLK_TIME", 0x200018, [], false, .blk, .gnss, none,
    [⟨0, 16, .rw, (.val 0x21c0), (.val 0x21c0)⟩,
     ⟨16, 16, .rw, (.val 0x168), (.val 0x168)⟩]⟩,
  ⟨"GNSS_MISC", 0x20001C, [], false, .blk, .gnss, none,
    [⟨0, 16, .rw, (.val 0x3c), (.val 0x3c)⟩,
     ⟨16, 8, .rw, (.val 0x37), (.val 0x37)⟩]⟩,
  ⟨"GNSS_SNAP_CFG", 0x200030, [], false, .blk, .gnss, none,
    [⟨0, 4, .rw, (.val 0), (.val 0)⟩,
     ⟨16, 16, .rw, (.val 0x3e8), (.val 0x3e8)⟩]⟩,
  ⟨"GNSS_SNAP_START_SEC", 0x200038, [], true, .blk, .gnss, none,
    [⟨0, 64, .rw, (.val 0), (.val 0)⟩]⟩]

/-- Register descriptors of the GNSS block, part 1. -/
def regsGnss1 : List RegDesc := [
  ⟨"GNSS_SNAP_START_NS", 0x200040, [], false, .blk, .gnss, none,
    [⟨0, 32, .rw, (.val 0), (.val 0)⟩]⟩,
  ⟨"GNSS_SNAP_CTRL", 0x200044, [], false, .blk, .gnss, none,
    [⟨0, 1, .wo, (.val 0), (.val 0)⟩,
     ⟨1, 1, .wo, (.val 0), (.val 0)⟩,
     ⟨2, 1, .wo, (.val 0), (.val 0)⟩]⟩,
  ⟨"GNSS_SNAP_STATUS", 0x200048, [], false, .blk, .gnss, none,
    [⟨0, 1, .ro, (.val 0), .live⟩,
     ⟨1, 3, .ro, (.val 0), .live⟩,
     ⟨16, 16, .ro, (.val 0), .live⟩]⟩,
  ⟨"GNSS_PORT_CFG", 0x200100, [(0x40, 4)], false, .inst, .gnss, some .gnssPort,
    [⟨0, 1, .rw, (.val 0), (.val 0)⟩,
     ⟨1, 1, .rw, (.val 0), (.val 1)⟩,
     ⟨2, 1, .rw, (.val 0), (.val 0)⟩,
     ⟨3, 1, .rw, (.val 0), (.val 0)⟩,
     ⟨8, 9, .rw, (.val 0), (.val 0x40)⟩]⟩,
  ⟨"GNSS_PORT_RATE", 0x200104, [(0x40, 4)], false, .inst, .gnss, some .gnssPort,
    [⟨0, 17, .rw, (.val 0), (.val 0x186a0)⟩]⟩,
  ⟨"GNSS_PORT_CENTRE", 0x200108, [(0x40, 4)], true, .inst, .gnss, some .gnssPort,
    [⟨0, 64, .rw, (.val 0), (.val 0x1707459b100)⟩]⟩,
  ⟨"GNSS_PORT_DLY_PH", 0x200110, [(0x40, 4)], true, .inst, .gnss, some .gnssPort,
    [⟨0, 64, .rw, (.val 0), (.val 0)⟩]⟩,
  ⟨"GNSS_PORT_STATUS", 0x200118, [(0x40, 4)], false, .inst, .gnss, some .gnssPort,
    [⟨0, 1, .ro, (.val 0), .live⟩,
     ⟨1, 1, .ro, (.val 0), .live⟩,
     ⟨8, 9, .ro, (.val 0), .live⟩,
     ⟨24, 8, .ro, (.val 0), .live⟩]⟩,
  ⟨"GNSS_PORT_JAM", 0x20011C, [(0x40, 4)], false, .inst, .gnss, some .gnssPort,
    [⟨0, 8, .rw, (.val 0x18), (.val 0x18)⟩,
     ⟨16, 16, .rc, (.val 0), (.val 0)⟩]⟩,
  ⟨"GNSS_SOL_CFG", 0x200200, [(0x80, 4)], false, .inst, .gnss, some .solution,
    [⟨0, 1, .rw, (.val 0), (.val 0)⟩,
     ⟨1, 4, .rw, (.val 0), (.val 0)⟩,
     ⟨5, 1, .rw, (.val 0), (.val 0)⟩,
     ⟨6, 1, .rw, (.val 0), (.val 0)⟩,
     ⟨7, 1, .wo, (.val 0), (.val 0)⟩,
     ⟨8, 1, .wo, (.val 0), (.val 0)⟩,
     ⟨16, 16, .rw, (.val 0xe10), (.val 0xe10)⟩]⟩]

/-- Register descriptors of the GNSS block, part 2. -/
def regsGnss2 : List RegDesc := [
  ⟨"GNSS_SOL_STATUS", 0x200204, [(0x80, 4)], false, .inst, .gnss, some .solution,
    [⟨0, 3, .ro, (.val 0), .live⟩,
     ⟨3, 1, .ro, (.val 0), .live⟩,
     ⟨4, 1, .ro, (.val 0), .live⟩,
     ⟨5, 1, .ro, (.val 0), .live⟩,
     ⟨6, 4, .ro, (.val 0), .live⟩,
     ⟨10, 4, .ro, (.val 0), .live⟩,
     ⟨16, 8, .ro, (.val 0), .live⟩]⟩,
  ⟨"GNSS_SOL_FLAGS", 0x200208, [(0x80, 4)], false, .inst, .gnss, some .solution,
    [⟨0, 1, .w1c, (.val 0), (.val 0)⟩,
     ⟨1, 1, .w1c, (.val 0), (.val 0)⟩,
     ⟨2, 1, .w1c, (.val 0), (.val 0)⟩,
     ⟨3, 1, .w1c, (.val 0), (.val 0)⟩,
     ⟨4, 1, .w1c, (.val 0), (.val 0)⟩,
     ⟨5, 1, .w1c, (.val 0), (.val 0)⟩,
     ⟨6, 1, .w1c, (.val 0), (.val 0)⟩,
     ⟨7, 1, .w1c, (.val 0), (.val 0)⟩]⟩,
  ⟨"GNSS_SOL_CNT", 0x20020C, [(0x80, 4)], false, .inst, .gnss, some .solution,
    [⟨0, 16, .rc, (.val 0), (.val 0)⟩,
     ⟨16, 16, .rc, (.val 0), (.val 0)⟩]⟩,
  ⟨"GNSS_SOL_X_PH", 0x200210, [(0x80, 4)], true, .inst, .gnss, some .solution,
    [⟨0, 64, .ro, (.val 0), .live⟩]⟩,
  ⟨"GNSS_SOL_POS_X", 0x200218, [(0x80, 4)], true, .inst, .gnss, some .solution,
    [⟨0, 64, .rw, (.val 0), (.val 0)⟩]⟩,
  ⟨"GNSS_SOL_POS_Y", 0x200220, [(0x80, 4)], true, .inst, .gnss, some .solution,
    [⟨0, 64, .rw, (.val 0), (.val 0)⟩]⟩,
  ⟨"GNSS_SOL_POS_Z", 0x200228, [(0x80, 4)], true, .inst, .gnss, some .solution,
    [⟨0, 64, .rw, (.val 0), (.val 0)⟩]⟩,
  ⟨"GNSS_SOL_BIAS_PH", 0x200230, [(0x80, 4), (0x8, 4)], true, .inst, .gnss, some .solution,
    [⟨0, 64, .rw, (.val 0), (.val 0)⟩]⟩,
  ⟨"GNSS_SOL_RES_PH", 0x200250, [(0x80, 4), (0x8, 4)], true, .inst, .gnss, some .solution,
    [⟨0, 64, .ro, (.val 0), .live⟩]⟩,
  ⟨"GNSS_TK_STATUS", 0x201000, [(0x10, 256)], false, .inst, .gnss, some .track,
    [⟨0, 3, .ro, (.val 0), .live⟩,
     ⟨3, 3, .ro, (.val 0), .live⟩,
     ⟨6, 6, .ro, (.val 0), .live⟩,
     ⟨12, 4, .ro, (.val 0), .live⟩,
     ⟨16, 2, .ro, (.val 0), .live⟩,
     ⟨18, 1, .ro, (.val 0), .live⟩,
     ⟨19, 1, .ro, (.val 0), .live⟩,
     ⟨24, 8, .ro, (.val 0), .live⟩]⟩]

/-- Register descriptors of the GNSS block, part 3. -/
def regsGnss3 : List RegDesc := [
  ⟨"GNSS_TK_CMD", 0x201004, [(0x10, 256)], false, .inst, .gnss, some .track,
    [⟨0, 3, .wo, (.val 0), (.val 0)⟩,
     ⟨3, 6, .wo, (.val 0), (.val 0)⟩,
     ⟨9, 4, .wo, (.val 0), (.val 0)⟩,
     ⟨13, 1, .wo, (.val 0), (.val 0)⟩,
     ⟨14, 1, .wo, (.val 0), (.val 0)⟩,
     ⟨15, 2, .wo, (.val 0), (.val 0)⟩]⟩]

/-- Every register of the GNSS block. -/
def regsGnss : List RegDesc := regsGnss0 ++ regsGnss1 ++ regsGnss2 ++ regsGnss3

/-- GNSS_CFG, BLK domain. -/
def GNSS_CFG.ofs : Nat := 0x200000
@[inherit_doc GNSS_CFG.ofs] def GNSS_CFG.SYS_EN : Fld := ⟨GNSS_CFG.ofs, 0, 5⟩
@[inherit_doc GNSS_CFG.ofs] def GNSS_CFG.ELEV_MASK : Fld := ⟨GNSS_CFG.ofs, 5, 7⟩
@[inherit_doc GNSS_CFG.ofs] def GNSS_CFG.OBS_RATE : Fld := ⟨GNSS_CFG.ofs, 12, 2⟩
/-- GNSS_STATUS, BLK domain. -/
def GNSS_STATUS.ofs : Nat := 0x200004
@[inherit_doc GNSS_STATUS.ofs] def GNSS_STATUS.READY : Fld := ⟨GNSS_STATUS.ofs, 0, 1⟩
@[inherit_doc GNSS_STATUS.ofs] def GNSS_STATUS.TK_USED : Fld := ⟨GNSS_STATUS.ofs, 8, 9⟩
/-- GNSS_FLAGS, BLK domain. -/
def GNSS_FLAGS.ofs : Nat := 0x200008
@[inherit_doc GNSS_FLAGS.ofs] def GNSS_FLAGS.INT_LATE : Fld := ⟨GNSS_FLAGS.ofs, 0, 1⟩
@[inherit_doc GNSS_FLAGS.ofs] def GNSS_FLAGS.SNAP_DONE : Fld := ⟨GNSS_FLAGS.ofs, 1, 1⟩
@[inherit_doc GNSS_FLAGS.ofs] def GNSS_FLAGS.SNAP_REFUSED : Fld := ⟨GNSS_FLAGS.ofs, 2, 1⟩
@[inherit_doc GNSS_FLAGS.ofs] def GNSS_FLAGS.CFG_BAD : Fld := ⟨GNSS_FLAGS.ofs, 3, 1⟩
@[inherit_doc GNSS_FLAGS.ofs] def GNSS_FLAGS.CLK_FAULT : Fld := ⟨GNSS_FLAGS.ofs, 4, 1⟩
/-- GNSS_CNT, BLK domain. -/
def GNSS_CNT.ofs : Nat := 0x20000C
@[inherit_doc GNSS_CNT.ofs] def GNSS_CNT.INT_LATE : Fld := ⟨GNSS_CNT.ofs, 0, 32⟩
/-- GNSS_CHECK_CFG, BLK domain. -/
def GNSS_CHECK_CFG.ofs : Nat := 0x200010
@[inherit_doc GNSS_CHECK_CFG.ofs] def GNSS_CHECK_CFG.SIG_TOL : Fld := ⟨GNSS_CHECK_CFG.ofs, 0, 16⟩
@[inherit_doc GNSS_CHECK_CFG.ofs] def GNSS_CHECK_CFG.SYS_TOL : Fld := ⟨GNSS_CHECK_CFG.ofs, 16, 16⟩
/-- GNSS_CLK_CFG, BLK domain. -/
def GNSS_CLK_CFG.ofs : Nat := 0x200014
@[inherit_doc GNSS_CLK_CFG.ofs] def GNSS_CLK_CFG.CLK_TOL : Fld := ⟨GNSS_CLK_CFG.ofs, 0, 16⟩
@[inherit_doc GNSS_CLK_CFG.ofs] def GNSS_CLK_CFG.CLK_TOL_TB : Fld := ⟨GNSS_CLK_CFG.ofs, 16, 16⟩
/-- GNSS_CLK_TIME, BLK domain. -/
def GNSS_CLK_TIME.ofs : Nat := 0x200018
@[inherit_doc GNSS_CLK_TIME.ofs] def GNSS_CLK_TIME.CLK_FIT : Fld := ⟨GNSS_CLK_TIME.ofs, 0, 16⟩
@[inherit_doc GNSS_CLK_TIME.ofs] def GNSS_CLK_TIME.CLK_MIN : Fld := ⟨GNSS_CLK_TIME.ofs, 16, 16⟩
/-- GNSS_MISC, BLK domain. -/
def GNSS_MISC.ofs : Nat := 0x20001C
@[inherit_doc GNSS_MISC.ofs] def GNSS_MISC.REINCL : Fld := ⟨GNSS_MISC.ofs, 0, 16⟩
@[inherit_doc GNSS_MISC.ofs] def GNSS_MISC.CN0_MAX : Fld := ⟨GNSS_MISC.ofs, 16, 8⟩
/-- GNSS_SNAP_CFG, BLK domain. -/
def GNSS_SNAP_CFG.ofs : Nat := 0x200030
@[inherit_doc GNSS_SNAP_CFG.ofs] def GNSS_SNAP_CFG.PORTS : Fld := ⟨GNSS_SNAP_CFG.ofs, 0, 4⟩
@[inherit_doc GNSS_SNAP_CFG.ofs] def GNSS_SNAP_CFG.DURATION : Fld := ⟨GNSS_SNAP_CFG.ofs, 16, 16⟩
/-- GNSS_SNAP_START_SEC, BLK domain. -/
def GNSS_SNAP_START_SEC.ofs : Nat := 0x200038
/-- GNSS_SNAP_START_NS, BLK domain. -/
def GNSS_SNAP_START_NS.ofs : Nat := 0x200040
@[inherit_doc GNSS_SNAP_START_NS.ofs] def GNSS_SNAP_START_NS.NS : Fld := ⟨GNSS_SNAP_START_NS.ofs, 0, 32⟩
/-- GNSS_SNAP_CTRL, BLK domain. -/
def GNSS_SNAP_CTRL.ofs : Nat := 0x200044
@[inherit_doc GNSS_SNAP_CTRL.ofs] def GNSS_SNAP_CTRL.GO_NOW : Fld := ⟨GNSS_SNAP_CTRL.ofs, 0, 1⟩
@[inherit_doc GNSS_SNAP_CTRL.ofs] def GNSS_SNAP_CTRL.GO_AT : Fld := ⟨GNSS_SNAP_CTRL.ofs, 1, 1⟩
@[inherit_doc GNSS_SNAP_CTRL.ofs] def GNSS_SNAP_CTRL.ABORT : Fld := ⟨GNSS_SNAP_CTRL.ofs, 2, 1⟩
/-- GNSS_SNAP_STATUS, BLK domain. -/
def GNSS_SNAP_STATUS.ofs : Nat := 0x200048
@[inherit_doc GNSS_SNAP_STATUS.ofs] def GNSS_SNAP_STATUS.BUSY : Fld := ⟨GNSS_SNAP_STATUS.ofs, 0, 1⟩
@[inherit_doc GNSS_SNAP_STATUS.ofs] def GNSS_SNAP_STATUS.REASON : Fld := ⟨GNSS_SNAP_STATUS.ofs, 1, 3⟩
@[inherit_doc GNSS_SNAP_STATUS.ofs] def GNSS_SNAP_STATUS.SEQ : Fld := ⟨GNSS_SNAP_STATUS.ofs, 16, 16⟩
/-- GNSS_PORT_CFG, INST domain. -/
def GNSS_PORT_CFG.ofs (n : Nat) : Nat := 0x200100 + n * 0x40
@[inherit_doc GNSS_PORT_CFG.ofs] def GNSS_PORT_CFG.EN (n : Nat) : Fld := ⟨GNSS_PORT_CFG.ofs n, 0, 1⟩
@[inherit_doc GNSS_PORT_CFG.ofs] def GNSS_PORT_CFG.FMT (n : Nat) : Fld := ⟨GNSS_PORT_CFG.ofs n, 1, 1⟩
@[inherit_doc GNSS_PORT_CFG.ofs] def GNSS_PORT_CFG.IQ_SWAP (n : Nat) : Fld := ⟨GNSS_PORT_CFG.ofs n, 2, 1⟩
@[inherit_doc GNSS_PORT_CFG.ofs] def GNSS_PORT_CFG.Q_INV (n : Nat) : Fld := ⟨GNSS_PORT_CFG.ofs n, 3, 1⟩
@[inherit_doc GNSS_PORT_CFG.ofs] def GNSS_PORT_CFG.TK_QUOTA (n : Nat) : Fld := ⟨GNSS_PORT_CFG.ofs n, 8, 9⟩
/-- GNSS_PORT_RATE, INST domain. -/
def GNSS_PORT_RATE.ofs (n : Nat) : Nat := 0x200104 + n * 0x40
@[inherit_doc GNSS_PORT_RATE.ofs] def GNSS_PORT_RATE.RATE (n : Nat) : Fld := ⟨GNSS_PORT_RATE.ofs n, 0, 17⟩
/-- GNSS_PORT_CENTRE, INST domain. -/
def GNSS_PORT_CENTRE.ofs (n : Nat) : Nat := 0x200108 + n * 0x40
/-- GNSS_PORT_DLY_PH, INST domain. -/
def GNSS_PORT_DLY_PH.ofs (n : Nat) : Nat := 0x200110 + n * 0x40
/-- GNSS_PORT_STATUS, INST domain. -/
def GNSS_PORT_STATUS.ofs (n : Nat) : Nat := 0x200118 + n * 0x40
@[inherit_doc GNSS_PORT_STATUS.ofs] def GNSS_PORT_STATUS.CLK_OK (n : Nat) : Fld := ⟨GNSS_PORT_STATUS.ofs n, 0, 1⟩
@[inherit_doc GNSS_PORT_STATUS.ofs] def GNSS_PORT_STATUS.JAM (n : Nat) : Fld := ⟨GNSS_PORT_STATUS.ofs n, 1, 1⟩
@[inherit_doc GNSS_PORT_STATUS.ofs] def GNSS_PORT_STATUS.TK_USED (n : Nat) : Fld := ⟨GNSS_PORT_STATUS.ofs n, 8, 9⟩
@[inherit_doc GNSS_PORT_STATUS.ofs] def GNSS_PORT_STATUS.NOISE (n : Nat) : Fld := ⟨GNSS_PORT_STATUS.ofs n, 24, 8⟩
/-- GNSS_PORT_JAM, INST domain. -/
def GNSS_PORT_JAM.ofs (n : Nat) : Nat := 0x20011C + n * 0x40
@[inherit_doc GNSS_PORT_JAM.ofs] def GNSS_PORT_JAM.JAM_THR (n : Nat) : Fld := ⟨GNSS_PORT_JAM.ofs n, 0, 8⟩
@[inherit_doc GNSS_PORT_JAM.ofs] def GNSS_PORT_JAM.CLK_LOSS (n : Nat) : Fld := ⟨GNSS_PORT_JAM.ofs n, 16, 16⟩
/-- GNSS_SOL_CFG, INST domain. -/
def GNSS_SOL_CFG.ofs (s : Nat) : Nat := 0x200200 + s * 0x80
@[inherit_doc GNSS_SOL_CFG.ofs] def GNSS_SOL_CFG.EN (s : Nat) : Fld := ⟨GNSS_SOL_CFG.ofs s, 0, 1⟩
@[inherit_doc GNSS_SOL_CFG.ofs] def GNSS_SOL_CFG.PORTS (s : Nat) : Fld := ⟨GNSS_SOL_CFG.ofs s, 1, 4⟩
@[inherit_doc GNSS_SOL_CFG.ofs] def GNSS_SOL_CFG.POS_MODE (s : Nat) : Fld := ⟨GNSS_SOL_CFG.ofs s, 5, 1⟩
@[inherit_doc GNSS_SOL_CFG.ofs] def GNSS_SOL_CFG.TREF (s : Nat) : Fld := ⟨GNSS_SOL_CFG.ofs s, 6, 1⟩
@[inherit_doc GNSS_SOL_CFG.ofs] def GNSS_SOL_CFG.RESURVEY (s : Nat) : Fld := ⟨GNSS_SOL_CFG.ofs s, 7, 1⟩
@[inherit_doc GNSS_SOL_CFG.ofs] def GNSS_SOL_CFG.FIT_RESET (s : Nat) : Fld := ⟨GNSS_SOL_CFG.ofs s, 8, 1⟩
@[inherit_doc GNSS_SOL_CFG.ofs] def GNSS_SOL_CFG.SURVEY_TIME (s : Nat) : Fld := ⟨GNSS_SOL_CFG.ofs s, 16, 16⟩
/-- GNSS_SOL_STATUS, INST domain. -/
def GNSS_SOL_STATUS.ofs (s : Nat) : Nat := 0x200204 + s * 0x80
@[inherit_doc GNSS_SOL_STATUS.ofs] def GNSS_SOL_STATUS.VERDICT (s : Nat) : Fld := ⟨GNSS_SOL_STATUS.ofs s, 0, 3⟩
@[inherit_doc GNSS_SOL_STATUS.ofs] def GNSS_SOL_STATUS.CLK_REF (s : Nat) : Fld := ⟨GNSS_SOL_STATUS.ofs s, 3, 1⟩
@[inherit_doc GNSS_SOL_STATUS.ofs] def GNSS_SOL_STATUS.CLK_LEARNING (s : Nat) : Fld := ⟨GNSS_SOL_STATUS.ofs s, 4, 1⟩
@[inherit_doc GNSS_SOL_STATUS.ofs] def GNSS_SOL_STATUS.POS_HELD (s : Nat) : Fld := ⟨GNSS_SOL_STATUS.ofs s, 5, 1⟩
@[inherit_doc GNSS_SOL_STATUS.ofs] def GNSS_SOL_STATUS.SYS_USED (s : Nat) : Fld := ⟨GNSS_SOL_STATUS.ofs s, 6, 4⟩
@[inherit_doc GNSS_SOL_STATUS.ofs] def GNSS_SOL_STATUS.SYS_EXCL (s : Nat) : Fld := ⟨GNSS_SOL_STATUS.ofs s, 10, 4⟩
@[inherit_doc GNSS_SOL_STATUS.ofs] def GNSS_SOL_STATUS.N_USED (s : Nat) : Fld := ⟨GNSS_SOL_STATUS.ofs s, 16, 8⟩
/-- GNSS_SOL_FLAGS, INST domain. -/
def GNSS_SOL_FLAGS.ofs (s : Nat) : Nat := 0x200208 + s * 0x80
@[inherit_doc GNSS_SOL_FLAGS.ofs] def GNSS_SOL_FLAGS.VERDICT_CHANGE (s : Nat) : Fld := ⟨GNSS_SOL_FLAGS.ofs s, 0, 1⟩
@[inherit_doc GNSS_SOL_FLAGS.ofs] def GNSS_SOL_FLAGS.SIG_EXCL (s : Nat) : Fld := ⟨GNSS_SOL_FLAGS.ofs s, 1, 1⟩
@[inherit_doc GNSS_SOL_FLAGS.ofs] def GNSS_SOL_FLAGS.CLK_EXCL (s : Nat) : Fld := ⟨GNSS_SOL_FLAGS.ofs s, 2, 1⟩
@[inherit_doc GNSS_SOL_FLAGS.ofs] def GNSS_SOL_FLAGS.SYS_EXCL_EV (s : Nat) : Fld := ⟨GNSS_SOL_FLAGS.ofs s, 3, 1⟩
@[inherit_doc GNSS_SOL_FLAGS.ofs] def GNSS_SOL_FLAGS.SURVEY_DONE (s : Nat) : Fld := ⟨GNSS_SOL_FLAGS.ofs s, 4, 1⟩
@[inherit_doc GNSS_SOL_FLAGS.ofs] def GNSS_SOL_FLAGS.POWER_ANOM (s : Nat) : Fld := ⟨GNSS_SOL_FLAGS.ofs s, 5, 1⟩
@[inherit_doc GNSS_SOL_FLAGS.ofs] def GNSS_SOL_FLAGS.LEAP_MISMATCH (s : Nat) : Fld := ⟨GNSS_SOL_FLAGS.ofs s, 6, 1⟩
@[inherit_doc GNSS_SOL_FLAGS.ofs] def GNSS_SOL_FLAGS.OFFSET_MISSING (s : Nat) : Fld := ⟨GNSS_SOL_FLAGS.ofs s, 7, 1⟩
/-- GNSS_SOL_CNT, INST domain. -/
def GNSS_SOL_CNT.ofs (s : Nat) : Nat := 0x20020C + s * 0x80
@[inherit_doc GNSS_SOL_CNT.ofs] def GNSS_SOL_CNT.EXCL_SIG (s : Nat) : Fld := ⟨GNSS_SOL_CNT.ofs s, 0, 16⟩
@[inherit_doc GNSS_SOL_CNT.ofs] def GNSS_SOL_CNT.EXCL_CLK (s : Nat) : Fld := ⟨GNSS_SOL_CNT.ofs s, 16, 16⟩
/-- GNSS_SOL_X_PH, INST domain. -/
def GNSS_SOL_X_PH.ofs (s : Nat) : Nat := 0x200210 + s * 0x80
/-- GNSS_SOL_POS_X, INST domain. -/
def GNSS_SOL_POS_X.ofs (s : Nat) : Nat := 0x200218 + s * 0x80
/-- GNSS_SOL_POS_Y, INST domain. -/
def GNSS_SOL_POS_Y.ofs (s : Nat) : Nat := 0x200220 + s * 0x80
/-- GNSS_SOL_POS_Z, INST domain. -/
def GNSS_SOL_POS_Z.ofs (s : Nat) : Nat := 0x200228 + s * 0x80
/-- GNSS_SOL_BIAS_PH, INST domain. -/
def GNSS_SOL_BIAS_PH.ofs (s : Nat) (k : Nat) : Nat := 0x200230 + s * 0x80 + k * 0x8
/-- GNSS_SOL_RES_PH, INST domain. -/
def GNSS_SOL_RES_PH.ofs (s : Nat) (k : Nat) : Nat := 0x200250 + s * 0x80 + k * 0x8
/-- GNSS_TK_STATUS, INST domain. -/
def GNSS_TK_STATUS.ofs (k : Nat) : Nat := 0x201000 + k * 0x10
@[inherit_doc GNSS_TK_STATUS.ofs] def GNSS_TK_STATUS.STATE (k : Nat) : Fld := ⟨GNSS_TK_STATUS.ofs k, 0, 3⟩
@[inherit_doc GNSS_TK_STATUS.ofs] def GNSS_TK_STATUS.SYS (k : Nat) : Fld := ⟨GNSS_TK_STATUS.ofs k, 3, 3⟩
@[inherit_doc GNSS_TK_STATUS.ofs] def GNSS_TK_STATUS.SV (k : Nat) : Fld := ⟨GNSS_TK_STATUS.ofs k, 6, 6⟩
@[inherit_doc GNSS_TK_STATUS.ofs] def GNSS_TK_STATUS.SIG (k : Nat) : Fld := ⟨GNSS_TK_STATUS.ofs k, 12, 4⟩
@[inherit_doc GNSS_TK_STATUS.ofs] def GNSS_TK_STATUS.PORT (k : Nat) : Fld := ⟨GNSS_TK_STATUS.ofs k, 16, 2⟩
@[inherit_doc GNSS_TK_STATUS.ofs] def GNSS_TK_STATUS.EXCL (k : Nat) : Fld := ⟨GNSS_TK_STATUS.ofs k, 18, 1⟩
@[inherit_doc GNSS_TK_STATUS.ofs] def GNSS_TK_STATUS.PINNED (k : Nat) : Fld := ⟨GNSS_TK_STATUS.ofs k, 19, 1⟩
@[inherit_doc GNSS_TK_STATUS.ofs] def GNSS_TK_STATUS.CN0 (k : Nat) : Fld := ⟨GNSS_TK_STATUS.ofs k, 24, 8⟩
/-- GNSS_TK_CMD, INST domain. -/
def GNSS_TK_CMD.ofs (k : Nat) : Nat := 0x201004 + k * 0x10
@[inherit_doc GNSS_TK_CMD.ofs] def GNSS_TK_CMD.SYS (k : Nat) : Fld := ⟨GNSS_TK_CMD.ofs k, 0, 3⟩
@[inherit_doc GNSS_TK_CMD.ofs] def GNSS_TK_CMD.SV (k : Nat) : Fld := ⟨GNSS_TK_CMD.ofs k, 3, 6⟩
@[inherit_doc GNSS_TK_CMD.ofs] def GNSS_TK_CMD.SIG (k : Nat) : Fld := ⟨GNSS_TK_CMD.ofs k, 9, 4⟩
@[inherit_doc GNSS_TK_CMD.ofs] def GNSS_TK_CMD.PIN (k : Nat) : Fld := ⟨GNSS_TK_CMD.ofs k, 13, 1⟩
@[inherit_doc GNSS_TK_CMD.ofs] def GNSS_TK_CMD.RELEASE (k : Nat) : Fld := ⟨GNSS_TK_CMD.ofs k, 14, 1⟩
@[inherit_doc GNSS_TK_CMD.ofs] def GNSS_TK_CMD.PORT (k : Nat) : Fld := ⟨GNSS_TK_CMD.ofs k, 15, 2⟩

end Sys2Proof.Machine
end

