-- ==== Sys2Proof/Machine/RegMapHif.lean ====
section
/-! DEFINITION. The register map of the HIF block, from the register tables of 21_host_interface.md.
One descriptor per register entry (offset, reset domain, fields with access code and the two defaults of R19) and one
named offset `NAME.ofs` and one named field `NAME.FIELD` per entry of the tables. -/

namespace Sys2Proof.Machine

/-- Register descriptors of the HIF block, part 0. -/
def regsHif0 : List RegDesc := [
  ⟨"HIF_STATUS", 0x780000, [], false, .dev, .hif, none,
    [⟨0, 1, .ro, (.val 0), .live⟩,
     ⟨1, 3, .ro, .live, .live⟩,
     ⟨4, 4, .ro, .live, .live⟩]⟩,
  ⟨"HIF_FLAGS", 0x780004, [], false, .dev, .hif, none,
    [⟨0, 1, .w1c, (.val 0), (.val 0)⟩,
     ⟨1, 1, .w1c, (.val 0), (.val 0)⟩,
     ⟨2, 1, .w1c, (.val 0), (.val 0)⟩,
     ⟨3, 1, .w1c, (.val 0), (.val 0)⟩,
     ⟨4, 1, .w1c, (.val 0), (.val 0)⟩]⟩,
  ⟨"HIF_UNMAPPED", 0x780008, [], false, .dev, .hif, none,
    [⟨0, 16, .rc, (.val 0), (.val 0)⟩,
     ⟨16, 16, .rc, (.val 0), (.val 0)⟩]⟩,
  ⟨"HIF_VB_KEY_W", 0x780010, [(0x4, 4)], false, .dev, .hif, none,
    [⟨0, 32, .rw, (.val 0), (.val 0)⟩]⟩,
  ⟨"HIF_VB_CMD", 0x780020, [], false, .dev, .hif, none,
    [⟨0, 22, .rw, (.val 0), (.val 0)⟩,
     ⟨22, 1, .rw, (.val 0), (.val 0)⟩,
     ⟨23, 1, .rw, (.val 0), (.val 0)⟩,
     ⟨24, 1, .wo, (.val 0), (.val 0)⟩]⟩,
  ⟨"HIF_VB_RES", 0x780024, [], false, .dev, .hif, none,
    [⟨0, 20, .ro, (.val 0), .live⟩,
     ⟨20, 2, .ro, (.val 0), .live⟩,
     ⟨22, 1, .ro, (.val 0), .live⟩,
     ⟨23, 1, .ro, (.val 0), .live⟩]⟩,
  ⟨"HIF_VB_ENTRY", 0x780028, [], true, .dev, .hif, none,
    [⟨0, 64, .ro, (.val 0), .live⟩]⟩,
  ⟨"HIF_Q_BASE", 0x781000, [(0x40, 32)], true, .dev, .hif, none,
    [⟨0, 64, .rw, (.val 0), (.val 0)⟩]⟩,
  ⟨"HIF_Q_WB", 0x781008, [(0x40, 32)], true, .dev, .hif, none,
    [⟨0, 64, .rw, (.val 0), (.val 0)⟩]⟩,
  ⟨"HIF_Q_CFG", 0x781010, [(0x40, 32)], false, .dev, .hif, none,
    [⟨0, 1, .rw, (.val 0), (.val 0)⟩,
     ⟨1, 5, .rw, (.val 6), (.val 6)⟩,
     ⟨6, 1, .w1c, (.val 0), (.val 0)⟩]⟩]

/-- Register descriptors of the HIF block, part 1. -/
def regsHif1 : List RegDesc := [
  ⟨"HIF_Q_HEAD", 0x781014, [(0x40, 32)], false, .dev, .hif, none,
    [⟨0, 32, .ro, (.val 0), .live⟩]⟩,
  ⟨"HIF_Q_TAIL", 0x781018, [(0x40, 32)], false, .dev, .hif, none,
    [⟨0, 32, .rw, (.val 0), (.val 0)⟩]⟩,
  ⟨"HIF_Q_IRQ", 0x78101C, [(0x40, 32)], false, .dev, .hif, none,
    [⟨0, 16, .rw, (.val 1), (.val 1)⟩,
     ⟨16, 16, .rw, (.val 0), (.val 0)⟩]⟩,
  ⟨"HIF_Q_CNT", 0x781020, [(0x40, 32)], false, .dev, .hif, none,
    [⟨0, 16, .rc, (.val 0), (.val 0)⟩,
     ⟨16, 16, .rc, (.val 0), (.val 0)⟩]⟩,
  ⟨"HIF_Q_ELEM", 0x781024, [(0x40, 32)], false, .dev, .hif, none,
    [⟨0, 32, .rc, (.val 0), (.val 0)⟩]⟩]

/-- Every register of the HIF block. -/
def regsHif : List RegDesc := regsHif0 ++ regsHif1

/-- HIF_STATUS, DEV domain. -/
def HIF_STATUS.ofs : Nat := 0x780000
@[inherit_doc HIF_STATUS.ofs] def HIF_STATUS.READY : Fld := ⟨HIF_STATUS.ofs, 0, 1⟩
@[inherit_doc HIF_STATUS.ofs] def HIF_STATUS.SPEED : Fld := ⟨HIF_STATUS.ofs, 1, 3⟩
@[inherit_doc HIF_STATUS.ofs] def HIF_STATUS.WIDTH : Fld := ⟨HIF_STATUS.ofs, 4, 4⟩
/-- HIF_FLAGS, DEV domain. -/
def HIF_FLAGS.ofs : Nat := 0x780004
@[inherit_doc HIF_FLAGS.ofs] def HIF_FLAGS.UNMAPPED : Fld := ⟨HIF_FLAGS.ofs, 0, 1⟩
@[inherit_doc HIF_FLAGS.ofs] def HIF_FLAGS.ACCESS_BAD : Fld := ⟨HIF_FLAGS.ofs, 1, 1⟩
@[inherit_doc HIF_FLAGS.ofs] def HIF_FLAGS.Q_ERR : Fld := ⟨HIF_FLAGS.ofs, 2, 1⟩
@[inherit_doc HIF_FLAGS.ofs] def HIF_FLAGS.DROP : Fld := ⟨HIF_FLAGS.ofs, 3, 1⟩
@[inherit_doc HIF_FLAGS.ofs] def HIF_FLAGS.BAD_DESC : Fld := ⟨HIF_FLAGS.ofs, 4, 1⟩
/-- HIF_UNMAPPED, DEV domain. -/
def HIF_UNMAPPED.ofs : Nat := 0x780008
@[inherit_doc HIF_UNMAPPED.ofs] def HIF_UNMAPPED.WRITES : Fld := ⟨HIF_UNMAPPED.ofs, 0, 16⟩
@[inherit_doc HIF_UNMAPPED.ofs] def HIF_UNMAPPED.ACCESS_BAD : Fld := ⟨HIF_UNMAPPED.ofs, 16, 16⟩
/-- HIF_VB_KEY_W, DEV domain. -/
def HIF_VB_KEY_W.ofs (w : Nat) : Nat := 0x780010 + w * 0x4
@[inherit_doc HIF_VB_KEY_W.ofs] def HIF_VB_KEY_W.OCTETS (w : Nat) : Fld := ⟨HIF_VB_KEY_W.ofs w, 0, 32⟩
/-- HIF_VB_CMD, DEV domain. -/
def HIF_VB_CMD.ofs : Nat := 0x780020
@[inherit_doc HIF_VB_CMD.ofs] def HIF_VB_CMD.INDEX : Fld := ⟨HIF_VB_CMD.ofs, 0, 22⟩
@[inherit_doc HIF_VB_CMD.ofs] def HIF_VB_CMD.V6 : Fld := ⟨HIF_VB_CMD.ofs, 22, 1⟩
@[inherit_doc HIF_VB_CMD.ofs] def HIF_VB_CMD.OP : Fld := ⟨HIF_VB_CMD.ofs, 23, 1⟩
@[inherit_doc HIF_VB_CMD.ofs] def HIF_VB_CMD.GO : Fld := ⟨HIF_VB_CMD.ofs, 24, 1⟩
/-- HIF_VB_RES, DEV domain. -/
def HIF_VB_RES.ofs : Nat := 0x780024
@[inherit_doc HIF_VB_RES.ofs] def HIF_VB_RES.BUCKET : Fld := ⟨HIF_VB_RES.ofs, 0, 20⟩
@[inherit_doc HIF_VB_RES.ofs] def HIF_VB_RES.WAY : Fld := ⟨HIF_VB_RES.ofs, 20, 2⟩
@[inherit_doc HIF_VB_RES.ofs] def HIF_VB_RES.HIT : Fld := ⟨HIF_VB_RES.ofs, 22, 1⟩
@[inherit_doc HIF_VB_RES.ofs] def HIF_VB_RES.BUSY : Fld := ⟨HIF_VB_RES.ofs, 23, 1⟩
/-- HIF_VB_ENTRY, DEV domain. -/
def HIF_VB_ENTRY.ofs : Nat := 0x780028
/-- HIF_Q_BASE, DEV domain. -/
def HIF_Q_BASE.ofs (q : Nat) : Nat := 0x781000 + q * 0x40
/-- HIF_Q_WB, DEV domain. -/
def HIF_Q_WB.ofs (q : Nat) : Nat := 0x781008 + q * 0x40
/-- HIF_Q_CFG, DEV domain. -/
def HIF_Q_CFG.ofs (q : Nat) : Nat := 0x781010 + q * 0x40
@[inherit_doc HIF_Q_CFG.ofs] def HIF_Q_CFG.EN (q : Nat) : Fld := ⟨HIF_Q_CFG.ofs q, 0, 1⟩
@[inherit_doc HIF_Q_CFG.ofs] def HIF_Q_CFG.SIZE_LOG2 (q : Nat) : Fld := ⟨HIF_Q_CFG.ofs q, 1, 5⟩
@[inherit_doc HIF_Q_CFG.ofs] def HIF_Q_CFG.Q_ERR (q : Nat) : Fld := ⟨HIF_Q_CFG.ofs q, 6, 1⟩
/-- HIF_Q_HEAD, DEV domain. -/
def HIF_Q_HEAD.ofs (q : Nat) : Nat := 0x781014 + q * 0x40
@[inherit_doc HIF_Q_HEAD.ofs] def HIF_Q_HEAD.HEAD (q : Nat) : Fld := ⟨HIF_Q_HEAD.ofs q, 0, 32⟩
/-- HIF_Q_TAIL, DEV domain. -/
def HIF_Q_TAIL.ofs (q : Nat) : Nat := 0x781018 + q * 0x40
@[inherit_doc HIF_Q_TAIL.ofs] def HIF_Q_TAIL.TAIL (q : Nat) : Fld := ⟨HIF_Q_TAIL.ofs q, 0, 32⟩
/-- HIF_Q_IRQ, DEV domain. -/
def HIF_Q_IRQ.ofs (q : Nat) : Nat := 0x78101C + q * 0x40
@[inherit_doc HIF_Q_IRQ.ofs] def HIF_Q_IRQ.THRESH (q : Nat) : Fld := ⟨HIF_Q_IRQ.ofs q, 0, 16⟩
@[inherit_doc HIF_Q_IRQ.ofs] def HIF_Q_IRQ.TIMER (q : Nat) : Fld := ⟨HIF_Q_IRQ.ofs q, 16, 16⟩
/-- HIF_Q_CNT, DEV domain. -/
def HIF_Q_CNT.ofs (q : Nat) : Nat := 0x781020 + q * 0x40
@[inherit_doc HIF_Q_CNT.ofs] def HIF_Q_CNT.DROPS (q : Nat) : Fld := ⟨HIF_Q_CNT.ofs q, 0, 16⟩
@[inherit_doc HIF_Q_CNT.ofs] def HIF_Q_CNT.BAD_DESC (q : Nat) : Fld := ⟨HIF_Q_CNT.ofs q, 16, 16⟩
/-- HIF_Q_ELEM, DEV domain. -/
def HIF_Q_ELEM.ofs (q : Nat) : Nat := 0x781024 + q * 0x40
@[inherit_doc HIF_Q_ELEM.ofs] def HIF_Q_ELEM.COUNT (q : Nat) : Fld := ⟨HIF_Q_ELEM.ofs q, 0, 32⟩

end Sys2Proof.Machine
end

