-- ==== Sys2Proof/Machine/RegMapIrq.lean ====
section
/-! DEFINITION. The register map of the IRQ block, from the register tables of 20_vitrine_and_interrupts.md.
One descriptor per register entry (offset, reset domain, fields with access code and the two defaults of R19) and one
named offset `NAME.ofs` and one named field `NAME.FIELD` per entry of the tables. -/

namespace Sys2Proof.Machine

/-- Register descriptors of the IRQ block, part 0. -/
def regsIrq0 : List RegDesc := [
  ⟨"IRQ_CFG", 0x30000, [], false, .dev, .irq, none,
    [⟨0, 1, .rw, (.val 0), (.val 1)⟩]⟩,
  ⟨"IRQ_EOI", 0x30010, [], false, .dev, .irq, none,
    [⟨0, 6, .wo, (.val 0), (.val 0)⟩]⟩,
  ⟨"IRQ_TEST", 0x30014, [], false, .dev, .irq, none,
    [⟨0, 8, .wo, (.val 0), (.val 0)⟩,
     ⟨8, 1, .wo, (.val 0), (.val 0)⟩]⟩,
  ⟨"IRQ_VEC_ASSERTED", 0x30020, [], true, .dev, .irq, none,
    [⟨0, 64, .ro, (.val 0), .live⟩]⟩,
  ⟨"IRQ_VEC_INSVC", 0x30028, [], true, .dev, .irq, none,
    [⟨0, 64, .ro, (.val 0), .live⟩]⟩,
  ⟨"IRQ_RAW", 0x30100, [(0x4, 8)], false, .dev, .irq, none,
    [⟨0, 32, .w1c, (.val 0), (.val 0)⟩]⟩,
  ⟨"IRQ_EN", 0x30120, [(0x4, 8)], false, .dev, .irq, none,
    [⟨0, 32, .rw, (.val 0), (.val 0)⟩]⟩,
  ⟨"IRQ_PEND", 0x30140, [(0x4, 8)], false, .dev, .irq, none,
    [⟨0, 32, .ro, (.val 0), .live⟩]⟩,
  ⟨"IRQ_MAP", 0x30200, [(0x4, 64)], false, .dev, .irq, none,
    [⟨0, 6, .rw, .index, .index⟩,
     ⟨8, 6, .rw, .index, .index⟩,
     ⟨16, 6, .rw, .index, .index⟩,
     ⟨24, 6, .rw, .index, .index⟩]⟩]

/-- Every register of the IRQ block. -/
def regsIrq : List RegDesc := regsIrq0

/-- IRQ_CFG, DEV domain. -/
def IRQ_CFG.ofs : Nat := 0x30000
@[inherit_doc IRQ_CFG.ofs] def IRQ_CFG.EN : Fld := ⟨IRQ_CFG.ofs, 0, 1⟩
/-- IRQ_EOI, DEV domain. -/
def IRQ_EOI.ofs : Nat := 0x30010
@[inherit_doc IRQ_EOI.ofs] def IRQ_EOI.VEC : Fld := ⟨IRQ_EOI.ofs, 0, 6⟩
/-- IRQ_TEST, DEV domain. -/
def IRQ_TEST.ofs : Nat := 0x30014
@[inherit_doc IRQ_TEST.ofs] def IRQ_TEST.SRC : Fld := ⟨IRQ_TEST.ofs, 0, 8⟩
@[inherit_doc IRQ_TEST.ofs] def IRQ_TEST.SET : Fld := ⟨IRQ_TEST.ofs, 8, 1⟩
/-- IRQ_VEC_ASSERTED, DEV domain. -/
def IRQ_VEC_ASSERTED.ofs : Nat := 0x30020
/-- IRQ_VEC_INSVC, DEV domain. -/
def IRQ_VEC_INSVC.ofs : Nat := 0x30028
/-- IRQ_RAW, DEV domain. -/
def IRQ_RAW.ofs (g : Nat) : Nat := 0x30100 + g * 0x4
@[inherit_doc IRQ_RAW.ofs] def IRQ_RAW.RAW (g : Nat) : Fld := ⟨IRQ_RAW.ofs g, 0, 32⟩
/-- IRQ_EN, DEV domain. -/
def IRQ_EN.ofs (g : Nat) : Nat := 0x30120 + g * 0x4
@[inherit_doc IRQ_EN.ofs] def IRQ_EN.EN (g : Nat) : Fld := ⟨IRQ_EN.ofs g, 0, 32⟩
/-- IRQ_PEND, DEV domain. -/
def IRQ_PEND.ofs (g : Nat) : Nat := 0x30140 + g * 0x4
@[inherit_doc IRQ_PEND.ofs] def IRQ_PEND.PEND (g : Nat) : Fld := ⟨IRQ_PEND.ofs g, 0, 32⟩
/-- IRQ_MAP, DEV domain. -/
def IRQ_MAP.ofs (q : Nat) : Nat := 0x30200 + q * 0x4
@[inherit_doc IRQ_MAP.ofs] def IRQ_MAP.VEC0 (q : Nat) : Fld := ⟨IRQ_MAP.ofs q, 0, 6⟩
@[inherit_doc IRQ_MAP.ofs] def IRQ_MAP.VEC1 (q : Nat) : Fld := ⟨IRQ_MAP.ofs q, 8, 6⟩
@[inherit_doc IRQ_MAP.ofs] def IRQ_MAP.VEC2 (q : Nat) : Fld := ⟨IRQ_MAP.ofs q, 16, 6⟩
@[inherit_doc IRQ_MAP.ofs] def IRQ_MAP.VEC3 (q : Nat) : Fld := ⟨IRQ_MAP.ofs q, 24, 6⟩

end Sys2Proof.Machine
end

