-- ==== Sys2Proof/Machine/RegMapLnk.lean ====
section
/-! DEFINITION. The register map of the LNK block, from the register tables of 15_links_wings_collections.md.
One descriptor per register entry (offset, reset domain, fields with access code and the two defaults of R19) and one
named offset `NAME.ofs` and one named field `NAME.FIELD` per entry of the tables. -/

namespace Sys2Proof.Machine

/-- Register descriptors of the LNK block, part 0. -/
def regsLnk0 : List RegDesc := [
  ⟨"LK_GLB_CFG", 0x680000, [], false, .blk, .lnk, none,
    [⟨0, 1, .rw, (.val 0), (.val 1)⟩,
     ⟨1, 3, .ro, (.val 0), (.val 0)⟩,
     ⟨4, 4, .rw, (.val 0xe), (.val 0xe)⟩,
     ⟨16, 16, .rw, (.val 0x64), (.val 0x64)⟩]⟩,
  ⟨"LK_GLB_STATUS", 0x680004, [], false, .blk, .lnk, none,
    [⟨0, 1, .ro, (.val 0), .live⟩,
     ⟨1, 12, .ro, (.val 0), .live⟩,
     ⟨13, 3, .ro, (.val 7), .live⟩,
     ⟨16, 1, .ro, (.val 0), .live⟩,
     ⟨17, 1, .ro, (.val 0), .live⟩]⟩,
  ⟨"LK_GLB_FLAGS", 0x680008, [], false, .blk, .lnk, none,
    [⟨0, 1, .w1c, (.val 0), (.val 0)⟩,
     ⟨1, 1, .w1c, (.val 0), (.val 0)⟩,
     ⟨2, 1, .w1c, (.val 0), (.val 0)⟩,
     ⟨3, 1, .w1c, (.val 0), (.val 0)⟩,
     ⟨4, 1, .w1c, (.val 0), (.val 0)⟩,
     ⟨5, 1, .w1c, (.val 0), (.val 0)⟩,
     ⟨6, 1, .w1c, (.val 0), (.val 0)⟩,
     ⟨7, 1, .w1c, (.val 0), (.val 0)⟩,
     ⟨8, 1, .w1c, (.val 0), (.val 0)⟩,
     ⟨9, 1, .w1c, (.val 0), (.val 0)⟩,
     ⟨10, 1, .w1c, (.val 0), (.val 0)⟩]⟩,
  ⟨"LK_BC_TX_W", 0x680010, [(0x4, 8)], false, .blk, .lnk, none,
    [⟨0, 32, .rw, (.val 0), (.val 0)⟩]⟩,
  ⟨"LK_BC_CTRL", 0x680030, [], false, .blk, .lnk, none,
    [⟨0, 1, .wo, (.val 0), (.val 0)⟩]⟩,
  ⟨"LK_BC_STATUS", 0x680034, [], false, .blk, .lnk, none,
    [⟨0, 1, .ro, (.val 0), .live⟩,
     ⟨1, 5, .ro, (.val 0), .live⟩,
     ⟨16, 16, .rc, (.val 0), (.val 0)⟩]⟩,
  ⟨"LK_BC_POP", 0x680038, [], false, .blk, .lnk, none,
    [⟨0, 16, .ro, (.val 0), .live⟩,
     ⟨16, 12, .ro, (.val 0), .live⟩,
     ⟨28, 1, .ro, (.val 0), .live⟩]⟩,
  ⟨"LK_BC_RX_W", 0x680040, [(0x4, 8)], false, .blk, .lnk, none,
    [⟨0, 32, .ro, (.val 0), .live⟩]⟩,
  ⟨"LK_BAR_CTRL", 0x680060, [], false, .blk, .lnk, none,
    [⟨0, 8, .wo, (.val 0), (.val 0)⟩,
     ⟨8, 1, .wo, (.val 0), (.val 0)⟩]⟩,
  ⟨"LK_BAR_STATUS", 0x680064, [], false, .blk, .lnk, none,
    [⟨0, 8, .ro, (.val 0), .live⟩,
     ⟨8, 1, .ro, (.val 0), .live⟩]⟩]

/-- Register descriptors of the LNK block, part 1. -/
def regsLnk1 : List RegDesc := [
  ⟨"LK_TTO_SEC", 0x680068, [], true, .blk, .lnk, none,
    [⟨0, 64, .rw, (.val 0), (.val 0)⟩]⟩,
  ⟨"LK_TTO_NS", 0x680070, [], false, .blk, .lnk, none,
    [⟨0, 32, .rw, (.val 0), (.val 0)⟩]⟩,
  ⟨"LK_TTO_CTRL", 0x680074, [], false, .blk, .lnk, none,
    [⟨0, 2, .wo, (.val 0), (.val 0)⟩,
     ⟨2, 2, .wo, (.val 0), (.val 0)⟩,
     ⟨4, 12, .wo, (.val 0), (.val 0)⟩,
     ⟨16, 1, .wo, (.val 0), (.val 0)⟩]⟩,
  ⟨"LK_TTO_STATUS", 0x680078, [], false, .blk, .lnk, none,
    [⟨0, 3, .ro, (.val 0), .live⟩,
     ⟨16, 16, .rc, (.val 0), (.val 0)⟩]⟩,
  ⟨"LK_CFG", 0x681000, [(0x100, 8)], false, .inst, .lnk, some .link,
    [⟨0, 1, .rw, (.val 0), (.val 0)⟩]⟩,
  ⟨"LK_BIND", 0x681004, [(0x100, 8)], false, .inst, .lnk, some .link,
    [⟨0, 2, .ro, (.val 0), .live⟩,
     ⟨2, 1, .ro, (.val 0), .live⟩,
     ⟨3, 12, .ro, (.val 0), .live⟩,
     ⟨15, 1, .ro, (.val 0), .live⟩]⟩,
  ⟨"LK_STATUS", 0x681008, [(0x100, 8)], false, .inst, .lnk, some .link,
    [⟨0, 2, .ro, (.val 0), .live⟩,
     ⟨2, 1, .ro, (.val 0), .live⟩,
     ⟨3, 1, .ro, (.val 0), .live⟩,
     ⟨8, 8, .ro, (.val 0), .live⟩,
     ⟨16, 8, .ro, (.val 0), .live⟩]⟩,
  ⟨"LK_FLAGS", 0x68100C, [(0x100, 8)], false, .inst, .lnk, some .link,
    [⟨0, 1, .w1c, (.val 0), (.val 0)⟩,
     ⟨1, 1, .w1c, (.val 0), (.val 0)⟩,
     ⟨2, 1, .w1c, (.val 0), (.val 0)⟩,
     ⟨3, 1, .w1c, (.val 0), (.val 0)⟩,
     ⟨4, 1, .w1c, (.val 0), (.val 0)⟩,
     ⟨5, 1, .w1c, (.val 0), (.val 0)⟩]⟩,
  ⟨"LK_CNT", 0x681010, [(0x100, 8)], false, .inst, .lnk, some .link,
    [⟨0, 16, .rc, (.val 0), (.val 0)⟩,
     ⟨16, 16, .rc, (.val 0), (.val 0)⟩]⟩,
  ⟨"LK_TX_DLY_PH", 0x681018, [(0x100, 8)], true, .inst, .lnk, some .link,
    [⟨0, 64, .ro, .live, .live⟩]⟩]

/-- Register descriptors of the LNK block, part 2. -/
def regsLnk2 : List RegDesc := [
  ⟨"LK_RX_DLY_PH", 0x681020, [(0x100, 8)], true, .inst, .lnk, some .link,
    [⟨0, 64, .ro, .live, .live⟩]⟩,
  ⟨"LK_TX_EXT_PH", 0x681028, [(0x100, 8)], true, .inst, .lnk, some .link,
    [⟨0, 64, .rw, (.val 0), (.val 0)⟩]⟩,
  ⟨"LK_RX_EXT_PH", 0x681030, [(0x100, 8)], true, .inst, .lnk, some .link,
    [⟨0, 64, .rw, (.val 0), (.val 0)⟩]⟩,
  ⟨"LK_ASYM_FF", 0x681038, [(0x100, 8)], true, .inst, .lnk, some .link,
    [⟨0, 64, .rw, (.val 0), (.val 0)⟩]⟩,
  ⟨"LK_RT_PH", 0x681040, [(0x100, 8)], true, .inst, .lnk, some .link,
    [⟨0, 64, .ro, (.val 0), .live⟩]⟩,
  ⟨"LK_X_PH", 0x681048, [(0x100, 8)], true, .inst, .lnk, some .link,
    [⟨0, 64, .ro, (.val 0), .live⟩]⟩,
  ⟨"LK_RAW_PH", 0x681050, [(0x100, 8)], true, .inst, .lnk, some .link,
    [⟨0, 64, .ro, (.val 0), .live⟩]⟩,
  ⟨"LK_DELTA_PH", 0x681058, [(0x100, 8)], true, .inst, .lnk, some .link,
    [⟨0, 64, .ro, (.val 0), .live⟩]⟩,
  ⟨"LK_CONFIRM", 0x681060, [(0x100, 8)], true, .inst, .lnk, some .link,
    [⟨0, 64, .rw, (.val 0), (.val 0)⟩]⟩,
  ⟨"LK_PATH_LIM", 0x681068, [(0x100, 8)], false, .inst, .lnk, some .link,
    [⟨0, 16, .rw, (.val 0xfa), (.val 0xfa)⟩,
     ⟨16, 16, .rw, (.val 0x3e8), (.val 0x3e8)⟩]⟩]

/-- Register descriptors of the LNK block, part 3. -/
def regsLnk3 : List RegDesc := [
  ⟨"LK_PATH_CNT", 0x68106C, [(0x100, 8)], false, .inst, .lnk, some .link,
    [⟨0, 16, .rw, (.val 0x64), (.val 0x64)⟩]⟩,
  ⟨"LK_CMD", 0x681070, [(0x100, 8)], false, .inst, .lnk, some .link,
    [⟨0, 1, .wo, (.val 0), (.val 0)⟩,
     ⟨1, 1, .wo, (.val 0), (.val 0)⟩]⟩]

/-- Every register of the LNK block. -/
def regsLnk : List RegDesc := regsLnk0 ++ regsLnk1 ++ regsLnk2 ++ regsLnk3

/-- LK_GLB_CFG, BLK domain. -/
def LK_GLB_CFG.ofs : Nat := 0x680000
@[inherit_doc LK_GLB_CFG.ofs] def LK_GLB_CFG.EN : Fld := ⟨LK_GLB_CFG.ofs, 0, 1⟩
@[inherit_doc LK_GLB_CFG.ofs] def LK_GLB_CFG.TOPO_DEPTH : Fld := ⟨LK_GLB_CFG.ofs, 1, 3⟩
@[inherit_doc LK_GLB_CFG.ofs] def LK_GLB_CFG.ROOT_GRADE : Fld := ⟨LK_GLB_CFG.ofs, 4, 4⟩
@[inherit_doc LK_GLB_CFG.ofs] def LK_GLB_CFG.BAR_TIMEOUT : Fld := ⟨LK_GLB_CFG.ofs, 16, 16⟩
/-- LK_GLB_STATUS, BLK domain. -/
def LK_GLB_STATUS.ofs : Nat := 0x680004
@[inherit_doc LK_GLB_STATUS.ofs] def LK_GLB_STATUS.READY : Fld := ⟨LK_GLB_STATUS.ofs, 0, 1⟩
@[inherit_doc LK_GLB_STATUS.ofs] def LK_GLB_STATUS.ADDR : Fld := ⟨LK_GLB_STATUS.ofs, 1, 12⟩
@[inherit_doc LK_GLB_STATUS.ofs] def LK_GLB_STATUS.DEPTH : Fld := ⟨LK_GLB_STATUS.ofs, 13, 3⟩
@[inherit_doc LK_GLB_STATUS.ofs] def LK_GLB_STATUS.IS_ROOT : Fld := ⟨LK_GLB_STATUS.ofs, 16, 1⟩
@[inherit_doc LK_GLB_STATUS.ofs] def LK_GLB_STATUS.IN_COLL : Fld := ⟨LK_GLB_STATUS.ofs, 17, 1⟩
/-- LK_GLB_FLAGS, BLK domain. -/
def LK_GLB_FLAGS.ofs : Nat := 0x680008
@[inherit_doc LK_GLB_FLAGS.ofs] def LK_GLB_FLAGS.DEPTH_BREACH : Fld := ⟨LK_GLB_FLAGS.ofs, 0, 1⟩
@[inherit_doc LK_GLB_FLAGS.ofs] def LK_GLB_FLAGS.BC_RX : Fld := ⟨LK_GLB_FLAGS.ofs, 1, 1⟩
@[inherit_doc LK_GLB_FLAGS.ofs] def LK_GLB_FLAGS.BC_OVF : Fld := ⟨LK_GLB_FLAGS.ofs, 2, 1⟩
@[inherit_doc LK_GLB_FLAGS.ofs] def LK_GLB_FLAGS.BAR_DONE : Fld := ⟨LK_GLB_FLAGS.ofs, 3, 1⟩
@[inherit_doc LK_GLB_FLAGS.ofs] def LK_GLB_FLAGS.BAR_PARTIAL : Fld := ⟨LK_GLB_FLAGS.ofs, 4, 1⟩
@[inherit_doc LK_GLB_FLAGS.ofs] def LK_GLB_FLAGS.BAR_ERR : Fld := ⟨LK_GLB_FLAGS.ofs, 5, 1⟩
@[inherit_doc LK_GLB_FLAGS.ofs] def LK_GLB_FLAGS.TTO_REFUSED : Fld := ⟨LK_GLB_FLAGS.ofs, 6, 1⟩
@[inherit_doc LK_GLB_FLAGS.ofs] def LK_GLB_FLAGS.TTO_LATE : Fld := ⟨LK_GLB_FLAGS.ofs, 7, 1⟩
@[inherit_doc LK_GLB_FLAGS.ofs] def LK_GLB_FLAGS.TTO_STEPPED : Fld := ⟨LK_GLB_FLAGS.ofs, 8, 1⟩
@[inherit_doc LK_GLB_FLAGS.ofs] def LK_GLB_FLAGS.TTO_UNSYNC : Fld := ⟨LK_GLB_FLAGS.ofs, 9, 1⟩
@[inherit_doc LK_GLB_FLAGS.ofs] def LK_GLB_FLAGS.TTO_DONE : Fld := ⟨LK_GLB_FLAGS.ofs, 10, 1⟩
/-- LK_BC_TX_W, BLK domain. -/
def LK_BC_TX_W.ofs (w : Nat) : Nat := 0x680010 + w * 0x4
@[inherit_doc LK_BC_TX_W.ofs] def LK_BC_TX_W.OCTETS (w : Nat) : Fld := ⟨LK_BC_TX_W.ofs w, 0, 32⟩
/-- LK_BC_CTRL, BLK domain. -/
def LK_BC_CTRL.ofs : Nat := 0x680030
@[inherit_doc LK_BC_CTRL.ofs] def LK_BC_CTRL.SEND : Fld := ⟨LK_BC_CTRL.ofs, 0, 1⟩
/-- LK_BC_STATUS, BLK domain. -/
def LK_BC_STATUS.ofs : Nat := 0x680034
@[inherit_doc LK_BC_STATUS.ofs] def LK_BC_STATUS.TX_BUSY : Fld := ⟨LK_BC_STATUS.ofs, 0, 1⟩
@[inherit_doc LK_BC_STATUS.ofs] def LK_BC_STATUS.RX_COUNT : Fld := ⟨LK_BC_STATUS.ofs, 1, 5⟩
@[inherit_doc LK_BC_STATUS.ofs] def LK_BC_STATUS.OVF : Fld := ⟨LK_BC_STATUS.ofs, 16, 16⟩
/-- LK_BC_POP, BLK domain. -/
def LK_BC_POP.ofs : Nat := 0x680038
@[inherit_doc LK_BC_POP.ofs] def LK_BC_POP.SEQ : Fld := ⟨LK_BC_POP.ofs, 0, 16⟩
@[inherit_doc LK_BC_POP.ofs] def LK_BC_POP.ORIGIN : Fld := ⟨LK_BC_POP.ofs, 16, 12⟩
@[inherit_doc LK_BC_POP.ofs] def LK_BC_POP.VALID : Fld := ⟨LK_BC_POP.ofs, 28, 1⟩
/-- LK_BC_RX_W, BLK domain. -/
def LK_BC_RX_W.ofs (w : Nat) : Nat := 0x680040 + w * 0x4
@[inherit_doc LK_BC_RX_W.ofs] def LK_BC_RX_W.OCTETS (w : Nat) : Fld := ⟨LK_BC_RX_W.ofs w, 0, 32⟩
/-- LK_BAR_CTRL, BLK domain. -/
def LK_BAR_CTRL.ofs : Nat := 0x680060
@[inherit_doc LK_BAR_CTRL.ofs] def LK_BAR_CTRL.ID : Fld := ⟨LK_BAR_CTRL.ofs, 0, 8⟩
@[inherit_doc LK_BAR_CTRL.ofs] def LK_BAR_CTRL.ARRIVE : Fld := ⟨LK_BAR_CTRL.ofs, 8, 1⟩
/-- LK_BAR_STATUS, BLK domain. -/
def LK_BAR_STATUS.ofs : Nat := 0x680064
@[inherit_doc LK_BAR_STATUS.ofs] def LK_BAR_STATUS.ID : Fld := ⟨LK_BAR_STATUS.ofs, 0, 8⟩
@[inherit_doc LK_BAR_STATUS.ofs] def LK_BAR_STATUS.WAIT : Fld := ⟨LK_BAR_STATUS.ofs, 8, 1⟩
/-- LK_TTO_SEC, BLK domain. -/
def LK_TTO_SEC.ofs : Nat := 0x680068
/-- LK_TTO_NS, BLK domain. -/
def LK_TTO_NS.ofs : Nat := 0x680070
@[inherit_doc LK_TTO_NS.ofs] def LK_TTO_NS.NS : Fld := ⟨LK_TTO_NS.ofs, 0, 32⟩
/-- LK_TTO_CTRL, BLK domain. -/
def LK_TTO_CTRL.ofs : Nat := 0x680074
@[inherit_doc LK_TTO_CTRL.ofs] def LK_TTO_CTRL.OP : Fld := ⟨LK_TTO_CTRL.ofs, 0, 2⟩
@[inherit_doc LK_TTO_CTRL.ofs] def LK_TTO_CTRL.SCOPE_KIND : Fld := ⟨LK_TTO_CTRL.ofs, 2, 2⟩
@[inherit_doc LK_TTO_CTRL.ofs] def LK_TTO_CTRL.SCOPE : Fld := ⟨LK_TTO_CTRL.ofs, 4, 12⟩
@[inherit_doc LK_TTO_CTRL.ofs] def LK_TTO_CTRL.ISSUE : Fld := ⟨LK_TTO_CTRL.ofs, 16, 1⟩
/-- LK_TTO_STATUS, BLK domain. -/
def LK_TTO_STATUS.ofs : Nat := 0x680078
@[inherit_doc LK_TTO_STATUS.ofs] def LK_TTO_STATUS.PENDING : Fld := ⟨LK_TTO_STATUS.ofs, 0, 3⟩
@[inherit_doc LK_TTO_STATUS.ofs] def LK_TTO_STATUS.MISS : Fld := ⟨LK_TTO_STATUS.ofs, 16, 16⟩
/-- LK_CFG, INST domain. -/
def LK_CFG.ofs (n : Nat) : Nat := 0x681000 + n * 0x100
@[inherit_doc LK_CFG.ofs] def LK_CFG.EN (n : Nat) : Fld := ⟨LK_CFG.ofs n, 0, 1⟩
/-- LK_BIND, INST domain. -/
def LK_BIND.ofs (n : Nat) : Nat := 0x681004 + n * 0x100
@[inherit_doc LK_BIND.ofs] def LK_BIND.ROLE (n : Nat) : Fld := ⟨LK_BIND.ofs n, 0, 2⟩
@[inherit_doc LK_BIND.ofs] def LK_BIND.PAIR (n : Nat) : Fld := ⟨LK_BIND.ofs n, 2, 1⟩
@[inherit_doc LK_BIND.ofs] def LK_BIND.PEER (n : Nat) : Fld := ⟨LK_BIND.ofs n, 3, 12⟩
@[inherit_doc LK_BIND.ofs] def LK_BIND.VALID (n : Nat) : Fld := ⟨LK_BIND.ofs n, 15, 1⟩
/-- LK_STATUS, INST domain. -/
def LK_STATUS.ofs (n : Nat) : Nat := 0x681008 + n * 0x100
@[inherit_doc LK_STATUS.ofs] def LK_STATUS.STATE (n : Nat) : Fld := ⟨LK_STATUS.ofs n, 0, 2⟩
@[inherit_doc LK_STATUS.ofs] def LK_STATUS.PATH_STATE (n : Nat) : Fld := ⟨LK_STATUS.ofs n, 2, 1⟩
@[inherit_doc LK_STATUS.ofs] def LK_STATUS.UP_REQUAL (n : Nat) : Fld := ⟨LK_STATUS.ofs n, 3, 1⟩
@[inherit_doc LK_STATUS.ofs] def LK_STATUS.TAG_RX (n : Nat) : Fld := ⟨LK_STATUS.ofs n, 8, 8⟩
@[inherit_doc LK_STATUS.ofs] def LK_STATUS.TAG_TX (n : Nat) : Fld := ⟨LK_STATUS.ofs n, 16, 8⟩
/-- LK_FLAGS, INST domain. -/
def LK_FLAGS.ofs (n : Nat) : Nat := 0x68100C + n * 0x100
@[inherit_doc LK_FLAGS.ofs] def LK_FLAGS.LINK_DOWN_EV (n : Nat) : Fld := ⟨LK_FLAGS.ofs n, 0, 1⟩
@[inherit_doc LK_FLAGS.ofs] def LK_FLAGS.PEER_BAD (n : Nat) : Fld := ⟨LK_FLAGS.ofs n, 1, 1⟩
@[inherit_doc LK_FLAGS.ofs] def LK_FLAGS.PATH_STEP (n : Nat) : Fld := ⟨LK_FLAGS.ofs n, 2, 1⟩
@[inherit_doc LK_FLAGS.ofs] def LK_FLAGS.REACCEPTED (n : Nat) : Fld := ⟨LK_FLAGS.ofs n, 3, 1⟩
@[inherit_doc LK_FLAGS.ofs] def LK_FLAGS.CTRL_CRC (n : Nat) : Fld := ⟨LK_FLAGS.ofs n, 4, 1⟩
@[inherit_doc LK_FLAGS.ofs] def LK_FLAGS.FAR_DLY (n : Nat) : Fld := ⟨LK_FLAGS.ofs n, 5, 1⟩
/-- LK_CNT, INST domain. -/
def LK_CNT.ofs (n : Nat) : Nat := 0x681010 + n * 0x100
@[inherit_doc LK_CNT.ofs] def LK_CNT.CRC_ERR (n : Nat) : Fld := ⟨LK_CNT.ofs n, 0, 16⟩
@[inherit_doc LK_CNT.ofs] def LK_CNT.DOWNS (n : Nat) : Fld := ⟨LK_CNT.ofs n, 16, 16⟩
/-- LK_TX_DLY_PH, INST domain. -/
def LK_TX_DLY_PH.ofs (n : Nat) : Nat := 0x681018 + n * 0x100
/-- LK_RX_DLY_PH, INST domain. -/
def LK_RX_DLY_PH.ofs (n : Nat) : Nat := 0x681020 + n * 0x100
/-- LK_TX_EXT_PH, INST domain. -/
def LK_TX_EXT_PH.ofs (n : Nat) : Nat := 0x681028 + n * 0x100
/-- LK_RX_EXT_PH, INST domain. -/
def LK_RX_EXT_PH.ofs (n : Nat) : Nat := 0x681030 + n * 0x100
/-- LK_ASYM_FF, INST domain. -/
def LK_ASYM_FF.ofs (n : Nat) : Nat := 0x681038 + n * 0x100
/-- LK_RT_PH, INST domain. -/
def LK_RT_PH.ofs (n : Nat) : Nat := 0x681040 + n * 0x100
/-- LK_X_PH, INST domain. -/
def LK_X_PH.ofs (n : Nat) : Nat := 0x681048 + n * 0x100
/-- LK_RAW_PH, INST domain. -/
def LK_RAW_PH.ofs (n : Nat) : Nat := 0x681050 + n * 0x100
/-- LK_DELTA_PH, INST domain. -/
def LK_DELTA_PH.ofs (n : Nat) : Nat := 0x681058 + n * 0x100
/-- LK_CONFIRM, INST domain. -/
def LK_CONFIRM.ofs (n : Nat) : Nat := 0x681060 + n * 0x100
/-- LK_PATH_LIM, INST domain. -/
def LK_PATH_LIM.ofs (n : Nat) : Nat := 0x681068 + n * 0x100
@[inherit_doc LK_PATH_LIM.ofs] def LK_PATH_LIM.PATH_STEP_LIM (n : Nat) : Fld := ⟨LK_PATH_LIM.ofs n, 0, 16⟩
@[inherit_doc LK_PATH_LIM.ofs] def LK_PATH_LIM.CONFIRM_TOL (n : Nat) : Fld := ⟨LK_PATH_LIM.ofs n, 16, 16⟩
/-- LK_PATH_CNT, INST domain. -/
def LK_PATH_CNT.ofs (n : Nat) : Nat := 0x68106C + n * 0x100
@[inherit_doc LK_PATH_CNT.ofs] def LK_PATH_CNT.CONFIRM_CNT (n : Nat) : Fld := ⟨LK_PATH_CNT.ofs n, 0, 16⟩
/-- LK_CMD, INST domain. -/
def LK_CMD.ofs (n : Nat) : Nat := 0x681070 + n * 0x100
@[inherit_doc LK_CMD.ofs] def LK_CMD.REACCEPT_RAW (n : Nat) : Fld := ⟨LK_CMD.ofs n, 0, 1⟩
@[inherit_doc LK_CMD.ofs] def LK_CMD.REACCEPT_HELD (n : Nat) : Fld := ⟨LK_CMD.ofs n, 1, 1⟩

end Sys2Proof.Machine
end

