-- ==== Sys2Proof/Machine/RegMapLoop.lean ====
section
/-! DEFINITION. The register map of the LOOP block, from the register tables of 05_loops_and_holdover.md.
One descriptor per register entry (offset, reset domain, fields with access code and the two defaults of R19) and one
named offset `NAME.ofs` and one named field `NAME.FIELD` per entry of the tables. -/

namespace Sys2Proof.Machine

/-- Register descriptors of the LOOP block, part 0. -/
def regsLoop0 : List RegDesc := [
  ⟨"LOOP_GLB_CFG", 0xA0000, [], false, .blk, .loop, none,
    [⟨0, 5, .rw, (.val 0), (.val 0)⟩,
     ⟨5, 1, .rw, (.val 1), (.val 1)⟩]⟩,
  ⟨"LOOP_GLB_STATUS", 0xA0004, [], false, .blk, .loop, none,
    [⟨0, 1, .ro, (.val 0), .live⟩,
     ⟨1, 1, .ro, (.val 0), .live⟩,
     ⟨2, 1, .ro, (.val 0), .live⟩,
     ⟨8, 5, .ro, (.val 0), .live⟩,
     ⟨13, 1, .ro, (.val 1), .live⟩]⟩,
  ⟨"LOOP_TYPE_BW", 0xA0010, [(0x4, 6)], false, .blk, .loop, none,
    [⟨0, 8, .rw, (.byRule .typeBw), (.byRule .typeBw)⟩,
     ⟨8, 8, .rw, (.byRule .typeBw), (.byRule .typeBw)⟩]⟩,
  ⟨"LOOP_CFG", 0xA1000, [(0x100, 24)], false, .inst, .loop, some .loop,
    [⟨0, 1, .rw, (.val 0), (.val 0)⟩,
     ⟨1, 1, .rw, (.val 0), (.val 0)⟩,
     ⟨2, 1, .rw, (.val 0), (.byRule .loopCfg)⟩,
     ⟨3, 1, .rw, (.val 0), (.val 0)⟩,
     ⟨4, 3, .rw, (.val 4), (.byRule .loopCfg)⟩]⟩,
  ⟨"LOOP_INFO", 0xA1004, [(0x100, 24)], false, .inst, .loop, some .loop,
    [⟨0, 2, .ro, (.val 0), .live⟩,
     ⟨2, 1, .ro, (.val 0), .live⟩]⟩,
  ⟨"LOOP_BW", 0xA1008, [(0x100, 24)], false, .inst, .loop, some .loop,
    [⟨0, 8, .rw, (.val 0), (.val 0)⟩,
     ⟨8, 8, .rw, (.val 0x40), (.val 0x40)⟩]⟩,
  ⟨"LOOP_LOCK", 0xA100C, [(0x100, 24)], false, .inst, .loop, some .loop,
    [⟨0, 16, .rw, (.val 0x32), (.val 0x32)⟩,
     ⟨16, 8, .rw, (.val 0x10), (.val 0x10)⟩]⟩,
  ⟨"LOOP_HO_CFG", 0xA1010, [(0x100, 24)], false, .inst, .loop, some .loop,
    [⟨0, 16, .rw, (.val 0x3e8), (.val 0x3e8)⟩,
     ⟨16, 16, .rw, (.val 0xa), (.val 0xa)⟩]⟩,
  ⟨"LOOP_SLEW_LIM_FF", 0xA1018, [(0x100, 24)], true, .inst, .loop, some .loop,
    [⟨0, 64, .rw, (.val 0x1ad7f29abd), (.val 0x1ad7f29abd)⟩]⟩,
  ⟨"LOOP_FREQ_LIM_FF", 0xA1020, [(0x100, 24)], true, .inst, .loop, some .loop,
    [⟨0, 64, .rw, (.val 0xa7c5ac471b4), (.val 0xa7c5ac471b4)⟩]⟩]

/-- Register descriptors of the LOOP block, part 1. -/
def regsLoop1 : List RegDesc := [
  ⟨"LOOP_HO_FREQ_UNC_FF", 0xA1028, [(0x100, 24)], true, .inst, .loop, some .loop,
    [⟨0, 64, .rw, (.val 0xafebff), (.val 0xafebff)⟩]⟩,
  ⟨"LOOP_HO_DRIFT_UNC_FF", 0xA1030, [(0x100, 24)], true, .inst, .loop, some .loop,
    [⟨0, 64, .rw, (.val 0x6df37f6), (.val 0x6df37f6)⟩]⟩,
  ⟨"LOOP_STATUS", 0xA1040, [(0x100, 24)], false, .inst, .loop, some .loop,
    [⟨0, 3, .ro, (.val 0), .live⟩,
     ⟨4, 4, .ro, (.val 0xf), .live⟩,
     ⟨8, 1, .ro, (.val 0), .live⟩,
     ⟨9, 1, .ro, (.val 0), .live⟩,
     ⟨10, 1, .ro, (.val 0), .live⟩]⟩,
  ⟨"LOOP_FLAGS", 0xA1044, [(0x100, 24)], false, .inst, .loop, some .loop,
    [⟨0, 1, .w1c, (.val 0), (.val 0)⟩,
     ⟨1, 1, .w1c, (.val 0), (.val 0)⟩,
     ⟨2, 1, .w1c, (.val 0), (.val 0)⟩,
     ⟨3, 1, .w1c, (.val 0), (.val 0)⟩,
     ⟨4, 1, .w1c, (.val 0), (.val 0)⟩,
     ⟨5, 1, .w1c, (.val 0), (.val 0)⟩,
     ⟨6, 1, .w1c, (.val 0), (.val 0)⟩,
     ⟨7, 1, .w1c, (.val 0), (.val 0)⟩,
     ⟨8, 1, .w1c, (.val 0), (.val 0)⟩,
     ⟨9, 1, .w1c, (.val 0), (.val 0)⟩,
     ⟨10, 1, .w1c, (.val 0), (.val 0)⟩]⟩,
  ⟨"LOOP_STEP_AUTH", 0xA1048, [(0x100, 24)], false, .inst, .loop, some .loop,
    [⟨0, 16, .wo, (.val 0), (.val 0)⟩,
     ⟨16, 1, .wo, (.val 0), (.val 0)⟩,
     ⟨17, 1, .wo, (.val 0), (.val 0)⟩,
     ⟨18, 1, .wo, (.val 0), (.val 0)⟩]⟩,
  ⟨"LOOP_PEND_INFO", 0xA104C, [(0x100, 24)], false, .inst, .loop, some .loop,
    [⟨0, 16, .ro, (.val 0), .live⟩]⟩,
  ⟨"LOOP_CNT", 0xA1050, [(0x100, 24)], false, .inst, .loop, some .loop,
    [⟨0, 16, .rc, (.val 0), (.val 0)⟩,
     ⟨16, 16, .rc, (.val 0), (.val 0)⟩]⟩,
  ⟨"LOOP_HO_TIME", 0xA1054, [(0x100, 24)], false, .inst, .loop, some .loop,
    [⟨0, 32, .ro, (.val 0), .live⟩]⟩,
  ⟨"LOOP_PEND_PH", 0xA1058, [(0x100, 24)], true, .inst, .loop, some .loop,
    [⟨0, 64, .ro, (.val 0), .live⟩]⟩,
  ⟨"LOOP_E_PH", 0xA1060, [(0x100, 24)], true, .inst, .loop, some .loop,
    [⟨0, 64, .ro, (.val 0), .live⟩]⟩]

/-- Register descriptors of the LOOP block, part 2. -/
def regsLoop2 : List RegDesc := [
  ⟨"LOOP_INT_FF", 0xA1068, [(0x100, 24)], true, .inst, .loop, some .loop,
    [⟨0, 64, .ro, (.val 0), .live⟩]⟩,
  ⟨"LOOP_STEER_FF", 0xA1070, [(0x100, 24)], true, .inst, .loop, some .loop,
    [⟨0, 64, .ro, (.val 0), .live⟩]⟩,
  ⟨"LOOP_RESID_PH", 0xA1078, [(0x100, 24)], true, .inst, .loop, some .loop,
    [⟨0, 64, .ro, (.val 0), .live⟩]⟩,
  ⟨"LOOP_HO_FF", 0xA1080, [(0x100, 24)], true, .inst, .loop, some .loop,
    [⟨0, 64, .ro, (.val 0), .live⟩]⟩,
  ⟨"LOOP_HO_DRIFT_FF", 0xA1088, [(0x100, 24)], true, .inst, .loop, some .loop,
    [⟨0, 64, .ro, (.val 0), .live⟩]⟩,
  ⟨"LOOP_UNC_PH", 0xA1090, [(0x100, 24)], true, .inst, .loop, some .loop,
    [⟨0, 64, .ro, (.val 0), .live⟩]⟩,
  ⟨"LOOP_NUM_FF", 0xA1098, [(0x100, 24)], true, .inst, .loop, some .loop,
    [⟨0, 64, .rw, (.val 0), (.val 0)⟩]⟩,
  ⟨"LOOP_NUM_PH", 0xA10A0, [(0x100, 24)], true, .inst, .loop, some .loop,
    [⟨0, 64, .wo, (.val 0), (.val 0)⟩]⟩]

/-- Every register of the LOOP block. -/
def regsLoop : List RegDesc := regsLoop0 ++ regsLoop1 ++ regsLoop2

/-- LOOP_GLB_CFG, BLK domain. -/
def LOOP_GLB_CFG.ofs : Nat := 0xA0000
@[inherit_doc LOOP_GLB_CFG.ofs] def LOOP_GLB_CFG.STAT_LOOP : Fld := ⟨LOOP_GLB_CFG.ofs, 0, 5⟩
@[inherit_doc LOOP_GLB_CFG.ofs] def LOOP_GLB_CFG.STAT_AUTO : Fld := ⟨LOOP_GLB_CFG.ofs, 5, 1⟩
/-- LOOP_GLB_STATUS, BLK domain. -/
def LOOP_GLB_STATUS.ofs : Nat := 0xA0004
@[inherit_doc LOOP_GLB_STATUS.ofs] def LOOP_GLB_STATUS.READY : Fld := ⟨LOOP_GLB_STATUS.ofs, 0, 1⟩
@[inherit_doc LOOP_GLB_STATUS.ofs] def LOOP_GLB_STATUS.ANY_HOLDOVER : Fld := ⟨LOOP_GLB_STATUS.ofs, 1, 1⟩
@[inherit_doc LOOP_GLB_STATUS.ofs] def LOOP_GLB_STATUS.ANY_PENDING : Fld := ⟨LOOP_GLB_STATUS.ofs, 2, 1⟩
@[inherit_doc LOOP_GLB_STATUS.ofs] def LOOP_GLB_STATUS.STAT_LOOP_EFF : Fld := ⟨LOOP_GLB_STATUS.ofs, 8, 5⟩
@[inherit_doc LOOP_GLB_STATUS.ofs] def LOOP_GLB_STATUS.STAT_NONE : Fld := ⟨LOOP_GLB_STATUS.ofs, 13, 1⟩
/-- LOOP_TYPE_BW, BLK domain. -/
def LOOP_TYPE_BW.ofs (t : Nat) : Nat := 0xA0010 + (t - 1) * 4
@[inherit_doc LOOP_TYPE_BW.ofs] def LOOP_TYPE_BW.BW_CODE (t : Nat) : Fld := ⟨LOOP_TYPE_BW.ofs t, 0, 8⟩
@[inherit_doc LOOP_TYPE_BW.ofs] def LOOP_TYPE_BW.ZETA (t : Nat) : Fld := ⟨LOOP_TYPE_BW.ofs t, 8, 8⟩
/-- LOOP_CFG, INST domain. -/
def LOOP_CFG.ofs (k : Nat) : Nat := 0xA1000 + k * 0x100
@[inherit_doc LOOP_CFG.ofs] def LOOP_CFG.EN (k : Nat) : Fld := ⟨LOOP_CFG.ofs k, 0, 1⟩
@[inherit_doc LOOP_CFG.ofs] def LOOP_CFG.OPEN (k : Nat) : Fld := ⟨LOOP_CFG.ofs k, 1, 1⟩
@[inherit_doc LOOP_CFG.ofs] def LOOP_CFG.BW_MODE (k : Nat) : Fld := ⟨LOOP_CFG.ofs k, 2, 1⟩
@[inherit_doc LOOP_CFG.ofs] def LOOP_CFG.HO_DRIFT_EN (k : Nat) : Fld := ⟨LOOP_CFG.ofs k, 3, 1⟩
@[inherit_doc LOOP_CFG.ofs] def LOOP_CFG.EPOCH (k : Nat) : Fld := ⟨LOOP_CFG.ofs k, 4, 3⟩
/-- LOOP_INFO, INST domain. -/
def LOOP_INFO.ofs (k : Nat) : Nat := 0xA1004 + k * 0x100
@[inherit_doc LOOP_INFO.ofs] def LOOP_INFO.ROLE (k : Nat) : Fld := ⟨LOOP_INFO.ofs k, 0, 2⟩
@[inherit_doc LOOP_INFO.ofs] def LOOP_INFO.NEEDS_TIME (k : Nat) : Fld := ⟨LOOP_INFO.ofs k, 2, 1⟩
/-- LOOP_BW, INST domain. -/
def LOOP_BW.ofs (k : Nat) : Nat := 0xA1008 + k * 0x100
@[inherit_doc LOOP_BW.ofs] def LOOP_BW.BW_CODE (k : Nat) : Fld := ⟨LOOP_BW.ofs k, 0, 8⟩
@[inherit_doc LOOP_BW.ofs] def LOOP_BW.ZETA (k : Nat) : Fld := ⟨LOOP_BW.ofs k, 8, 8⟩
/-- LOOP_LOCK, INST domain. -/
def LOOP_LOCK.ofs (k : Nat) : Nat := 0xA100C + k * 0x100
@[inherit_doc LOOP_LOCK.ofs] def LOOP_LOCK.LOCK_THR (k : Nat) : Fld := ⟨LOOP_LOCK.ofs k, 0, 16⟩
@[inherit_doc LOOP_LOCK.ofs] def LOOP_LOCK.LOCK_CNT (k : Nat) : Fld := ⟨LOOP_LOCK.ofs k, 16, 8⟩
/-- LOOP_HO_CFG, INST domain. -/
def LOOP_HO_CFG.ofs (k : Nat) : Nat := 0xA1010 + k * 0x100
@[inherit_doc LOOP_HO_CFG.ofs] def LOOP_HO_CFG.HO_AVG (k : Nat) : Fld := ⟨LOOP_HO_CFG.ofs k, 0, 16⟩
@[inherit_doc LOOP_HO_CFG.ofs] def LOOP_HO_CFG.HO_GUARD (k : Nat) : Fld := ⟨LOOP_HO_CFG.ofs k, 16, 16⟩
/-- LOOP_SLEW_LIM_FF, INST domain. -/
def LOOP_SLEW_LIM_FF.ofs (k : Nat) : Nat := 0xA1018 + k * 0x100
/-- LOOP_FREQ_LIM_FF, INST domain. -/
def LOOP_FREQ_LIM_FF.ofs (k : Nat) : Nat := 0xA1020 + k * 0x100
/-- LOOP_HO_FREQ_UNC_FF, INST domain. -/
def LOOP_HO_FREQ_UNC_FF.ofs (k : Nat) : Nat := 0xA1028 + k * 0x100
/-- LOOP_HO_DRIFT_UNC_FF, INST domain. -/
def LOOP_HO_DRIFT_UNC_FF.ofs (k : Nat) : Nat := 0xA1030 + k * 0x100
/-- LOOP_STATUS, INST domain. -/
def LOOP_STATUS.ofs (k : Nat) : Nat := 0xA1040 + k * 0x100
@[inherit_doc LOOP_STATUS.ofs] def LOOP_STATUS.STATE (k : Nat) : Fld := ⟨LOOP_STATUS.ofs k, 0, 3⟩
@[inherit_doc LOOP_STATUS.ofs] def LOOP_STATUS.GRADE (k : Nat) : Fld := ⟨LOOP_STATUS.ofs k, 4, 4⟩
@[inherit_doc LOOP_STATUS.ofs] def LOOP_STATUS.SLEWING (k : Nat) : Fld := ⟨LOOP_STATUS.ofs k, 8, 1⟩
@[inherit_doc LOOP_STATUS.ofs] def LOOP_STATUS.HO_SHORT (k : Nat) : Fld := ⟨LOOP_STATUS.ofs k, 9, 1⟩
@[inherit_doc LOOP_STATUS.ofs] def LOOP_STATUS.FIRST_DONE (k : Nat) : Fld := ⟨LOOP_STATUS.ofs k, 10, 1⟩
/-- LOOP_FLAGS, INST domain. -/
def LOOP_FLAGS.ofs (k : Nat) : Nat := 0xA1044 + k * 0x100
@[inherit_doc LOOP_FLAGS.ofs] def LOOP_FLAGS.LOCK_GAINED (k : Nat) : Fld := ⟨LOOP_FLAGS.ofs k, 0, 1⟩
@[inherit_doc LOOP_FLAGS.ofs] def LOOP_FLAGS.LOCK_LOST (k : Nat) : Fld := ⟨LOOP_FLAGS.ofs k, 1, 1⟩
@[inherit_doc LOOP_FLAGS.ofs] def LOOP_FLAGS.HO_ENTERED (k : Nat) : Fld := ⟨LOOP_FLAGS.ofs k, 2, 1⟩
@[inherit_doc LOOP_FLAGS.ofs] def LOOP_FLAGS.HO_LEFT (k : Nat) : Fld := ⟨LOOP_FLAGS.ofs k, 3, 1⟩
@[inherit_doc LOOP_FLAGS.ofs] def LOOP_FLAGS.STEP_REFUSED (k : Nat) : Fld := ⟨LOOP_FLAGS.ofs k, 4, 1⟩
@[inherit_doc LOOP_FLAGS.ofs] def LOOP_FLAGS.STEP_APPLIED (k : Nat) : Fld := ⟨LOOP_FLAGS.ofs k, 5, 1⟩
@[inherit_doc LOOP_FLAGS.ofs] def LOOP_FLAGS.GRADE_DOWN (k : Nat) : Fld := ⟨LOOP_FLAGS.ofs k, 6, 1⟩
@[inherit_doc LOOP_FLAGS.ofs] def LOOP_FLAGS.AUTH_MISMATCH (k : Nat) : Fld := ⟨LOOP_FLAGS.ofs k, 7, 1⟩
@[inherit_doc LOOP_FLAGS.ofs] def LOOP_FLAGS.FREQ_SAT (k : Nat) : Fld := ⟨LOOP_FLAGS.ofs k, 8, 1⟩
@[inherit_doc LOOP_FLAGS.ofs] def LOOP_FLAGS.BW_CLAMPED (k : Nat) : Fld := ⟨LOOP_FLAGS.ofs k, 9, 1⟩
@[inherit_doc LOOP_FLAGS.ofs] def LOOP_FLAGS.DEADLINE (k : Nat) : Fld := ⟨LOOP_FLAGS.ofs k, 10, 1⟩
/-- LOOP_STEP_AUTH, INST domain. -/
def LOOP_STEP_AUTH.ofs (k : Nat) : Nat := 0xA1048 + k * 0x100
@[inherit_doc LOOP_STEP_AUTH.ofs] def LOOP_STEP_AUTH.SEQ (k : Nat) : Fld := ⟨LOOP_STEP_AUTH.ofs k, 0, 16⟩
@[inherit_doc LOOP_STEP_AUTH.ofs] def LOOP_STEP_AUTH.AUTH (k : Nat) : Fld := ⟨LOOP_STEP_AUTH.ofs k, 16, 1⟩
@[inherit_doc LOOP_STEP_AUTH.ofs] def LOOP_STEP_AUTH.ALIGN (k : Nat) : Fld := ⟨LOOP_STEP_AUTH.ofs k, 17, 1⟩
@[inherit_doc LOOP_STEP_AUTH.ofs] def LOOP_STEP_AUTH.REJECT (k : Nat) : Fld := ⟨LOOP_STEP_AUTH.ofs k, 18, 1⟩
/-- LOOP_PEND_INFO, INST domain. -/
def LOOP_PEND_INFO.ofs (k : Nat) : Nat := 0xA104C + k * 0x100
@[inherit_doc LOOP_PEND_INFO.ofs] def LOOP_PEND_INFO.SEQ (k : Nat) : Fld := ⟨LOOP_PEND_INFO.ofs k, 0, 16⟩
/-- LOOP_CNT, INST domain. -/
def LOOP_CNT.ofs (k : Nat) : Nat := 0xA1050 + k * 0x100
@[inherit_doc LOOP_CNT.ofs] def LOOP_CNT.LOCK_LOSSES (k : Nat) : Fld := ⟨LOOP_CNT.ofs k, 0, 16⟩
@[inherit_doc LOOP_CNT.ofs] def LOOP_CNT.HO_ENTRIES (k : Nat) : Fld := ⟨LOOP_CNT.ofs k, 16, 16⟩
/-- LOOP_HO_TIME, INST domain. -/
def LOOP_HO_TIME.ofs (k : Nat) : Nat := 0xA1054 + k * 0x100
@[inherit_doc LOOP_HO_TIME.ofs] def LOOP_HO_TIME.SEC (k : Nat) : Fld := ⟨LOOP_HO_TIME.ofs k, 0, 32⟩
/-- LOOP_PEND_PH, INST domain. -/
def LOOP_PEND_PH.ofs (k : Nat) : Nat := 0xA1058 + k * 0x100
/-- LOOP_E_PH, INST domain. -/
def LOOP_E_PH.ofs (k : Nat) : Nat := 0xA1060 + k * 0x100
/-- LOOP_INT_FF, INST domain. -/
def LOOP_INT_FF.ofs (k : Nat) : Nat := 0xA1068 + k * 0x100
/-- LOOP_STEER_FF, INST domain. -/
def LOOP_STEER_FF.ofs (k : Nat) : Nat := 0xA1070 + k * 0x100
/-- LOOP_RESID_PH, INST domain. -/
def LOOP_RESID_PH.ofs (k : Nat) : Nat := 0xA1078 + k * 0x100
/-- LOOP_HO_FF, INST domain. -/
def LOOP_HO_FF.ofs (k : Nat) : Nat := 0xA1080 + k * 0x100
/-- LOOP_HO_DRIFT_FF, INST domain. -/
def LOOP_HO_DRIFT_FF.ofs (k : Nat) : Nat := 0xA1088 + k * 0x100
/-- LOOP_UNC_PH, INST domain. -/
def LOOP_UNC_PH.ofs (k : Nat) : Nat := 0xA1090 + k * 0x100
/-- LOOP_NUM_FF, INST domain. -/
def LOOP_NUM_FF.ofs (k : Nat) : Nat := 0xA1098 + k * 0x100
/-- LOOP_NUM_PH, INST domain. -/
def LOOP_NUM_PH.ofs (k : Nat) : Nat := 0xA10A0 + k * 0x100

end Sys2Proof.Machine
end

