-- ==== Sys2Proof/Machine/RegMapMac.lean ====
section
/-! DEFINITION. The register map of the MAC block, from the register tables of 09_ethernet_ports.md.
One descriptor per register entry (offset, reset domain, fields with access code and the two defaults of R19) and one
named offset `NAME.ofs` and one named field `NAME.FIELD` per entry of the tables. -/

namespace Sys2Proof.Machine

/-- Register descriptors of the MAC block, part 0. -/
def regsMac0 : List RegDesc := [
  ⟨"EP_CFG", 0x300000, [(0x10000, 8)], false, .inst, .mac, some .port,
    [⟨0, 1, .rw, (.val 0), (.val 0)⟩,
     ⟨1, 3, .rw, (.val 0), (.val 0)⟩,
     ⟨4, 2, .rw, (.val 0), (.val 0)⟩,
     ⟨6, 1, .rw, (.val 0), (.val 1)⟩,
     ⟨7, 1, .rw, (.val 0), (.val 0)⟩,
     ⟨8, 1, .rw, (.val 0), (.val 1)⟩,
     ⟨9, 1, .rw, (.val 0), (.val 0)⟩,
     ⟨10, 1, .rw, (.val 1), (.val 1)⟩,
     ⟨11, 1, .rw, (.val 0), (.val 1)⟩,
     ⟨12, 1, .rw, (.val 0), (.val 0)⟩,
     ⟨13, 1, .rw, (.val 0), (.val 1)⟩,
     ⟨14, 3, .rw, (.val 7), (.val 7)⟩]⟩,
  ⟨"EP_STATUS", 0x300004, [(0x10000, 8)], false, .inst, .mac, some .port,
    [⟨0, 1, .ro, (.val 0), .live⟩,
     ⟨1, 1, .ro, (.val 0), .live⟩,
     ⟨2, 1, .ro, (.val 0), .live⟩,
     ⟨16, 10, .ro, (.val 0), .live⟩]⟩,
  ⟨"EP_FLAGS", 0x300008, [(0x10000, 8)], false, .inst, .mac, some .port,
    [⟨0, 1, .w1c, (.val 0), (.val 0)⟩,
     ⟨1, 1, .w1c, (.val 0), (.val 0)⟩,
     ⟨2, 1, .w1c, (.val 0), (.val 0)⟩,
     ⟨3, 1, .w1c, (.val 0), (.val 0)⟩,
     ⟨4, 1, .w1c, (.val 0), (.val 0)⟩,
     ⟨5, 1, .w1c, (.val 0), (.val 0)⟩,
     ⟨6, 1, .w1c, (.val 0), (.val 0)⟩]⟩,
  ⟨"EP_MAC_ADDR", 0x300010, [(0x10000, 8)], true, .inst, .mac, some .port,
    [⟨0, 48, .rw, (.val 0), (.val 0)⟩]⟩,
  ⟨"EP_TX_DLY_PH", 0x300018, [(0x10000, 8)], true, .inst, .mac, some .port,
    [⟨0, 64, .ro, .live, .live⟩]⟩,
  ⟨"EP_RX_DLY_PH", 0x300020, [(0x10000, 8)], true, .inst, .mac, some .port,
    [⟨0, 64, .ro, .live, .live⟩]⟩,
  ⟨"EP_TX_EXT_PH", 0x300028, [(0x10000, 8)], true, .inst, .mac, some .port,
    [⟨0, 64, .rw, (.val 0), (.val 0)⟩]⟩,
  ⟨"EP_RX_EXT_PH", 0x300030, [(0x10000, 8)], true, .inst, .mac, some .port,
    [⟨0, 64, .rw, (.val 0), (.val 0)⟩]⟩,
  ⟨"EP_DEP_SENT", 0x300038, [(0x10000, 8)], false, .inst, .mac, some .port,
    [⟨0, 32, .rc, (.val 0), (.val 0)⟩]⟩,
  ⟨"EP_DEP_DROP0", 0x30003C, [(0x10000, 8)], false, .inst, .mac, some .port,
    [⟨0, 16, .rc, (.val 0), (.val 0)⟩,
     ⟨16, 16, .rc, (.val 0), (.val 0)⟩]⟩]

/-- Register descriptors of the MAC block, part 1. -/
def regsMac1 : List RegDesc := [
  ⟨"EP_DEP_DROP1", 0x300040, [(0x10000, 8)], false, .inst, .mac, some .port,
    [⟨0, 16, .rc, (.val 0), (.val 0)⟩,
     ⟨16, 16, .rc, (.val 0), (.val 0)⟩]⟩,
  ⟨"EP_DEP_DROP2", 0x300044, [(0x10000, 8)], false, .inst, .mac, some .port,
    [⟨0, 16, .rc, (.val 0), (.val 0)⟩,
     ⟨16, 16, .rc, (.val 0), (.val 0)⟩]⟩,
  ⟨"EP_DEP_UNUSED", 0x300048, [(0x10000, 8)], false, .inst, .mac, some .port,
    [⟨0, 32, .rc, (.val 0), (.val 0)⟩]⟩,
  ⟨"EP_RX_CNT", 0x30004C, [(0x10000, 8)], false, .inst, .mac, some .port,
    [⟨0, 16, .rc, (.val 0), (.val 0)⟩,
     ⟨16, 16, .rc, (.val 0), (.val 0)⟩]⟩,
  ⟨"EP_TSQ_STATUS", 0x300060, [(0x10000, 8)], false, .inst, .mac, some .port,
    [⟨0, 7, .ro, (.val 0), .live⟩,
     ⟨16, 16, .rc, (.val 0), (.val 0)⟩]⟩,
  ⟨"EP_TSQ_POP", 0x300064, [(0x10000, 8)], false, .inst, .mac, some .port,
    [⟨0, 16, .ro, (.val 0), .live⟩,
     ⟨16, 1, .ro, (.val 0), .live⟩,
     ⟨17, 1, .ro, (.val 0), .live⟩,
     ⟨18, 1, .ro, (.val 0), .live⟩,
     ⟨19, 1, .ro, (.val 0), .live⟩,
     ⟨20, 1, .ro, (.val 0), .live⟩]⟩,
  ⟨"EP_TSQ_SEC", 0x300068, [(0x10000, 8)], true, .inst, .mac, some .port,
    [⟨0, 64, .ro, (.val 0), .live⟩]⟩,
  ⟨"EP_TSQ_NS", 0x300070, [(0x10000, 8)], false, .inst, .mac, some .port,
    [⟨0, 32, .ro, (.val 0), .live⟩]⟩,
  ⟨"EP_TSQ_FRAC", 0x300074, [(0x10000, 8)], false, .inst, .mac, some .port,
    [⟨0, 32, .ro, (.val 0), .live⟩]⟩,
  ⟨"EP_ESMC_CFG", 0x300080, [(0x10000, 8)], false, .inst, .mac, some .port,
    [⟨0, 5, .rw, (.val 0), (.val 0)⟩,
     ⟨5, 1, .rw, (.val 1), (.val 1)⟩]⟩]

/-- Register descriptors of the MAC block, part 2. -/
def regsMac2 : List RegDesc := [
  ⟨"EP_ESMC_STATUS", 0x300084, [(0x10000, 8)], false, .inst, .mac, some .port,
    [⟨0, 4, .ro, (.val 0xf), .live⟩,
     ⟨4, 8, .ro, (.val 0xff), .live⟩,
     ⟨12, 4, .ro, (.val 0xf), .live⟩,
     ⟨16, 8, .ro, (.val 0xff), .live⟩,
     ⟨24, 1, .ro, (.val 0), .live⟩]⟩,
  ⟨"EP_GATE_CFG", 0x3000A0, [(0x10000, 8)], false, .inst, .mac, some .port,
    [⟨0, 1, .rw, (.val 0), (.val 0)⟩,
     ⟨1, 1, .wo, (.val 0), (.val 0)⟩,
     ⟨2, 10, .rw, (.val 0), (.val 0)⟩,
     ⟨12, 11, .rw, (.val 0), (.val 0)⟩]⟩,
  ⟨"EP_GATE_STATUS", 0x3000A4, [(0x10000, 8)], false, .inst, .mac, some .port,
    [⟨0, 2, .ro, (.val 0), .live⟩,
     ⟨2, 8, .ro, (.val 0xff), .live⟩,
     ⟨10, 10, .ro, (.val 0), .live⟩,
     ⟨20, 11, .ro, (.val 0), .live⟩]⟩,
  ⟨"EP_GATE_BASE_SEC", 0x3000A8, [(0x10000, 8)], true, .inst, .mac, some .port,
    [⟨0, 64, .rw, (.val 0), (.val 0)⟩]⟩,
  ⟨"EP_GATE_BASE_NS", 0x3000B0, [(0x10000, 8)], false, .inst, .mac, some .port,
    [⟨0, 32, .rw, (.val 0), (.val 0)⟩]⟩,
  ⟨"EP_GATE_CYCLE", 0x3000B4, [(0x10000, 8)], false, .inst, .mac, some .port,
    [⟨0, 32, .rw, (.val 0xf4240), (.val 0xf4240)⟩]⟩,
  ⟨"EP_GATE_EXT", 0x3000B8, [(0x10000, 8)], false, .inst, .mac, some .port,
    [⟨0, 32, .rw, (.val 0), (.val 0)⟩]⟩,
  ⟨"EP_HASH", 0x300800, [(0x10000, 8), (0x4, 128)], false, .inst, .mac, some .port,
    [⟨0, 32, .rw, (.val 0), (.val 0)⟩]⟩,
  ⟨"EP_GATE_ENT", 0x301000, [(0x10000, 8), (0x4, 1024)], false, .inst, .mac, some .port,
    [⟨0, 8, .rw, (.val 0xff), (.val 0xff)⟩,
     ⟨8, 24, .rw, (.val 0x3e8), (.val 0x3e8)⟩]⟩]

/-- Every register of the MAC block. -/
def regsMac : List RegDesc := regsMac0 ++ regsMac1 ++ regsMac2

/-- EP_CFG, INST domain. -/
def EP_CFG.ofs (n : Nat) : Nat := 0x300000 + n * 0x10000
@[inherit_doc EP_CFG.ofs] def EP_CFG.EN (n : Nat) : Fld := ⟨EP_CFG.ofs n, 0, 1⟩
@[inherit_doc EP_CFG.ofs] def EP_CFG.MODE (n : Nat) : Fld := ⟨EP_CFG.ofs n, 1, 3⟩
@[inherit_doc EP_CFG.ofs] def EP_CFG.FEC (n : Nat) : Fld := ⟨EP_CFG.ofs n, 4, 2⟩
@[inherit_doc EP_CFG.ofs] def EP_CFG.AN_EN (n : Nat) : Fld := ⟨EP_CFG.ofs n, 6, 1⟩
@[inherit_doc EP_CFG.ofs] def EP_CFG.RX_PAUSE_EN (n : Nat) : Fld := ⟨EP_CFG.ofs n, 7, 1⟩
@[inherit_doc EP_CFG.ofs] def EP_CFG.TX_FOLLOW (n : Nat) : Fld := ⟨EP_CFG.ofs n, 8, 1⟩
@[inherit_doc EP_CFG.ofs] def EP_CFG.PROMISC (n : Nat) : Fld := ⟨EP_CFG.ofs n, 9, 1⟩
@[inherit_doc EP_CFG.ofs] def EP_CFG.BCAST_EN (n : Nat) : Fld := ⟨EP_CFG.ofs n, 10, 1⟩
@[inherit_doc EP_CFG.ofs] def EP_CFG.HASH_EN (n : Nat) : Fld := ⟨EP_CFG.ofs n, 11, 1⟩
@[inherit_doc EP_CFG.ofs] def EP_CFG.ESMC_TX_EN (n : Nat) : Fld := ⟨EP_CFG.ofs n, 12, 1⟩
@[inherit_doc EP_CFG.ofs] def EP_CFG.ESSM_EN (n : Nat) : Fld := ⟨EP_CFG.ofs n, 13, 1⟩
@[inherit_doc EP_CFG.ofs] def EP_CFG.DEP_TC (n : Nat) : Fld := ⟨EP_CFG.ofs n, 14, 3⟩
/-- EP_STATUS, INST domain. -/
def EP_STATUS.ofs (n : Nat) : Nat := 0x300004 + n * 0x10000
@[inherit_doc EP_STATUS.ofs] def EP_STATUS.LINK (n : Nat) : Fld := ⟨EP_STATUS.ofs n, 0, 1⟩
@[inherit_doc EP_STATUS.ofs] def EP_STATUS.FEC_LOCK (n : Nat) : Fld := ⟨EP_STATUS.ofs n, 1, 1⟩
@[inherit_doc EP_STATUS.ofs] def EP_STATUS.PAUSED (n : Nat) : Fld := ⟨EP_STATUS.ofs n, 2, 1⟩
@[inherit_doc EP_STATUS.ofs] def EP_STATUS.DEP_FILL (n : Nat) : Fld := ⟨EP_STATUS.ofs n, 16, 10⟩
/-- EP_FLAGS, INST domain. -/
def EP_FLAGS.ofs (n : Nat) : Nat := 0x300008 + n * 0x10000
@[inherit_doc EP_FLAGS.ofs] def EP_FLAGS.LINK_DOWN_EV (n : Nat) : Fld := ⟨EP_FLAGS.ofs n, 0, 1⟩
@[inherit_doc EP_FLAGS.ofs] def EP_FLAGS.DEP_DROP (n : Nat) : Fld := ⟨EP_FLAGS.ofs n, 1, 1⟩
@[inherit_doc EP_FLAGS.ofs] def EP_FLAGS.TSQ_OVF (n : Nat) : Fld := ⟨EP_FLAGS.ofs n, 2, 1⟩
@[inherit_doc EP_FLAGS.ofs] def EP_FLAGS.GATE_ERR (n : Nat) : Fld := ⟨EP_FLAGS.ofs n, 3, 1⟩
@[inherit_doc EP_FLAGS.ofs] def EP_FLAGS.CHANGE_DONE (n : Nat) : Fld := ⟨EP_FLAGS.ofs n, 4, 1⟩
@[inherit_doc EP_FLAGS.ofs] def EP_FLAGS.ESMC_RX_EV (n : Nat) : Fld := ⟨EP_FLAGS.ofs n, 5, 1⟩
@[inherit_doc EP_FLAGS.ofs] def EP_FLAGS.CFG_BAD (n : Nat) : Fld := ⟨EP_FLAGS.ofs n, 6, 1⟩
/-- EP_MAC_ADDR, INST domain. -/
def EP_MAC_ADDR.ofs (n : Nat) : Nat := 0x300010 + n * 0x10000
/-- EP_TX_DLY_PH, INST domain. -/
def EP_TX_DLY_PH.ofs (n : Nat) : Nat := 0x300018 + n * 0x10000
/-- EP_RX_DLY_PH, INST domain. -/
def EP_RX_DLY_PH.ofs (n : Nat) : Nat := 0x300020 + n * 0x10000
/-- EP_TX_EXT_PH, INST domain. -/
def EP_TX_EXT_PH.ofs (n : Nat) : Nat := 0x300028 + n * 0x10000
/-- EP_RX_EXT_PH, INST domain. -/
def EP_RX_EXT_PH.ofs (n : Nat) : Nat := 0x300030 + n * 0x10000
/-- EP_DEP_SENT, INST domain. -/
def EP_DEP_SENT.ofs (n : Nat) : Nat := 0x300038 + n * 0x10000
@[inherit_doc EP_DEP_SENT.ofs] def EP_DEP_SENT.COUNT (n : Nat) : Fld := ⟨EP_DEP_SENT.ofs n, 0, 32⟩
/-- EP_DEP_DROP0, INST domain. -/
def EP_DEP_DROP0.ofs (n : Nat) : Nat := 0x30003C + n * 0x10000
@[inherit_doc EP_DEP_DROP0.ofs] def EP_DEP_DROP0.QUEUE (n : Nat) : Fld := ⟨EP_DEP_DROP0.ofs n, 0, 16⟩
@[inherit_doc EP_DEP_DROP0.ofs] def EP_DEP_DROP0.LATE (n : Nat) : Fld := ⟨EP_DEP_DROP0.ofs n, 16, 16⟩
/-- EP_DEP_DROP1, INST domain. -/
def EP_DEP_DROP1.ofs (n : Nat) : Nat := 0x300040 + n * 0x10000
@[inherit_doc EP_DEP_DROP1.ofs] def EP_DEP_DROP1.LINK (n : Nat) : Fld := ⟨EP_DEP_DROP1.ofs n, 0, 16⟩
@[inherit_doc EP_DEP_DROP1.ofs] def EP_DEP_DROP1.REPLICA (n : Nat) : Fld := ⟨EP_DEP_DROP1.ofs n, 16, 16⟩
/-- EP_DEP_DROP2, INST domain. -/
def EP_DEP_DROP2.ofs (n : Nat) : Nat := 0x300044 + n * 0x10000
@[inherit_doc EP_DEP_DROP2.ofs] def EP_DEP_DROP2.PAUSE (n : Nat) : Fld := ⟨EP_DEP_DROP2.ofs n, 0, 16⟩
@[inherit_doc EP_DEP_DROP2.ofs] def EP_DEP_DROP2.GATE (n : Nat) : Fld := ⟨EP_DEP_DROP2.ofs n, 16, 16⟩
/-- EP_DEP_UNUSED, INST domain. -/
def EP_DEP_UNUSED.ofs (n : Nat) : Nat := 0x300048 + n * 0x10000
@[inherit_doc EP_DEP_UNUSED.ofs] def EP_DEP_UNUSED.UNUSED (n : Nat) : Fld := ⟨EP_DEP_UNUSED.ofs n, 0, 32⟩
/-- EP_RX_CNT, INST domain. -/
def EP_RX_CNT.ofs (n : Nat) : Nat := 0x30004C + n * 0x10000
@[inherit_doc EP_RX_CNT.ofs] def EP_RX_CNT.FILTERED (n : Nat) : Fld := ⟨EP_RX_CNT.ofs n, 0, 16⟩
@[inherit_doc EP_RX_CNT.ofs] def EP_RX_CNT.PAUSE_RX (n : Nat) : Fld := ⟨EP_RX_CNT.ofs n, 16, 16⟩
/-- EP_TSQ_STATUS, INST domain. -/
def EP_TSQ_STATUS.ofs (n : Nat) : Nat := 0x300060 + n * 0x10000
@[inherit_doc EP_TSQ_STATUS.ofs] def EP_TSQ_STATUS.COUNT (n : Nat) : Fld := ⟨EP_TSQ_STATUS.ofs n, 0, 7⟩
@[inherit_doc EP_TSQ_STATUS.ofs] def EP_TSQ_STATUS.OVF (n : Nat) : Fld := ⟨EP_TSQ_STATUS.ofs n, 16, 16⟩
/-- EP_TSQ_POP, INST domain. -/
def EP_TSQ_POP.ofs (n : Nat) : Nat := 0x300064 + n * 0x10000
@[inherit_doc EP_TSQ_POP.ofs] def EP_TSQ_POP.ID (n : Nat) : Fld := ⟨EP_TSQ_POP.ofs n, 0, 16⟩
@[inherit_doc EP_TSQ_POP.ofs] def EP_TSQ_POP.VALID (n : Nat) : Fld := ⟨EP_TSQ_POP.ofs n, 16, 1⟩
@[inherit_doc EP_TSQ_POP.ofs] def EP_TSQ_POP.DROPPED (n : Nat) : Fld := ⟨EP_TSQ_POP.ofs n, 17, 1⟩
@[inherit_doc EP_TSQ_POP.ofs] def EP_TSQ_POP.OVF_BEFORE (n : Nat) : Fld := ⟨EP_TSQ_POP.ofs n, 18, 1⟩
@[inherit_doc EP_TSQ_POP.ofs] def EP_TSQ_POP.UNLOCKED (n : Nat) : Fld := ⟨EP_TSQ_POP.ofs n, 19, 1⟩
@[inherit_doc EP_TSQ_POP.ofs] def EP_TSQ_POP.FREE_MEAS (n : Nat) : Fld := ⟨EP_TSQ_POP.ofs n, 20, 1⟩
/-- EP_TSQ_SEC, INST domain. -/
def EP_TSQ_SEC.ofs (n : Nat) : Nat := 0x300068 + n * 0x10000
/-- EP_TSQ_NS, INST domain. -/
def EP_TSQ_NS.ofs (n : Nat) : Nat := 0x300070 + n * 0x10000
@[inherit_doc EP_TSQ_NS.ofs] def EP_TSQ_NS.NS (n : Nat) : Fld := ⟨EP_TSQ_NS.ofs n, 0, 32⟩
/-- EP_TSQ_FRAC, INST domain. -/
def EP_TSQ_FRAC.ofs (n : Nat) : Nat := 0x300074 + n * 0x10000
@[inherit_doc EP_TSQ_FRAC.ofs] def EP_TSQ_FRAC.FRAC (n : Nat) : Fld := ⟨EP_TSQ_FRAC.ofs n, 0, 32⟩
/-- EP_ESMC_CFG, INST domain. -/
def EP_ESMC_CFG.ofs (n : Nat) : Nat := 0x300080 + n * 0x10000
@[inherit_doc EP_ESMC_CFG.ofs] def EP_ESMC_CFG.ESMC_LOOP (n : Nat) : Fld := ⟨EP_ESMC_CFG.ofs n, 0, 5⟩
@[inherit_doc EP_ESMC_CFG.ofs] def EP_ESMC_CFG.LOOP_AUTO (n : Nat) : Fld := ⟨EP_ESMC_CFG.ofs n, 5, 1⟩
/-- EP_ESMC_STATUS, INST domain. -/
def EP_ESMC_STATUS.ofs (n : Nat) : Nat := 0x300084 + n * 0x10000
@[inherit_doc EP_ESMC_STATUS.ofs] def EP_ESMC_STATUS.TX_SSM (n : Nat) : Fld := ⟨EP_ESMC_STATUS.ofs n, 0, 4⟩
@[inherit_doc EP_ESMC_STATUS.ofs] def EP_ESMC_STATUS.TX_ESSM (n : Nat) : Fld := ⟨EP_ESMC_STATUS.ofs n, 4, 8⟩
@[inherit_doc EP_ESMC_STATUS.ofs] def EP_ESMC_STATUS.RX_SSM (n : Nat) : Fld := ⟨EP_ESMC_STATUS.ofs n, 12, 4⟩
@[inherit_doc EP_ESMC_STATUS.ofs] def EP_ESMC_STATUS.RX_ESSM (n : Nat) : Fld := ⟨EP_ESMC_STATUS.ofs n, 16, 8⟩
@[inherit_doc EP_ESMC_STATUS.ofs] def EP_ESMC_STATUS.RX_VALID (n : Nat) : Fld := ⟨EP_ESMC_STATUS.ofs n, 24, 1⟩
/-- EP_GATE_CFG, INST domain. -/
def EP_GATE_CFG.ofs (n : Nat) : Nat := 0x3000A0 + n * 0x10000
@[inherit_doc EP_GATE_CFG.ofs] def EP_GATE_CFG.GATE_EN (n : Nat) : Fld := ⟨EP_GATE_CFG.ofs n, 0, 1⟩
@[inherit_doc EP_GATE_CFG.ofs] def EP_GATE_CFG.CHANGE (n : Nat) : Fld := ⟨EP_GATE_CFG.ofs n, 1, 1⟩
@[inherit_doc EP_GATE_CFG.ofs] def EP_GATE_CFG.ADMIN_START (n : Nat) : Fld := ⟨EP_GATE_CFG.ofs n, 2, 10⟩
@[inherit_doc EP_GATE_CFG.ofs] def EP_GATE_CFG.ADMIN_LEN (n : Nat) : Fld := ⟨EP_GATE_CFG.ofs n, 12, 11⟩
/-- EP_GATE_STATUS, INST domain. -/
def EP_GATE_STATUS.ofs (n : Nat) : Nat := 0x3000A4 + n * 0x10000
@[inherit_doc EP_GATE_STATUS.ofs] def EP_GATE_STATUS.STATE (n : Nat) : Fld := ⟨EP_GATE_STATUS.ofs n, 0, 2⟩
@[inherit_doc EP_GATE_STATUS.ofs] def EP_GATE_STATUS.GATES (n : Nat) : Fld := ⟨EP_GATE_STATUS.ofs n, 2, 8⟩
@[inherit_doc EP_GATE_STATUS.ofs] def EP_GATE_STATUS.OPER_START (n : Nat) : Fld := ⟨EP_GATE_STATUS.ofs n, 10, 10⟩
@[inherit_doc EP_GATE_STATUS.ofs] def EP_GATE_STATUS.OPER_LEN (n : Nat) : Fld := ⟨EP_GATE_STATUS.ofs n, 20, 11⟩
/-- EP_GATE_BASE_SEC, INST domain. -/
def EP_GATE_BASE_SEC.ofs (n : Nat) : Nat := 0x3000A8 + n * 0x10000
/-- EP_GATE_BASE_NS, INST domain. -/
def EP_GATE_BASE_NS.ofs (n : Nat) : Nat := 0x3000B0 + n * 0x10000
@[inherit_doc EP_GATE_BASE_NS.ofs] def EP_GATE_BASE_NS.NS (n : Nat) : Fld := ⟨EP_GATE_BASE_NS.ofs n, 0, 32⟩
/-- EP_GATE_CYCLE, INST domain. -/
def EP_GATE_CYCLE.ofs (n : Nat) : Nat := 0x3000B4 + n * 0x10000
@[inherit_doc EP_GATE_CYCLE.ofs] def EP_GATE_CYCLE.CYCLE (n : Nat) : Fld := ⟨EP_GATE_CYCLE.ofs n, 0, 32⟩
/-- EP_GATE_EXT, INST domain. -/
def EP_GATE_EXT.ofs (n : Nat) : Nat := 0x3000B8 + n * 0x10000
@[inherit_doc EP_GATE_EXT.ofs] def EP_GATE_EXT.CYCLE_EXT (n : Nat) : Fld := ⟨EP_GATE_EXT.ofs n, 0, 32⟩
/-- EP_HASH, INST domain. -/
def EP_HASH.ofs (n : Nat) (i : Nat) : Nat := 0x300800 + n * 0x10000 + i * 0x4
@[inherit_doc EP_HASH.ofs] def EP_HASH.BINS (n : Nat) (i : Nat) : Fld := ⟨EP_HASH.ofs n i, 0, 32⟩
/-- EP_GATE_ENT, INST domain. -/
def EP_GATE_ENT.ofs (n : Nat) (e : Nat) : Nat := 0x301000 + n * 0x10000 + e * 0x4
@[inherit_doc EP_GATE_ENT.ofs] def EP_GATE_ENT.STATES (n : Nat) (e : Nat) : Fld := ⟨EP_GATE_ENT.ofs n e, 0, 8⟩
@[inherit_doc EP_GATE_ENT.ofs] def EP_GATE_ENT.INTERVAL (n : Nat) (e : Nat) : Fld := ⟨EP_GATE_ENT.ofs n e, 8, 24⟩

end Sys2Proof.Machine
end

