-- ==== Sys2Proof/Machine/RegMapMsix.lean ====
section
/-! DEFINITION. The MSI-X table and the pending-bit array inside the IRQ block's range (R380, R381). Their layout is that of
the PCIe MSI-X capability, which R380 names and does not restate. -/

namespace Sys2Proof.Machine

/-- The 64 MSI-X table entries of 16 bytes at 0x0003_8000 (message address, message data, vector control) and the
pending-bit array at 0x0003_9000 (R380). PRESUMED from the PCIe MSI-X rules: the entry layout and a mask bit that is 1 after
a reset. -/
def regsMsix : List RegDesc := [
  ⟨"MSIX_ADDR_LO", 0x38000, [(0x10, 64)], false, .pwr, .irq, none, [⟨0, 32, .rw, .val 0, .val 0⟩]⟩,
  ⟨"MSIX_ADDR_HI", 0x38004, [(0x10, 64)], false, .pwr, .irq, none, [⟨0, 32, .rw, .val 0, .val 0⟩]⟩,
  ⟨"MSIX_DATA", 0x38008, [(0x10, 64)], false, .pwr, .irq, none, [⟨0, 32, .rw, .val 0, .val 0⟩]⟩,
  ⟨"MSIX_CTRL", 0x3800C, [(0x10, 64)], false, .pwr, .irq, none, [⟨0, 1, .rw, .val 1, .val 1⟩]⟩,
  ⟨"MSIX_PBA", 0x39000, [(4, 2)], false, .pwr, .irq, none, [⟨0, 32, .ro, .val 0, .live⟩]⟩]

/-- Message address, low half, of vector `v`. -/
def MSIX_ADDR_LO.ofs (v : Nat) : Nat := 0x38000 + v * 0x10
/-- Message address, high half, of vector `v`. -/
def MSIX_ADDR_HI.ofs (v : Nat) : Nat := 0x38004 + v * 0x10
/-- Message data of vector `v`. -/
def MSIX_DATA.ofs (v : Nat) : Nat := 0x38008 + v * 0x10
/-- Mask bit of vector `v`. -/
def MSIX_CTRL.MASK (v : Nat) : Fld := ⟨0x3800C + v * 0x10, 0, 1⟩
/-- Pending bit of vector `v`. -/
def MSIX_PBA.PEND (v : Nat) : Fld := ⟨0x39000 + v / 32 * 4, v % 32, 1⟩

end Sys2Proof.Machine
end

