-- ==== Sys2Proof/Machine/RegMapNts.lean ====
section
/-! DEFINITION. The register map of the NTS block, from the register tables of 11_nts.md.
One descriptor per register entry (offset, reset domain, fields with access code and the two defaults of R19) and one
named offset `NAME.ofs` and one named field `NAME.FIELD` per entry of the tables. -/

namespace Sys2Proof.Machine

/-- Register descriptors of the NTS block, part 0. -/
def regsNts0 : List RegDesc := [
  ⟨"NTS_CFG", 0x480000, [], false, .blk, .nts, none,
    [⟨0, 1, .rw, (.val 0), (.val 1)⟩,
     ⟨1, 1, .rw, (.val 0), (.val 1)⟩,
     ⟨2, 1, .rw, (.val 0), (.val 1)⟩]⟩,
  ⟨"NTS_CTRL", 0x480004, [], false, .blk, .nts, none,
    [⟨0, 1, .wo, (.val 0), (.val 0)⟩,
     ⟨1, 1, .wo, (.val 0), (.val 0)⟩,
     ⟨2, 1, .wo, (.val 0), (.val 0)⟩,
     ⟨3, 1, .wo, (.val 0), (.val 0)⟩,
     ⟨4, 4, .wo, (.val 0), (.val 0)⟩,
     ⟨8, 8, .wo, (.val 0), (.val 0)⟩]⟩,
  ⟨"NTS_STATUS", 0x480008, [], false, .blk, .nts, none,
    [⟨0, 1, .ro, (.val 0), .live⟩,
     ⟨1, 2, .ro, (.val 0), .live⟩,
     ⟨3, 3, .ro, (.val 0), .live⟩]⟩,
  ⟨"NTS_FLAGS", 0x48000C, [], false, .blk, .nts, none,
    [⟨0, 1, .w1c, (.val 0), (.val 0)⟩,
     ⟨1, 1, .w1c, (.val 0), (.val 0)⟩,
     ⟨2, 1, .w1c, (.val 0), (.val 0)⟩,
     ⟨3, 1, .w1c, (.val 0), (.val 0)⟩,
     ⟨4, 1, .w1c, (.val 0), (.val 0)⟩,
     ⟨5, 1, .w1c, (.val 0), (.val 0)⟩,
     ⟨6, 1, .w1c, (.val 0), (.val 0)⟩,
     ⟨7, 1, .w1c, (.val 0), (.val 0)⟩,
     ⟨8, 1, .w1c, (.val 0), (.val 0)⟩]⟩,
  ⟨"NTS_ROT_PERIOD", 0x480010, [], false, .blk, .nts, none,
    [⟨0, 32, .rw, (.val 0x15180), (.val 0x15180)⟩]⟩,
  ⟨"NTS_ROT_BASE_SEC", 0x480018, [], true, .blk, .nts, none,
    [⟨0, 64, .rw, (.val 0), (.val 0)⟩]⟩,
  ⟨"NTS_KEYID", 0x480020, [(0x4, 3)], false, .blk, .nts, none,
    [⟨0, 32, .ro, (.val 0), .live⟩]⟩,
  ⟨"NTS_GEN_NEXT", 0x48002C, [], false, .blk, .nts, none,
    [⟨0, 32, .ro, (.val 1), .live⟩]⟩,
  ⟨"NTS_UNIT_MAP", 0x480030, [], false, .blk, .nts, none,
    [⟨0, 32, .rw, (.val 0xffaa5500), (.val 0xffaa5500)⟩]⟩,
  ⟨"NTS_UNIT_CFG", 0x480034, [], false, .blk, .nts, none,
    [⟨0, 16, .rw, (.val 0xffff), (.val 0xffff)⟩,
     ⟨16, 4, .rw, (.val 0xf), (.val 0xf)⟩,
     ⟨20, 1, .rw, (.val 0), (.val 1)⟩]⟩]

/-- Register descriptors of the NTS block, part 1. -/
def regsNts1 : List RegDesc := [
  ⟨"NTS_UNIT_STATUS", 0x480038, [], false, .blk, .nts, none,
    [⟨0, 16, .ro, (.val 0), .live⟩,
     ⟨16, 16, .ro, (.val 0), .live⟩]⟩,
  ⟨"NTS_MINT_CNT", 0x480040, [], false, .blk, .nts, none,
    [⟨0, 32, .rc, (.val 0), (.val 0)⟩]⟩,
  ⟨"NTS_MINT_ERR", 0x480044, [], false, .blk, .nts, none,
    [⟨0, 32, .rc, (.val 0), (.val 0)⟩]⟩,
  ⟨"NTS_CNT_NAK", 0x480100, [(0x20, 4)], false, .inst, .nts, some .pipeline,
    [⟨0, 16, .rc, (.val 0), (.val 0)⟩,
     ⟨16, 16, .rc, (.val 0), (.val 0)⟩]⟩,
  ⟨"NTS_CNT_ERR", 0x480104, [(0x20, 4)], false, .inst, .nts, some .pipeline,
    [⟨0, 16, .rc, (.val 0), (.val 0)⟩,
     ⟨16, 16, .rc, (.val 0), (.val 0)⟩]⟩,
  ⟨"NTS_CNT_POOL", 0x480108, [(0x20, 4)], false, .inst, .nts, some .pipeline,
    [⟨0, 16, .rc, (.val 0), (.val 0)⟩,
     ⟨16, 16, .rc, (.val 0), (.val 0)⟩]⟩,
  ⟨"NTS_CNT_COOKIES", 0x48010C, [(0x20, 4)], false, .inst, .nts, some .pipeline,
    [⟨0, 32, .rc, (.val 0), (.val 0)⟩]⟩]

/-- Every register of the NTS block. -/
def regsNts : List RegDesc := regsNts0 ++ regsNts1

/-- NTS_CFG, BLK domain. -/
def NTS_CFG.ofs : Nat := 0x480000
@[inherit_doc NTS_CFG.ofs] def NTS_CFG.EN : Fld := ⟨NTS_CFG.ofs, 0, 1⟩
@[inherit_doc NTS_CFG.ofs] def NTS_CFG.NAK_EN : Fld := ⟨NTS_CFG.ofs, 1, 1⟩
@[inherit_doc NTS_CFG.ofs] def NTS_CFG.ROT_EN : Fld := ⟨NTS_CFG.ofs, 2, 1⟩
/-- NTS_CTRL, BLK domain. -/
def NTS_CTRL.ofs : Nat := 0x480004
@[inherit_doc NTS_CTRL.ofs] def NTS_CTRL.ROTATE : Fld := ⟨NTS_CTRL.ofs, 0, 1⟩
@[inherit_doc NTS_CTRL.ofs] def NTS_CTRL.ZEROISE : Fld := ⟨NTS_CTRL.ofs, 1, 1⟩
@[inherit_doc NTS_CTRL.ofs] def NTS_CTRL.SELFTEST : Fld := ⟨NTS_CTRL.ofs, 2, 1⟩
@[inherit_doc NTS_CTRL.ofs] def NTS_CTRL.FORCE : Fld := ⟨NTS_CTRL.ofs, 3, 1⟩
@[inherit_doc NTS_CTRL.ofs] def NTS_CTRL.UNIT : Fld := ⟨NTS_CTRL.ofs, 4, 4⟩
@[inherit_doc NTS_CTRL.ofs] def NTS_CTRL.CONFIRM : Fld := ⟨NTS_CTRL.ofs, 8, 8⟩
/-- NTS_STATUS, BLK domain. -/
def NTS_STATUS.ofs : Nat := 0x480008
@[inherit_doc NTS_STATUS.ofs] def NTS_STATUS.READY : Fld := ⟨NTS_STATUS.ofs, 0, 1⟩
@[inherit_doc NTS_STATUS.ofs] def NTS_STATUS.ROT_STATE : Fld := ⟨NTS_STATUS.ofs, 1, 2⟩
@[inherit_doc NTS_STATUS.ofs] def NTS_STATUS.GEN_VALID : Fld := ⟨NTS_STATUS.ofs, 3, 3⟩
/-- NTS_FLAGS, BLK domain. -/
def NTS_FLAGS.ofs : Nat := 0x48000C
@[inherit_doc NTS_FLAGS.ofs] def NTS_FLAGS.ROTATED : Fld := ⟨NTS_FLAGS.ofs, 0, 1⟩
@[inherit_doc NTS_FLAGS.ofs] def NTS_FLAGS.ROT_FAIL : Fld := ⟨NTS_FLAGS.ofs, 1, 1⟩
@[inherit_doc NTS_FLAGS.ofs] def NTS_FLAGS.ZEROISED : Fld := ⟨NTS_FLAGS.ofs, 2, 1⟩
@[inherit_doc NTS_FLAGS.ofs] def NTS_FLAGS.UNIT_FAULT : Fld := ⟨NTS_FLAGS.ofs, 3, 1⟩
@[inherit_doc NTS_FLAGS.ofs] def NTS_FLAGS.BUSY_IN_SERVICE : Fld := ⟨NTS_FLAGS.ofs, 4, 1⟩
@[inherit_doc NTS_FLAGS.ofs] def NTS_FLAGS.FORCED_OUT : Fld := ⟨NTS_FLAGS.ofs, 5, 1⟩
@[inherit_doc NTS_FLAGS.ofs] def NTS_FLAGS.POOL_LATE : Fld := ⟨NTS_FLAGS.ofs, 6, 1⟩
@[inherit_doc NTS_FLAGS.ofs] def NTS_FLAGS.CFG_BAD : Fld := ⟨NTS_FLAGS.ofs, 7, 1⟩
@[inherit_doc NTS_FLAGS.ofs] def NTS_FLAGS.MINT_ERR : Fld := ⟨NTS_FLAGS.ofs, 8, 1⟩
/-- NTS_ROT_PERIOD, BLK domain. -/
def NTS_ROT_PERIOD.ofs : Nat := 0x480010
@[inherit_doc NTS_ROT_PERIOD.ofs] def NTS_ROT_PERIOD.PERIOD : Fld := ⟨NTS_ROT_PERIOD.ofs, 0, 32⟩
/-- NTS_ROT_BASE_SEC, BLK domain. -/
def NTS_ROT_BASE_SEC.ofs : Nat := 0x480018
/-- NTS_KEYID, BLK domain. -/
def NTS_KEYID.ofs (g : Nat) : Nat := 0x480020 + g * 0x4
@[inherit_doc NTS_KEYID.ofs] def NTS_KEYID.KEYID (g : Nat) : Fld := ⟨NTS_KEYID.ofs g, 0, 32⟩
/-- NTS_GEN_NEXT, BLK domain. -/
def NTS_GEN_NEXT.ofs : Nat := 0x48002C
@[inherit_doc NTS_GEN_NEXT.ofs] def NTS_GEN_NEXT.NEXT : Fld := ⟨NTS_GEN_NEXT.ofs, 0, 32⟩
/-- NTS_UNIT_MAP, BLK domain. -/
def NTS_UNIT_MAP.ofs : Nat := 0x480030
@[inherit_doc NTS_UNIT_MAP.ofs] def NTS_UNIT_MAP.MAP : Fld := ⟨NTS_UNIT_MAP.ofs, 0, 32⟩
/-- NTS_UNIT_CFG, BLK domain. -/
def NTS_UNIT_CFG.ofs : Nat := 0x480034
@[inherit_doc NTS_UNIT_CFG.ofs] def NTS_UNIT_CFG.EN : Fld := ⟨NTS_UNIT_CFG.ofs, 0, 16⟩
@[inherit_doc NTS_UNIT_CFG.ofs] def NTS_UNIT_CFG.MINT_UNIT : Fld := ⟨NTS_UNIT_CFG.ofs, 16, 4⟩
@[inherit_doc NTS_UNIT_CFG.ofs] def NTS_UNIT_CFG.MINT_EN : Fld := ⟨NTS_UNIT_CFG.ofs, 20, 1⟩
/-- NTS_UNIT_STATUS, BLK domain. -/
def NTS_UNIT_STATUS.ofs : Nat := 0x480038
@[inherit_doc NTS_UNIT_STATUS.ofs] def NTS_UNIT_STATUS.FAULT : Fld := ⟨NTS_UNIT_STATUS.ofs, 0, 16⟩
@[inherit_doc NTS_UNIT_STATUS.ofs] def NTS_UNIT_STATUS.TESTING : Fld := ⟨NTS_UNIT_STATUS.ofs, 16, 16⟩
/-- NTS_MINT_CNT, BLK domain. -/
def NTS_MINT_CNT.ofs : Nat := 0x480040
@[inherit_doc NTS_MINT_CNT.ofs] def NTS_MINT_CNT.COUNT : Fld := ⟨NTS_MINT_CNT.ofs, 0, 32⟩
/-- NTS_MINT_ERR, BLK domain. -/
def NTS_MINT_ERR.ofs : Nat := 0x480044
@[inherit_doc NTS_MINT_ERR.ofs] def NTS_MINT_ERR.COUNT : Fld := ⟨NTS_MINT_ERR.ofs, 0, 32⟩
/-- NTS_CNT_NAK, INST domain. -/
def NTS_CNT_NAK.ofs (p : Nat) : Nat := 0x480100 + p * 0x20
@[inherit_doc NTS_CNT_NAK.ofs] def NTS_CNT_NAK.KEY (p : Nat) : Fld := ⟨NTS_CNT_NAK.ofs p, 0, 16⟩
@[inherit_doc NTS_CNT_NAK.ofs] def NTS_CNT_NAK.COOKIE (p : Nat) : Fld := ⟨NTS_CNT_NAK.ofs p, 16, 16⟩
/-- NTS_CNT_ERR, INST domain. -/
def NTS_CNT_ERR.ofs (p : Nat) : Nat := 0x480104 + p * 0x20
@[inherit_doc NTS_CNT_ERR.ofs] def NTS_CNT_ERR.AUTH (p : Nat) : Fld := ⟨NTS_CNT_ERR.ofs p, 0, 16⟩
@[inherit_doc NTS_CNT_ERR.ofs] def NTS_CNT_ERR.MALFORMED (p : Nat) : Fld := ⟨NTS_CNT_ERR.ofs p, 16, 16⟩
/-- NTS_CNT_POOL, INST domain. -/
def NTS_CNT_POOL.ofs (p : Nat) : Nat := 0x480108 + p * 0x20
@[inherit_doc NTS_CNT_POOL.ofs] def NTS_CNT_POOL.POOL_LATE (p : Nat) : Fld := ⟨NTS_CNT_POOL.ofs p, 0, 16⟩
@[inherit_doc NTS_CNT_POOL.ofs] def NTS_CNT_POOL.NOUNIT (p : Nat) : Fld := ⟨NTS_CNT_POOL.ofs p, 16, 16⟩
/-- NTS_CNT_COOKIES, INST domain. -/
def NTS_CNT_COOKIES.ofs (p : Nat) : Nat := 0x48010C + p * 0x20
@[inherit_doc NTS_CNT_COOKIES.ofs] def NTS_CNT_COOKIES.COUNT (p : Nat) : Fld := ⟨NTS_CNT_COOKIES.ofs p, 0, 32⟩

end Sys2Proof.Machine
end

