-- ==== Sys2Proof/Machine/RegMapOut.lean ====
section
/-! DEFINITION. The register map of the OUT block, from the register tables of 07_outputs_and_triggers.md.
One descriptor per register entry (offset, reset domain, fields with access code and the two defaults of R19) and one
named offset `NAME.ofs` and one named field `NAME.FIELD` per entry of the tables. -/

namespace Sys2Proof.Machine

/-- Register descriptors of the OUT block, part 0. -/
def regsOut0 : List RegDesc := [
  ⟨"OUT_GLB_CFG", 0xC0000, [], false, .blk, .out, none,
    [⟨0, 1, .rw, (.val 0), (.val 0)⟩,
     ⟨1, 1, .rw, (.val 0), (.val 0)⟩]⟩,
  ⟨"OUT_GLB_STATUS", 0xC0004, [], false, .blk, .out, none,
    [⟨0, 1, .ro, (.val 0), .live⟩,
     ⟨16, 16, .ro, (.val 0xffff), .live⟩]⟩,
  ⟨"OUT_CFG", 0xC1000, [(0x40, 16)], false, .inst, .out, some .output,
    [⟨0, 1, .rw, (.val 0), (.val 0)⟩,
     ⟨1, 1, .rw, (.val 0), (.val 0)⟩,
     ⟨2, 1, .rw, (.val 0), (.val 0)⟩,
     ⟨3, 1, .rw, (.val 0), (.val 0)⟩,
     ⟨4, 1, .rw, (.val 0), (.val 0)⟩,
     ⟨5, 1, .wo, (.val 0), (.val 0)⟩,
     ⟨6, 2, .rw, (.val 0), (.val 0)⟩]⟩,
  ⟨"OUT_BIND", 0xC1004, [(0x40, 16)], false, .inst, .out, some .output,
    [⟨0, 2, .ro, (.val 0), .live⟩,
     ⟨2, 7, .ro, (.val 0), .live⟩,
     ⟨9, 1, .ro, (.val 0), .live⟩]⟩,
  ⟨"OUT_STATUS", 0xC1008, [(0x40, 16)], false, .inst, .out, some .output,
    [⟨0, 7, .ro, (.val 1), .live⟩,
     ⟨7, 1, .ro, (.val 0), .live⟩,
     ⟨8, 2, .ro, (.val 0), .live⟩]⟩,
  ⟨"OUT_FLAGS", 0xC100C, [(0x40, 16)], false, .inst, .out, some .output,
    [⟨0, 1, .w1c, (.val 0), (.val 0)⟩,
     ⟨1, 1, .w1c, (.val 0), (.val 0)⟩,
     ⟨2, 1, .w1c, (.val 0), (.val 0)⟩,
     ⟨3, 1, .w1c, (.val 0), (.val 0)⟩,
     ⟨4, 1, .w1c, (.val 0), (.val 0)⟩]⟩,
  ⟨"OUT_FREQ", 0xC1010, [(0x40, 16)], true, .inst, .out, some .output,
    [⟨0, 64, .rw, (.val 0x98968000000000), (.val 0x98968000000000)⟩]⟩,
  ⟨"OUT_PERIOD", 0xC1018, [(0x40, 16)], false, .inst, .out, some .output,
    [⟨0, 32, .rw, (.val 0x3b9aca00), (.val 0x3b9aca00)⟩]⟩,
  ⟨"OUT_WIDTH", 0xC101C, [(0x40, 16)], false, .inst, .out, some .output,
    [⟨0, 32, .rw, (.val 0x186a0), (.val 0x186a0)⟩]⟩,
  ⟨"OUT_OFS_PH", 0xC1020, [(0x40, 16)], true, .inst, .out, some .output,
    [⟨0, 64, .rw, (.val 0), (.val 0)⟩]⟩]

/-- Register descriptors of the OUT block, part 1. -/
def regsOut1 : List RegDesc := [
  ⟨"OUT_ANCHOR_SEC", 0xC1028, [(0x40, 16)], true, .inst, .out, some .output,
    [⟨0, 64, .rw, (.val 0), (.val 0)⟩]⟩,
  ⟨"OUT_ALIGN_TOL", 0xC1030, [(0x40, 16)], false, .inst, .out, some .output,
    [⟨0, 32, .rw, (.val 0x3e80000), (.val 0x3e80000)⟩]⟩,
  ⟨"OUT_CNT", 0xC1034, [(0x40, 16)], false, .inst, .out, some .output,
    [⟨0, 16, .rc, (.val 0), (.val 0)⟩,
     ⟨16, 16, .rc, (.val 0), (.val 0)⟩]⟩,
  ⟨"OUT_ALIGN_ERR_PH", 0xC1038, [(0x40, 16)], true, .inst, .out, some .output,
    [⟨0, 64, .ro, (.val 0), .live⟩]⟩,
  ⟨"TRG_CFG", 0xC2000, [(0x40, 32)], false, .inst, .out, some .trigger,
    [⟨0, 2, .rw, (.val 0), (.val 0)⟩,
     ⟨2, 1, .rw, (.val 0), (.val 0)⟩,
     ⟨3, 1, .rw, (.val 0), (.val 0)⟩,
     ⟨4, 1, .rw, (.val 0), (.val 0)⟩,
     ⟨5, 1, .rw, (.val 0), (.val 0)⟩]⟩,
  ⟨"TRG_CTRL", 0xC2004, [(0x40, 32)], false, .inst, .out, some .trigger,
    [⟨0, 1, .wo, (.val 0), (.val 0)⟩,
     ⟨1, 1, .wo, (.val 0), (.val 0)⟩]⟩,
  ⟨"TRG_STATUS", 0xC2008, [(0x40, 32)], false, .inst, .out, some .trigger,
    [⟨0, 1, .ro, (.val 0), .live⟩,
     ⟨1, 1, .ro, .live, .live⟩,
     ⟨16, 16, .ro, (.val 0), .live⟩]⟩,
  ⟨"TRG_FLAGS", 0xC200C, [(0x40, 32)], false, .inst, .out, some .trigger,
    [⟨0, 1, .w1c, (.val 0), (.val 0)⟩,
     ⟨1, 1, .w1c, (.val 0), (.val 0)⟩,
     ⟨2, 1, .w1c, (.val 0), (.val 0)⟩,
     ⟨3, 1, .w1c, (.val 0), (.val 0)⟩,
     ⟨4, 1, .w1c, (.val 0), (.val 0)⟩]⟩,
  ⟨"TRG_START_SEC", 0xC2010, [(0x40, 32)], true, .inst, .out, some .trigger,
    [⟨0, 64, .rw, (.val 0), (.val 0)⟩]⟩,
  ⟨"TRG_START_NS", 0xC2018, [(0x40, 32)], false, .inst, .out, some .trigger,
    [⟨0, 32, .rw, (.val 0), (.val 0)⟩]⟩]

/-- Register descriptors of the OUT block, part 2. -/
def regsOut2 : List RegDesc := [
  ⟨"TRG_PERIOD", 0xC201C, [(0x40, 32)], false, .inst, .out, some .trigger,
    [⟨0, 32, .rw, (.val 0x3b9aca00), (.val 0x3b9aca00)⟩]⟩,
  ⟨"TRG_WIDTH", 0xC2020, [(0x40, 32)], false, .inst, .out, some .trigger,
    [⟨0, 16, .rw, (.val 0x64), (.val 0x64)⟩]⟩,
  ⟨"TRG_COUNT", 0xC2024, [(0x40, 32)], false, .inst, .out, some .trigger,
    [⟨0, 32, .rw, (.val 0), (.val 0)⟩]⟩,
  ⟨"TRG_CNT", 0xC2028, [(0x40, 32)], false, .inst, .out, some .trigger,
    [⟨0, 16, .rc, (.val 0), (.val 0)⟩,
     ⟨16, 16, .rc, (.val 0), (.val 0)⟩]⟩]

/-- Every register of the OUT block. -/
def regsOut : List RegDesc := regsOut0 ++ regsOut1 ++ regsOut2

/-- OUT_GLB_CFG, BLK domain. -/
def OUT_GLB_CFG.ofs : Nat := 0xC0000
@[inherit_doc OUT_GLB_CFG.ofs] def OUT_GLB_CFG.FREE_RUN_EN : Fld := ⟨OUT_GLB_CFG.ofs, 0, 1⟩
@[inherit_doc OUT_GLB_CFG.ofs] def OUT_GLB_CFG.PAIR_GATE : Fld := ⟨OUT_GLB_CFG.ofs, 1, 1⟩
/-- OUT_GLB_STATUS, BLK domain. -/
def OUT_GLB_STATUS.ofs : Nat := 0xC0004
@[inherit_doc OUT_GLB_STATUS.ofs] def OUT_GLB_STATUS.READY : Fld := ⟨OUT_GLB_STATUS.ofs, 0, 1⟩
@[inherit_doc OUT_GLB_STATUS.ofs] def OUT_GLB_STATUS.MUTED : Fld := ⟨OUT_GLB_STATUS.ofs, 16, 16⟩
/-- OUT_CFG, INST domain. -/
def OUT_CFG.ofs (n : Nat) : Nat := 0xC1000 + n * 0x40
@[inherit_doc OUT_CFG.ofs] def OUT_CFG.EN (n : Nat) : Fld := ⟨OUT_CFG.ofs n, 0, 1⟩
@[inherit_doc OUT_CFG.ofs] def OUT_CFG.MODE (n : Nat) : Fld := ⟨OUT_CFG.ofs n, 1, 1⟩
@[inherit_doc OUT_CFG.ofs] def OUT_CFG.MUTE_LEVEL (n : Nat) : Fld := ⟨OUT_CFG.ofs n, 2, 1⟩
@[inherit_doc OUT_CFG.ofs] def OUT_CFG.POL (n : Nat) : Fld := ⟨OUT_CFG.ofs n, 3, 1⟩
@[inherit_doc OUT_CFG.ofs] def OUT_CFG.HOST_MUTE (n : Nat) : Fld := ⟨OUT_CFG.ofs n, 4, 1⟩
@[inherit_doc OUT_CFG.ofs] def OUT_CFG.REALIGN (n : Nat) : Fld := ⟨OUT_CFG.ofs n, 5, 1⟩
@[inherit_doc OUT_CFG.ofs] def OUT_CFG.DRIVE (n : Nat) : Fld := ⟨OUT_CFG.ofs n, 6, 2⟩
/-- OUT_BIND, INST domain. -/
def OUT_BIND.ofs (n : Nat) : Nat := 0xC1004 + n * 0x40
@[inherit_doc OUT_BIND.ofs] def OUT_BIND.KIND (n : Nat) : Fld := ⟨OUT_BIND.ofs n, 0, 2⟩
@[inherit_doc OUT_BIND.ofs] def OUT_BIND.INDEX (n : Nat) : Fld := ⟨OUT_BIND.ofs n, 2, 7⟩
@[inherit_doc OUT_BIND.ofs] def OUT_BIND.VALID (n : Nat) : Fld := ⟨OUT_BIND.ofs n, 9, 1⟩
/-- OUT_STATUS, INST domain. -/
def OUT_STATUS.ofs (n : Nat) : Nat := 0xC1008 + n * 0x40
@[inherit_doc OUT_STATUS.ofs] def OUT_STATUS.CAUSE (n : Nat) : Fld := ⟨OUT_STATUS.ofs n, 0, 7⟩
@[inherit_doc OUT_STATUS.ofs] def OUT_STATUS.ALIGNED (n : Nat) : Fld := ⟨OUT_STATUS.ofs n, 7, 1⟩
@[inherit_doc OUT_STATUS.ofs] def OUT_STATUS.ALIGN_STATE (n : Nat) : Fld := ⟨OUT_STATUS.ofs n, 8, 2⟩
/-- OUT_FLAGS, INST domain. -/
def OUT_FLAGS.ofs (n : Nat) : Nat := 0xC100C + n * 0x40
@[inherit_doc OUT_FLAGS.ofs] def OUT_FLAGS.STEP_EV (n : Nat) : Fld := ⟨OUT_FLAGS.ofs n, 0, 1⟩
@[inherit_doc OUT_FLAGS.ofs] def OUT_FLAGS.SKIPPED (n : Nat) : Fld := ⟨OUT_FLAGS.ofs n, 1, 1⟩
@[inherit_doc OUT_FLAGS.ofs] def OUT_FLAGS.ALIGN_FAULT (n : Nat) : Fld := ⟨OUT_FLAGS.ofs n, 2, 1⟩
@[inherit_doc OUT_FLAGS.ofs] def OUT_FLAGS.CFG_BAD (n : Nat) : Fld := ⟨OUT_FLAGS.ofs n, 3, 1⟩
@[inherit_doc OUT_FLAGS.ofs] def OUT_FLAGS.UNMUTED_EV (n : Nat) : Fld := ⟨OUT_FLAGS.ofs n, 4, 1⟩
/-- OUT_FREQ, INST domain. -/
def OUT_FREQ.ofs (n : Nat) : Nat := 0xC1010 + n * 0x40
/-- OUT_PERIOD, INST domain. -/
def OUT_PERIOD.ofs (n : Nat) : Nat := 0xC1018 + n * 0x40
@[inherit_doc OUT_PERIOD.ofs] def OUT_PERIOD.PERIOD (n : Nat) : Fld := ⟨OUT_PERIOD.ofs n, 0, 32⟩
/-- OUT_WIDTH, INST domain. -/
def OUT_WIDTH.ofs (n : Nat) : Nat := 0xC101C + n * 0x40
@[inherit_doc OUT_WIDTH.ofs] def OUT_WIDTH.WIDTH (n : Nat) : Fld := ⟨OUT_WIDTH.ofs n, 0, 32⟩
/-- OUT_OFS_PH, INST domain. -/
def OUT_OFS_PH.ofs (n : Nat) : Nat := 0xC1020 + n * 0x40
/-- OUT_ANCHOR_SEC, INST domain. -/
def OUT_ANCHOR_SEC.ofs (n : Nat) : Nat := 0xC1028 + n * 0x40
/-- OUT_ALIGN_TOL, INST domain. -/
def OUT_ALIGN_TOL.ofs (n : Nat) : Nat := 0xC1030 + n * 0x40
@[inherit_doc OUT_ALIGN_TOL.ofs] def OUT_ALIGN_TOL.TOL (n : Nat) : Fld := ⟨OUT_ALIGN_TOL.ofs n, 0, 32⟩
/-- OUT_CNT, INST domain. -/
def OUT_CNT.ofs (n : Nat) : Nat := 0xC1034 + n * 0x40
@[inherit_doc OUT_CNT.ofs] def OUT_CNT.SKIPPED (n : Nat) : Fld := ⟨OUT_CNT.ofs n, 0, 16⟩
@[inherit_doc OUT_CNT.ofs] def OUT_CNT.STEPS (n : Nat) : Fld := ⟨OUT_CNT.ofs n, 16, 16⟩
/-- OUT_ALIGN_ERR_PH, INST domain. -/
def OUT_ALIGN_ERR_PH.ofs (n : Nat) : Nat := 0xC1038 + n * 0x40
/-- TRG_CFG, INST domain. -/
def TRG_CFG.ofs (j : Nat) : Nat := 0xC2000 + j * 0x40
@[inherit_doc TRG_CFG.ofs] def TRG_CFG.MODE (j : Nat) : Fld := ⟨TRG_CFG.ofs j, 0, 2⟩
@[inherit_doc TRG_CFG.ofs] def TRG_CFG.TSRC (j : Nat) : Fld := ⟨TRG_CFG.ofs j, 2, 1⟩
@[inherit_doc TRG_CFG.ofs] def TRG_CFG.POL (j : Nat) : Fld := ⟨TRG_CFG.ofs j, 3, 1⟩
@[inherit_doc TRG_CFG.ofs] def TRG_CFG.VERIFIED_ONLY (j : Nat) : Fld := ⟨TRG_CFG.ofs j, 4, 1⟩
@[inherit_doc TRG_CFG.ofs] def TRG_CFG.GPIO_OUT (j : Nat) : Fld := ⟨TRG_CFG.ofs j, 5, 1⟩
/-- TRG_CTRL, INST domain. -/
def TRG_CTRL.ofs (j : Nat) : Nat := 0xC2004 + j * 0x40
@[inherit_doc TRG_CTRL.ofs] def TRG_CTRL.ARM (j : Nat) : Fld := ⟨TRG_CTRL.ofs j, 0, 1⟩
@[inherit_doc TRG_CTRL.ofs] def TRG_CTRL.DISARM (j : Nat) : Fld := ⟨TRG_CTRL.ofs j, 1, 1⟩
/-- TRG_STATUS, INST domain. -/
def TRG_STATUS.ofs (j : Nat) : Nat := 0xC2008 + j * 0x40
@[inherit_doc TRG_STATUS.ofs] def TRG_STATUS.ARMED (j : Nat) : Fld := ⟨TRG_STATUS.ofs j, 0, 1⟩
@[inherit_doc TRG_STATUS.ofs] def TRG_STATUS.GPIO_IN (j : Nat) : Fld := ⟨TRG_STATUS.ofs j, 1, 1⟩
@[inherit_doc TRG_STATUS.ofs] def TRG_STATUS.REMAIN (j : Nat) : Fld := ⟨TRG_STATUS.ofs j, 16, 16⟩
/-- TRG_FLAGS, INST domain. -/
def TRG_FLAGS.ofs (j : Nat) : Nat := 0xC200C + j * 0x40
@[inherit_doc TRG_FLAGS.ofs] def TRG_FLAGS.ARM_REFUSED (j : Nat) : Fld := ⟨TRG_FLAGS.ofs j, 0, 1⟩
@[inherit_doc TRG_FLAGS.ofs] def TRG_FLAGS.CFG_BAD (j : Nat) : Fld := ⟨TRG_FLAGS.ofs j, 1, 1⟩
@[inherit_doc TRG_FLAGS.ofs] def TRG_FLAGS.STEP_SKIP (j : Nat) : Fld := ⟨TRG_FLAGS.ofs j, 2, 1⟩
@[inherit_doc TRG_FLAGS.ofs] def TRG_FLAGS.SUPPRESSED (j : Nat) : Fld := ⟨TRG_FLAGS.ofs j, 3, 1⟩
@[inherit_doc TRG_FLAGS.ofs] def TRG_FLAGS.DONE (j : Nat) : Fld := ⟨TRG_FLAGS.ofs j, 4, 1⟩
/-- TRG_START_SEC, INST domain. -/
def TRG_START_SEC.ofs (j : Nat) : Nat := 0xC2010 + j * 0x40
/-- TRG_START_NS, INST domain. -/
def TRG_START_NS.ofs (j : Nat) : Nat := 0xC2018 + j * 0x40
@[inherit_doc TRG_START_NS.ofs] def TRG_START_NS.NS (j : Nat) : Fld := ⟨TRG_START_NS.ofs j, 0, 32⟩
/-- TRG_PERIOD, INST domain. -/
def TRG_PERIOD.ofs (j : Nat) : Nat := 0xC201C + j * 0x40
@[inherit_doc TRG_PERIOD.ofs] def TRG_PERIOD.PERIOD (j : Nat) : Fld := ⟨TRG_PERIOD.ofs j, 0, 32⟩
/-- TRG_WIDTH, INST domain. -/
def TRG_WIDTH.ofs (j : Nat) : Nat := 0xC2020 + j * 0x40
@[inherit_doc TRG_WIDTH.ofs] def TRG_WIDTH.WIDTH (j : Nat) : Fld := ⟨TRG_WIDTH.ofs j, 0, 16⟩
/-- TRG_COUNT, INST domain. -/
def TRG_COUNT.ofs (j : Nat) : Nat := 0xC2024 + j * 0x40
@[inherit_doc TRG_COUNT.ofs] def TRG_COUNT.COUNT (j : Nat) : Fld := ⟨TRG_COUNT.ofs j, 0, 32⟩
/-- TRG_CNT, INST domain. -/
def TRG_CNT.ofs (j : Nat) : Nat := 0xC2028 + j * 0x40
@[inherit_doc TRG_CNT.ofs] def TRG_CNT.FIRED (j : Nat) : Fld := ⟨TRG_CNT.ofs j, 0, 16⟩
@[inherit_doc TRG_CNT.ofs] def TRG_CNT.SKIPPED (j : Nat) : Fld := ⟨TRG_CNT.ofs j, 16, 16⟩

end Sys2Proof.Machine
end

