-- ==== Sys2Proof/Machine/RegMapPair.lean ====
section
/-! DEFINITION. The register map of the PAIR block, from the register tables of 16_pairs_and_failover.md.
One descriptor per register entry (offset, reset domain, fields with access code and the two defaults of R19) and one
named offset `NAME.ofs` and one named field `NAME.FIELD` per entry of the tables. -/

namespace Sys2Proof.Machine

/-- Register descriptors of the PAIR block, part 0. -/
def regsPair0 : List RegDesc := [
  ⟨"PAIR_CFG", 0x700000, [], false, .blk, .pair, none,
    [⟨0, 1, .rw, (.val 0), (.val 0)⟩,
     ⟨1, 1, .rw, (.val 0), (.val 0)⟩,
     ⟨2, 1, .rw, (.val 0), (.val 1)⟩,
     ⟨3, 1, .rw, (.val 0), (.val 1)⟩,
     ⟨4, 4, .rw, (.val 0xa), (.val 0xa)⟩,
     ⟨16, 16, .rw, (.val 0x64), (.val 0x64)⟩]⟩,
  ⟨"PAIR_CFG2", 0x700004, [], false, .blk, .pair, none,
    [⟨0, 16, .rw, (.val 0x64), (.val 0x64)⟩,
     ⟨16, 16, .rw, (.val 0x18), (.val 0x18)⟩]⟩,
  ⟨"PAIR_BIND", 0x700008, [], false, .blk, .pair, none,
    [⟨0, 1, .ro, (.val 0), .live⟩,
     ⟨1, 3, .ro, (.val 0), .live⟩,
     ⟨4, 7, .ro, (.val 0), .live⟩,
     ⟨11, 4, .ro, (.val 0), .live⟩]⟩,
  ⟨"PAIR_STATUS", 0x70000C, [], false, .blk, .pair, none,
    [⟨0, 3, .ro, (.val 0), .live⟩,
     ⟨3, 3, .ro, (.val 0), .live⟩,
     ⟨6, 1, .ro, .live, .live⟩,
     ⟨7, 1, .ro, .live, .live⟩,
     ⟨8, 1, .ro, (.val 0), .live⟩,
     ⟨9, 1, .ro, (.val 0), .live⟩,
     ⟨10, 2, .ro, (.val 2), .live⟩,
     ⟨12, 2, .ro, (.val 2), .live⟩]⟩,
  ⟨"PAIR_FLAGS", 0x700010, [], false, .blk, .pair, none,
    [⟨0, 1, .w1c, (.val 0), (.val 0)⟩,
     ⟨1, 1, .w1c, (.val 0), (.val 0)⟩,
     ⟨2, 1, .w1c, (.val 0), (.val 0)⟩,
     ⟨3, 1, .w1c, (.val 0), (.val 0)⟩,
     ⟨4, 1, .w1c, (.val 0), (.val 0)⟩,
     ⟨5, 1, .w1c, (.val 0), (.val 0)⟩,
     ⟨6, 1, .w1c, (.val 0), (.val 0)⟩,
     ⟨7, 1, .w1c, (.val 0), (.val 0)⟩,
     ⟨8, 1, .w1c, (.val 0), (.val 0)⟩,
     ⟨9, 1, .w1c, (.val 0), (.val 0)⟩,
     ⟨10, 1, .w1c, (.val 0), (.val 0)⟩,
     ⟨11, 1, .w1c, (.val 0), (.val 0)⟩]⟩,
  ⟨"PAIR_CTRL", 0x700014, [], false, .blk, .pair, none,
    [⟨0, 1, .wo, (.val 0), (.val 0)⟩,
     ⟨1, 1, .wo, (.val 0), (.val 0)⟩,
     ⟨2, 1, .wo, (.val 0), (.val 0)⟩,
     ⟨3, 1, .wo, (.val 0), (.val 0)⟩,
     ⟨4, 1, .wo, (.val 0), (.val 0)⟩]⟩,
  ⟨"PAIR_THR", 0x700018, [], false, .blk, .pair, none,
    [⟨0, 16, .rw, (.val 0x64), (.val 0x64)⟩,
     ⟨16, 8, .rw, (.val 3), (.val 3)⟩]⟩,
  ⟨"PAIR_ARB_TOL", 0x70001C, [], false, .blk, .pair, none,
    [⟨0, 16, .rw, (.val 0x32), (.val 0x32)⟩]⟩,
  ⟨"PAIR_ARB_SLOTS", 0x700020, [], true, .blk, .pair, none,
    [⟨0, 64, .rw, (.val 0), (.val 0)⟩]⟩,
  ⟨"PAIR_ARB_MB", 0x700028, [], false, .blk, .pair, none,
    [⟨0, 32, .rw, (.val 0), (.val 0xffffffff)⟩]⟩]

/-- Register descriptors of the PAIR block, part 1. -/
def regsPair1 : List RegDesc := [
  ⟨"PAIR_D_PH", 0x700030, [], true, .blk, .pair, none,
    [⟨0, 64, .ro, (.val 0), .live⟩]⟩,
  ⟨"PAIR_M_PH", 0x700038, [], true, .blk, .pair, none,
    [⟨0, 64, .ro, (.val 0), .live⟩]⟩,
  ⟨"PAIR_M_PEER_PH", 0x700040, [], true, .blk, .pair, none,
    [⟨0, 64, .ro, (.val 0), .live⟩]⟩,
  ⟨"PAIR_EPOCH_TX", 0x700048, [], false, .blk, .pair, none,
    [⟨0, 32, .ro, (.val 0), .live⟩]⟩,
  ⟨"PAIR_EPOCH_RX", 0x70004C, [], false, .blk, .pair, none,
    [⟨0, 32, .ro, (.val 0), .live⟩]⟩,
  ⟨"PAIR_STATE_AGE", 0x700050, [], false, .blk, .pair, none,
    [⟨0, 32, .ro, (.val 0xffffffff), .live⟩]⟩,
  ⟨"PAIR_CNT0", 0x700054, [], false, .blk, .pair, none,
    [⟨0, 16, .rc, (.val 0), (.val 0)⟩,
     ⟨16, 16, .rc, (.val 0), (.val 0)⟩]⟩,
  ⟨"PAIR_CNT1", 0x700058, [], false, .blk, .pair, none,
    [⟨0, 16, .rc, (.val 0), (.val 0)⟩,
     ⟨16, 16, .rc, (.val 0), (.val 0)⟩]⟩,
  ⟨"PAIR_CNT2", 0x70005C, [], false, .blk, .pair, none,
    [⟨0, 16, .rc, (.val 0), (.val 0)⟩,
     ⟨16, 16, .rc, (.val 0), (.val 0)⟩]⟩,
  ⟨"PAIR_HEALTH", 0x700060, [], false, .blk, .pair, none,
    [⟨0, 1, .ro, (.val 0), .live⟩,
     ⟨1, 1, .ro, (.val 0), .live⟩,
     ⟨2, 1, .ro, (.val 0), .live⟩,
     ⟨3, 1, .ro, (.val 0), .live⟩,
     ⟨4, 1, .ro, (.val 0), .live⟩,
     ⟨5, 1, .ro, (.val 0), .live⟩,
     ⟨6, 1, .ro, (.val 0), .live⟩]⟩]

/-- Register descriptors of the PAIR block, part 2. -/
def regsPair2 : List RegDesc := [
  ⟨"PAIR_PEER_KEY", 0x700080, [(0x4, 8)], false, .blk, .pair, none,
    [⟨0, 32, .rw, (.val 0), (.val 0)⟩]⟩,
  ⟨"PAIR_HS_IDX", 0x7000A0, [], false, .blk, .pair, none,
    [⟨0, 14, .rw, (.val 0), (.val 0)⟩]⟩,
  ⟨"PAIR_HS_DATA", 0x7000A4, [], false, .blk, .pair, none,
    [⟨0, 32, .rw, (.val 0), (.val 0)⟩]⟩]

/-- Every register of the PAIR block. -/
def regsPair : List RegDesc := regsPair0 ++ regsPair1 ++ regsPair2

/-- PAIR_CFG, BLK domain. -/
def PAIR_CFG.ofs : Nat := 0x700000
@[inherit_doc PAIR_CFG.ofs] def PAIR_CFG.EN : Fld := ⟨PAIR_CFG.ofs, 0, 1⟩
@[inherit_doc PAIR_CFG.ofs] def PAIR_CFG.PREFER : Fld := ⟨PAIR_CFG.ofs, 1, 1⟩
@[inherit_doc PAIR_CFG.ofs] def PAIR_CFG.AUTO_PROMOTE : Fld := ⟨PAIR_CFG.ofs, 2, 1⟩
@[inherit_doc PAIR_CFG.ofs] def PAIR_CFG.REHEARSE_EN : Fld := ⟨PAIR_CFG.ofs, 3, 1⟩
@[inherit_doc PAIR_CFG.ofs] def PAIR_CFG.SAMPLE_LOG : Fld := ⟨PAIR_CFG.ofs, 4, 4⟩
@[inherit_doc PAIR_CFG.ofs] def PAIR_CFG.COPY_PERIOD : Fld := ⟨PAIR_CFG.ofs, 16, 16⟩
/-- PAIR_CFG2, BLK domain. -/
def PAIR_CFG2.ofs : Nat := 0x700004
@[inherit_doc PAIR_CFG2.ofs] def PAIR_CFG2.HANDOVER_GAP : Fld := ⟨PAIR_CFG2.ofs, 0, 16⟩
@[inherit_doc PAIR_CFG2.ofs] def PAIR_CFG2.REKEY_INT : Fld := ⟨PAIR_CFG2.ofs, 16, 16⟩
/-- PAIR_BIND, BLK domain. -/
def PAIR_BIND.ofs : Nat := 0x700008
@[inherit_doc PAIR_BIND.ofs] def PAIR_BIND.VALID : Fld := ⟨PAIR_BIND.ofs, 0, 1⟩
@[inherit_doc PAIR_BIND.ofs] def PAIR_BIND.LINK : Fld := ⟨PAIR_BIND.ofs, 1, 3⟩
@[inherit_doc PAIR_BIND.ofs] def PAIR_BIND.CH : Fld := ⟨PAIR_BIND.ofs, 4, 7⟩
@[inherit_doc PAIR_BIND.ofs] def PAIR_BIND.OUT : Fld := ⟨PAIR_BIND.ofs, 11, 4⟩
/-- PAIR_STATUS, BLK domain. -/
def PAIR_STATUS.ofs : Nat := 0x70000C
@[inherit_doc PAIR_STATUS.ofs] def PAIR_STATUS.STATE : Fld := ⟨PAIR_STATUS.ofs, 0, 3⟩
@[inherit_doc PAIR_STATUS.ofs] def PAIR_STATUS.PARTNER_STATE : Fld := ⟨PAIR_STATUS.ofs, 3, 3⟩
@[inherit_doc PAIR_STATUS.ofs] def PAIR_STATUS.ACTIVE_N : Fld := ⟨PAIR_STATUS.ofs, 6, 1⟩
@[inherit_doc PAIR_STATUS.ofs] def PAIR_STATUS.PARTNER_OK : Fld := ⟨PAIR_STATUS.ofs, 7, 1⟩
@[inherit_doc PAIR_STATUS.ofs] def PAIR_STATUS.HB_OK : Fld := ⟨PAIR_STATUS.ofs, 8, 1⟩
@[inherit_doc PAIR_STATUS.ofs] def PAIR_STATUS.KEYED : Fld := ⟨PAIR_STATUS.ofs, 9, 1⟩
@[inherit_doc PAIR_STATUS.ofs] def PAIR_STATUS.HEALTH : Fld := ⟨PAIR_STATUS.ofs, 10, 2⟩
@[inherit_doc PAIR_STATUS.ofs] def PAIR_STATUS.PARTNER_HEALTH : Fld := ⟨PAIR_STATUS.ofs, 12, 2⟩
/-- PAIR_FLAGS, BLK domain. -/
def PAIR_FLAGS.ofs : Nat := 0x700010
@[inherit_doc PAIR_FLAGS.ofs] def PAIR_FLAGS.PROMOTED : Fld := ⟨PAIR_FLAGS.ofs, 0, 1⟩
@[inherit_doc PAIR_FLAGS.ofs] def PAIR_FLAGS.FAILED_EV : Fld := ⟨PAIR_FLAGS.ofs, 1, 1⟩
@[inherit_doc PAIR_FLAGS.ofs] def PAIR_FLAGS.LINK_LOST : Fld := ⟨PAIR_FLAGS.ofs, 2, 1⟩
@[inherit_doc PAIR_FLAGS.ofs] def PAIR_FLAGS.KEY_BAD : Fld := ⟨PAIR_FLAGS.ofs, 3, 1⟩
@[inherit_doc PAIR_FLAGS.ofs] def PAIR_FLAGS.CFG_MISMATCH : Fld := ⟨PAIR_FLAGS.ofs, 4, 1⟩
@[inherit_doc PAIR_FLAGS.ofs] def PAIR_FLAGS.DISAGREE : Fld := ⟨PAIR_FLAGS.ofs, 5, 1⟩
@[inherit_doc PAIR_FLAGS.ofs] def PAIR_FLAGS.UNDECIDED : Fld := ⟨PAIR_FLAGS.ofs, 6, 1⟩
@[inherit_doc PAIR_FLAGS.ofs] def PAIR_FLAGS.ACTIVE_MISMATCH : Fld := ⟨PAIR_FLAGS.ofs, 7, 1⟩
@[inherit_doc PAIR_FLAGS.ofs] def PAIR_FLAGS.PROMOTE_DUE : Fld := ⟨PAIR_FLAGS.ofs, 8, 1⟩
@[inherit_doc PAIR_FLAGS.ofs] def PAIR_FLAGS.PROMOTE_REFUSED : Fld := ⟨PAIR_FLAGS.ofs, 9, 1⟩
@[inherit_doc PAIR_FLAGS.ofs] def PAIR_FLAGS.COPY_LATE : Fld := ⟨PAIR_FLAGS.ofs, 10, 1⟩
@[inherit_doc PAIR_FLAGS.ofs] def PAIR_FLAGS.REHEARSE_MISMATCH : Fld := ⟨PAIR_FLAGS.ofs, 11, 1⟩
/-- PAIR_CTRL, BLK domain. -/
def PAIR_CTRL.ofs : Nat := 0x700014
@[inherit_doc PAIR_CTRL.ofs] def PAIR_CTRL.PROMOTE : Fld := ⟨PAIR_CTRL.ofs, 0, 1⟩
@[inherit_doc PAIR_CTRL.ofs] def PAIR_CTRL.DEMOTE : Fld := ⟨PAIR_CTRL.ofs, 1, 1⟩
@[inherit_doc PAIR_CTRL.ofs] def PAIR_CTRL.REPAIRED : Fld := ⟨PAIR_CTRL.ofs, 2, 1⟩
@[inherit_doc PAIR_CTRL.ofs] def PAIR_CTRL.FORCE : Fld := ⟨PAIR_CTRL.ofs, 3, 1⟩
@[inherit_doc PAIR_CTRL.ofs] def PAIR_CTRL.REKEY : Fld := ⟨PAIR_CTRL.ofs, 4, 1⟩
/-- PAIR_THR, BLK domain. -/
def PAIR_THR.ofs : Nat := 0x700018
@[inherit_doc PAIR_THR.ofs] def PAIR_THR.THR : Fld := ⟨PAIR_THR.ofs, 0, 16⟩
@[inherit_doc PAIR_THR.ofs] def PAIR_THR.PERSIST : Fld := ⟨PAIR_THR.ofs, 16, 8⟩
/-- PAIR_ARB_TOL, BLK domain. -/
def PAIR_ARB_TOL.ofs : Nat := 0x70001C
@[inherit_doc PAIR_ARB_TOL.ofs] def PAIR_ARB_TOL.ARB_TOL : Fld := ⟨PAIR_ARB_TOL.ofs, 0, 16⟩
/-- PAIR_ARB_SLOTS, BLK domain. -/
def PAIR_ARB_SLOTS.ofs : Nat := 0x700020
/-- PAIR_ARB_MB, BLK domain. -/
def PAIR_ARB_MB.ofs : Nat := 0x700028
@[inherit_doc PAIR_ARB_MB.ofs] def PAIR_ARB_MB.MEMBERS : Fld := ⟨PAIR_ARB_MB.ofs, 0, 32⟩
/-- PAIR_D_PH, BLK domain. -/
def PAIR_D_PH.ofs : Nat := 0x700030
/-- PAIR_M_PH, BLK domain. -/
def PAIR_M_PH.ofs : Nat := 0x700038
/-- PAIR_M_PEER_PH, BLK domain. -/
def PAIR_M_PEER_PH.ofs : Nat := 0x700040
/-- PAIR_EPOCH_TX, BLK domain. -/
def PAIR_EPOCH_TX.ofs : Nat := 0x700048
@[inherit_doc PAIR_EPOCH_TX.ofs] def PAIR_EPOCH_TX.EPOCH : Fld := ⟨PAIR_EPOCH_TX.ofs, 0, 32⟩
/-- PAIR_EPOCH_RX, BLK domain. -/
def PAIR_EPOCH_RX.ofs : Nat := 0x70004C
@[inherit_doc PAIR_EPOCH_RX.ofs] def PAIR_EPOCH_RX.EPOCH : Fld := ⟨PAIR_EPOCH_RX.ofs, 0, 32⟩
/-- PAIR_STATE_AGE, BLK domain. -/
def PAIR_STATE_AGE.ofs : Nat := 0x700050
@[inherit_doc PAIR_STATE_AGE.ofs] def PAIR_STATE_AGE.AGE : Fld := ⟨PAIR_STATE_AGE.ofs, 0, 32⟩
/-- PAIR_CNT0, BLK domain. -/
def PAIR_CNT0.ofs : Nat := 0x700054
@[inherit_doc PAIR_CNT0.ofs] def PAIR_CNT0.COPY_ABORT : Fld := ⟨PAIR_CNT0.ofs, 0, 16⟩
@[inherit_doc PAIR_CNT0.ofs] def PAIR_CNT0.BAD_FRAME : Fld := ⟨PAIR_CNT0.ofs, 16, 16⟩
/-- PAIR_CNT1, BLK domain. -/
def PAIR_CNT1.ofs : Nat := 0x700058
@[inherit_doc PAIR_CNT1.ofs] def PAIR_CNT1.MISMATCH : Fld := ⟨PAIR_CNT1.ofs, 0, 16⟩
@[inherit_doc PAIR_CNT1.ofs] def PAIR_CNT1.UNMATCHED : Fld := ⟨PAIR_CNT1.ofs, 16, 16⟩
/-- PAIR_CNT2, BLK domain. -/
def PAIR_CNT2.ofs : Nat := 0x70005C
@[inherit_doc PAIR_CNT2.ofs] def PAIR_CNT2.PROMOTIONS : Fld := ⟨PAIR_CNT2.ofs, 0, 16⟩
@[inherit_doc PAIR_CNT2.ofs] def PAIR_CNT2.REHEARSED : Fld := ⟨PAIR_CNT2.ofs, 16, 16⟩
/-- PAIR_HEALTH, BLK domain. -/
def PAIR_HEALTH.ofs : Nat := 0x700060
@[inherit_doc PAIR_HEALTH.ofs] def PAIR_HEALTH.VERIFIED : Fld := ⟨PAIR_HEALTH.ofs, 0, 1⟩
@[inherit_doc PAIR_HEALTH.ofs] def PAIR_HEALTH.REF_OK : Fld := ⟨PAIR_HEALTH.ofs, 1, 1⟩
@[inherit_doc PAIR_HEALTH.ofs] def PAIR_HEALTH.BNE_OK : Fld := ⟨PAIR_HEALTH.ofs, 2, 1⟩
@[inherit_doc PAIR_HEALTH.ofs] def PAIR_HEALTH.NTS_OK : Fld := ⟨PAIR_HEALTH.ofs, 3, 1⟩
@[inherit_doc PAIR_HEALTH.ofs] def PAIR_HEALTH.EVT_OK : Fld := ⟨PAIR_HEALTH.ofs, 4, 1⟩
@[inherit_doc PAIR_HEALTH.ofs] def PAIR_HEALTH.COPY_OK : Fld := ⟨PAIR_HEALTH.ofs, 5, 1⟩
@[inherit_doc PAIR_HEALTH.ofs] def PAIR_HEALTH.REHEARSE_OK : Fld := ⟨PAIR_HEALTH.ofs, 6, 1⟩
/-- PAIR_PEER_KEY, BLK domain. -/
def PAIR_PEER_KEY.ofs (w : Nat) : Nat := 0x700080 + w * 0x4
@[inherit_doc PAIR_PEER_KEY.ofs] def PAIR_PEER_KEY.OCTETS (w : Nat) : Fld := ⟨PAIR_PEER_KEY.ofs w, 0, 32⟩
/-- PAIR_HS_IDX, BLK domain. -/
def PAIR_HS_IDX.ofs : Nat := 0x7000A0
@[inherit_doc PAIR_HS_IDX.ofs] def PAIR_HS_IDX.IDX : Fld := ⟨PAIR_HS_IDX.ofs, 0, 14⟩
/-- PAIR_HS_DATA, BLK domain. -/
def PAIR_HS_DATA.ofs : Nat := 0x7000A4
@[inherit_doc PAIR_HS_DATA.ofs] def PAIR_HS_DATA.DATA : Fld := ⟨PAIR_HS_DATA.ofs, 0, 32⟩

end Sys2Proof.Machine
end

