-- ==== Sys2Proof/Machine/RegMapProv.lean ====
section
/-! DEFINITION. The register map of the PROV block, from the register tables of 14_provenance_ledger.md.
One descriptor per register entry (offset, reset domain, fields with access code and the two defaults of R19) and one
named offset `NAME.ofs` and one named field `NAME.FIELD` per entry of the tables. -/

namespace Sys2Proof.Machine

/-- Register descriptors of the PROV block, part 0. -/
def regsProv0 : List RegDesc := [
  ⟨"PROV_CFG", 0x600000, [], false, .blk, .prov, none,
    [⟨0, 1, .rw, (.val 0), (.val 1)⟩,
     ⟨16, 16, .rw, (.val 0xa), (.val 0xa)⟩]⟩,
  ⟨"PROV_STATUS", 0x600004, [], false, .blk, .prov, none,
    [⟨0, 1, .ro, (.val 0), .live⟩,
     ⟨1, 1, .ro, (.val 0), .live⟩,
     ⟨2, 3, .ro, (.val 0), .live⟩,
     ⟨5, 6, .ro, (.val 0), .live⟩]⟩,
  ⟨"PROV_FLAGS", 0x600008, [], false, .blk, .prov, none,
    [⟨0, 1, .w1c, (.val 0), (.val 0)⟩,
     ⟨1, 1, .w1c, (.val 0), (.val 0)⟩,
     ⟨2, 1, .w1c, (.val 0), (.val 0)⟩,
     ⟨3, 1, .w1c, (.val 0), (.val 0)⟩,
     ⟨4, 1, .w1c, (.val 0), (.val 0)⟩]⟩,
  ⟨"PROV_CTRL", 0x60000C, [], false, .blk, .prov, none,
    [⟨0, 1, .wo, (.val 0), (.val 0)⟩]⟩,
  ⟨"PROV_REF_MASK", 0x600010, [], true, .blk, .prov, none,
    [⟨0, 64, .rw, (.val 0), (.val 0xffffffffffffffff)⟩]⟩,
  ⟨"PROV_LAST_SERIAL", 0x600018, [], true, .blk, .prov, none,
    [⟨0, 64, .ro, (.val 0), .live⟩]⟩,
  ⟨"PROV_LAST_HASH", 0x600020, [(0x4, 8)], false, .blk, .prov, none,
    [⟨0, 32, .ro, (.val 0), .live⟩]⟩,
  ⟨"PROV_PUBKEY", 0x600040, [(0x4, 8)], false, .blk, .prov, none,
    [⟨0, 32, .ro, .live, .live⟩]⟩,
  ⟨"PROV_CHAIN", 0x600060, [], true, .blk, .prov, none,
    [⟨0, 64, .ro, (.val 0), .live⟩]⟩,
  ⟨"PROV_CNT_ISSUED", 0x600068, [], false, .blk, .prov, none,
    [⟨0, 32, .rc, (.val 0), (.val 0)⟩]⟩]

/-- Register descriptors of the PROV block, part 1. -/
def regsProv1 : List RegDesc := [
  ⟨"PROV_CNT_ERR", 0x60006C, [], false, .blk, .prov, none,
    [⟨0, 16, .rc, (.val 0), (.val 0)⟩,
     ⟨16, 16, .rc, (.val 0), (.val 0)⟩]⟩,
  ⟨"PROV_ISSUE_LAG", 0x600070, [], false, .blk, .prov, none,
    [⟨0, 32, .ro, (.val 0), .live⟩]⟩]

/-- Every register of the PROV block. -/
def regsProv : List RegDesc := regsProv0 ++ regsProv1

/-- PROV_CFG, BLK domain. -/
def PROV_CFG.ofs : Nat := 0x600000
@[inherit_doc PROV_CFG.ofs] def PROV_CFG.EN : Fld := ⟨PROV_CFG.ofs, 0, 1⟩
@[inherit_doc PROV_CFG.ofs] def PROV_CFG.PERIOD : Fld := ⟨PROV_CFG.ofs, 16, 16⟩
/-- PROV_STATUS, BLK domain. -/
def PROV_STATUS.ofs : Nat := 0x600004
@[inherit_doc PROV_STATUS.ofs] def PROV_STATUS.READY : Fld := ⟨PROV_STATUS.ofs, 0, 1⟩
@[inherit_doc PROV_STATUS.ofs] def PROV_STATUS.KEY_OK : Fld := ⟨PROV_STATUS.ofs, 1, 1⟩
@[inherit_doc PROV_STATUS.ofs] def PROV_STATUS.QUEUED : Fld := ⟨PROV_STATUS.ofs, 2, 3⟩
@[inherit_doc PROV_STATUS.ofs] def PROV_STATUS.WAITING : Fld := ⟨PROV_STATUS.ofs, 5, 6⟩
/-- PROV_FLAGS, BLK domain. -/
def PROV_FLAGS.ofs : Nat := 0x600008
@[inherit_doc PROV_FLAGS.ofs] def PROV_FLAGS.MISSED : Fld := ⟨PROV_FLAGS.ofs, 0, 1⟩
@[inherit_doc PROV_FLAGS.ofs] def PROV_FLAGS.RING_DROP : Fld := ⟨PROV_FLAGS.ofs, 1, 1⟩
@[inherit_doc PROV_FLAGS.ofs] def PROV_FLAGS.NEW_CHAIN : Fld := ⟨PROV_FLAGS.ofs, 2, 1⟩
@[inherit_doc PROV_FLAGS.ofs] def PROV_FLAGS.BOOT_FAIL : Fld := ⟨PROV_FLAGS.ofs, 3, 1⟩
@[inherit_doc PROV_FLAGS.ofs] def PROV_FLAGS.BOOT_FULL : Fld := ⟨PROV_FLAGS.ofs, 4, 1⟩
/-- PROV_CTRL, BLK domain. -/
def PROV_CTRL.ofs : Nat := 0x60000C
@[inherit_doc PROV_CTRL.ofs] def PROV_CTRL.ISSUE_NOW : Fld := ⟨PROV_CTRL.ofs, 0, 1⟩
/-- PROV_REF_MASK, BLK domain. -/
def PROV_REF_MASK.ofs : Nat := 0x600010
/-- PROV_LAST_SERIAL, BLK domain. -/
def PROV_LAST_SERIAL.ofs : Nat := 0x600018
/-- PROV_LAST_HASH, BLK domain. -/
def PROV_LAST_HASH.ofs (w : Nat) : Nat := 0x600020 + w * 0x4
@[inherit_doc PROV_LAST_HASH.ofs] def PROV_LAST_HASH.OCTETS (w : Nat) : Fld := ⟨PROV_LAST_HASH.ofs w, 0, 32⟩
/-- PROV_PUBKEY, BLK domain. -/
def PROV_PUBKEY.ofs (w : Nat) : Nat := 0x600040 + w * 0x4
@[inherit_doc PROV_PUBKEY.ofs] def PROV_PUBKEY.OCTETS (w : Nat) : Fld := ⟨PROV_PUBKEY.ofs w, 0, 32⟩
/-- PROV_CHAIN, BLK domain. -/
def PROV_CHAIN.ofs : Nat := 0x600060
/-- PROV_CNT_ISSUED, BLK domain. -/
def PROV_CNT_ISSUED.ofs : Nat := 0x600068
@[inherit_doc PROV_CNT_ISSUED.ofs] def PROV_CNT_ISSUED.COUNT : Fld := ⟨PROV_CNT_ISSUED.ofs, 0, 32⟩
/-- PROV_CNT_ERR, BLK domain. -/
def PROV_CNT_ERR.ofs : Nat := 0x60006C
@[inherit_doc PROV_CNT_ERR.ofs] def PROV_CNT_ERR.MISSED : Fld := ⟨PROV_CNT_ERR.ofs, 0, 16⟩
@[inherit_doc PROV_CNT_ERR.ofs] def PROV_CNT_ERR.RING_DROP : Fld := ⟨PROV_CNT_ERR.ofs, 16, 16⟩
/-- PROV_ISSUE_LAG, BLK domain. -/
def PROV_ISSUE_LAG.ofs : Nat := 0x600070
@[inherit_doc PROV_ISSUE_LAG.ofs] def PROV_ISSUE_LAG.US : Fld := ⟨PROV_ISSUE_LAG.ofs, 0, 32⟩

end Sys2Proof.Machine
end

