-- ==== Sys2Proof/Machine/RegMapPtp.lean ====
section
/-! DEFINITION. The register map of the PTP block, from the register tables of 12_ptp.md.
One descriptor per register entry (offset, reset domain, fields with access code and the two defaults of R19) and one
named offset `NAME.ofs` and one named field `NAME.FIELD` per entry of the tables. -/

namespace Sys2Proof.Machine

/-- Register descriptors of the PTP block, part 0. -/
def regsPtp0 : List RegDesc := [
  ⟨"PTP_CFG", 0x500000, [], false, .blk, .ptp, none,
    [⟨0, 1, .rw, (.val 0), (.val 1)⟩,
     ⟨1, 1, .rw, (.val 0), (.val 1)⟩]⟩,
  ⟨"PTP_STATUS", 0x500004, [], false, .blk, .ptp, none,
    [⟨0, 1, .ro, (.val 0), .live⟩,
     ⟨1, 1, .ro, (.val 1), .live⟩,
     ⟨16, 15, .ro, (.val 0), .live⟩]⟩,
  ⟨"PTP_CLOCK_ID", 0x500008, [], true, .blk, .ptp, none,
    [⟨0, 64, .rw, (.val 0), (.val 0)⟩]⟩,
  ⟨"PTP_PROV_ORG", 0x500010, [], false, .blk, .ptp, none,
    [⟨0, 24, .rw, (.val 0xad5f1), (.val 0xad5f1)⟩]⟩,
  ⟨"PTP_FLAGS", 0x500014, [], false, .blk, .ptp, none,
    [⟨0, 1, .w1c, (.val 0), (.val 0)⟩,
     ⟨1, 1, .w1c, (.val 0), (.val 0)⟩]⟩,
  ⟨"PTP_GRANT_CFG", 0x500018, [], false, .blk, .ptp, none,
    [⟨0, 16, .rw, (.val 0x3e8), (.val 0x3e8)⟩]⟩,
  ⟨"PTP_SLACK", 0x50001C, [], false, .blk, .ptp, none,
    [⟨0, 16, .rw, (.val 0x7d0), (.val 0x7d0)⟩]⟩,
  ⟨"PTP_TBL_IDX", 0x500020, [], false, .blk, .ptp, none,
    [⟨0, 14, .rw, (.val 0), (.val 0)⟩]⟩,
  ⟨"PTP_TBL_ENTRY", 0x500024, [], false, .blk, .ptp, none,
    [⟨0, 1, .ro, (.val 0), .live⟩,
     ⟨1, 1, .ro, (.val 0), .live⟩,
     ⟨2, 4, .ro, (.val 0), .live⟩,
     ⟨6, 3, .ro, (.val 0), .live⟩,
     ⟨9, 4, .ro, (.val 0), .live⟩,
     ⟨13, 19, .ro, (.val 0), .live⟩]⟩,
  ⟨"PTP_TBL_ADDR_W", 0x500028, [(0x4, 4)], false, .blk, .ptp, none,
    [⟨0, 32, .ro, (.val 0), .live⟩]⟩]

/-- Register descriptors of the PTP block, part 1. -/
def regsPtp1 : List RegDesc := [
  ⟨"PTP_INST_CFG", 0x501000, [(0x100, 16)], false, .inst, .ptp, some .ptpInst,
    [⟨0, 1, .rw, (.val 0), (.val 0)⟩,
     ⟨1, 2, .rw, (.val 0), (.val 0)⟩,
     ⟨3, 1, .rw, (.val 0), (.val 0)⟩,
     ⟨4, 2, .rw, (.val 0), (.val 1)⟩,
     ⟨6, 1, .rw, (.val 0), (.val 0)⟩,
     ⟨7, 1, .rw, (.val 0), (.val 0)⟩,
     ⟨8, 8, .rw, (.val 0), (.val 0)⟩]⟩,
  ⟨"PTP_INST_BIND", 0x501004, [(0x100, 16)], false, .inst, .ptp, some .ptpInst,
    [⟨0, 1, .ro, (.val 0), .live⟩,
     ⟨1, 1, .ro, (.val 0), .live⟩,
     ⟨2, 3, .ro, (.val 0), .live⟩]⟩,
  ⟨"PTP_INST_RATES", 0x501008, [(0x100, 16)], false, .inst, .ptp, some .ptpInst,
    [⟨0, 8, .rw, (.val 0), (.val 0xfc)⟩,
     ⟨8, 8, .rw, (.val 0), (.val 0xfd)⟩,
     ⟨16, 8, .rw, (.val 0), (.val 0xfc)⟩,
     ⟨24, 8, .rw, (.val 3), (.val 3)⟩]⟩,
  ⟨"PTP_INST_DS", 0x50100C, [(0x100, 16)], false, .inst, .ptp, some .ptpInst,
    [⟨0, 8, .rw, (.val 0x80), (.val 0x80)⟩,
     ⟨8, 8, .rw, (.val 0x80), (.val 0x80)⟩,
     ⟨16, 8, .rw, (.val 0x80), (.val 0x80)⟩,
     ⟨24, 8, .rw, (.val 0xf8), (.val 0xf8)⟩]⟩,
  ⟨"PTP_INST_OVR", 0x501010, [(0x100, 16)], false, .inst, .ptp, some .ptpInst,
    [⟨0, 1, .rw, (.val 0), (.val 0)⟩,
     ⟨16, 16, .rw, (.val 0xffff), (.val 0x4e5d)⟩]⟩,
  ⟨"PTP_INST_STATUS", 0x501014, [(0x100, 16)], false, .inst, .ptp, some .ptpInst,
    [⟨0, 3, .ro, (.val 0), .live⟩,
     ⟨3, 1, .ro, (.val 0), .live⟩,
     ⟨8, 8, .ro, (.val 0xf8), .live⟩,
     ⟨16, 8, .ro, (.val 0xfe), .live⟩]⟩,
  ⟨"PTP_INST_FLAGS", 0x501018, [(0x100, 16)], false, .inst, .ptp, some .ptpInst,
    [⟨0, 1, .w1c, (.val 0), (.val 0)⟩,
     ⟨1, 1, .w1c, (.val 0), (.val 0)⟩,
     ⟨2, 1, .w1c, (.val 0), (.val 0)⟩,
     ⟨3, 1, .w1c, (.val 0), (.val 0)⟩,
     ⟨4, 1, .w1c, (.val 0), (.val 0)⟩,
     ⟨5, 1, .w1c, (.val 0), (.val 0)⟩]⟩,
  ⟨"PTP_INST_CNT0", 0x50101C, [(0x100, 16)], false, .inst, .ptp, some .ptpInst,
    [⟨0, 16, .rc, (.val 0), (.val 0)⟩,
     ⟨16, 16, .rc, (.val 0), (.val 0)⟩]⟩,
  ⟨"PTP_INST_CNT1", 0x501020, [(0x100, 16)], false, .inst, .ptp, some .ptpInst,
    [⟨0, 16, .rc, (.val 0), (.val 0)⟩,
     ⟨16, 16, .rc, (.val 0), (.val 0)⟩]⟩,
  ⟨"PTP_INST_CNT2", 0x501024, [(0x100, 16)], false, .inst, .ptp, some .ptpInst,
    [⟨0, 16, .rc, (.val 0), (.val 0)⟩,
     ⟨16, 16, .rc, (.val 0), (.val 0)⟩]⟩]

/-- Register descriptors of the PTP block, part 2. -/
def regsPtp2 : List RegDesc := [
  ⟨"PTP_CLI_CONFIRM", 0x501030, [(0x100, 16)], true, .inst, .ptp, some .ptpInst,
    [⟨0, 64, .rw, (.val 0), (.val 0)⟩]⟩,
  ⟨"PTP_CLI_PATH_LIM", 0x501038, [(0x100, 16)], false, .inst, .ptp, some .ptpInst,
    [⟨0, 16, .rw, (.val 0x64), (.val 0x64)⟩,
     ⟨16, 16, .rw, (.val 0x64), (.val 0x64)⟩]⟩,
  ⟨"PTP_CLI_SEL", 0x50103C, [(0x100, 16)], false, .inst, .ptp, some .ptpInst,
    [⟨0, 8, .rw, (.val 0xa), (.val 0xa)⟩,
     ⟨16, 16, .rw, (.val 0x14), (.val 0x14)⟩]⟩,
  ⟨"PTP_CLI_CMD", 0x501040, [(0x100, 16)], false, .inst, .ptp, some .ptpInst,
    [⟨0, 1, .wo, (.val 0), (.val 0)⟩,
     ⟨1, 1, .wo, (.val 0), (.val 0)⟩]⟩,
  ⟨"PTP_CLI_X_PH", 0x501048, [(0x100, 16)], true, .inst, .ptp, some .ptpInst,
    [⟨0, 64, .ro, (.val 0), .live⟩]⟩,
  ⟨"PTP_CLI_RAW_PH", 0x501050, [(0x100, 16)], true, .inst, .ptp, some .ptpInst,
    [⟨0, 64, .ro, (.val 0), .live⟩]⟩,
  ⟨"PTP_CLI_DELTA_PH", 0x501058, [(0x100, 16)], true, .inst, .ptp, some .ptpInst,
    [⟨0, 64, .ro, (.val 0), .live⟩]⟩,
  ⟨"PTP_CLI_ASYM_PH", 0x501060, [(0x100, 16)], true, .inst, .ptp, some .ptpInst,
    [⟨0, 64, .rw, (.val 0), (.val 0)⟩]⟩,
  ⟨"PTP_CLI_RT_PH", 0x501068, [(0x100, 16)], true, .inst, .ptp, some .ptpInst,
    [⟨0, 64, .ro, (.val 0), .live⟩]⟩,
  ⟨"PTP_CLI_MASTER", 0x501070, [(0x100, 16)], true, .inst, .ptp, some .ptpInst,
    [⟨0, 64, .ro, (.val 0), .live⟩]⟩]

/-- Register descriptors of the PTP block, part 3. -/
def regsPtp3 : List RegDesc := [
  ⟨"PTP_CLI_UM_ADDR_W", 0x501080, [(0x100, 16), (0x14, 4), (0x4, 4)], false, .inst, .ptp, some .ptpInst,
    [⟨0, 32, .rw, (.val 0), (.val 0)⟩]⟩,
  ⟨"PTP_CLI_UM_CFG", 0x501090, [(0x100, 16), (0x14, 4)], false, .inst, .ptp, some .ptpInst,
    [⟨0, 1, .rw, (.val 0), (.val 0)⟩,
     ⟨1, 1, .rw, (.val 0), (.val 0)⟩,
     ⟨2, 8, .rw, (.val 0x80), (.val 0x80)⟩]⟩]

/-- Every register of the PTP block. -/
def regsPtp : List RegDesc := regsPtp0 ++ regsPtp1 ++ regsPtp2 ++ regsPtp3

/-- PTP_CFG, BLK domain. -/
def PTP_CFG.ofs : Nat := 0x500000
@[inherit_doc PTP_CFG.ofs] def PTP_CFG.EN : Fld := ⟨PTP_CFG.ofs, 0, 1⟩
@[inherit_doc PTP_CFG.ofs] def PTP_CFG.PROV_EN : Fld := ⟨PTP_CFG.ofs, 1, 1⟩
/-- PTP_STATUS, BLK domain. -/
def PTP_STATUS.ofs : Nat := 0x500004
@[inherit_doc PTP_STATUS.ofs] def PTP_STATUS.READY : Fld := ⟨PTP_STATUS.ofs, 0, 1⟩
@[inherit_doc PTP_STATUS.ofs] def PTP_STATUS.UNVERIFIED : Fld := ⟨PTP_STATUS.ofs, 1, 1⟩
@[inherit_doc PTP_STATUS.ofs] def PTP_STATUS.TBL_USED : Fld := ⟨PTP_STATUS.ofs, 16, 15⟩
/-- PTP_CLOCK_ID, BLK domain. -/
def PTP_CLOCK_ID.ofs : Nat := 0x500008
/-- PTP_PROV_ORG, BLK domain. -/
def PTP_PROV_ORG.ofs : Nat := 0x500010
@[inherit_doc PTP_PROV_ORG.ofs] def PTP_PROV_ORG.ORG_ID : Fld := ⟨PTP_PROV_ORG.ofs, 0, 24⟩
/-- PTP_FLAGS, BLK domain. -/
def PTP_FLAGS.ofs : Nat := 0x500014
@[inherit_doc PTP_FLAGS.ofs] def PTP_FLAGS.TBL_FULL_EV : Fld := ⟨PTP_FLAGS.ofs, 0, 1⟩
@[inherit_doc PTP_FLAGS.ofs] def PTP_FLAGS.CFG_BAD : Fld := ⟨PTP_FLAGS.ofs, 1, 1⟩
/-- PTP_GRANT_CFG, BLK domain. -/
def PTP_GRANT_CFG.ofs : Nat := 0x500018
@[inherit_doc PTP_GRANT_CFG.ofs] def PTP_GRANT_CFG.MAX_DUR : Fld := ⟨PTP_GRANT_CFG.ofs, 0, 16⟩
/-- PTP_SLACK, BLK domain. -/
def PTP_SLACK.ofs : Nat := 0x50001C
@[inherit_doc PTP_SLACK.ofs] def PTP_SLACK.SLACK : Fld := ⟨PTP_SLACK.ofs, 0, 16⟩
/-- PTP_TBL_IDX, BLK domain. -/
def PTP_TBL_IDX.ofs : Nat := 0x500020
@[inherit_doc PTP_TBL_IDX.ofs] def PTP_TBL_IDX.IDX : Fld := ⟨PTP_TBL_IDX.ofs, 0, 14⟩
/-- PTP_TBL_ENTRY, BLK domain. -/
def PTP_TBL_ENTRY.ofs : Nat := 0x500024
@[inherit_doc PTP_TBL_ENTRY.ofs] def PTP_TBL_ENTRY.VALID : Fld := ⟨PTP_TBL_ENTRY.ofs, 0, 1⟩
@[inherit_doc PTP_TBL_ENTRY.ofs] def PTP_TBL_ENTRY.V6 : Fld := ⟨PTP_TBL_ENTRY.ofs, 1, 1⟩
@[inherit_doc PTP_TBL_ENTRY.ofs] def PTP_TBL_ENTRY.INST : Fld := ⟨PTP_TBL_ENTRY.ofs, 2, 4⟩
@[inherit_doc PTP_TBL_ENTRY.ofs] def PTP_TBL_ENTRY.GRANTS : Fld := ⟨PTP_TBL_ENTRY.ofs, 6, 3⟩
@[inherit_doc PTP_TBL_ENTRY.ofs] def PTP_TBL_ENTRY.LOG_SYNC : Fld := ⟨PTP_TBL_ENTRY.ofs, 9, 4⟩
@[inherit_doc PTP_TBL_ENTRY.ofs] def PTP_TBL_ENTRY.EXPIRY : Fld := ⟨PTP_TBL_ENTRY.ofs, 13, 19⟩
/-- PTP_TBL_ADDR_W, BLK domain. -/
def PTP_TBL_ADDR_W.ofs (w : Nat) : Nat := 0x500028 + w * 0x4
@[inherit_doc PTP_TBL_ADDR_W.ofs] def PTP_TBL_ADDR_W.OCTETS (w : Nat) : Fld := ⟨PTP_TBL_ADDR_W.ofs w, 0, 32⟩
/-- PTP_INST_CFG, INST domain. -/
def PTP_INST_CFG.ofs (i : Nat) : Nat := 0x501000 + i * 0x100
@[inherit_doc PTP_INST_CFG.ofs] def PTP_INST_CFG.EN (i : Nat) : Fld := ⟨PTP_INST_CFG.ofs i, 0, 1⟩
@[inherit_doc PTP_INST_CFG.ofs] def PTP_INST_CFG.PROFILE (i : Nat) : Fld := ⟨PTP_INST_CFG.ofs i, 1, 2⟩
@[inherit_doc PTP_INST_CFG.ofs] def PTP_INST_CFG.TWO_STEP (i : Nat) : Fld := ⟨PTP_INST_CFG.ofs i, 3, 1⟩
@[inherit_doc PTP_INST_CFG.ofs] def PTP_INST_CFG.TRANSPORT (i : Nat) : Fld := ⟨PTP_INST_CFG.ofs i, 4, 2⟩
@[inherit_doc PTP_INST_CFG.ofs] def PTP_INST_CFG.L2_ADDR (i : Nat) : Fld := ⟨PTP_INST_CFG.ofs i, 6, 1⟩
@[inherit_doc PTP_INST_CFG.ofs] def PTP_INST_CFG.UNICAST (i : Nat) : Fld := ⟨PTP_INST_CFG.ofs i, 7, 1⟩
@[inherit_doc PTP_INST_CFG.ofs] def PTP_INST_CFG.DOMAIN (i : Nat) : Fld := ⟨PTP_INST_CFG.ofs i, 8, 8⟩
/-- PTP_INST_BIND, INST domain. -/
def PTP_INST_BIND.ofs (i : Nat) : Nat := 0x501004 + i * 0x100
@[inherit_doc PTP_INST_BIND.ofs] def PTP_INST_BIND.VALID (i : Nat) : Fld := ⟨PTP_INST_BIND.ofs i, 0, 1⟩
@[inherit_doc PTP_INST_BIND.ofs] def PTP_INST_BIND.ROLE (i : Nat) : Fld := ⟨PTP_INST_BIND.ofs i, 1, 1⟩
@[inherit_doc PTP_INST_BIND.ofs] def PTP_INST_BIND.PORT (i : Nat) : Fld := ⟨PTP_INST_BIND.ofs i, 2, 3⟩
/-- PTP_INST_RATES, INST domain. -/
def PTP_INST_RATES.ofs (i : Nat) : Nat := 0x501008 + i * 0x100
@[inherit_doc PTP_INST_RATES.ofs] def PTP_INST_RATES.LOG_SYNC (i : Nat) : Fld := ⟨PTP_INST_RATES.ofs i, 0, 8⟩
@[inherit_doc PTP_INST_RATES.ofs] def PTP_INST_RATES.LOG_ANN (i : Nat) : Fld := ⟨PTP_INST_RATES.ofs i, 8, 8⟩
@[inherit_doc PTP_INST_RATES.ofs] def PTP_INST_RATES.LOG_DELAY (i : Nat) : Fld := ⟨PTP_INST_RATES.ofs i, 16, 8⟩
@[inherit_doc PTP_INST_RATES.ofs] def PTP_INST_RATES.ANN_TIMEOUT (i : Nat) : Fld := ⟨PTP_INST_RATES.ofs i, 24, 8⟩
/-- PTP_INST_DS, INST domain. -/
def PTP_INST_DS.ofs (i : Nat) : Nat := 0x50100C + i * 0x100
@[inherit_doc PTP_INST_DS.ofs] def PTP_INST_DS.PRIORITY1 (i : Nat) : Fld := ⟨PTP_INST_DS.ofs i, 0, 8⟩
@[inherit_doc PTP_INST_DS.ofs] def PTP_INST_DS.PRIORITY2 (i : Nat) : Fld := ⟨PTP_INST_DS.ofs i, 8, 8⟩
@[inherit_doc PTP_INST_DS.ofs] def PTP_INST_DS.LOCAL_PRIO (i : Nat) : Fld := ⟨PTP_INST_DS.ofs i, 16, 8⟩
@[inherit_doc PTP_INST_DS.ofs] def PTP_INST_DS.CLASS_OVR (i : Nat) : Fld := ⟨PTP_INST_DS.ofs i, 24, 8⟩
/-- PTP_INST_OVR, INST domain. -/
def PTP_INST_OVR.ofs (i : Nat) : Nat := 0x501010 + i * 0x100
@[inherit_doc PTP_INST_OVR.ofs] def PTP_INST_OVR.CLASS_OVR_EN (i : Nat) : Fld := ⟨PTP_INST_OVR.ofs i, 0, 1⟩
@[inherit_doc PTP_INST_OVR.ofs] def PTP_INST_OVR.OSLV (i : Nat) : Fld := ⟨PTP_INST_OVR.ofs i, 16, 16⟩
/-- PTP_INST_STATUS, INST domain. -/
def PTP_INST_STATUS.ofs (i : Nat) : Nat := 0x501014 + i * 0x100
@[inherit_doc PTP_INST_STATUS.ofs] def PTP_INST_STATUS.PORT_STATE (i : Nat) : Fld := ⟨PTP_INST_STATUS.ofs i, 0, 3⟩
@[inherit_doc PTP_INST_STATUS.ofs] def PTP_INST_STATUS.PATH_STATE (i : Nat) : Fld := ⟨PTP_INST_STATUS.ofs i, 3, 1⟩
@[inherit_doc PTP_INST_STATUS.ofs] def PTP_INST_STATUS.CLASS_TX (i : Nat) : Fld := ⟨PTP_INST_STATUS.ofs i, 8, 8⟩
@[inherit_doc PTP_INST_STATUS.ofs] def PTP_INST_STATUS.ACC_TX (i : Nat) : Fld := ⟨PTP_INST_STATUS.ofs i, 16, 8⟩
/-- PTP_INST_FLAGS, INST domain. -/
def PTP_INST_FLAGS.ofs (i : Nat) : Nat := 0x501018 + i * 0x100
@[inherit_doc PTP_INST_FLAGS.ofs] def PTP_INST_FLAGS.PATH_STEP (i : Nat) : Fld := ⟨PTP_INST_FLAGS.ofs i, 0, 1⟩
@[inherit_doc PTP_INST_FLAGS.ofs] def PTP_INST_FLAGS.REACCEPTED (i : Nat) : Fld := ⟨PTP_INST_FLAGS.ofs i, 1, 1⟩
@[inherit_doc PTP_INST_FLAGS.ofs] def PTP_INST_FLAGS.MASTER_CHANGE (i : Nat) : Fld := ⟨PTP_INST_FLAGS.ofs i, 2, 1⟩
@[inherit_doc PTP_INST_FLAGS.ofs] def PTP_INST_FLAGS.DENIED (i : Nat) : Fld := ⟨PTP_INST_FLAGS.ofs i, 3, 1⟩
@[inherit_doc PTP_INST_FLAGS.ofs] def PTP_INST_FLAGS.TSQ_MISS (i : Nat) : Fld := ⟨PTP_INST_FLAGS.ofs i, 4, 1⟩
@[inherit_doc PTP_INST_FLAGS.ofs] def PTP_INST_FLAGS.SYNC_DROP (i : Nat) : Fld := ⟨PTP_INST_FLAGS.ofs i, 5, 1⟩
/-- PTP_INST_CNT0, INST domain. -/
def PTP_INST_CNT0.ofs (i : Nat) : Nat := 0x50101C + i * 0x100
@[inherit_doc PTP_INST_CNT0.ofs] def PTP_INST_CNT0.SYNC_DROP (i : Nat) : Fld := ⟨PTP_INST_CNT0.ofs i, 0, 16⟩
@[inherit_doc PTP_INST_CNT0.ofs] def PTP_INST_CNT0.TSQ_MISS (i : Nat) : Fld := ⟨PTP_INST_CNT0.ofs i, 16, 16⟩
/-- PTP_INST_CNT1, INST domain. -/
def PTP_INST_CNT1.ofs (i : Nat) : Nat := 0x501020 + i * 0x100
@[inherit_doc PTP_INST_CNT1.ofs] def PTP_INST_CNT1.DENIED (i : Nat) : Fld := ⟨PTP_INST_CNT1.ofs i, 0, 16⟩
@[inherit_doc PTP_INST_CNT1.ofs] def PTP_INST_CNT1.DISCARD (i : Nat) : Fld := ⟨PTP_INST_CNT1.ofs i, 16, 16⟩
/-- PTP_INST_CNT2, INST domain. -/
def PTP_INST_CNT2.ofs (i : Nat) : Nat := 0x501024 + i * 0x100
@[inherit_doc PTP_INST_CNT2.ofs] def PTP_INST_CNT2.DEP_DROP (i : Nat) : Fld := ⟨PTP_INST_CNT2.ofs i, 0, 16⟩
@[inherit_doc PTP_INST_CNT2.ofs] def PTP_INST_CNT2.EXCH (i : Nat) : Fld := ⟨PTP_INST_CNT2.ofs i, 16, 16⟩
/-- PTP_CLI_CONFIRM, INST domain. -/
def PTP_CLI_CONFIRM.ofs (i : Nat) : Nat := 0x501030 + i * 0x100
/-- PTP_CLI_PATH_LIM, INST domain. -/
def PTP_CLI_PATH_LIM.ofs (i : Nat) : Nat := 0x501038 + i * 0x100
@[inherit_doc PTP_CLI_PATH_LIM.ofs] def PTP_CLI_PATH_LIM.PATH_STEP_LIM (i : Nat) : Fld := ⟨PTP_CLI_PATH_LIM.ofs i, 0, 16⟩
@[inherit_doc PTP_CLI_PATH_LIM.ofs] def PTP_CLI_PATH_LIM.CONFIRM_TOL (i : Nat) : Fld := ⟨PTP_CLI_PATH_LIM.ofs i, 16, 16⟩
/-- PTP_CLI_SEL, INST domain. -/
def PTP_CLI_SEL.ofs (i : Nat) : Nat := 0x50103C + i * 0x100
@[inherit_doc PTP_CLI_SEL.ofs] def PTP_CLI_SEL.CONFIRM_CNT (i : Nat) : Fld := ⟨PTP_CLI_SEL.ofs i, 0, 8⟩
@[inherit_doc PTP_CLI_SEL.ofs] def PTP_CLI_SEL.SEL_WIN (i : Nat) : Fld := ⟨PTP_CLI_SEL.ofs i, 16, 16⟩
/-- PTP_CLI_CMD, INST domain. -/
def PTP_CLI_CMD.ofs (i : Nat) : Nat := 0x501040 + i * 0x100
@[inherit_doc PTP_CLI_CMD.ofs] def PTP_CLI_CMD.REACCEPT_RAW (i : Nat) : Fld := ⟨PTP_CLI_CMD.ofs i, 0, 1⟩
@[inherit_doc PTP_CLI_CMD.ofs] def PTP_CLI_CMD.REACCEPT_HELD (i : Nat) : Fld := ⟨PTP_CLI_CMD.ofs i, 1, 1⟩
/-- PTP_CLI_X_PH, INST domain. -/
def PTP_CLI_X_PH.ofs (i : Nat) : Nat := 0x501048 + i * 0x100
/-- PTP_CLI_RAW_PH, INST domain. -/
def PTP_CLI_RAW_PH.ofs (i : Nat) : Nat := 0x501050 + i * 0x100
/-- PTP_CLI_DELTA_PH, INST domain. -/
def PTP_CLI_DELTA_PH.ofs (i : Nat) : Nat := 0x501058 + i * 0x100
/-- PTP_CLI_ASYM_PH, INST domain. -/
def PTP_CLI_ASYM_PH.ofs (i : Nat) : Nat := 0x501060 + i * 0x100
/-- PTP_CLI_RT_PH, INST domain. -/
def PTP_CLI_RT_PH.ofs (i : Nat) : Nat := 0x501068 + i * 0x100
/-- PTP_CLI_MASTER, INST domain. -/
def PTP_CLI_MASTER.ofs (i : Nat) : Nat := 0x501070 + i * 0x100
/-- PTP_CLI_UM_ADDR_W, INST domain. -/
def PTP_CLI_UM_ADDR_W.ofs (i : Nat) (m : Nat) (w : Nat) : Nat := 0x501080 + i * 0x100 + m * 0x14 + w * 0x4
@[inherit_doc PTP_CLI_UM_ADDR_W.ofs] def PTP_CLI_UM_ADDR_W.OCTETS (i : Nat) (m : Nat) (w : Nat) : Fld := ⟨PTP_CLI_UM_ADDR_W.ofs i m w, 0, 32⟩
/-- PTP_CLI_UM_CFG, INST domain. -/
def PTP_CLI_UM_CFG.ofs (i : Nat) (m : Nat) : Nat := 0x501090 + i * 0x100 + m * 0x14
@[inherit_doc PTP_CLI_UM_CFG.ofs] def PTP_CLI_UM_CFG.VALID (i : Nat) (m : Nat) : Fld := ⟨PTP_CLI_UM_CFG.ofs i m, 0, 1⟩
@[inherit_doc PTP_CLI_UM_CFG.ofs] def PTP_CLI_UM_CFG.V6 (i : Nat) (m : Nat) : Fld := ⟨PTP_CLI_UM_CFG.ofs i m, 1, 1⟩
@[inherit_doc PTP_CLI_UM_CFG.ofs] def PTP_CLI_UM_CFG.LOCAL_PRIO (i : Nat) (m : Nat) : Fld := ⟨PTP_CLI_UM_CFG.ofs i m, 2, 8⟩

end Sys2Proof.Machine
end

