-- ==== Sys2Proof/Machine/RegMapRgs.lean ====
section
/-! DEFINITION. The register map of the RGS block, from the register tables of 04_registrar.md.
One descriptor per register entry (offset, reset domain, fields with access code and the two defaults of R19) and one
named offset `NAME.ofs` and one named field `NAME.FIELD` per entry of the tables. -/

namespace Sys2Proof.Machine

/-- Register descriptors of the RGS block, part 0. -/
def regsRgs0 : List RegDesc := [
  ⟨"RGS_CFG", 0x90000, [], false, .blk, .rgs, none,
    [⟨0, 1, .rw, (.val 0), (.val 1)⟩,
     ⟨16, 16, .rw, (.val 0x64), (.val 0x64)⟩]⟩,
  ⟨"RGS_STATUS", 0x90004, [], false, .blk, .rgs, none,
    [⟨0, 1, .ro, (.val 0), .live⟩,
     ⟨1, 1, .ro, (.val 0), .live⟩,
     ⟨2, 1, .ro, (.val 0), .live⟩]⟩,
  ⟨"RGS_FLAGS", 0x90008, [], false, .blk, .rgs, none,
    [⟨0, 1, .w1c, (.val 0), (.val 0)⟩,
     ⟨1, 1, .w1c, (.val 0), (.val 0)⟩,
     ⟨2, 1, .w1c, (.val 0), (.val 0)⟩,
     ⟨3, 1, .w1c, (.val 0), (.val 0)⟩]⟩,
  ⟨"RGS_DISPUTE_LIM_FF", 0x90010, [], true, .blk, .rgs, none,
    [⟨0, 64, .rw, (.val 0x57f600), (.val 0x57f600)⟩]⟩,
  ⟨"RGS_QUAL_FREQ_LIM_FF", 0x90018, [], true, .blk, .rgs, none,
    [⟨0, 64, .rw, (.val 0xa7c5ac471b4), (.val 0xa7c5ac471b4)⟩]⟩,
  ⟨"RGS_DISPUTE_INFO", 0x90020, [], false, .blk, .rgs, none,
    [⟨0, 6, .ro, (.val 0), .live⟩,
     ⟨8, 6, .ro, (.val 0), .live⟩,
     ⟨16, 1, .ro, (.val 0), .live⟩]⟩,
  ⟨"RGS_SEL_STATUS", 0x90800, [(0x20, 24)], false, .inst, .rgs, some .loop,
    [⟨0, 6, .ro, (.val 0), .live⟩,
     ⟨6, 1, .ro, (.val 0), .live⟩,
     ⟨7, 3, .ro, (.val 4), .live⟩,
     ⟨10, 6, .ro, (.val 0), .live⟩,
     ⟨16, 4, .ro, (.val 0xf), .live⟩,
     ⟨20, 1, .ro, (.val 0), .live⟩]⟩,
  ⟨"RGS_SEL_CTRL", 0x90804, [(0x20, 24)], false, .inst, .rgs, some .loop,
    [⟨0, 1, .rw, (.val 0), (.val 0)⟩,
     ⟨1, 6, .rw, (.val 0), (.val 0)⟩]⟩,
  ⟨"RGS_SEL_CNT", 0x90808, [(0x20, 24)], false, .inst, .rgs, some .loop,
    [⟨0, 16, .rc, (.val 0), (.val 0)⟩,
     ⟨16, 16, .rc, (.val 0), (.val 0)⟩]⟩,
  ⟨"RGS_SEL_STEP_PH", 0x90810, [(0x20, 24)], true, .inst, .rgs, some .loop,
    [⟨0, 64, .ro, (.val 0), .live⟩]⟩]

/-- Register descriptors of the RGS block, part 1. -/
def regsRgs1 : List RegDesc := [
  ⟨"RGS_SLOT_BIND", 0x91000, [(0x40, 64)], false, .inst, .rgs, some .slot,
    [⟨0, 4, .ro, (.val 0), .live⟩,
     ⟨4, 8, .ro, (.val 0), .live⟩,
     ⟨12, 1, .ro, (.val 0), .live⟩,
     ⟨13, 1, .ro, (.val 0), .live⟩,
     ⟨14, 5, .ro, (.val 0), .live⟩,
     ⟨19, 6, .ro, (.val 0), .live⟩]⟩,
  ⟨"RGS_SLOT_LOOPS", 0x91004, [(0x40, 64)], false, .inst, .rgs, some .slot,
    [⟨0, 24, .ro, (.val 0), .live⟩]⟩,
  ⟨"RGS_SLOT_CFG", 0x91008, [(0x40, 64)], false, .inst, .rgs, some .slot,
    [⟨0, 1, .rw, (.val 0), (.val 0)⟩,
     ⟨1, 1, .rw, (.val 0), (.val 0)⟩,
     ⟨2, 1, .rw, (.val 0), (.val 0)⟩,
     ⟨4, 4, .rw, (.val 0xe), (.val 0xe)⟩,
     ⟨8, 8, .rw, (.val 0x80), (.val 0x80)⟩,
     ⟨16, 3, .rw, (.val 4), (.val 4)⟩]⟩,
  ⟨"RGS_SLOT_TIMERS", 0x9100C, [(0x40, 64)], false, .inst, .rgs, some .slot,
    [⟨0, 8, .rw, (.val 0), (.byRule .slotTimer)⟩,
     ⟨8, 8, .rw, (.val 0xa), (.byRule .slotTimer)⟩,
     ⟨16, 16, .rw, (.val 0xa), (.byRule .slotTimer)⟩]⟩,
  ⟨"RGS_SLOT_WTR", 0x91010, [(0x40, 64)], false, .inst, .rgs, some .slot,
    [⟨0, 16, .rw, (.val 0x12c), (.val 0x12c)⟩]⟩,
  ⟨"RGS_SLOT_STATUS", 0x91014, [(0x40, 64)], false, .inst, .rgs, some .slot,
    [⟨0, 3, .ro, (.val 0), .live⟩,
     ⟨3, 1, .ro, (.val 0), .live⟩,
     ⟨4, 4, .ro, (.val 0xf), .live⟩,
     ⟨8, 4, .ro, (.val 0xf), .live⟩,
     ⟨12, 1, .ro, (.val 0), .live⟩,
     ⟨13, 1, .ro, (.val 0), .live⟩,
     ⟨16, 16, .ro, (.val 0), .live⟩]⟩,
  ⟨"RGS_SLOT_MSG", 0x91018, [(0x40, 64)], false, .inst, .rgs, some .slot,
    [⟨0, 16, .ro, (.val 0), .live⟩]⟩,
  ⟨"RGS_SLOT_CMD", 0x9101C, [(0x40, 64)], false, .inst, .rgs, some .slot,
    [⟨0, 1, .wo, (.val 0), (.val 0)⟩,
     ⟨1, 1, .wo, (.val 0), (.val 0)⟩]⟩,
  ⟨"RGS_SLOT_PH", 0x91020, [(0x40, 64)], true, .inst, .rgs, some .slot,
    [⟨0, 64, .ro, (.val 0), .live⟩]⟩,
  ⟨"RGS_SLOT_FF", 0x91028, [(0x40, 64)], true, .inst, .rgs, some .slot,
    [⟨0, 64, .ro, (.val 0), .live⟩]⟩]

/-- Register descriptors of the RGS block, part 2. -/
def regsRgs2 : List RegDesc := [
  ⟨"RGS_SLOT_CNT", 0x91030, [(0x40, 64)], false, .inst, .rgs, some .slot,
    [⟨0, 16, .rc, (.val 0), (.val 0)⟩,
     ⟨16, 16, .rc, (.val 0), (.val 0)⟩]⟩,
  ⟨"RGS_SLOT_FLAGS", 0x91034, [(0x40, 64)], false, .inst, .rgs, some .slot,
    [⟨0, 1, .w1c, (.val 0), (.val 0)⟩,
     ⟨1, 1, .w1c, (.val 0), (.val 0)⟩,
     ⟨2, 1, .w1c, (.val 0), (.val 0)⟩,
     ⟨3, 1, .w1c, (.val 0), (.val 0)⟩,
     ⟨4, 1, .w1c, (.val 0), (.val 0)⟩,
     ⟨5, 1, .w1c, (.val 0), (.val 0)⟩,
     ⟨6, 1, .w1c, (.val 0), (.val 0)⟩,
     ⟨7, 1, .w1c, (.val 0), (.val 0)⟩]⟩,
  ⟨"RGS_SLOT_LL_ID", 0x91038, [(0x40, 64)], false, .inst, .rgs, some .slot,
    [⟨0, 32, .rw, (.val 0), (.val 0)⟩]⟩,
  ⟨"RGS_SLOT_UNC", 0x9103C, [(0x40, 64)], false, .inst, .rgs, some .slot,
    [⟨0, 32, .ro, (.val 0xffffffff), .live⟩]⟩,
  ⟨"RGS_SLOT_NOM", 0x92000, [(0x4, 64)], false, .inst, .rgs, some .slot,
    [⟨0, 26, .ro, (.val 0), .live⟩]⟩]

/-- Every register of the RGS block. -/
def regsRgs : List RegDesc := regsRgs0 ++ regsRgs1 ++ regsRgs2

/-- RGS_CFG, BLK domain. -/
def RGS_CFG.ofs : Nat := 0x90000
@[inherit_doc RGS_CFG.ofs] def RGS_CFG.DISPUTE_EN : Fld := ⟨RGS_CFG.ofs, 0, 1⟩
@[inherit_doc RGS_CFG.ofs] def RGS_CFG.DISPUTE_TAU : Fld := ⟨RGS_CFG.ofs, 16, 16⟩
/-- RGS_STATUS, BLK domain. -/
def RGS_STATUS.ofs : Nat := 0x90004
@[inherit_doc RGS_STATUS.ofs] def RGS_STATUS.READY : Fld := ⟨RGS_STATUS.ofs, 0, 1⟩
@[inherit_doc RGS_STATUS.ofs] def RGS_STATUS.ANY_DISPUTED : Fld := ⟨RGS_STATUS.ofs, 1, 1⟩
@[inherit_doc RGS_STATUS.ofs] def RGS_STATUS.ANY_HOLD : Fld := ⟨RGS_STATUS.ofs, 2, 1⟩
/-- RGS_FLAGS, BLK domain. -/
def RGS_FLAGS.ofs : Nat := 0x90008
@[inherit_doc RGS_FLAGS.ofs] def RGS_FLAGS.DISPUTE_RAISED : Fld := ⟨RGS_FLAGS.ofs, 0, 1⟩
@[inherit_doc RGS_FLAGS.ofs] def RGS_FLAGS.SWITCH_DONE : Fld := ⟨RGS_FLAGS.ofs, 1, 1⟩
@[inherit_doc RGS_FLAGS.ofs] def RGS_FLAGS.SWITCH_ABANDONED : Fld := ⟨RGS_FLAGS.ofs, 2, 1⟩
@[inherit_doc RGS_FLAGS.ofs] def RGS_FLAGS.MANUAL_BAD : Fld := ⟨RGS_FLAGS.ofs, 3, 1⟩
/-- RGS_DISPUTE_LIM_FF, BLK domain. -/
def RGS_DISPUTE_LIM_FF.ofs : Nat := 0x90010
/-- RGS_QUAL_FREQ_LIM_FF, BLK domain. -/
def RGS_QUAL_FREQ_LIM_FF.ofs : Nat := 0x90018
/-- RGS_DISPUTE_INFO, BLK domain. -/
def RGS_DISPUTE_INFO.ofs : Nat := 0x90020
@[inherit_doc RGS_DISPUTE_INFO.ofs] def RGS_DISPUTE_INFO.SLOT_A : Fld := ⟨RGS_DISPUTE_INFO.ofs, 0, 6⟩
@[inherit_doc RGS_DISPUTE_INFO.ofs] def RGS_DISPUTE_INFO.SLOT_B : Fld := ⟨RGS_DISPUTE_INFO.ofs, 8, 6⟩
@[inherit_doc RGS_DISPUTE_INFO.ofs] def RGS_DISPUTE_INFO.BOTH : Fld := ⟨RGS_DISPUTE_INFO.ofs, 16, 1⟩
/-- RGS_SEL_STATUS, INST domain. -/
def RGS_SEL_STATUS.ofs (k : Nat) : Nat := 0x90800 + k * 0x20
@[inherit_doc RGS_SEL_STATUS.ofs] def RGS_SEL_STATUS.SLOT (k : Nat) : Fld := ⟨RGS_SEL_STATUS.ofs k, 0, 6⟩
@[inherit_doc RGS_SEL_STATUS.ofs] def RGS_SEL_STATUS.VALID (k : Nat) : Fld := ⟨RGS_SEL_STATUS.ofs k, 6, 1⟩
@[inherit_doc RGS_SEL_STATUS.ofs] def RGS_SEL_STATUS.SW_STATE (k : Nat) : Fld := ⟨RGS_SEL_STATUS.ofs k, 7, 3⟩
@[inherit_doc RGS_SEL_STATUS.ofs] def RGS_SEL_STATUS.TARGET (k : Nat) : Fld := ⟨RGS_SEL_STATUS.ofs k, 10, 6⟩
@[inherit_doc RGS_SEL_STATUS.ofs] def RGS_SEL_STATUS.GRADE (k : Nat) : Fld := ⟨RGS_SEL_STATUS.ofs k, 16, 4⟩
@[inherit_doc RGS_SEL_STATUS.ofs] def RGS_SEL_STATUS.HOLD_ON_DISPUTE (k : Nat) : Fld := ⟨RGS_SEL_STATUS.ofs k, 20, 1⟩
/-- RGS_SEL_CTRL, INST domain. -/
def RGS_SEL_CTRL.ofs (k : Nat) : Nat := 0x90804 + k * 0x20
@[inherit_doc RGS_SEL_CTRL.ofs] def RGS_SEL_CTRL.MANUAL_EN (k : Nat) : Fld := ⟨RGS_SEL_CTRL.ofs k, 0, 1⟩
@[inherit_doc RGS_SEL_CTRL.ofs] def RGS_SEL_CTRL.MANUAL_SLOT (k : Nat) : Fld := ⟨RGS_SEL_CTRL.ofs k, 1, 6⟩
/-- RGS_SEL_CNT, INST domain. -/
def RGS_SEL_CNT.ofs (k : Nat) : Nat := 0x90808 + k * 0x20
@[inherit_doc RGS_SEL_CNT.ofs] def RGS_SEL_CNT.COMMITS (k : Nat) : Fld := ⟨RGS_SEL_CNT.ofs k, 0, 16⟩
@[inherit_doc RGS_SEL_CNT.ofs] def RGS_SEL_CNT.ABANDONS (k : Nat) : Fld := ⟨RGS_SEL_CNT.ofs k, 16, 16⟩
/-- RGS_SEL_STEP_PH, INST domain. -/
def RGS_SEL_STEP_PH.ofs (k : Nat) : Nat := 0x90810 + k * 0x20
/-- RGS_SLOT_BIND, INST domain. -/
def RGS_SLOT_BIND.ofs (n : Nat) : Nat := 0x91000 + n * 0x40
@[inherit_doc RGS_SLOT_BIND.ofs] def RGS_SLOT_BIND.TYPE (n : Nat) : Fld := ⟨RGS_SLOT_BIND.ofs n, 0, 4⟩
@[inherit_doc RGS_SLOT_BIND.ofs] def RGS_SLOT_BIND.INDEX (n : Nat) : Fld := ⟨RGS_SLOT_BIND.ofs n, 4, 8⟩
@[inherit_doc RGS_SLOT_BIND.ofs] def RGS_SLOT_BIND.CAP (n : Nat) : Fld := ⟨RGS_SLOT_BIND.ofs n, 12, 1⟩
@[inherit_doc RGS_SLOT_BIND.ofs] def RGS_SLOT_BIND.LL_EN (n : Nat) : Fld := ⟨RGS_SLOT_BIND.ofs n, 13, 1⟩
@[inherit_doc RGS_SLOT_BIND.ofs] def RGS_SLOT_BIND.LL_PIN (n : Nat) : Fld := ⟨RGS_SLOT_BIND.ofs n, 14, 5⟩
@[inherit_doc RGS_SLOT_BIND.ofs] def RGS_SLOT_BIND.PERIOD (n : Nat) : Fld := ⟨RGS_SLOT_BIND.ofs n, 19, 6⟩
/-- RGS_SLOT_LOOPS, INST domain. -/
def RGS_SLOT_LOOPS.ofs (n : Nat) : Nat := 0x91004 + n * 0x40
@[inherit_doc RGS_SLOT_LOOPS.ofs] def RGS_SLOT_LOOPS.LOOPS (n : Nat) : Fld := ⟨RGS_SLOT_LOOPS.ofs n, 0, 24⟩
/-- RGS_SLOT_CFG, INST domain. -/
def RGS_SLOT_CFG.ofs (n : Nat) : Nat := 0x91008 + n * 0x40
@[inherit_doc RGS_SLOT_CFG.ofs] def RGS_SLOT_CFG.EN (n : Nat) : Fld := ⟨RGS_SLOT_CFG.ofs n, 0, 1⟩
@[inherit_doc RGS_SLOT_CFG.ofs] def RGS_SLOT_CFG.LOCKOUT (n : Nat) : Fld := ⟨RGS_SLOT_CFG.ofs n, 1, 1⟩
@[inherit_doc RGS_SLOT_CFG.ofs] def RGS_SLOT_CFG.GRADE_SRC (n : Nat) : Fld := ⟨RGS_SLOT_CFG.ofs n, 2, 1⟩
@[inherit_doc RGS_SLOT_CFG.ofs] def RGS_SLOT_CFG.FIXED_GRADE (n : Nat) : Fld := ⟨RGS_SLOT_CFG.ofs n, 4, 4⟩
@[inherit_doc RGS_SLOT_CFG.ofs] def RGS_SLOT_CFG.PRIO (n : Nat) : Fld := ⟨RGS_SLOT_CFG.ofs n, 8, 8⟩
@[inherit_doc RGS_SLOT_CFG.ofs] def RGS_SLOT_CFG.LL_BAUD (n : Nat) : Fld := ⟨RGS_SLOT_CFG.ofs n, 16, 3⟩
/-- RGS_SLOT_TIMERS, INST domain. -/
def RGS_SLOT_TIMERS.ofs (n : Nat) : Nat := 0x9100C + n * 0x40
@[inherit_doc RGS_SLOT_TIMERS.ofs] def RGS_SLOT_TIMERS.HOLDOFF (n : Nat) : Fld := ⟨RGS_SLOT_TIMERS.ofs n, 0, 8⟩
@[inherit_doc RGS_SLOT_TIMERS.ofs] def RGS_SLOT_TIMERS.ALIGN_TIME (n : Nat) : Fld := ⟨RGS_SLOT_TIMERS.ofs n, 8, 8⟩
@[inherit_doc RGS_SLOT_TIMERS.ofs] def RGS_SLOT_TIMERS.QUAL_TIME (n : Nat) : Fld := ⟨RGS_SLOT_TIMERS.ofs n, 16, 16⟩
/-- RGS_SLOT_WTR, INST domain. -/
def RGS_SLOT_WTR.ofs (n : Nat) : Nat := 0x91010 + n * 0x40
@[inherit_doc RGS_SLOT_WTR.ofs] def RGS_SLOT_WTR.WTR (n : Nat) : Fld := ⟨RGS_SLOT_WTR.ofs n, 0, 16⟩
/-- RGS_SLOT_STATUS, INST domain. -/
def RGS_SLOT_STATUS.ofs (n : Nat) : Nat := 0x91014 + n * 0x40
@[inherit_doc RGS_SLOT_STATUS.ofs] def RGS_SLOT_STATUS.STATE (n : Nat) : Fld := ⟨RGS_SLOT_STATUS.ofs n, 0, 3⟩
@[inherit_doc RGS_SLOT_STATUS.ofs] def RGS_SLOT_STATUS.SIG (n : Nat) : Fld := ⟨RGS_SLOT_STATUS.ofs n, 3, 1⟩
@[inherit_doc RGS_SLOT_STATUS.ofs] def RGS_SLOT_STATUS.GRADE (n : Nat) : Fld := ⟨RGS_SLOT_STATUS.ofs n, 4, 4⟩
@[inherit_doc RGS_SLOT_STATUS.ofs] def RGS_SLOT_STATUS.MSG_GRADE (n : Nat) : Fld := ⟨RGS_SLOT_STATUS.ofs n, 8, 4⟩
@[inherit_doc RGS_SLOT_STATUS.ofs] def RGS_SLOT_STATUS.DISPUTED (n : Nat) : Fld := ⟨RGS_SLOT_STATUS.ofs n, 12, 1⟩
@[inherit_doc RGS_SLOT_STATUS.ofs] def RGS_SLOT_STATUS.EVER_QUAL (n : Nat) : Fld := ⟨RGS_SLOT_STATUS.ofs n, 13, 1⟩
@[inherit_doc RGS_SLOT_STATUS.ofs] def RGS_SLOT_STATUS.TIMER (n : Nat) : Fld := ⟨RGS_SLOT_STATUS.ofs n, 16, 16⟩
/-- RGS_SLOT_MSG, INST domain. -/
def RGS_SLOT_MSG.ofs (n : Nat) : Nat := 0x91018 + n * 0x40
@[inherit_doc RGS_SLOT_MSG.ofs] def RGS_SLOT_MSG.RAW (n : Nat) : Fld := ⟨RGS_SLOT_MSG.ofs n, 0, 16⟩
/-- RGS_SLOT_CMD, INST domain. -/
def RGS_SLOT_CMD.ofs (n : Nat) : Nat := 0x9101C + n * 0x40
@[inherit_doc RGS_SLOT_CMD.ofs] def RGS_SLOT_CMD.WTR_CLEAR (n : Nat) : Fld := ⟨RGS_SLOT_CMD.ofs n, 0, 1⟩
@[inherit_doc RGS_SLOT_CMD.ofs] def RGS_SLOT_CMD.DISPUTE_CLEAR (n : Nat) : Fld := ⟨RGS_SLOT_CMD.ofs n, 1, 1⟩
/-- RGS_SLOT_PH, INST domain. -/
def RGS_SLOT_PH.ofs (n : Nat) : Nat := 0x91020 + n * 0x40
/-- RGS_SLOT_FF, INST domain. -/
def RGS_SLOT_FF.ofs (n : Nat) : Nat := 0x91028 + n * 0x40
/-- RGS_SLOT_CNT, INST domain. -/
def RGS_SLOT_CNT.ofs (n : Nat) : Nat := 0x91030 + n * 0x40
@[inherit_doc RGS_SLOT_CNT.ofs] def RGS_SLOT_CNT.LOS_CNT (n : Nat) : Fld := ⟨RGS_SLOT_CNT.ofs n, 0, 16⟩
@[inherit_doc RGS_SLOT_CNT.ofs] def RGS_SLOT_CNT.MSG_ERR (n : Nat) : Fld := ⟨RGS_SLOT_CNT.ofs n, 16, 16⟩
/-- RGS_SLOT_FLAGS, INST domain. -/
def RGS_SLOT_FLAGS.ofs (n : Nat) : Nat := 0x91034 + n * 0x40
@[inherit_doc RGS_SLOT_FLAGS.ofs] def RGS_SLOT_FLAGS.LOST (n : Nat) : Fld := ⟨RGS_SLOT_FLAGS.ofs n, 0, 1⟩
@[inherit_doc RGS_SLOT_FLAGS.ofs] def RGS_SLOT_FLAGS.QUALIFIED_EV (n : Nat) : Fld := ⟨RGS_SLOT_FLAGS.ofs n, 1, 1⟩
@[inherit_doc RGS_SLOT_FLAGS.ofs] def RGS_SLOT_FLAGS.GRADE_CHANGE (n : Nat) : Fld := ⟨RGS_SLOT_FLAGS.ofs n, 2, 1⟩
@[inherit_doc RGS_SLOT_FLAGS.ofs] def RGS_SLOT_FLAGS.LL_MISSING (n : Nat) : Fld := ⟨RGS_SLOT_FLAGS.ofs n, 3, 1⟩
@[inherit_doc RGS_SLOT_FLAGS.ofs] def RGS_SLOT_FLAGS.LL_CRC (n : Nat) : Fld := ⟨RGS_SLOT_FLAGS.ofs n, 4, 1⟩
@[inherit_doc RGS_SLOT_FLAGS.ofs] def RGS_SLOT_FLAGS.LL_LATE (n : Nat) : Fld := ⟨RGS_SLOT_FLAGS.ofs n, 5, 1⟩
@[inherit_doc RGS_SLOT_FLAGS.ofs] def RGS_SLOT_FLAGS.LL_SEQ (n : Nat) : Fld := ⟨RGS_SLOT_FLAGS.ofs n, 6, 1⟩
@[inherit_doc RGS_SLOT_FLAGS.ofs] def RGS_SLOT_FLAGS.LL_UTC_MISMATCH (n : Nat) : Fld := ⟨RGS_SLOT_FLAGS.ofs n, 7, 1⟩
/-- RGS_SLOT_LL_ID, INST domain. -/
def RGS_SLOT_LL_ID.ofs (n : Nat) : Nat := 0x91038 + n * 0x40
@[inherit_doc RGS_SLOT_LL_ID.ofs] def RGS_SLOT_LL_ID.ID (n : Nat) : Fld := ⟨RGS_SLOT_LL_ID.ofs n, 0, 32⟩
/-- RGS_SLOT_UNC, INST domain. -/
def RGS_SLOT_UNC.ofs (n : Nat) : Nat := 0x9103C + n * 0x40
@[inherit_doc RGS_SLOT_UNC.ofs] def RGS_SLOT_UNC.UNC (n : Nat) : Fld := ⟨RGS_SLOT_UNC.ofs n, 0, 32⟩
/-- RGS_SLOT_NOM, INST domain. -/
def RGS_SLOT_NOM.ofs (n : Nat) : Nat := 0x92000 + n * 0x4
@[inherit_doc RGS_SLOT_NOM.ofs] def RGS_SLOT_NOM.F_NOM (n : Nat) : Fld := ⟨RGS_SLOT_NOM.ofs n, 0, 26⟩

end Sys2Proof.Machine
end

