-- ==== Sys2Proof/Machine/RegMapTb.lean ====
section
/-! DEFINITION. The register map of the TB block, from the register tables of 02_timebase.md.
One descriptor per register entry (offset, reset domain, fields with access code and the two defaults of R19) and one
named offset `NAME.ofs` and one named field `NAME.FIELD` per entry of the tables. -/

namespace Sys2Proof.Machine

/-- Register descriptors of the TB block, part 0. -/
def regsTb0 : List RegDesc := [
  ⟨"TB_CFG", 0x80000, [], false, .blk, .tb, none,
    [⟨0, 1, .rw, (.val 0), (.val 0)⟩,
     ⟨1, 1, .rw, (.val 0), (.val 1)⟩,
     ⟨2, 1, .rw, (.val 0), (.val 1)⟩,
     ⟨3, 1, .rw, (.val 0), (.val 0)⟩,
     ⟨4, 1, .rw, (.val 0), (.val 0)⟩]⟩,
  ⟨"TB_CTRL", 0x80004, [], false, .blk, .tb, none,
    [⟨0, 1, .wo, (.val 0), (.val 0)⟩,
     ⟨1, 1, .wo, (.val 0), (.val 0)⟩,
     ⟨2, 1, .wo, (.val 0), (.val 0)⟩,
     ⟨3, 1, .wo, (.val 0), (.val 0)⟩,
     ⟨4, 1, .wo, (.val 0), (.val 0)⟩]⟩,
  ⟨"TB_STATUS", 0x80008, [], false, .blk, .tb, none,
    [⟨0, 1, .ro, (.val 0), .live⟩,
     ⟨1, 1, .ro, (.val 0), .live⟩,
     ⟨2, 1, .ro, (.val 0), .live⟩,
     ⟨3, 1, .ro, (.val 0), .live⟩,
     ⟨4, 1, .ro, (.val 0), .live⟩,
     ⟨5, 1, .ro, (.val 1), .live⟩,
     ⟨6, 1, .ro, (.val 0), .live⟩,
     ⟨7, 1, .ro, (.val 0), .live⟩,
     ⟨8, 2, .ro, (.val 0), .live⟩]⟩,
  ⟨"TB_FLAGS", 0x8000C, [], false, .blk, .tb, none,
    [⟨0, 1, .w1c, (.val 0), (.val 0)⟩,
     ⟨1, 1, .w1c, (.val 0), (.val 0)⟩,
     ⟨2, 1, .w1c, (.val 0), (.val 0)⟩,
     ⟨3, 1, .w1c, (.val 0), (.val 0)⟩,
     ⟨4, 1, .w1c, (.val 0), (.val 0)⟩,
     ⟨5, 1, .w1c, (.val 0), (.val 0)⟩,
     ⟨6, 1, .w1c, (.val 0), (.val 0)⟩,
     ⟨7, 1, .w1c, (.val 0), (.val 0)⟩,
     ⟨8, 1, .w1c, (.val 0), (.val 0)⟩,
     ⟨9, 1, .w1c, (.val 0), (.val 0)⟩]⟩,
  ⟨"TB_TIME_SEC", 0x80010, [], true, .blk, .tb, none,
    [⟨0, 64, .ro, .live, .live⟩]⟩,
  ⟨"TB_TIME_NS", 0x80018, [], false, .blk, .tb, none,
    [⟨0, 32, .ro, .live, .live⟩]⟩,
  ⟨"TB_TIME_FRAC", 0x8001C, [], false, .blk, .tb, none,
    [⟨0, 32, .ro, .live, .live⟩]⟩,
  ⟨"TB_SET_SEC", 0x80020, [], true, .blk, .tb, none,
    [⟨0, 64, .rw, (.val 0), (.val 0)⟩]⟩,
  ⟨"TB_SET_NS", 0x80028, [], false, .blk, .tb, none,
    [⟨0, 32, .rw, (.val 0), (.val 0)⟩]⟩,
  ⟨"TB_SET_FRAC", 0x8002C, [], false, .blk, .tb, none,
    [⟨0, 32, .rw, (.val 0), (.val 0)⟩]⟩]

/-- Register descriptors of the TB block, part 1. -/
def regsTb1 : List RegDesc := [
  ⟨"TB_JUMP_LIMIT_PH", 0x80030, [], true, .blk, .tb, none,
    [⟨0, 64, .rw, (.val 0x3e80000), (.val 0x3e80000)⟩]⟩,
  ⟨"TB_SLEW_LIM_FF", 0x80038, [], true, .blk, .tb, none,
    [⟨0, 64, .rw, (.val 0x1ad7f29abd), (.val 0x1ad7f29abd)⟩]⟩,
  ⟨"TB_PEND_PH", 0x80040, [], true, .blk, .tb, none,
    [⟨0, 64, .ro, (.val 0), .live⟩]⟩,
  ⟨"TB_PEND_INFO", 0x80048, [], false, .blk, .tb, none,
    [⟨0, 16, .ro, (.val 0), .live⟩,
     ⟨16, 5, .ro, (.val 0), .live⟩,
     ⟨21, 1, .ro, (.val 0), .live⟩]⟩,
  ⟨"TB_STEP_AUTH", 0x8004C, [], false, .blk, .tb, none,
    [⟨0, 16, .wo, (.val 0), (.val 0)⟩,
     ⟨16, 1, .wo, (.val 0), (.val 0)⟩,
     ⟨17, 1, .wo, (.val 0), (.val 0)⟩]⟩,
  ⟨"TB_STEP_CNT", 0x80050, [], false, .blk, .tb, none,
    [⟨0, 16, .rc, (.val 0), (.val 0)⟩,
     ⟨16, 16, .rc, (.val 0), (.val 0)⟩]⟩,
  ⟨"TB_VERIFY_MASK", 0x80054, [], false, .blk, .tb, none,
    [⟨0, 24, .rw, (.val 0), (.val 0xffffff)⟩]⟩,
  ⟨"TB_PM_FREQ_FF", 0x80060, [], true, .blk, .tb, none,
    [⟨0, 64, .ro, (.val 0), .live⟩]⟩,
  ⟨"TB_PM_DRIFT_FF", 0x80068, [], true, .blk, .tb, none,
    [⟨0, 64, .rw, (.val 0), (.val 0)⟩]⟩,
  ⟨"TB_PM_AGE_FF", 0x80070, [], true, .blk, .tb, none,
    [⟨0, 64, .rw, (.val 0), (.val 0)⟩]⟩]

/-- Register descriptors of the TB block, part 2. -/
def regsTb2 : List RegDesc := [
  ⟨"TB_PM_TEMPCO_FF", 0x80078, [], true, .blk, .tb, none,
    [⟨0, 64, .rw, (.val 0), (.val 0)⟩]⟩,
  ⟨"TB_PM_ORIGIN_SEC", 0x80080, [], true, .blk, .tb, none,
    [⟨0, 64, .rw, (.val 0), (.val 0)⟩]⟩,
  ⟨"TB_PM_AGE_TAU", 0x80088, [], false, .blk, .tb, none,
    [⟨0, 32, .rw, (.val 0x15180), (.val 0x15180)⟩]⟩,
  ⟨"TB_PM_TEMP_CFG", 0x8008C, [], false, .blk, .tb, none,
    [⟨0, 16, .rw, (.val 0x1900), (.val 0x1900)⟩,
     ⟨16, 4, .rw, (.val 0), (.val 0)⟩,
     ⟨20, 1, .rw, (.val 0), (.val 0)⟩]⟩,
  ⟨"TB_PM_TEMP_EXT", 0x80090, [], false, .blk, .tb, none,
    [⟨0, 16, .rw, (.val 0), (.val 0)⟩]⟩,
  ⟨"TB_PM_TEMP", 0x80094, [], false, .blk, .tb, none,
    [⟨0, 16, .ro, .live, .live⟩,
     ⟨16, 1, .ro, (.val 0), .live⟩]⟩,
  ⟨"TB_OWNER", 0x80098, [], false, .blk, .tb, none,
    [⟨0, 2, .ro, (.val 0), .live⟩,
     ⟨2, 5, .ro, (.val 0), .live⟩]⟩,
  ⟨"TB_UTC_OFS", 0x800A0, [], false, .blk, .tb, none,
    [⟨0, 16, .rw, (.val 0), (.val 0x25)⟩]⟩,
  ⟨"TB_LEAP_CFG", 0x800A4, [], false, .blk, .tb, none,
    [⟨0, 1, .rw, (.val 0), (.val 0)⟩,
     ⟨1, 1, .rw, (.val 0), (.val 0)⟩]⟩,
  ⟨"TB_LEAP_TAI", 0x800A8, [], true, .blk, .tb, none,
    [⟨0, 64, .rw, (.val 0), (.val 0)⟩]⟩]

/-- Register descriptors of the TB block, part 3. -/
def regsTb3 : List RegDesc := [
  ⟨"TB_LEAP_WARN_NTP", 0x800B0, [], false, .blk, .tb, none,
    [⟨0, 32, .rw, (.val 0x15180), (.val 0x15180)⟩]⟩,
  ⟨"TB_LEAP_WARN_PTP", 0x800B4, [], false, .blk, .tb, none,
    [⟨0, 32, .rw, (.val 0xa8c0), (.val 0xa8c0)⟩]⟩,
  ⟨"TB_NTP_ERA", 0x800C0, [], false, .blk, .tb, none,
    [⟨0, 32, .ro, .live, .live⟩]⟩,
  ⟨"TB_NTP_SEC", 0x800C4, [], false, .blk, .tb, none,
    [⟨0, 32, .ro, .live, .live⟩]⟩,
  ⟨"TB_NTP_FRAC", 0x800C8, [], false, .blk, .tb, none,
    [⟨0, 32, .ro, .live, .live⟩]⟩,
  ⟨"TB_UTC_STATE", 0x800CC, [], false, .blk, .tb, none,
    [⟨0, 2, .ro, (.val 0), .live⟩,
     ⟨2, 1, .ro, (.val 0), .live⟩,
     ⟨3, 1, .ro, (.val 0), .live⟩,
     ⟨4, 1, .ro, (.val 0), .live⟩]⟩,
  ⟨"TB_REP_STATUS", 0x80100, [(0x4, 24)], false, .inst, .tb, some .replica,
    [⟨0, 2, .ro, (.val 0), .live⟩,
     ⟨2, 1, .ro, (.val 0), .live⟩,
     ⟨8, 8, .rc, (.val 0), (.val 0)⟩]⟩,
  ⟨"TB_REP_ERR", 0x80180, [(0x4, 24)], false, .inst, .tb, some .replica,
    [⟨0, 32, .ro, (.val 0), .live⟩]⟩]

/-- Every register of the TB block. -/
def regsTb : List RegDesc := regsTb0 ++ regsTb1 ++ regsTb2 ++ regsTb3

/-- TB_CFG, BLK domain. -/
def TB_CFG.ofs : Nat := 0x80000
@[inherit_doc TB_CFG.ofs] def TB_CFG.HOST_VERIFY_EN : Fld := ⟨TB_CFG.ofs, 0, 1⟩
@[inherit_doc TB_CFG.ofs] def TB_CFG.AGEING_EN : Fld := ⟨TB_CFG.ofs, 1, 1⟩
@[inherit_doc TB_CFG.ofs] def TB_CFG.DRIFT_EN : Fld := ⟨TB_CFG.ofs, 2, 1⟩
@[inherit_doc TB_CFG.ofs] def TB_CFG.TEMP_EN : Fld := ⟨TB_CFG.ofs, 3, 1⟩
@[inherit_doc TB_CFG.ofs] def TB_CFG.PREAUTH_AT_START : Fld := ⟨TB_CFG.ofs, 4, 1⟩
/-- TB_CTRL, BLK domain. -/
def TB_CTRL.ofs : Nat := 0x80004
@[inherit_doc TB_CTRL.ofs] def TB_CTRL.SET_GO : Fld := ⟨TB_CTRL.ofs, 0, 1⟩
@[inherit_doc TB_CTRL.ofs] def TB_CTRL.DECLARE_VERIFIED : Fld := ⟨TB_CTRL.ofs, 1, 1⟩
@[inherit_doc TB_CTRL.ofs] def TB_CTRL.PREAUTH_ARM : Fld := ⟨TB_CTRL.ofs, 2, 1⟩
@[inherit_doc TB_CTRL.ofs] def TB_CTRL.PREAUTH_CANCEL : Fld := ⟨TB_CTRL.ofs, 3, 1⟩
@[inherit_doc TB_CTRL.ofs] def TB_CTRL.WITHDRAW_VERIFIED : Fld := ⟨TB_CTRL.ofs, 4, 1⟩
/-- TB_STATUS, BLK domain. -/
def TB_STATUS.ofs : Nat := 0x80008
@[inherit_doc TB_STATUS.ofs] def TB_STATUS.READY : Fld := ⟨TB_STATUS.ofs, 0, 1⟩
@[inherit_doc TB_STATUS.ofs] def TB_STATUS.VERIFIED : Fld := ⟨TB_STATUS.ofs, 1, 1⟩
@[inherit_doc TB_STATUS.ofs] def TB_STATUS.STEP_PENDING : Fld := ⟨TB_STATUS.ofs, 2, 1⟩
@[inherit_doc TB_STATUS.ofs] def TB_STATUS.PREAUTH : Fld := ⟨TB_STATUS.ofs, 3, 1⟩
@[inherit_doc TB_STATUS.ofs] def TB_STATUS.SLEWING : Fld := ⟨TB_STATUS.ofs, 4, 1⟩
@[inherit_doc TB_STATUS.ofs] def TB_STATUS.FREE_MEAS : Fld := ⟨TB_STATUS.ofs, 5, 1⟩
@[inherit_doc TB_STATUS.ofs] def TB_STATUS.PIVOT_FAULT : Fld := ⟨TB_STATUS.ofs, 6, 1⟩
@[inherit_doc TB_STATUS.ofs] def TB_STATUS.VERIFY_DISAGREE : Fld := ⟨TB_STATUS.ofs, 7, 1⟩
@[inherit_doc TB_STATUS.ofs] def TB_STATUS.TIME_SRC : Fld := ⟨TB_STATUS.ofs, 8, 2⟩
/-- TB_FLAGS, BLK domain. -/
def TB_FLAGS.ofs : Nat := 0x8000C
@[inherit_doc TB_FLAGS.ofs] def TB_FLAGS.STEP_REFUSED : Fld := ⟨TB_FLAGS.ofs, 0, 1⟩
@[inherit_doc TB_FLAGS.ofs] def TB_FLAGS.STEP_APPLIED : Fld := ⟨TB_FLAGS.ofs, 1, 1⟩
@[inherit_doc TB_FLAGS.ofs] def TB_FLAGS.HOST_SET : Fld := ⟨TB_FLAGS.ofs, 2, 1⟩
@[inherit_doc TB_FLAGS.ofs] def TB_FLAGS.VERIFIED_LOST : Fld := ⟨TB_FLAGS.ofs, 3, 1⟩
@[inherit_doc TB_FLAGS.ofs] def TB_FLAGS.AUTH_MISMATCH : Fld := ⟨TB_FLAGS.ofs, 4, 1⟩
@[inherit_doc TB_FLAGS.ofs] def TB_FLAGS.SAT : Fld := ⟨TB_FLAGS.ofs, 5, 1⟩
@[inherit_doc TB_FLAGS.ofs] def TB_FLAGS.REPLICA_ALARM : Fld := ⟨TB_FLAGS.ofs, 6, 1⟩
@[inherit_doc TB_FLAGS.ofs] def TB_FLAGS.LEAP_DONE : Fld := ⟨TB_FLAGS.ofs, 7, 1⟩
@[inherit_doc TB_FLAGS.ofs] def TB_FLAGS.LEAP_BAD : Fld := ⟨TB_FLAGS.ofs, 8, 1⟩
@[inherit_doc TB_FLAGS.ofs] def TB_FLAGS.HOST_SET_BAD : Fld := ⟨TB_FLAGS.ofs, 9, 1⟩
/-- TB_TIME_SEC, BLK domain. -/
def TB_TIME_SEC.ofs : Nat := 0x80010
/-- TB_TIME_NS, BLK domain. -/
def TB_TIME_NS.ofs : Nat := 0x80018
@[inherit_doc TB_TIME_NS.ofs] def TB_TIME_NS.NS : Fld := ⟨TB_TIME_NS.ofs, 0, 32⟩
/-- TB_TIME_FRAC, BLK domain. -/
def TB_TIME_FRAC.ofs : Nat := 0x8001C
@[inherit_doc TB_TIME_FRAC.ofs] def TB_TIME_FRAC.FRAC : Fld := ⟨TB_TIME_FRAC.ofs, 0, 32⟩
/-- TB_SET_SEC, BLK domain. -/
def TB_SET_SEC.ofs : Nat := 0x80020
/-- TB_SET_NS, BLK domain. -/
def TB_SET_NS.ofs : Nat := 0x80028
@[inherit_doc TB_SET_NS.ofs] def TB_SET_NS.NS : Fld := ⟨TB_SET_NS.ofs, 0, 32⟩
/-- TB_SET_FRAC, BLK domain. -/
def TB_SET_FRAC.ofs : Nat := 0x8002C
@[inherit_doc TB_SET_FRAC.ofs] def TB_SET_FRAC.FRAC : Fld := ⟨TB_SET_FRAC.ofs, 0, 32⟩
/-- TB_JUMP_LIMIT_PH, BLK domain. -/
def TB_JUMP_LIMIT_PH.ofs : Nat := 0x80030
/-- TB_SLEW_LIM_FF, BLK domain. -/
def TB_SLEW_LIM_FF.ofs : Nat := 0x80038
/-- TB_PEND_PH, BLK domain. -/
def TB_PEND_PH.ofs : Nat := 0x80040
/-- TB_PEND_INFO, BLK domain. -/
def TB_PEND_INFO.ofs : Nat := 0x80048
@[inherit_doc TB_PEND_INFO.ofs] def TB_PEND_INFO.SEQ : Fld := ⟨TB_PEND_INFO.ofs, 0, 16⟩
@[inherit_doc TB_PEND_INFO.ofs] def TB_PEND_INFO.LOOP : Fld := ⟨TB_PEND_INFO.ofs, 16, 5⟩
@[inherit_doc TB_PEND_INFO.ofs] def TB_PEND_INFO.SRC : Fld := ⟨TB_PEND_INFO.ofs, 21, 1⟩
/-- TB_STEP_AUTH, BLK domain. -/
def TB_STEP_AUTH.ofs : Nat := 0x8004C
@[inherit_doc TB_STEP_AUTH.ofs] def TB_STEP_AUTH.SEQ : Fld := ⟨TB_STEP_AUTH.ofs, 0, 16⟩
@[inherit_doc TB_STEP_AUTH.ofs] def TB_STEP_AUTH.AUTH : Fld := ⟨TB_STEP_AUTH.ofs, 16, 1⟩
@[inherit_doc TB_STEP_AUTH.ofs] def TB_STEP_AUTH.REJECT : Fld := ⟨TB_STEP_AUTH.ofs, 17, 1⟩
/-- TB_STEP_CNT, BLK domain. -/
def TB_STEP_CNT.ofs : Nat := 0x80050
@[inherit_doc TB_STEP_CNT.ofs] def TB_STEP_CNT.APPLIED : Fld := ⟨TB_STEP_CNT.ofs, 0, 16⟩
@[inherit_doc TB_STEP_CNT.ofs] def TB_STEP_CNT.REFUSED : Fld := ⟨TB_STEP_CNT.ofs, 16, 16⟩
/-- TB_VERIFY_MASK, BLK domain. -/
def TB_VERIFY_MASK.ofs : Nat := 0x80054
@[inherit_doc TB_VERIFY_MASK.ofs] def TB_VERIFY_MASK.LOOPS : Fld := ⟨TB_VERIFY_MASK.ofs, 0, 24⟩
/-- TB_PM_FREQ_FF, BLK domain. -/
def TB_PM_FREQ_FF.ofs : Nat := 0x80060
/-- TB_PM_DRIFT_FF, BLK domain. -/
def TB_PM_DRIFT_FF.ofs : Nat := 0x80068
/-- TB_PM_AGE_FF, BLK domain. -/
def TB_PM_AGE_FF.ofs : Nat := 0x80070
/-- TB_PM_TEMPCO_FF, BLK domain. -/
def TB_PM_TEMPCO_FF.ofs : Nat := 0x80078
/-- TB_PM_ORIGIN_SEC, BLK domain. -/
def TB_PM_ORIGIN_SEC.ofs : Nat := 0x80080
/-- TB_PM_AGE_TAU, BLK domain. -/
def TB_PM_AGE_TAU.ofs : Nat := 0x80088
@[inherit_doc TB_PM_AGE_TAU.ofs] def TB_PM_AGE_TAU.TAU : Fld := ⟨TB_PM_AGE_TAU.ofs, 0, 32⟩
/-- TB_PM_TEMP_CFG, BLK domain. -/
def TB_PM_TEMP_CFG.ofs : Nat := 0x8008C
@[inherit_doc TB_PM_TEMP_CFG.ofs] def TB_PM_TEMP_CFG.TREF : Fld := ⟨TB_PM_TEMP_CFG.ofs, 0, 16⟩
@[inherit_doc TB_PM_TEMP_CFG.ofs] def TB_PM_TEMP_CFG.TSRC : Fld := ⟨TB_PM_TEMP_CFG.ofs, 16, 4⟩
@[inherit_doc TB_PM_TEMP_CFG.ofs] def TB_PM_TEMP_CFG.TEXT : Fld := ⟨TB_PM_TEMP_CFG.ofs, 20, 1⟩
/-- TB_PM_TEMP_EXT, BLK domain. -/
def TB_PM_TEMP_EXT.ofs : Nat := 0x80090
@[inherit_doc TB_PM_TEMP_EXT.ofs] def TB_PM_TEMP_EXT.TEMP : Fld := ⟨TB_PM_TEMP_EXT.ofs, 0, 16⟩
/-- TB_PM_TEMP, BLK domain. -/
def TB_PM_TEMP.ofs : Nat := 0x80094
@[inherit_doc TB_PM_TEMP.ofs] def TB_PM_TEMP.THETA : Fld := ⟨TB_PM_TEMP.ofs, 0, 16⟩
@[inherit_doc TB_PM_TEMP.ofs] def TB_PM_TEMP.TEMP_STALE : Fld := ⟨TB_PM_TEMP.ofs, 16, 1⟩
/-- TB_OWNER, BLK domain. -/
def TB_OWNER.ofs : Nat := 0x80098
@[inherit_doc TB_OWNER.ofs] def TB_OWNER.KIND : Fld := ⟨TB_OWNER.ofs, 0, 2⟩
@[inherit_doc TB_OWNER.ofs] def TB_OWNER.LOOP : Fld := ⟨TB_OWNER.ofs, 2, 5⟩
/-- TB_UTC_OFS, BLK domain. -/
def TB_UTC_OFS.ofs : Nat := 0x800A0
@[inherit_doc TB_UTC_OFS.ofs] def TB_UTC_OFS.OFS : Fld := ⟨TB_UTC_OFS.ofs, 0, 16⟩
/-- TB_LEAP_CFG, BLK domain. -/
def TB_LEAP_CFG.ofs : Nat := 0x800A4
@[inherit_doc TB_LEAP_CFG.ofs] def TB_LEAP_CFG.ARM : Fld := ⟨TB_LEAP_CFG.ofs, 0, 1⟩
@[inherit_doc TB_LEAP_CFG.ofs] def TB_LEAP_CFG.DIR : Fld := ⟨TB_LEAP_CFG.ofs, 1, 1⟩
/-- TB_LEAP_TAI, BLK domain. -/
def TB_LEAP_TAI.ofs : Nat := 0x800A8
/-- TB_LEAP_WARN_NTP, BLK domain. -/
def TB_LEAP_WARN_NTP.ofs : Nat := 0x800B0
@[inherit_doc TB_LEAP_WARN_NTP.ofs] def TB_LEAP_WARN_NTP.WINDOW : Fld := ⟨TB_LEAP_WARN_NTP.ofs, 0, 32⟩
/-- TB_LEAP_WARN_PTP, BLK domain. -/
def TB_LEAP_WARN_PTP.ofs : Nat := 0x800B4
@[inherit_doc TB_LEAP_WARN_PTP.ofs] def TB_LEAP_WARN_PTP.WINDOW : Fld := ⟨TB_LEAP_WARN_PTP.ofs, 0, 32⟩
/-- TB_NTP_ERA, BLK domain. -/
def TB_NTP_ERA.ofs : Nat := 0x800C0
@[inherit_doc TB_NTP_ERA.ofs] def TB_NTP_ERA.ERA : Fld := ⟨TB_NTP_ERA.ofs, 0, 32⟩
/-- TB_NTP_SEC, BLK domain. -/
def TB_NTP_SEC.ofs : Nat := 0x800C4
@[inherit_doc TB_NTP_SEC.ofs] def TB_NTP_SEC.SEC : Fld := ⟨TB_NTP_SEC.ofs, 0, 32⟩
/-- TB_NTP_FRAC, BLK domain. -/
def TB_NTP_FRAC.ofs : Nat := 0x800C8
@[inherit_doc TB_NTP_FRAC.ofs] def TB_NTP_FRAC.FRAC : Fld := ⟨TB_NTP_FRAC.ofs, 0, 32⟩
/-- TB_UTC_STATE, BLK domain. -/
def TB_UTC_STATE.ofs : Nat := 0x800CC
@[inherit_doc TB_UTC_STATE.ofs] def TB_UTC_STATE.LI : Fld := ⟨TB_UTC_STATE.ofs, 0, 2⟩
@[inherit_doc TB_UTC_STATE.ofs] def TB_UTC_STATE.LEAP61 : Fld := ⟨TB_UTC_STATE.ofs, 2, 1⟩
@[inherit_doc TB_UTC_STATE.ofs] def TB_UTC_STATE.LEAP59 : Fld := ⟨TB_UTC_STATE.ofs, 3, 1⟩
@[inherit_doc TB_UTC_STATE.ofs] def TB_UTC_STATE.IN_LEAP : Fld := ⟨TB_UTC_STATE.ofs, 4, 1⟩
/-- TB_REP_STATUS, INST domain. -/
def TB_REP_STATUS.ofs (k : Nat) : Nat := 0x80100 + k * 0x4
@[inherit_doc TB_REP_STATUS.ofs] def TB_REP_STATUS.STATE (k : Nat) : Fld := ⟨TB_REP_STATUS.ofs k, 0, 2⟩
@[inherit_doc TB_REP_STATUS.ofs] def TB_REP_STATUS.LOCKED (k : Nat) : Fld := ⟨TB_REP_STATUS.ofs k, 2, 1⟩
@[inherit_doc TB_REP_STATUS.ofs] def TB_REP_STATUS.ALARM_CNT (k : Nat) : Fld := ⟨TB_REP_STATUS.ofs k, 8, 8⟩
/-- TB_REP_ERR, INST domain. -/
def TB_REP_ERR.ofs (k : Nat) : Nat := 0x80180 + k * 0x4
@[inherit_doc TB_REP_ERR.ofs] def TB_REP_ERR.ERR (k : Nat) : Fld := ⟨TB_REP_ERR.ofs k, 0, 32⟩

end Sys2Proof.Machine
end

