-- ==== Sys2Proof/Machine/RegMapVit.lean ====
section
/-! DEFINITION. The register map of the VIT block, from the register tables of 20_vitrine_and_interrupts.md.
One descriptor per register entry (offset, reset domain, fields with access code and the two defaults of R19) and one
named offset `NAME.ofs` and one named field `NAME.FIELD` per entry of the tables. -/

namespace Sys2Proof.Machine

/-- Register descriptors of the VIT block, part 0. -/
def regsVit0 : List RegDesc := [
  ⟨"VIT_CFG", 0x40000, [], false, .blk, .vit, none,
    [⟨0, 1, .rw, (.val 0), (.val 1)⟩,
     ⟨1, 1, .rw, (.val 0), (.val 0)⟩,
     ⟨2, 5, .rw, (.val 0), (.val 0)⟩,
     ⟨7, 2, .rw, (.val 1), (.val 1)⟩,
     ⟨9, 1, .rw, (.val 0), (.val 1)⟩,
     ⟨10, 1, .rw, (.val 0), (.val 0)⟩]⟩,
  ⟨"VIT_CTRL", 0x40004, [], false, .blk, .vit, none,
    [⟨0, 1, .wo, (.val 0), (.val 0)⟩,
     ⟨1, 1, .wo, (.val 0), (.val 0)⟩,
     ⟨2, 1, .wo, (.val 0), (.val 0)⟩,
     ⟨3, 1, .wo, (.val 0), (.val 0)⟩]⟩,
  ⟨"VIT_STATUS", 0x40008, [], false, .blk, .vit, none,
    [⟨0, 1, .ro, (.val 0), .live⟩,
     ⟨1, 1, .ro, (.val 0), .live⟩,
     ⟨2, 4, .ro, (.val 0), .live⟩,
     ⟨6, 1, .ro, (.val 0), .live⟩]⟩,
  ⟨"VIT_FLAGS", 0x4000C, [], false, .blk, .vit, none,
    [⟨0, 1, .w1c, (.val 0), (.val 0)⟩,
     ⟨1, 1, .w1c, (.val 0), (.val 0)⟩,
     ⟨2, 1, .w1c, (.val 0), (.val 0)⟩,
     ⟨3, 1, .w1c, (.val 0), (.val 0)⟩,
     ⟨4, 1, .w1c, (.val 0), (.val 0)⟩]⟩,
  ⟨"VIT_SEQ", 0x40010, [], false, .blk, .vit, none,
    [⟨0, 32, .ro, (.val 0), .live⟩]⟩,
  ⟨"VIT_CNT", 0x40014, [], false, .blk, .vit, none,
    [⟨0, 16, .rc, (.val 0), (.val 0)⟩,
     ⟨16, 16, .rc, (.val 0), (.val 0)⟩]⟩,
  ⟨"VIT_TOD_SEC", 0x40018, [], true, .blk, .vit, none,
    [⟨0, 64, .rw, (.val 0), (.val 0)⟩]⟩,
  ⟨"VIT_TOD_NS", 0x40020, [], false, .blk, .vit, none,
    [⟨0, 32, .rw, (.val 0), (.val 0)⟩]⟩,
  ⟨"VIT_TIME_SEC", 0x40028, [], true, .blk, .vit, none,
    [⟨0, 64, .ro, (.val 0), .live⟩]⟩,
  ⟨"VIT_TIME_NS", 0x40030, [], false, .blk, .vit, none,
    [⟨0, 32, .ro, (.val 0), .live⟩]⟩]

/-- Register descriptors of the VIT block, part 1. -/
def regsVit1 : List RegDesc := [
  ⟨"VIT_TIME_FRAC", 0x40034, [], false, .blk, .vit, none,
    [⟨0, 32, .ro, (.val 0), .live⟩]⟩]

/-- Every register of the VIT block. -/
def regsVit : List RegDesc := regsVit0 ++ regsVit1

/-- VIT_CFG, BLK domain. -/
def VIT_CFG.ofs : Nat := 0x40000
@[inherit_doc VIT_CFG.ofs] def VIT_CFG.LOCK : Fld := ⟨VIT_CFG.ofs, 0, 1⟩
@[inherit_doc VIT_CFG.ofs] def VIT_CFG.PIN_EN : Fld := ⟨VIT_CFG.ofs, 1, 1⟩
@[inherit_doc VIT_CFG.ofs] def VIT_CFG.PIN : Fld := ⟨VIT_CFG.ofs, 2, 5⟩
@[inherit_doc VIT_CFG.ofs] def VIT_CFG.PIN_EDGE : Fld := ⟨VIT_CFG.ofs, 7, 2⟩
@[inherit_doc VIT_CFG.ofs] def VIT_CFG.TTO_EN : Fld := ⟨VIT_CFG.ofs, 9, 1⟩
@[inherit_doc VIT_CFG.ofs] def VIT_CFG.VIEW : Fld := ⟨VIT_CFG.ofs, 10, 1⟩
/-- VIT_CTRL, BLK domain. -/
def VIT_CTRL.ofs : Nat := 0x40004
@[inherit_doc VIT_CTRL.ofs] def VIT_CTRL.TRIG : Fld := ⟨VIT_CTRL.ofs, 0, 1⟩
@[inherit_doc VIT_CTRL.ofs] def VIT_CTRL.RELEASE : Fld := ⟨VIT_CTRL.ofs, 1, 1⟩
@[inherit_doc VIT_CTRL.ofs] def VIT_CTRL.ARM_TOD : Fld := ⟨VIT_CTRL.ofs, 2, 1⟩
@[inherit_doc VIT_CTRL.ofs] def VIT_CTRL.DISARM_TOD : Fld := ⟨VIT_CTRL.ofs, 3, 1⟩
/-- VIT_STATUS, BLK domain. -/
def VIT_STATUS.ofs : Nat := 0x40008
@[inherit_doc VIT_STATUS.ofs] def VIT_STATUS.HELD : Fld := ⟨VIT_STATUS.ofs, 0, 1⟩
@[inherit_doc VIT_STATUS.ofs] def VIT_STATUS.TOD_ARMED : Fld := ⟨VIT_STATUS.ofs, 1, 1⟩
@[inherit_doc VIT_STATUS.ofs] def VIT_STATUS.SRC : Fld := ⟨VIT_STATUS.ofs, 2, 4⟩
@[inherit_doc VIT_STATUS.ofs] def VIT_STATUS.READY : Fld := ⟨VIT_STATUS.ofs, 6, 1⟩
/-- VIT_FLAGS, BLK domain. -/
def VIT_FLAGS.ofs : Nat := 0x4000C
@[inherit_doc VIT_FLAGS.ofs] def VIT_FLAGS.TAKEN : Fld := ⟨VIT_FLAGS.ofs, 0, 1⟩
@[inherit_doc VIT_FLAGS.ofs] def VIT_FLAGS.MISSED : Fld := ⟨VIT_FLAGS.ofs, 1, 1⟩
@[inherit_doc VIT_FLAGS.ofs] def VIT_FLAGS.ARM_REFUSED : Fld := ⟨VIT_FLAGS.ofs, 2, 1⟩
@[inherit_doc VIT_FLAGS.ofs] def VIT_FLAGS.CFG_BAD : Fld := ⟨VIT_FLAGS.ofs, 3, 1⟩
@[inherit_doc VIT_FLAGS.ofs] def VIT_FLAGS.TOD_STEPPED : Fld := ⟨VIT_FLAGS.ofs, 4, 1⟩
/-- VIT_SEQ, BLK domain. -/
def VIT_SEQ.ofs : Nat := 0x40010
@[inherit_doc VIT_SEQ.ofs] def VIT_SEQ.SEQ : Fld := ⟨VIT_SEQ.ofs, 0, 32⟩
/-- VIT_CNT, BLK domain. -/
def VIT_CNT.ofs : Nat := 0x40014
@[inherit_doc VIT_CNT.ofs] def VIT_CNT.TAKEN : Fld := ⟨VIT_CNT.ofs, 0, 16⟩
@[inherit_doc VIT_CNT.ofs] def VIT_CNT.MISSED : Fld := ⟨VIT_CNT.ofs, 16, 16⟩
/-- VIT_TOD_SEC, BLK domain. -/
def VIT_TOD_SEC.ofs : Nat := 0x40018
/-- VIT_TOD_NS, BLK domain. -/
def VIT_TOD_NS.ofs : Nat := 0x40020
@[inherit_doc VIT_TOD_NS.ofs] def VIT_TOD_NS.NS : Fld := ⟨VIT_TOD_NS.ofs, 0, 32⟩
/-- VIT_TIME_SEC, BLK domain. -/
def VIT_TIME_SEC.ofs : Nat := 0x40028
/-- VIT_TIME_NS, BLK domain. -/
def VIT_TIME_NS.ofs : Nat := 0x40030
@[inherit_doc VIT_TIME_NS.ofs] def VIT_TIME_NS.NS : Fld := ⟨VIT_TIME_NS.ofs, 0, 32⟩
/-- VIT_TIME_FRAC, BLK domain. -/
def VIT_TIME_FRAC.ofs : Nat := 0x40034
@[inherit_doc VIT_TIME_FRAC.ofs] def VIT_TIME_FRAC.FRAC : Fld := ⟨VIT_TIME_FRAC.ofs, 0, 32⟩

end Sys2Proof.Machine
end

