-- ==== Sys2Proof/Machine/RegTable.lean ====
section
/-! DEFINITION. Finding the register that a BAR0 offset names (R383 and the register maps), and the values that R17 and R19
give a register at reset. -/

namespace Sys2Proof.Machine

/-- The registers of the block whose BAR0 range holds an offset (R383). -/
def regsAt (ofs : Nat) : List RegDesc :=
  match ofs / 0x10000 with
  | 0x00 => regsGlb
  | 0x01 => regsCat
  | 0x02 => regsCdc
  | 0x03 => if ofs < 0x38000 then regsIrq else regsMsix
  | 0x04 => regsVit
  | 0x05 => regsCon
  | 0x08 => regsTb
  | 0x09 => regsRgs
  | 0x0A => regsLoop
  | 0x0B => regsEns
  | 0x0C => regsOut
  | 0x10 | 0x11 | 0x12 | 0x13 | 0x14 | 0x15 | 0x16 | 0x17 | 0x18 => regsEvt
  | 0x20 => regsGnss
  | 0x30 | 0x31 | 0x32 | 0x33 | 0x34 | 0x35 | 0x36 | 0x37 => regsMac
  | 0x40 | 0x41 | 0x42 | 0x43 | 0x44 => regsAns
  | 0x48 => regsNts
  | 0x50 => regsPtp
  | 0x58 => regsBne
  | 0x60 => regsProv
  | 0x68 => regsLnk
  | 0x70 => regsPair
  | 0x78 => regsHif
  | _ => []

/-- The instance indices of a displacement from a replicated entry's base, widest stride first, with what is left over. -/
def splitDims : List (Nat × Nat) → Nat → Option (List Nat × Nat)
  | [], r => some ([], r)
  | (stride, count) :: ds, r =>
    if r / stride < count then
      match splitDims ds (r % stride) with
      | some (is, r') => some (r / stride :: is, r')
      | none => none
    else none

/-- What a BAR0 offset names: the register entry, the instance indices, and whether it is the high half of a pair (R11). -/
structure RegHit where
  desc : RegDesc
  idx : List Nat
  hi : Bool
deriving DecidableEq, Repr

/-- Whether an offset falls on a register entry, and where. -/
def RegDesc.hit (d : RegDesc) (ofs : Nat) : Option RegHit :=
  if ofs < d.base then none
  else
    match splitDims d.dims (ofs - d.base) with
    | some (is, r) => if r = 0 then some ⟨d, is, false⟩ else if d.pair && r = 4 then some ⟨d, is, true⟩ else none
    | none => none

/-- The first register of a list that an offset falls on. -/
def findIn : List RegDesc → Nat → Option RegHit
  | [], _ => none
  | d :: ds, ofs =>
    match d.hit ofs with
    | some h => some h
    | none => findIn ds ofs

/-- The register that a BAR0 offset names; none at an unmapped offset (R16). -/
def regFind (ofs : Nat) : Option RegHit := findIn (regsAt ofs) ofs

/-- The instance number of a hit: the channel number of an event channel (R24), the first index of any other entry. -/
def RegHit.inst (h : RegHit) : Nat :=
  match h.desc.kind, h.idx with
  | some .channel, b :: m :: _ => 16 * b + m
  | _, i :: _ => i
  | _, [] => 0

/-- One override that an image gives a register: offset, mask and value (R335). -/
structure ImgRec where
  ofs : Nat
  mask : Word
  value : Word
deriving DecidableEq, Repr

/-- The image's records applied in their order to the register at an offset (R335); the last one that sets a bit wins. -/
def overlay : List ImgRec → Nat → Word → Word
  | [], _, v => v
  | r :: rs, ofs, v => overlay rs ofs (if r.ofs = ofs then (v &&& ~~~r.mask) ||| (r.value &&& r.mask) else v)

/-- The value of a field inside a word. -/
def fieldOf (v : Word) (lo w : Nat) : Nat := (v.toNat >>> lo) % 2 ^ w

/-- A word with one field replaced. -/
def fieldSet (v : Word) (lo w x : Nat) : Word :=
  (v &&& ~~~(BitVec.ofNat 32 (2 ^ w - 1) <<< lo)) ||| (BitVec.ofNat 32 (x % 2 ^ w) <<< lo)

/-- TYPE of a slot under an image (R92, R333): 0 for a slot that no record binds. -/
def imgSlotType (img : List ImgRec) (n : Nat) : Nat := fieldOf (overlay img (RGS_SLOT_BIND.ofs n) 0) 0 4

/-- The slots an image binds to a loop, lowest number first (R92). -/
def imgSlotsOf (img : List ImgRec) (k : Nat) : List Nat :=
  (List.range 64).filter fun n => fieldOf (overlay img (RGS_SLOT_LOOPS.ofs n) 0) k 1 = 1

/-- HOLDOFF in 10 ms units, ALIGN_TIME in 100 ms units and QUAL_TIME in s of a slot TYPE (R104); the hard values 0, 10 and
10 for a slot that is bound to nothing. -/
def slotTimerDefault (type lo : Nat) : Nat :=
  match type, lo with
  | 1, 0 => 200 | 2, 0 => 10 | 3, 0 => 50 | 4, 0 => 200 | 5, 0 => 200 | 6, 0 => 10
  | 1, 8 => 20 | 2, 8 => 10 | 3, 8 => 10 | 4, 8 => 40 | 5, 8 => 20 | 6, 8 => 5
  | 4, 16 => 60 | 5, 16 => 60
  | _, 0 => 0
  | _, _ => 10

/-- BW_CODE and ZETA (times 64) of a slot TYPE (R117). -/
def typeBwDefault (type lo : Nat) : Nat :=
  match type, lo with
  | 1, 0 => 60 | 2, 0 => 140 | 3, 0 => 120 | 4, 0 => 80 | 5, 0 => 60 | 6, 0 => 160
  | 2, 8 => 45 | 3, 8 => 45 | 6, 8 => 45
  | _, 8 => 64
  | _, _ => 0

/-- The factory EPOCH code for a slot TYPE (R117): 1 s, 1 ms, 10 ms, 1 s, 1 s, 250 µs. -/
def typeEpochDefault (type : Nat) : Nat :=
  match type with
  | 2 => 1 | 3 => 2 | 6 => 0 | _ => 4

/-- The factory classifier program of R204 as the words ANS_RULE_K0, K1, K2 and ACT of rule `r`; ACTION codes as R201. -/
def factoryRule (r : Nat) : Word × Word × Word × Word :=
  match r with
  | 0 => (0x00000007, 0xFFFF88F7, 0, 2)
  | 1 => (0x00000009, 0xFFFF013F, 0, 2)
  | 2 => (0x00000009, 0xFFFF0140, 0, 2)
  | 3 => (0x003FFFC9, 0xFFFF007B, 0x00004EFC, 4)
  | 4 => (0x003FFFC9, 0xFFFF007B, 0x00003EFC, 3)
  | 5 => (0x003FFFC9, 0xFFFF007B, 0x00001EF2, 3)
  | 6 => (0x003FFFC9, 0xFFFF007B, 0x00001EF9, 3)
  | 7 => (0x00000009, 0xFFFF007B, 0x00008EC0, 1)
  | 8 => (0x00000009, 0xFFFF007B, 0x00000FC0, 0)
  | 9 => (0x00000009, 0xFFFF007B, 0x00000E00, 0)
  | 10 => (0x00000009, 0xFFFF007B, 0, 0x9)
  | _ => (0, 0, 0, 0)

/-- A default that another rule gives (R104, R117, R204), for the field at bit `lo` of a register. -/
def ruleDefault (img : List ImgRec) (r : RuleDflt) (idx : List Nat) (lo w : Nat) : Nat :=
  match r, idx with
  | .slotTimer, n :: _ => slotTimerDefault (imgSlotType img n) lo
  | .typeBw, t :: _ => typeBwDefault (t + 1) lo
  | .loopCfg, k :: _ =>
    let role := fieldOf (overlay img (LOOP_INFO.ofs k) 0) 0 2
    if lo = 2 then bit (role == 3)
    else if role = 3 then 5
    else match imgSlotsOf img k with
      | n :: _ => typeEpochDefault (imgSlotType img n)
      | [] => 4
  | .rule0, _ :: r :: _ => fieldOf (factoryRule r).1 lo w
  | .rule1, _ :: r :: _ => fieldOf (factoryRule r).2.1 lo w
  | .rule2, _ :: r :: _ => fieldOf (factoryRule r).2.2.1 lo w
  | .ruleAct, _ :: r :: _ => fieldOf (factoryRule r).2.2.2 lo w
  | _, _ => 0

/-- One half of a Default entry as a number; a dash (R20) has none. -/
def Dflt.value (d : Dflt) (img : List ImgRec) (h : RegHit) (lo w : Nat) : Option Nat :=
  match d with
  | .val v => some v
  | .index => some h.inst
  | .byRule r => some (ruleDefault img r h.idx lo w)
  | .live => none

/-- The hard value of a field (R19); a dash reads 0 until the device has written the field. -/
def FieldDesc.hardVal (f : FieldDesc) (h : RegHit) : Nat := (f.hard.value [] h f.lo f.width).getD 0

/-- The value of a field after the factory image (R19); a dash keeps the hard value. -/
def FieldDesc.facVal (f : FieldDesc) (img : List ImgRec) (h : RegHit) : Nat :=
  (f.fac.value img h f.lo f.width).getD (f.hardVal h)

/-- The 32-bit half of a 64-bit entry value that a hit names (R11). -/
def halfOf (h : RegHit) (v : Nat) : Word := BitVec.ofNat 32 (if h.hi then v / 2 ^ 32 else v)

/-- A register's word made of its fields, each with the value a function gives it; reserved bits read 0 (R15). -/
def RegHit.assemble (h : RegHit) (value : FieldDesc → Nat) : Word :=
  halfOf h (h.desc.fields.foldl (fun a f => a ||| ((value f % 2 ^ f.width) <<< f.lo)) 0)

/-- The bits of a register's word whose field satisfies a test. -/
def RegHit.maskOf (h : RegHit) (test : FieldDesc → Bool) : Word :=
  h.assemble fun f => if test f then 2 ^ f.width - 1 else 0

/-- The hard value of the register at an offset (R17, R19); 0 where no register lies. -/
def hardValue (ofs : Nat) : Word :=
  match regFind ofs with
  | some h => h.assemble fun f => f.hardVal h
  | none => 0

/-- A field whose values are clamped: the base offset of its register entry, its place, whether it is signed, and the range. -/
structure ClampRow where
  base : Nat
  lo : Nat
  width : Nat
  signed : Bool
  least : Int
  most : Int
deriving DecidableEq, Repr

/-- A `_PH` field clamped to a number of nanoseconds on either side of zero. -/
def clampPh (base : Nat) (ns : Int) : ClampRow := ⟨base, 0, 64, true, -(ns * 65536), ns * 65536⟩

/-- The clamped fields of the timing blocks (R68, R70, R73, R113, R128, R147, R148 and the register maps); a bound of a `_FF` field is
the last step inside the range (assumption 22). -/
def clampsTiming : List ClampRow :=
  [⟨TB_JUMP_LIMIT_PH.ofs, 0, 64, true, 65536, 65536 * 10 ^ 9⟩, ⟨TB_SLEW_LIM_FF.ofs, 0, 64, true, 1152922, 11529215046068⟩,
   ⟨EVT_CFG.ofs, 0, 16, false, 1, 1000⟩, ⟨EVT_BK_SLOT.ofs 0, 0, 16, false, 250, 60000⟩,
   ⟨EVT_CH_THRESH.ofs 0, 0, 16, true, -1000, 2500⟩, ⟨EVT_CH_PAIR_WIN.ofs 0, 0, 30, false, 0, 10 ^ 9⟩,
   clampPh (EVT_CH_OFS_PH.ofs 0) (10 ^ 6), ⟨RGS_CFG.ofs, 16, 16, false, 10, 10000⟩,
   ⟨RGS_DISPUTE_LIM_FF.ofs, 0, 64, true, 1153, 1152921504606⟩,
   ⟨LOOP_SLEW_LIM_FF.ofs 0, 0, 64, true, 1152922, 11529215046068⟩,
   ⟨LOOP_FREQ_LIM_FF.ofs 0, 0, 64, true, 1152922, 115292150460684⟩,
   ⟨ENS_SLEW_LIM_FF.ofs, 0, 64, true, 1152922, 11529215046068⟩, clampPh (OUT_OFS_PH.ofs 0) (10 ^ 9),
   clampPh (GNSS_PORT_DLY_PH.ofs 0) (10 ^ 6), clampPh (GNSS_SOL_BIAS_PH.ofs 0 0) 1000]

/-- The clamped fields of the other blocks, from their register maps. -/
def clampsOther : List ClampRow :=
  [clampPh (EP_TX_EXT_PH.ofs 0) (10 ^ 6), clampPh (EP_RX_EXT_PH.ofs 0) (10 ^ 6), ⟨ANS_VB_CFG.ofs, 24, 8, false, 32, 128⟩,
   ⟨ANS_DELAY.ofs 0, 0, 16, false, 600, 3000⟩, ⟨ANS_DELAY.ofs 0, 16, 16, false, 900, 3000⟩,
   ⟨ANS_SLACK.ofs 0, 0, 16, false, 0, 1000⟩, ⟨NTS_ROT_PERIOD.ofs, 0, 32, false, 3600, 2592000⟩,
   ⟨PTP_GRANT_CFG.ofs, 0, 16, false, 10, 1000⟩, ⟨PTP_SLACK.ofs, 0, 16, false, 0, 10000⟩,
   clampPh (PTP_CLI_ASYM_PH.ofs 0) (10 ^ 6), ⟨PROV_CFG.ofs, 16, 16, false, 1, 3600⟩, clampPh (LK_TX_EXT_PH.ofs 0) 1000,
   clampPh (LK_RX_EXT_PH.ofs 0) 1000, ⟨LK_ASYM_FF.ofs 0, 0, 64, true, -11529215046068469, 11529215046068469⟩,
   ⟨PAIR_CFG.ofs, 16, 16, false, 10, 1000⟩, ⟨CON_CFG.ofs, 16, 16, false, 1, 3600⟩,
   ⟨CON_CKPT_DL.ofs, 0, 16, false, 10, 10000⟩, ⟨CON_SCRUB.ofs, 0, 16, false, 60, 65535⟩,
   ⟨HIF_Q_CFG.ofs 0, 1, 5, false, 6, 16⟩]

/-- The clamped fields of a register entry. -/
def RegDesc.clamps (d : RegDesc) : List ClampRow := (clampsTiming ++ clampsOther).filter fun c => c.base = d.base

/-- A field of an entry's value clamped. -/
def ClampRow.apply (v : Nat) (c : ClampRow) : Nat :=
  let x := v / 2 ^ c.lo % 2 ^ c.width
  let y := clampInt c.least c.most (if c.signed then signedOf c.width x else x)
  v - x * 2 ^ c.lo + patternOf c.width y * 2 ^ c.lo

/-- The value that an entry takes when a value is written to it, its clamped fields clamped. -/
def RegDesc.clampVal (d : RegDesc) (v : Nat) : Nat := d.clamps.foldl ClampRow.apply v

/-- The image value of one half of an entry before any clamp. -/
def imageHalf (img : List ImgRec) (h : RegHit) (ofs : Nat) : Word := overlay img ofs (h.assemble fun f => f.facVal img h)

/-- The image value of the register at an offset (R17, R19): the factory value with the loaded image's records over it, clamped as a
host write is. -/
def imageValue (img : List ImgRec) (ofs : Nat) : Word :=
  match regFind ofs with
  | some h =>
    if h.desc.clamps.isEmpty then imageHalf img h ofs
    else if h.desc.pair then
      let k := if h.hi then ofs - 4 else ofs
      let lo := imageHalf img { h with hi := false } k
      let hi := imageHalf img { h with hi := true } (k + 4)
      halfOf h (h.desc.clampVal (lo.toNat + 2 ^ 32 * hi.toNat))
    else BitVec.ofNat 32 (h.desc.clampVal (imageHalf img h ofs).toNat)
  | none => 0

end Sys2Proof.Machine
end

