-- ==== Sys2Proof/Machine/StateCore.lean ====
section
/-! DEFINITION. The parts of the state that every block shares: the register file, byte memories, the sequencer of resets and
start-up, and the record of what the device has sent out. -/

namespace Sys2Proof.Machine

/-- The latch of one 64-bit pair (R12): the offset of NAME_LO, the value, and whether a read of NAME_LO loaded it. -/
structure Latch where
  ofs : Nat
  value : Word
  byRead : Bool
deriving DecidableEq, Repr

/-- The register file. `vals` lists the registers that hold something other than their reset value, keyed by BAR0 offset in
rising order; an unlisted register reads its hard value, or its image value once an image is applied (R17, R19). `latch` and
`staged` are the latches of R12 and the staging registers of R13, keyed by the offset of NAME_LO. `img` is the loaded
image's set of values. -/
structure RegFile where
  vals : List (Nat × Word)
  latch : List Latch
  staged : List (Nat × Word)
  img : List ImgRec
  imgOn : Bool
deriving DecidableEq, Repr

/-- A byte memory: address and byte pairs, addresses strictly rising, no pair equal to what an unlisted address reads as. -/
abbrev Memory := List Host.Cell

/-- What the device sends to the outside: the model's own record of its outputs, newest first. -/
inductive Out where
  /-- An MSI-X message (R380): its vector, the table's address and data. -/
  | msix (vector : Nat) (addr : Nat) (data : Word)
  /-- An element written by DMA to the ring of an up queue (R384): queue, ring position, bytes. -/
  | element (queue position : Nat) (bytes : List Byte)
  /-- A write-back of HEAD (R385). -/
  | writeBack (queue head : Nat)
  /-- Bytes written to host memory (capture copy and big-number or mint results, R387). -/
  | hostBytes (addr : Nat) (bytes : List Byte)
  /-- A frame sent by an Ethernet port, from the destination address up to the FCS, which is not part of it. -/
  | frame (port : Nat) (bytes : List Byte)
  /-- A control frame sent on an Ehrea link (R307). -/
  | control (link : Nat) (bytes : List Byte)
  /-- A timing block sent on an Ehrea link (R297). -/
  | timing (link : Nat) (words : List Int)
  /-- A message of the pair protocol sent on the pair link: 0 a keying message (R317), 2 PROMOTE (R320), 3 an acknowledgement of
  an epoch (R324), 4 a rehearsal digest (R323). -/
  | pair (kind : Nat) (bytes : List Byte)
  /-- A heartbeat sent on the pair link (R318). -/
  | beat (b : PairBeat)
  /-- A copy epoch sent on the pair link (R324). -/
  | epoch (e : PairEpoch)
  /-- An edge of a trigger pin (R156): pin, level, and the instant of the edge in 2^-60 ns of device time. -/
  | trigger (pin : Nat) (level : Bool) (t : Int)
  /-- The level that a write gives a GPIO output pin (R155). -/
  | gpio (pin : Nat) (level : Bool)
  /-- A start-up phase sent on UART_TX (R397). -/
  | uartPhase (phase : Nat)
  /-- A CAT_BANK_STATUS result sent on UART_TX (R397). -/
  | uartBank (bank : Nat) (status : Word)
deriving DecidableEq, Repr

/-- Why a DEV or PWR reset took place, as GLB_RESET_CAUSE.CAUSE numbers it. -/
inductive ResetCause where
  | powerUp | porN | soft | watchdog | hostWatchdog | collection | pivotFault | d2dFault
deriving DecidableEq, Repr

/-- The code of a reset cause in GLB_RESET_CAUSE. -/
def ResetCause.code : ResetCause → Nat
  | .powerUp => 0 | .porN => 1 | .soft => 2 | .watchdog => 3 | .hostWatchdog => 4 | .collection => 5 | .pivotFault => 6
  | .d2dFault => 7

/-- The reset and start-up sequencer, the pins it reads, the one-time-programmable words, and what the last host read
returned. -/
structure SysState where
  /-- PFAIL_N is low (R368). -/
  pfailLow : Bool
  /-- PFAIL_N was low at the rising edge of POR_N and has not yet been high for 10 ms (R404). -/
  pfailHold : Bool
  /-- A pivot fault is in force (R32). -/
  pivotFault : Bool
  /-- The last DEV reset followed a pivot fault (R342). -/
  afterPivotFault : Bool
  /-- The warm-up count has started (R342). -/
  warming : Bool
  /-- The blocks held in a BLK reset, as the bits of GLB_BLK_RST (R395). -/
  blkHeld : Nat
  /-- The instance held in an INST reset, as BLOCK and INDEX of GLB_INST_RST (R395). -/
  instHeld : Option (Nat × Nat)
  /-- The programmed owner key (R336, CAT_OWNER_KEY). -/
  ownerKey : Option (List Byte)
  /-- Unsigned images are refused (CAT_OTP_CMD). -/
  sigReq : Bool
  /-- PCIe function held in reset by PERST_N (R410). -/
  perst : Bool
  /-- A die-to-die fault is in force (R351). -/
  d2dFault : Bool
  /-- ACTIVE_N as taken through its filter (R315). -/
  activeN : Bool
  /-- PARTNER_OK as taken through its filter (R315). -/
  partnerOk : Bool
  /-- The levels at the TRG pins (R155), as bits. -/
  pins : Nat
  /-- The strap code sampled at POR_N (R341). -/
  strap : Nat
  /-- The CORE clock is absent, as the AUX domain judges it (R353). -/
  coreAbsent : Bool
  /-- Failures in succession of the flit in front of the die-to-die interface (R350). -/
  flitFails : Nat
  /-- Entries written at a side in RESYNC, by crossing, which the handshake discards (R356). -/
  xsHeld : List (Nat × Nat)
  /-- Data that the last host read returned. -/
  rdata : Word
deriving DecidableEq, Repr

/-- The sequencer after a power-up with PFAIL_N high. -/
def SysState.reset : SysState :=
  { pfailLow := false, pfailHold := false, pivotFault := false, afterPivotFault := false, warming := false, blkHeld := 0,
    instHeld := none, ownerKey := none, sigReq := false, perst := false, d2dFault := false, activeN := true,
    partnerOk := true, pins := 0, strap := 0, coreAbsent := false, flitFails := 0,
    xsHeld := [], rdata := 0 }

end Sys2Proof.Machine
end

