-- ==== Sys2Proof/Machine/StateBne.lean ====
section
/-! DEFINITION. The state of the big-number engine that its registers do not hold (13_bignum_engine.md). -/

namespace Sys2Proof.Machine

/-- An internal request (R262): the ledger's signature (R287), or one of the pair block's three (R317). -/
inductive BneRequest where
  | ledger | pairKey | pairSign | pairSecret
deriving DecidableEq, Repr

/-- One slot: the descriptor of the job it holds, the pivot time of its dispatch, whether its validation has passed, and the
completion record that waits for the end of a zeroisation (R257). -/
structure BneSlot where
  desc : List Byte
  start : Nat
  valid : Bool
  ending : Option (List Byte)
deriving DecidableEq, Repr

/-- The engine: its slots, the queued slots in the order of their descriptors (R262), the internal requests that wait and the one
that runs with its core, and the cores, as bits, whose periodic or commanded pass waits and whose start-up pass runs. -/
structure BneState where
  slots : List BneSlot
  queue : List Nat
  waiting : List BneRequest
  running : Option (BneRequest × Nat)
  duePeriodic : Nat
  dueCommand : Nat
  starting : Nat
deriving DecidableEq, Repr

/-- A slot that holds no job. -/
def BneSlot.reset : BneSlot := { desc := [], start := 0, valid := false, ending := none }

/-- The engine after a reset. -/
def BneState.reset : BneState :=
  { slots := List.replicate 16 BneSlot.reset, queue := [], waiting := [], running := none, duePeriodic := 0, dueCommand := 0,
    starting := 0 }

end Sys2Proof.Machine
end

