-- ==== Sys2Proof/Machine/StateCat.lean ====
section
/-! DEFINITION. The state of the Catalogue interface that its registers do not hold (17_catalogue_and_startup.md). -/

namespace Sys2Proof.Machine

/-- The command that occupies the NV interface (R340): a read or an erase at an address, a program of a page, or the check of a
bank. -/
inductive CatOp where
  | read (a : Nat)
  | program (a : Nat) (page : List Byte)
  | erase (a : Nat)
  | check (bank : Nat)
deriving DecidableEq, Repr

/-- The Catalogue interface: the 256-byte page buffer, its current word (R340), and the running command. -/
structure CatState where
  page : List Byte
  word : Nat
  op : Option CatOp
deriving DecidableEq, Repr

/-- The Catalogue interface after a reset. -/
def CatState.reset : CatState := { page := List.replicate 256 0, word := 0, op := none }

end Sys2Proof.Machine
end

