-- ==== Sys2Proof/Machine/StateEth.lean ====
section
/-! DEFINITION. The state of the Ethernet ports, the answer pipelines and the NTS offload that their registers do not hold
(09_ethernet_ports.md, 10_answer_pipelines.md, 11_nts.md). Line times are replica times in units of 2^-60/25 ns, in which every
block period and byte time is a whole number. -/

namespace Sys2Proof.Machine

/-! ### Ports -/

/-- Who asked for a transmit-timestamp entry (R194): the host or a PTP instance, with the identifier. -/
inductive TsReq where
  | host (id : Nat)
  | ptp (inst id : Nat)
deriving DecidableEq, Repr

/-- A frame on its way out, from the destination address up to the FCS: its traffic class, its timestamp request, whether
R316 keeps it back while the unit does not send, and the PTP instance that sends it. -/
structure EthFrame where
  bytes : List Byte
  cls : Nat
  ts : Option TsReq
  gated : Bool
  inst : Option Nat
deriving DecidableEq, Repr

/-- Who holds a reservation (R184): a pipeline's request, a server instance's Sync, or a client instance's Delay_Req. -/
inductive ResvOwner where
  | ans (p id : Nat)
  | sync (i : Nat)
  | delayReq (i seq : Nat)
deriving DecidableEq, Repr

/-- One reservation (R184): t_d in line time, the frame length with FCS, the transmit delay in force at RESERVE in 2^-60 ns
(R181), whether its owner has cancelled it, whether the unit was sending at its RESERVE instant (R320), and the frame handed over for
it. -/
structure Resv where
  owner : ResvOwner
  td : Int
  len : Nat
  txd : Int
  dead : Bool
  sends : Bool
  frame : Option EthFrame
deriving DecidableEq, Repr

/-- One entry of a transmit-timestamp queue (R194, R195); the time is in 2^-60 ns. -/
structure TsEntry where
  req : TsReq
  dropped : Bool
  ovfBefore : Bool
  unlocked : Bool
  freeMeas : Bool
  time : Int
deriving DecidableEq, Repr

/-- A gate list (R188): its range of entries, its base time in 2^-60 ns, CYCLE and CYCLE_EXT in ns. -/
structure GateList where
  start : Nat
  len : Nat
  base : Int
  cycle : Nat
  ext : Nat
deriving DecidableEq, Repr

/-- One port: the line-free instant F (R184) and the instant until which a started frame holds the line, both in line time;
the reservations in order of t_d; the frames that wait unscheduled; the transmit-timestamp queue and whether an entry has been
lost since the last one stored; the operational list, whether it runs, and the pending list with its change time (R189); the
pivot instant, in 2^-12/25 ns, at which a pause ends (R193); whether the transmit clock follows device time, TX_FOLLOW as it stood at
the last model tick (R179). -/
structure MacPort where
  f : Int
  busy : Int
  resv : List Resv
  waiting : List EthFrame
  tsq : List TsEntry
  lost : Bool
  oper : Option GateList
  running : Bool
  admin : Option (GateList × Int)
  pauseEnd : Nat
  follow : Bool
deriving DecidableEq, Repr

/-- A port after a reset. -/
def MacPort.reset : MacPort :=
  { f := 0, busy := 0, resv := [], waiting := [], tsq := [], lost := false, oper := none, running := false, admin := none,
    pauseEnd := 0, follow := false }

/-! ### Answer pipelines -/

/-- The four words of a classifier rule. -/
structure RuleWords where
  k0 : Word
  k1 : Word
  k2 : Word
  act : Word
deriving DecidableEq, Repr

/-- How far the NTS work on a request has come (R231): not begun, phase 1 running, phase 1 complete with the S2C key and the
plaintext of the new cookie fields, or ended in a NAK. -/
inductive NtsWork where
  | waiting
  | running
  | ready (s2c plain : List Byte)
  | nak
deriving DecidableEq, Repr

/-- One request in flight (R205): its arrival number, port, frame, kind, ingress stamp in 2^-60 ns, target in line time and the
answer's length; after RESERVE its t_d, the NTP header, the provenance field if it carries one and whether the header is
unverified; and for an NTS request its unit and the unit's work. -/
structure AnsReq where
  id : Nat
  port : Nat
  bytes : List Byte
  nts : Bool
  kod : Bool
  tRx : Int
  target : Int
  lenTx : Nat
  td : Option Int
  header : List Byte
  prov : List Byte
  unver : Bool
  unit : Option Nat
  work : NtsWork
deriving DecidableEq, Repr

/-- One pipeline: the active rule bank, the rules of it that have set CFG_BAD since it became active (64 for the default
action), whether an exchange of banks waits for a frame boundary (R202), the committed local addresses (R203), the next arrival
number and the requests in flight. -/
structure AnsPipe where
  active : List RuleWords
  badHit : List Nat
  swap : Bool
  addrs : List (Option (Bool × List Byte))
  next : Nat
  reqs : List AnsReq
deriving DecidableEq, Repr

/-- The CTR_DRBG of an AES unit (R234): key, V, and how many requests and mint jobs the unit has begun since it was seeded. -/
structure Drbg where
  key : List Byte
  v : BitVec 128
  used : Nat
deriving DecidableEq, Repr

/-- The answer pipelines with the AES units' generators, and the visitor book: non-empty entries by number (bucket × 4 + way) and the
hash key (R214). -/
structure AnsState where
  pool : List Drbg
  pipes : List AnsPipe
  book : List (Nat × BitVec 64)
  key : List Byte
deriving DecidableEq, Repr

/-- A pipeline after a reset. -/
def AnsPipe.reset : AnsPipe :=
  { active := [], badHit := [], swap := false, addrs := List.replicate 16 none, next := 0, reqs := [] }

/-- A generator before its first seed. -/
def Drbg.reset : Drbg := { key := List.replicate 32 0, v := 0, used := 0 }

/-- The pipelines after a reset; the hash key is drawn at start-up, the seeds of the units at their reset. -/
def AnsState.reset : AnsState := { pool := List.replicate 16 Drbg.reset, pipes := List.replicate 4 AnsPipe.reset, book := [], key := List.replicate 16 0 }

/-! ### NTS -/

/-- A master key: its generation number and its 64 bytes (R223). -/
structure NtsKey where
  gen : Nat
  key : List Byte
deriving DecidableEq, Repr

/-- The key store and the mint service: CUR, OLD1 and OLD2 (R224), the staged key (R226), and the completion records of mint
jobs that have ended and are not yet in the ring (R230). -/
structure NtsState where
  cur : Option NtsKey
  old1 : Option NtsKey
  old2 : Option NtsKey
  staging : Option NtsKey
  done : List (List Byte)
deriving DecidableEq, Repr

/-- The NTS block after a reset. -/
def NtsState.reset : NtsState := { cur := none, old1 := none, old2 := none, staging := none, done := [] }

end Sys2Proof.Machine
end

