-- ==== Sys2Proof/Machine/StateTb.lean ====
section
/-! DEFINITION. The state of the timebase that its registers do not hold (02_timebase.md). -/

namespace Sys2Proof.Machine

/-- A report of the owner (`loop = none`) or of a verifying loop: its latest x, whether it arrived since the last evaluation, and
whether it sets VERIFY_DISAGREE for as long as it stands (R59). -/
structure Report where
  loop : Option Nat
  x : Int
  fresh : Bool
  against : Bool
deriving DecidableEq, Repr

/-- An armed leap: S_L, deletion or insertion, and the offset it brings (R51). -/
structure Leap where
  sL : Nat
  delete : Bool
  oNew : Int
deriving DecidableEq, Repr

/-- A change of device time that waits for its tick (R61): the offset of an authorised step in `_PH` units, or the set value
in units of 2^-60 ns. -/
inductive Change where
  | step (x : Int)
  | set (t : Int)
deriving DecidableEq, Repr

/-- A committed change and the number of model ticks that lie before it (R61). -/
structure Commit where
  change : Change
  wait : Nat
deriving DecidableEq, Repr

/-- The leap indications as they stand (R52, R53). -/
structure LeapView where
  li : Nat
  leap61 : Bool
  leap59 : Bool
  inLeap : Bool
deriving DecidableEq, Repr

/-- One time-of-day replica (R66, R67): the run of comparisons within ±100 ps, its error against core time at the last comparison in
2^-16 ns, its rate word, and the steps delivered and not yet applied, each with the device time it is tagged with. -/
structure Replica where
  run : Nat
  err : Int
  rate : Nat
  steps : List (Int × Int)
deriving DecidableEq, Repr

/-- The timebase. Times are in units of 2^-60 ns. -/
structure TbState where
  /-- Model ticks since the last restart; each is 1,600,000 STMP cycles (R46). -/
  ticks : Nat
  /-- Device time at the last model tick (R46). -/
  dev : Int
  /-- The advance of device time over the current tick (R46). -/
  adv : Int
  /-- The part of the residual that the current tick slews (R46). -/
  slew : Int
  /-- The residual that the servo slews (R46, R56). -/
  residual : Int
  /-- The accepted owner update that the next tick takes (R56): x and y. -/
  update : Option (Int × Int)
  /-- The standing reports (R59). -/
  reports : List Report
  /-- TAI − UTC in force (R50). -/
  utcOfs : Int
  /-- The armed leap (R51). -/
  leap : Option Leap
  /-- The leap indications (R53). -/
  warn : LeapView
  /-- The change that waits for its tick (R61). -/
  commit : Option Commit
  /-- Mismatched TB_STEP_AUTH writes (R60). -/
  mismatches : Nat
  /-- Refusals of the steering owner's reports so far, which a loop in PENDING watches (R121). -/
  ownerPends : Nat
  /-- TB_STATUS.VERIFIED has been 1 since the last PWR or DEV reset (R152). -/
  wasVerified : Bool
  /-- The replicas k = 0 to 23 (R66). -/
  replicas : List Replica
deriving DecidableEq, Repr

/-- A replica that is OFF. -/
def Replica.off : Replica := { run := 0, err := 0, rate := 0, steps := [] }

/-- The timebase after a PWR reset: device time zero, a rate of one, nothing pending. -/
def TbState.reset : TbState :=
  { ticks := 0, dev := 0, adv := 10 ^ 6 * 2 ^ 60, slew := 0, residual := 0, update := none, reports := [], utcOfs := 0, leap := none,
    warn := ⟨0, false, false, false⟩,
    commit := none, mismatches := 0, ownerPends := 0, wasVerified := false, replicas := List.replicate 24 Replica.off }

end Sys2Proof.Machine
end

