-- ==== Sys2Proof/Machine/StateCon.lean ====
section
/-! DEFINITION. Checkpoints and the state of the Conservator that its registers do not hold (19_conservator.md). -/

namespace Sys2Proof.Machine

/-- A checkpoint (R365, R366): the header's KIND, SEQ, SEC and CFG_HASH; device time; the registers it holds, by offset
(R65, R143, R168); the UTC offset in force and the leap schedule (R65); var_i and the SUSPENDED run of every member (R143); the
key store in its rotated form, the next generation number and the generation that was staged (R226, R227); and BOOT, CHAIN and
the latest record issued (R289). -/
structure Ckpt where
  kind : Nat
  seq : Nat
  sec : Nat
  hash : List Byte
  dev : Int
  regs : List (Nat × Word)
  utcOfs : Int
  leap : Option Leap
  members : List (Nat × Nat)
  cur : Option NtsKey
  old1 : Option NtsKey
  old2 : Option NtsKey
  genNext : Nat
  staged : Option Nat
  boot : Nat
  chain : Nat
  last : Option (Nat × List Byte)
deriving DecidableEq, Repr

/-- A position of the checkpoint area that has been written (R366): the 64 bytes of its header, its body, the CRC-32C over both, and the
COMMIT word, which stays erased in a write that was torn. -/
structure CkptPos where
  head : List Byte
  ck : Ckpt
  crc : Nat
  commit : Nat
deriving DecidableEq, Repr

/-- One slot of the checkpoint area in external NV memory (R366, R367): its write point, the erased positions from there on,
the written positions, and the erase counts by sector. -/
structure CkptSlot where
  next : Nat
  erased : Nat
  stored : List (Nat × CkptPos)
  wear : List (Nat × Nat)
deriving DecidableEq, Repr

/-- A checkpoint being written: slot, position and content. -/
structure CkptWrite where
  slot : Nat
  pos : Nat
  ck : Ckpt
deriving DecidableEq, Repr

/-- The calibration of an output's driver (R361): the last accepted delay in 2^-16 ns, and the compensation in force when it was accepted,
in 0.25 ps steps, with the device time of that. -/
structure OutCal where
  delay : Int
  comp : Int
  since : Int
deriving DecidableEq, Repr

/-- The Conservator. -/
structure ConState where
  /-- Deadline faults of the last second of device time: instant and duty (R363). -/
  faults : List (Int × Nat)
  /-- The duties whose faults have escalated to STAT2, as bits (R363). -/
  escalated : Nat
  /-- Requests that wait for the next checkpoint latch: a block's, the host's, a periodic instant's (R365). -/
  blockReq : Bool
  hostReq : Bool
  perReq : Bool
  /-- The write in progress (R366). -/
  writing : Option CkptWrite
  /-- The erase-ahead in progress: slot and sector (R367). -/
  erasing : Option (Nat × Nat)
  /-- The pivot instant of the newest latch since the start (R365). -/
  latchedAt : Option Nat
  /-- The pivot instant at which PFAIL_N last returned high (R368). -/
  pfailHighAt : Option Nat
  /-- The calibrations of the output drivers, and the measurements that wait while a bank pass holds the pulse generator (R361). -/
  outDelays : List (Option OutCal)
  calWait : List (Nat × Int)
  /-- The last accepted delays of the links' two directions, in 2^-16 ns (R361). -/
  linkDelays : List (Option (Int × Int))
  /-- A scrub pass that the host has asked for is running (R360, R370). -/
  scrub : Bool
  /-- The self-test in progress: TARGET (R370). -/
  test : Option Nat
  /-- The pivot instant of the last WD_KICK (R364). -/
  kickAt : Option Nat
deriving DecidableEq, Repr

/-- A slot of an erased checkpoint area. -/
def CkptSlot.reset : CkptSlot := { next := 0, erased := 1024, stored := [], wear := [] }

/-- The Conservator after a reset. -/
def ConState.reset : ConState :=
  { faults := [], escalated := 0, blockReq := false, hostReq := false, perReq := false, writing := none, erasing := none,
    latchedAt := none, pfailHighAt := none, outDelays := List.replicate 16 none, calWait := [],
    linkDelays := List.replicate 8 none, scrub := false, test := none, kickAt := none }

end Sys2Proof.Machine
end

