-- ==== Sys2Proof/Machine/StateEns.lean ====
section
/-! DEFINITION. The state of the ensemble engine that its registers do not hold (06_ensemble.md). -/

namespace Sys2Proof.Machine

/-- One member: its stamps since the last epoch (record time in 2^-12 ns and pivot instant), its variance in units of 2^-64
ns², and the consecutive epochs with a stamp while SUSPENDED (R137). -/
structure EnsMember where
  stamps : List (Int × Nat)
  var : Nat
  holdRun : Nat
deriving DecidableEq, Repr

/-- The ensemble engine: the members; the pivot instant and the device time less its steps at the last epoch, from which ρ
follows (R133); the steps of device time since (R130); the role 3 pair and its refusal mark (R139); the committed ENS_MAN_PH
values; whether the next epoch with a stamp rebases (R143, R412); whether T has started (R141); the sum of all
steps; the last two completed epochs with their x_dev (R171); and the count of rebases. -/
structure EnsState where
  members : List EnsMember
  mark : Option (Nat × Int)
  steps : List (Nat × Int)
  moved : Int
  pair : Option (Int × Int)
  manPh : Int
  rebase : Bool
  started : Bool
  hist : List (Int × Int)
  rebases : Nat
deriving DecidableEq, Repr

/-- A member after a reset. -/
def EnsMember.reset : EnsMember := { stamps := [], var := 0, holdRun := 0 }

/-- The ensemble engine after a reset. -/
def EnsState.reset : EnsState :=
  { members := List.replicate 32 EnsMember.reset, mark := none, steps := [], moved := 0, pair := none, manPh := 0,
    rebase := false, started := false, hist := [], rebases := 0 }

end Sys2Proof.Machine
end

