-- ==== Sys2Proof/Machine/StateEvt.lean ====
section
/-! DEFINITION. The state of the event timer that its registers do not hold (03_event_timer.md). Record times are in units of
2^-12 ns of device time. -/

namespace Sys2Proof.Machine

/-- An event record (R74): its time, edge, flags, source and sequence number, and whether pairing holds it (R81). -/
structure EvtRec where
  t : Int
  rising : Bool
  flags : Nat
  src : Nat
  seq : Nat
  held : Bool
deriving DecidableEq, Repr

/-- A stamp that an edge yields on the T-die (R73): its channel and edge, its pivot instant in 2^-12 ns, the record time in 2^-12 ns,
whether the relief stamper took it, and SRC and FLAGS without the marks of what came before it (R76, R77). -/
structure EvtStamp where
  ch : Nat
  rising : Bool
  piv : Nat
  t : Int
  relief : Bool
  src : Nat
  flags : Nat
deriving DecidableEq, Repr

/-- What crosses the die-to-die interface for a selected edge (R27): its stamp, or its loss in the dead time (R78) or in a forced
pass (R90). -/
inductive EvtCross where
  | stamp (x : EvtStamp)
  | dead (ch : Nat)
  | forced (ch : Nat)
deriving DecidableEq, Repr

/-- One channel: its queue of stored records oldest first (R80), the held starts and waiting stops of its pairing oldest
first (R84; a waiting stop is marked where its record is stored), the starts (none) and stops that pairing has not processed yet, in
stamp order, the next SEQ (R75), the pending loss-before and
overflow-before marks (R76), the mark of a destroyed record that no stored record follows (R75), the pivot instant of the last accepted edge (R78), the last
stamp (R79), the insertion delay of the last passed pass (R86) and the pivot instant of that pass. -/
structure EvtChan where
  queue : List EvtRec
  starts : List Int
  waiting : List (Int × Bool)
  ahead : List (Int × Option Bool)
  seq : Nat
  loss : Bool
  ovf : Bool
  destroyed : Bool
  last : Option Nat
  stamp : Option Int
  delay : Option Int
  calAt : Option Nat
deriving DecidableEq, Repr

/-- One bank: the relief stamper's calibration state (0 none, 1 current, 2 stale), the delay of its last passed pass, the
switch instant of the hand-over in progress (R88), the held request (R90), whether a retry pass of the spared channel runs
(R90), and the position under a forced calibration (R90). -/
structure EvtBank where
  reliefCal : Nat
  delay : Option Int
  tsw : Option Nat
  request : Option Nat
  retry : Bool
  forced : Option Nat
deriving DecidableEq, Repr

/-- The event timer: the channels, the banks, and what the T-die holds through a retrain of the die-to-die interface, oldest first:
the words of the edges, and the calibration-pulse stamps (R350). -/
structure EvtState where
  chans : List EvtChan
  banks : List EvtBank
  held : List EvtCross
  calHeld : List EvtStamp
deriving DecidableEq, Repr

/-- A channel after a PWR or DEV reset; its first record carries loss-before only after an INST or BLK reset (R75). -/
def EvtChan.reset : EvtChan :=
  { queue := [], starts := [], waiting := [], ahead := [], seq := 0, loss := false, ovf := false, destroyed := false, last := none,
    stamp := none, delay := none, calAt := none }

/-- A bank after a reset. -/
def EvtBank.reset : EvtBank :=
  { reliefCal := 0, delay := none, tsw := none, request := none, retry := false, forced := none }

/-- The event timer after a reset. -/
def EvtState.reset : EvtState :=
  { chans := List.replicate 128 EvtChan.reset, banks := List.replicate 8 EvtBank.reset, held := [], calHeld := [] }

end Sys2Proof.Machine
end

