-- ==== Sys2Proof/Machine/StateGnss.lean ====
section
/-! DEFINITION. The state of the GNSS baseband that its registers do not hold (08_gnss_baseband.md). -/

namespace Sys2Proof.Machine

/-- Why a signal or a constellation is excluded (R170). -/
inductive Excl where
  | power | sig | clk | sys
deriving DecidableEq, Repr

/-- One tracking channel: its last measurement, the carrier phase since TRACK in 2^-32 cycles (R164, R166), a cycle slip and an invalid
integration since the last observable, which integrations of the last second were valid, newest first (R165), its exclusion with the
consecutive passes so far (R172), and whether the last solution used it. -/
structure TkSt where
  meas : Option TkMeas
  cp : BitVec 64
  slip : Bool
  lost : Bool
  ints : List Bool
  excl : Option (Excl × Nat)
  used : Bool
deriving DecidableEq, Repr

/-- The noise baseline of a port (R176): the power of the samples that it rests on, their number, and the device time that they span
with CLK_OK = 1, up to 60 s. -/
structure NoiseBase where
  power : Nat
  count : Nat
  time : Int
deriving DecidableEq, Repr

/-- One sample port: the last comparator point in device time (R161), the measured rate in 2^-32 Hz, its noise baseline, and the
satellite at which the allocator's round-robin search goes on (R163). -/
structure GnssPort where
  point : Option Int
  rate : Nat
  base : NoiseBase
  robin : Nat
deriving DecidableEq, Repr

/-- One time solution: per constellation the exclusion with its passes (R172) and the stored fit epochs newest first (second
and z, R171); the clock in use and the rebase count the fits rest on; the survey's sum and number of fixes (R168). -/
structure GnssSol where
  excl : List (Option (Excl × Nat))
  fits : List (List (Int × Int))
  rebases : Nat
  survey : Int × Int × Int
  fixes : Nat
deriving DecidableEq, Repr

/-- One section of a snapshot (R174, R175): its port, the samples wanted, the device time of the first sample, the port's noise
rise then, the samples taken newest first, whether the port's clock failed, and whether the section is closed. -/
structure SnapSec where
  port : Nat
  want : Nat
  first : Option Int
  noise : Nat
  data : List Byte
  fault : Bool
  closed : Bool
deriving DecidableEq, Repr

/-- A snapshot armed or running: its start in device time, whether it has started, and its sections. -/
structure Snap where
  start : Int
  running : Bool
  secs : List SnapSec
deriving DecidableEq, Repr

/-- The GNSS baseband. -/
structure GnssState where
  tks : List TkSt
  ports : List GnssPort
  sols : List GnssSol
  snap : Option Snap
deriving DecidableEq, Repr

/-- A tracking channel after a reset. -/
def TkSt.reset : TkSt :=
  { meas := none, cp := 0, slip := false, lost := false, ints := [], excl := none, used := false }

/-- A sample port after a reset. -/
def GnssPort.reset : GnssPort := { point := none, rate := 0, base := { power := 0, count := 0, time := 0 }, robin := 0 }

/-- A time solution after a reset. -/
def GnssSol.reset : GnssSol :=
  { excl := [none, none, none, none], fits := [[], [], [], []], rebases := 0, survey := (0, 0, 0), fixes := 0 }

/-- The GNSS baseband after a reset. -/
def GnssState.reset : GnssState :=
  { tks := List.replicate 256 TkSt.reset, ports := List.replicate 4 GnssPort.reset,
    sols := List.replicate 4 GnssSol.reset, snap := none }

end Sys2Proof.Machine
end

