-- ==== Sys2Proof/Machine/StateHif.lean ====
section
/-! DEFINITION. The state of the host interface's DMA queues that its registers do not hold (21_host_interface.md). -/

namespace Sys2Proof.Machine

/-- One queue: advances of HEAD since the last notification (R389), descriptors fetched and not yet consumed (R385), and the
completion places that fetched jobs have claimed (R388). -/
structure HifQueue where
  unnotified : Nat
  fetched : List (List Byte)
  claims : Nat
deriving DecidableEq, Repr

/-- The host interface. -/
structure HifState where
  queues : List HifQueue
deriving DecidableEq, Repr

/-- A queue that holds nothing. -/
def HifQueue.reset : HifQueue := { unnotified := 0, fetched := [], claims := 0 }

/-- The host interface after a reset. -/
def HifState.reset : HifState := { queues := List.replicate 32 HifQueue.reset }

end Sys2Proof.Machine
end

