-- ==== Sys2Proof/Machine/StateLnk.lean ====
section
/-! DEFINITION. The state of the Ehrea links that their registers do not hold (15_links_wings_collections.md). Stamps and offsets
are in 2^-16 ns. -/

namespace Sys2Proof.Machine

/-- One link: whether its lane has block lock; the departure stamps of its timing blocks, newest first, and the arrival stamp of
the partner's latest one (R297); f of the accepted blocks that f_ref is the mean of, and f and raw of the run of withheld ones,
newest first (R303); the latest x, whether any block has been accepted and whether the
latest one was withheld; f, raw and accepted x of the running 10 ms window
(R302); the runs of agreement (R304); and the ID of the latest barrier arrive that its partner sent (R311). -/
structure LkLink where
  lock : Bool
  deps : List Int
  arr : Option Int
  refs : List Int
  runF : List Int
  runRaw : List Int
  x : Int
  hasX : Bool
  withheld : Bool
  winF : List Int
  winRaw : List Int
  winX : List Int
  nRaw : Nat
  nHeld : Nat
  arrive : Option Nat
deriving DecidableEq, Repr

/-- An armed time-triggered operation (R312): T in units of 2^-60 ns, OP and SEQ. -/
structure TtoOp where
  t : Int
  op : Nat
  seq : Nat
deriving DecidableEq, Repr

/-- This device's arrival at a barrier (R311): its ID, the DOWN links that were in RUN then, and whether the arrive has gone
up. -/
structure Barrier where
  id : Nat
  need : List Nat
  sent : Bool
deriving DecidableEq, Repr

/-- The link block: its links, the root's next sequence number (R309), the receive mailbox (SEQ, ORIGIN, payload) and the popped
payload's place in LK_BC_RX_W (R310), the barrier, the armed operations in the order of SEQ, and T of the operations that the
root has issued outside its own scope (R312). -/
structure LnkState where
  links : List LkLink
  seq : Nat
  mailbox : List (Nat × Nat × List Byte)
  barrier : Option Barrier
  armed : List TtoOp
  issued : List Int
deriving DecidableEq, Repr

/-- A link after a reset. -/
def LkLink.reset : LkLink :=
  { lock := false, deps := [], arr := none, refs := [], runF := [], runRaw := [], x := 0, hasX := false, withheld := false, winF := [],
    winRaw := [], winX := [], nRaw := 0, nHeld := 0, arrive := none }

/-- The link block after a reset. -/
def LnkState.reset : LnkState :=
  { links := List.replicate 8 LkLink.reset, seq := 0, mailbox := [], barrier := none, armed := [], issued := [] }

end Sys2Proof.Machine
end

