-- ==== Sys2Proof/Machine/StateLoop.lean ====
section
/-! DEFINITION. The state of the disciplining loops that their registers do not hold (05_loops_and_holdover.md). Phases p and
r are in units of 2^-60 ns, as device time is. -/

namespace Sys2Proof.Machine

/-- One bin of the holdover average (R125): its number, the sum of i over its LOCKED epochs, and their count. -/
structure HoBin where
  no : Int
  sum : Int
  count : Nat
deriving DecidableEq, Repr

/-- One loop: p, the device time that p stands at, r; the number of the last Registrar sample taken and the latest x; the runs
of epochs within and beyond the lock threshold; the tracking state that BRIDGE left; the last e of up to 64 tracking epochs;
the bins; the device time, u0 and grade of holdover entry; the stored LOOP_STEP_AUTH write and its pivot instant; numeric
frequency and phase writes with their pivot instants; and for roles 2 and 3 whether TB_STATUS.STEP_PENDING has been seen with
SRC = 0 since the loop entered PENDING, the count of such refusals then, and whether the refused delivery was accepted.
`sawNone` and `sawHold`: the switch has reached NONE, or a hold on dispute
has begun, since the last epoch (R118), and `lostGrade` is the incumbent's grade at that NONE (R126).
`moved` is the alignment of the epoch that just ran, a step of the loop's output time. `xAt` is the device time of the latest
epoch at which the loop took a new x (R209). -/
structure LoopState where
  p : Int
  pAt : Int
  r : Int
  lastSample : Nat
  xLast : Int
  lockRun : Nat
  unlockRun : Nat
  left : Nat
  es : List Int
  bins : List HoBin
  hoAt : Int
  u0 : Int
  hoGrade : Nat
  auth : Option (Word × Nat)
  numFF : List (Nat × Int)
  numPh : List (Nat × Int)
  sawPend : Bool
  pendMark : Nat
  accepted : Bool
  sawNone : Bool
  sawHold : Bool
  lostGrade : Nat
  moved : Int
  xAt : Option Int
deriving DecidableEq, Repr

/-- A loop after a reset. -/
def LoopState.reset : LoopState :=
  { p := 0, pAt := 0, r := 0, lastSample := 0, xLast := 0, lockRun := 0, unlockRun := 0, left := 2, es := [], bins := [],
    hoAt := 0, u0 := 0, hoGrade := 15, auth := none, numFF := [], numPh := [], sawPend := false, pendMark := 0,
    accepted := false, sawNone := false, sawHold := false, lostGrade := 15, moved := 0, xAt := none }

end Sys2Proof.Machine
end

