-- ==== Sys2Proof/Machine/StateOut.lean ====
section
/-! DEFINITION. The state of the synthesized outputs and the triggers that their registers do not hold
(07_outputs_and_triggers.md). Times are in units of 2^-60 ns. -/

namespace Sys2Proof.Machine

/-- The waveform fields of an output as the synthesizer uses them (R149, R150). -/
structure OutCfg where
  mode : Bool
  freq : Nat
  period : Nat
  width : Nat
  anchor : Nat
  drive : Nat
  pol : Bool
deriving DecidableEq, Repr

/-- The edges that a move of the schedule has fixed (R151), as output times: up to `fall` the output is high, from there to `rise` it is
low, and from `rise` on it follows its schedule. -/
structure OutHold where
  fall : Int
  rise : Int
deriving DecidableEq, Repr

/-- A write of OUT_OFS_PH whose edge lies ahead (R150): the device time of that edge, and the offset and the fixed edges up to it. -/
structure OutNext where
  since : Int
  ofs : Int
  hold : Option OutHold
deriving DecidableEq, Repr

/-- One output: the waveform in use, whether a change waits for the mute edge (R150), whether R149 refuses the waveform, the
alignment of a KIND 3 output with the remainder still to be slewed and the device time it stands at (R154), the edges fixed by the last
move of its schedule while they lie ahead (R151), the last write of its offset until its edge has passed (R150), and the steer word
that its synthesizer holds through a retrain (R350). -/
structure OutSt where
  cfg : OutCfg
  change : Bool
  refused : Bool
  align : Int
  rem : Int
  remAt : Int
  hold : Option OutHold
  next : Option OutNext
  word : Option Int
deriving DecidableEq, Repr

/-- The schedule of an armed trigger (R156): its first instant, the distance of its instants, their number (none: without
end), and how many have passed. -/
structure TrgPlan where
  start : Int
  period : Int
  count : Option Nat
  passed : Nat
deriving DecidableEq, Repr

/-- One trigger: its schedule, the instants of replaced schedules that still fire (R157), and the instant, in device time, up to which
its pin is active (R156). -/
structure TrgSt where
  plan : Option TrgPlan
  old : List Int
  until_ : Option Int
deriving DecidableEq, Repr

/-- The outputs and triggers. -/
structure OutState where
  outs : List OutSt
  trgs : List TrgSt
deriving DecidableEq, Repr

/-- The waveform of the hard reset values: a 10 MHz clock. -/
def OutCfg.reset : OutCfg :=
  { mode := false, freq := 10000000 * 2 ^ 32, period := 10 ^ 9, width := 100000, anchor := 0, drive := 0, pol := false }

/-- An output after a reset. -/
def OutSt.reset : OutSt :=
  { cfg := OutCfg.reset, change := false, refused := false, align := 0, rem := 0, remAt := 0, hold := none, next := none, word := none }

/-- A trigger after a reset. -/
def TrgSt.reset : TrgSt := { plan := none, old := [], until_ := none }

/-- The outputs and triggers after a reset. -/
def OutState.reset : OutState := { outs := List.replicate 16 OutSt.reset, trgs := List.replicate 32 TrgSt.reset }

end Sys2Proof.Machine
end

