-- ==== Sys2Proof/Machine/StatePair.lean ====
section
/-! DEFINITION. The state of the pair block that its registers do not hold (16_pairs_and_failover.md). -/

namespace Sys2Proof.Machine

/-- This unit's half of a key agreement (R317): its X25519 key pair, its nonce, and whether its keying message has gone out. -/
structure PairKx where
  priv : List Byte
  pub : List Byte
  nonce : List Byte
  sent : Bool
deriving DecidableEq, Repr

/-- A baseline (R322): its device time, x(c) of the slots, and X_i with y_i of the members. -/
structure PairBase where
  t : Int
  slots : List (Nat × Int)
  members : List (Nat × Int × Int)
deriving DecidableEq, Repr

/-- The pair block. -/
structure PairState where
  /-- The running key agreement, and the internal request that it waits for. -/
  kx : Option PairKx
  want : Option BneRequest
  /-- The partner's verified public key and nonce, and the last public key that it sent. -/
  peer : Option (List Byte × List Byte)
  seen : List Byte
  /-- The exchange failed and waits for its retry. -/
  failed : Bool
  /-- K, and the K that takes effect from the next copy epoch (R317). -/
  key : Option (List Byte)
  nextKey : Option (List Byte)
  /-- STAT3 waits for the end of HANDOVER_GAP (R320). -/
  gap : Bool
  /-- PREFER of the partner. -/
  prefer : Bool
  /-- A heartbeat loss with PARTNER_OK high is in force (R318). -/
  linkLost : Bool
  /-- The stamp of this second on the comparison channel, in 2^-12 ns (R321). -/
  stamp : Option Int
  /-- The run of seconds beyond THR, and whether DISAGREE and an undecided arbitration hold (R321, R322). -/
  run : Nat
  disagree : Bool
  undecided : Bool
  /-- An arbitration waits for the partner's m. -/
  arb : Bool
  base : Option PairBase
  /-- This unit's last d and m. -/
  d : Option Int
  m : Option Int
  /-- The last committed epoch (R324) and the host state area. -/
  committed : Option PairEpoch
  host : List (Nat × Byte)
  /-- The epochs sent with the staged key: number and generation; the generation that an acknowledged epoch holds; and the one
  whose checkpoint has committed (R325). -/
  sent : List (Nat × Nat)
  acked : Option Nat
  saved : Option Nat
  /-- The digests that wait for their partners, own and the other unit's, and the comparisons of the last 10 s (R323). -/
  own : List (List Byte)
  other : List (List Byte)
  compared : List (Int × Bool)
  /-- Frames rehearsed since REHEARSED last counted (R316). -/
  rehearsed : Nat
deriving DecidableEq, Repr

/-- The pair block after a reset. -/
def PairState.reset : PairState :=
  { kx := none, want := none, peer := none, seen := [], failed := false, key := none, nextKey := none, gap := false,
    prefer := false, linkLost := false, stamp := none, run := 0, disagree := false, undecided := false, arb := false,
    base := none, d := none, m := none, committed := none, host := [], sent := [], acked := none, saved := none, own := [],
    other := [], compared := [], rehearsed := 0 }

end Sys2Proof.Machine
end

