-- ==== Sys2Proof/Machine/StateProv.lean ====
section
/-! DEFINITION. The state of the provenance ledger that its registers do not hold (14_provenance_ledger.md). -/

namespace Sys2Proof.Machine

/-- A latched record (R283, R284): its KIND and the pivot time of its instant, the STEP_SUM, STEPS and GAP it has taken, its bytes 0 to 7, its bytes 56 to 135, and its reference
entries; the chain fields, SERIAL, PREV_SERIAL and PREV_HASH are filled at signing (R289). -/
structure ProvRecord where
  kind : Nat
  latchedAt : Nat
  sum : Int
  steps : Nat
  gap : Bool
  head : List Byte
  body : List Byte
  refs : List Byte
deriving DecidableEq, Repr

/-- The ledger: BOOT and the count of the next record (R288), the serial and hash of the latest record issued or restored
(R289), whether BOOT stands and the RESTART record is latched, the latched records (R290), the issued records that wait for the
ring (R292), the changes of device time since the latest latched record and their count (R284), whether a periodic record has
been missed since (R290), the host's configuration writes since the
image load (R284), and of the latest record issued in this boot the pivot instant with the serial and hash prefix that were shown before
it (R291). -/
structure ProvState where
  boot : Nat
  next : Nat
  last : Option (Nat × List Byte)
  booting : Bool
  restarted : Bool
  latched : List ProvRecord
  waiting : List (List Byte)
  sum : Int
  steps : Nat
  gap : Bool
  cfgWrites : Nat
  issued : Option (Nat × Nat × List Byte)
deriving DecidableEq, Repr

/-- The ledger after a reset. -/
def ProvState.reset : ProvState :=
  { boot := 0, next := 0, last := none, booting := false, restarted := false, latched := [], waiting := [], sum := 0, steps := 0,
    gap := false, cfgWrites := 0, issued := none }

end Sys2Proof.Machine
end

