-- ==== Sys2Proof/Machine/StatePtp.lean ====
section
/-! DEFINITION. The state of the PTP block that its registers do not hold (12_ptp.md). Times are in 2^-60 ns. -/

namespace Sys2Proof.Machine

/-- A unicast grant (R245): its logInterMessagePeriod and the device time at which it ends. -/
structure Grant where
  log : Int
  ends : Int
deriving DecidableEq, Repr

/-- One entry of the client table (R246): the server instance, the ingress port, the client's addresses and identity, and its
grants for Announce, Sync and Delay_Resp. -/
structure PtpClient where
  inst : Nat
  port : Nat
  mac : List Byte
  ip : List Byte
  id : PtpPort
  ann : Option Grant
  sync : Option Grant
  resp : Option Grant
deriving DecidableEq, Repr

/-- A foreign master (R250): its last Announce and the device times of its Announces, newest first. -/
structure Foreign where
  msg : PtpMsg
  data : PtpData
  times : List Int
deriving DecidableEq, Repr

/-- A received Sync (R251): its master, t1, t2 and corrections, whether its stamp was UNLOCKED, and the step count then. -/
structure SyncRec where
  id : PtpPort
  t1 : Int
  t2 : Int
  corr : Int
  unlocked : Bool
  epoch : Nat
deriving DecidableEq, Repr

/-- A Delay_Req that awaits its answer (R251): its sequence number, t3, the step count at its departure, and the Sync it pairs
with. -/
structure ReqRec where
  seq : Nat
  t3 : Int
  epoch : Nat
  sync : Option SyncRec
deriving DecidableEq, Repr

/-- A two-step Sync that awaits its queue entry (R243): its sequence number, whether it was unicast, where it went and its
logMessageInterval; its Follow_Up goes the same way. -/
structure PtpAwait where
  seq : Nat
  unicast : Bool
  mac : List Byte
  ip : List Byte
  log : Int
deriving DecidableEq, Repr

/-- A PTP message that the classifier has handed to an instance (R201) and that the instance has not worked on yet: messageType,
what the block takes from it, whether it announces a Follow_Up, what follows the header (of Signaling, one TLV), the core instant of its arrival, its ingress stamp and whether the
stamp was UNLOCKED (R182). -/
structure PtpRx where
  type : Nat
  msg : PtpMsg
  twoStep : Bool
  body : List Byte
  arrived : Nat
  stamp : Int
  unlocked : Bool
deriving DecidableEq, Repr

/-- One instance. The received messages that wait. A server: sequence numbers, and two-step Syncs that await their queue entry
(R243). A client: the committed
unicast masters (address and localPriority), the foreign masters and the chosen one, the last Sync, the Delay_Reqs that await an
answer, the exchanges of this second as twice the offset and the round trip (R251), the round trips behind rt_ref and the held
samples as raw and round trip, in `_PH` (R253), x_pre and the last delivered x, and the counts of R254. -/
structure PtpInst where
  inbox : List PtpRx
  seqSync : Nat
  seqAnn : Nat
  seqDelay : Nat
  seqSig : Nat
  awaiting : List PtpAwait
  um : List (Option (List Byte × Nat))
  foreign : List Foreign
  chosen : Option PtpPort
  last : Option SyncRec
  reqs : List ReqRec
  exch : List (Int × Int)
  refs : List Int
  run : List (Int × Int)
  xPre : Int
  xLast : Int
  nRaw : Nat
  nHeld : Nat
deriving DecidableEq, Repr

/-- The PTP block: the instances, the client table by entry number, and the count of steps of device time (R252). -/
structure PtpState where
  insts : List PtpInst
  table : List (Nat × PtpClient)
  epoch : Nat
deriving DecidableEq, Repr

/-- An instance after a reset. -/
def PtpInst.reset : PtpInst :=
  { inbox := [], seqSync := 0, seqAnn := 0, seqDelay := 0, seqSig := 0, awaiting := [], um := List.replicate 4 none, foreign := [],
    chosen := none, last := none, reqs := [], exch := [], refs := [], run := [], xPre := 0, xLast := 0, nRaw := 0,
    nHeld := 0 }

/-- The PTP block after a reset. -/
def PtpState.reset : PtpState := { insts := List.replicate 16 PtpInst.reset, table := [], epoch := 0 }

end Sys2Proof.Machine
end

