-- ==== Sys2Proof/Machine/StateRgs.lean ====
section
/-! DEFINITION. The state of the Registrar that its registers do not hold (04_registrar.md). Times are counts of 10 ms
evaluation cycles. -/

namespace Sys2Proof.Machine

/-- One reference slot: when it entered QUALIFYING, when its signal returned (RET_AT), when its signal went absent, when it
became QUALIFIED and from when a dispute check counts it, its samples newest first (cycle and x), the number of samples so
far, whether one came in the running cycle and the pivot instant of the last one (R286), the last accepted ledger line (SEC and NS in 2^-12 ns) and the consecutive
pulses without one, the last pulse (its record time, the pivot instant, and whether a line answered it) and whether a discarded line
has spoiled it (R102), the origin of a frequency slot in device time, the comparator's reading there in 2^-16 cycles (R93), the last
stamp and the count of cycles since the origin. -/
structure RgsSlot where
  since : Nat
  retAt : Nat
  absentAt : Nat
  qualAt : Nat
  checkAt : Nat
  samples : List (Nat × Int)
  sampleNo : Nat
  fresh : Bool
  heard : Option Nat
  llRef : Option Int
  llMiss : Nat
  pulse : Option (Int × Nat × Bool)
  spoiled : Bool
  origin : Option Int
  phase0 : Int
  last : Int
  cycles : Nat
deriving DecidableEq, Repr

/-- A dispute in force (R110): its pair, and whether both slots were marked; if not, which one was. -/
structure Dispute where
  a : Nat
  b : Nat
  both : Bool
  loser : Nat
deriving DecidableEq, Repr

/-- The Registrar: the running evaluation cycle, the slots, the end of each loop's align timer, the loops whose incumbent was eligible
at the last evaluation, as bits (R108), and the disputes. -/
structure RgsState where
  now : Nat
  slots : List RgsSlot
  alignEnd : List Nat
  incOk : Nat
  disputes : List Dispute
deriving DecidableEq, Repr

/-- A slot after a reset. -/
def RgsSlot.reset : RgsSlot :=
  { since := 0, retAt := 0, absentAt := 0, qualAt := 0, checkAt := 0, samples := [], sampleNo := 0, fresh := false, heard := none,
    llRef := none, llMiss := 0, pulse := none, spoiled := false, origin := none, phase0 := 0, last := 0, cycles := 0 }

/-- The Registrar after a reset. -/
def RgsState.reset : RgsState :=
  { now := 0, slots := List.replicate 64 RgsSlot.reset, alignEnd := List.replicate 24 0, incOk := 0, disputes := [] }

end Sys2Proof.Machine
end

