-- ==== Sys2Proof/Machine/StateVit.lean ====
section
/-! DEFINITION. The state of the Vitrine that its registers do not hold (20_vitrine_and_interrupts.md). -/

namespace Sys2Proof.Machine

/-- The Vitrine: the register file as the held snapshot latched it (R371), the core cycle in which it did, counted on the pivot
(R376), and T of the armed time-of-day match in units of 2^-60 ns (R375). -/
structure VitState where
  held : Option RegFile
  latchedAt : Option Nat
  armed : Option Int
deriving DecidableEq, Repr

/-- The Vitrine after a reset. -/
def VitState.reset : VitState := { held := none, latchedAt := none, armed := none }

end Sys2Proof.Machine
end

