-- ==== Sys2Proof/Machine/State.lean ====
section
/-! DEFINITION. The state of the Sundane as a block: its registers, its internal state block by block, its memories, the queue
of commands that wait, and the record of its outputs. -/

namespace Sys2Proof.Machine

/-- Why the machine stops. No command of this model ends in a fault: no rule of the spec stops the device on a command. The
one constructor keeps the type inhabited and no meaning raises it (safe: nothing rests on it). -/
inductive Fault where
  | none
deriving DecidableEq, Repr

/-- Why a command has no meaning. -/
inductive Refusal where
  /-- The command is not modelled yet: raised by Dispatch alone, by name. Safe: the machine stops. -/
  | notModelled (mnemonic : String)
deriving DecidableEq, Repr

/-- The state. -/
structure State where
  /-- The commands that wait, first in, first out. -/
  pending : List Instr
  /-- The register file. -/
  rf : RegFile
  /-- The external NV memory that holds the Catalogue banks (R327); an unlisted byte reads 0xFF. -/
  nv : Memory
  /-- The two slots of the checkpoint area in the same external NV memory, A first (R366). -/
  slots : List CkptSlot
  /-- BAR2: the big-number windows and the capture pool (R382); an unlisted byte reads 0. -/
  bar2 : Memory
  /-- Resets, start-up and pins. -/
  sys : SysState
  /-- The timebase. -/
  tb : TbState
  /-- The event timer. -/
  evt : EvtState
  /-- The Registrar. -/
  rgs : RgsState
  /-- The loops LP0 to LP23. -/
  loops : List LoopState
  /-- The ensemble engine. -/
  ens : EnsState
  /-- The outputs and triggers. -/
  out : OutState
  /-- The GNSS baseband. -/
  gnss : GnssState
  /-- The Ethernet ports EP0 to EP7. -/
  mac : List MacPort
  /-- The answer pipelines and the visitor book. -/
  ans : AnsState
  /-- The NTS key store and mint service. -/
  nts : NtsState
  /-- The PTP block. -/
  ptp : PtpState
  /-- The big-number engine. -/
  bne : BneState
  /-- The provenance ledger. -/
  prov : ProvState
  /-- The Ehrea links. -/
  lnk : LnkState
  /-- The pair block. -/
  pair : PairState
  /-- The host interface's queues. -/
  hif : HifState
  /-- The Conservator. -/
  con : ConState
  /-- The Catalogue interface. -/
  cat : CatState
  /-- The Vitrine. -/
  vit : VitState
  /-- The model's own counter of free values used. -/
  free : Nat
  /-- The model's own record of what the device has sent out, newest first. -/
  outbox : List Out
deriving DecidableEq, Repr

/-- The state right after a power-up reset: every register at its hard value (R17), GLB_SERIAL at the serial number, nothing
pending, device time zero. -/
def State.reset : State :=
  { pending := [],
    rf := { vals := [(0x8, Config.serial.setWidth 32), (0xC, (Config.serial >>> 32).setWidth 32)], latch := [], staged := [],
            img := [], imgOn := false },
    nv := [], slots := [CkptSlot.reset, CkptSlot.reset], bar2 := [], sys := SysState.reset, tb := TbState.reset,
    evt := EvtState.reset, rgs := RgsState.reset,
    loops := List.replicate 24 LoopState.reset, ens := EnsState.reset, out := OutState.reset, gnss := GnssState.reset,
    mac := List.replicate 8 MacPort.reset, ans := AnsState.reset, nts := NtsState.reset, ptp := PtpState.reset,
    bne := BneState.reset, prov := ProvState.reset, lnk := LnkState.reset, pair := PairState.reset, hif := HifState.reset,
    con := ConState.reset, cat := CatState.reset, vit := VitState.reset, free := 0, outbox := [] }

end Sys2Proof.Machine
end

