-- ==== Sys2Proof/Machine/Ops.lean ====
section
/-! DEFINITION. The named operations over registers, memories, interrupts, free values and device time that every command's
meaning is written with. -/

namespace Sys2Proof.Machine

/-! ### Sparse tables keyed by a number -/

/-- The value a sparse table lists for a key. -/
def tableGet {α : Type} : List (Nat × α) → Nat → Option α
  | [], _ => none
  | (k, v) :: t, key => if k = key then some v else tableGet t key

/-- A sparse table with one key's value replaced; the keys stay in rising order. -/
def tableSet {α : Type} : List (Nat × α) → Nat → α → List (Nat × α)
  | [], key, x => [(key, x)]
  | (k, v) :: t, key, x =>
    if key < k then (key, x) :: (k, v) :: t
    else if k = key then (key, x) :: t
    else (k, v) :: tableSet t key x

/-- A sparse table without one key. -/
def tableErase {α : Type} : List (Nat × α) → Nat → List (Nat × α)
  | [], _ => []
  | (k, v) :: t, key => if k = key then tableErase t key else (k, v) :: tableErase t key

/-! ### Byte memories -/

/-- The byte at an address of a memory whose unlisted bytes read `dflt`. -/
def memByte (dflt : Byte) (m : Memory) (a : Nat) : Byte := (tableGet m a).getD dflt

/-- A memory with one byte written; writing what an unlisted byte reads removes the entry. -/
def memSet (dflt : Byte) (m : Memory) (a : Nat) (b : Byte) : Memory :=
  if b = dflt then tableErase m a else tableSet m a b

/-- Consecutive bytes of a memory. -/
def memBytes (dflt : Byte) (m : Memory) (a n : Nat) : List Byte := (List.range n).map fun i => memByte dflt m (a + i)

/-- A memory with consecutive bytes written. -/
def memWrite (dflt : Byte) (m : Memory) (a : Nat) : List Byte → Memory
  | [] => m
  | b :: bs => memWrite dflt (memSet dflt m a b) (a + 1) bs

/-- A memory with `n` bytes from an address on set to what unlisted bytes read. -/
def memClear (m : Memory) (a n : Nat) : Memory := m.filter fun c => c.1 < a || a + n ≤ c.1

/-- The keys of a table rise strictly, each above a bound. -/
def keysAbove {α : Type} : Option Nat → List (Nat × α) → Bool
  | _, [] => true
  | lo, (k, _) :: t => (match lo with | some l => l < k | none => true) && keysAbove (some k) t

/-- The canonical form of a memory: addresses strictly rising and no entry that reads as an unlisted byte. -/
def Memory.wf (dflt : Byte) (m : Memory) : Bool := keysAbove none m && m.all fun c => c.2 ≠ dflt

/-- What an unlisted byte of the NV memory reads (assumption 7). -/
def nvErased : Byte := 0xFF

/-- What an unlisted byte of BAR2 memory reads (R279; assumption 8). -/
def bar2Zero : Byte := 0

/-- The little-endian value of a byte list (R7). -/
def leNat : List Byte → Nat
  | [] => 0
  | b :: bs => b.toNat + 256 * leNat bs

/-- The `n` little-endian bytes of a number (R7). -/
def leBytes : Nat → Nat → List Byte
  | 0, _ => []
  | n + 1, v => BitVec.ofNat 8 v :: leBytes n (v / 256)

/-- The big-endian value of a byte list, for the fields of network frames and signed records (R7). -/
def beNat (bs : List Byte) : Nat := bs.foldl (fun a b => 256 * a + b.toNat) 0

/-- The `n` big-endian bytes of a number (R7). -/
def beBytes (n v : Nat) : List Byte := (leBytes n v).reverse

/-! ### The register file -/

/-- What a register that the file does not list reads: its image value once an image is applied, its hard value before
(R17, R19). -/
def RegFile.base (r : RegFile) (ofs : Nat) : Word := if r.imgOn then imageValue r.img ofs else hardValue ofs

/-- The live value of the register at an offset. -/
def RegFile.reg (r : RegFile) (ofs : Nat) : Word :=
  match tableGet r.vals ofs with
  | some v => v
  | none => r.base ofs

/-- The register file with one register's live value replaced. -/
def RegFile.set (r : RegFile) (ofs : Nat) (v : Word) : RegFile := { r with vals := tableSet r.vals ofs v }

/-- The value of a field. -/
def RegFile.get (r : RegFile) (f : Fld) : Nat := fieldOf (r.reg f.ofs) f.lo f.width

/-- The register file with a field replaced. -/
def RegFile.put (r : RegFile) (f : Fld) (x : Nat) : RegFile := r.set f.ofs (fieldSet (r.reg f.ofs) f.lo f.width x)

/-- The 64-bit value of a pair whose NAME_LO lies at an offset (R11). -/
def RegFile.get64 (r : RegFile) (ofs : Nat) : Nat := (r.reg ofs).toNat + 2 ^ 32 * (r.reg (ofs + 4)).toNat

/-- The register file with a pair's live value replaced (R11). -/
def RegFile.put64 (r : RegFile) (ofs : Nat) (v : Nat) : RegFile :=
  (r.set ofs (BitVec.ofNat 32 v)).set (ofs + 4) (BitVec.ofNat 32 (v / 2 ^ 32))

/-! ### Interrupts (R378 to R380) -/

/-- The vector that IRQ_MAP gives a source (R380). -/
def RegFile.vectorOf (r : RegFile) (src : Nat) : Nat := fieldOf (r.reg (IRQ_MAP.ofs (src / 4))) (8 * (src % 4)) 6

/-- Whether a source is pending (R380). -/
def RegFile.pendingSrc (r : RegFile) (src : Nat) : Bool :=
  ((r.reg (IRQ_RAW.ofs (src / 32)) &&& r.reg (IRQ_EN.ofs (src / 32))).toNat).testBit (src % 32)

/-- The asserted vectors as a set of bits (R380). -/
def RegFile.assertedSet (r : RegFile) : Nat :=
  if r.get IRQ_CFG.EN = 1 then
    (List.range 256).foldl (fun a src => if r.pendingSrc src then a ||| 2 ^ r.vectorOf src else a) 0
  else 0

/-- The message of a vector: sent at once, or held in the pending-bit array while the vector is masked (R380). -/
def RegFile.deliver (p : RegFile × List Out) (v : Nat) : RegFile × List Out :=
  if p.1.get (MSIX_CTRL.MASK v) = 1 then (p.1.put (MSIX_PBA.PEND v) 1, p.2)
  else (p.1, .msix v ((p.1.reg (MSIX_ADDR_LO.ofs v)).toNat + 2 ^ 32 * (p.1.reg (MSIX_ADDR_HI.ofs v)).toNat)
    (p.1.reg (MSIX_DATA.ofs v)) :: p.2)

/-- One vector brought up to date: when it is asserted and not in service its message goes out and it enters service. -/
def RegFile.serve (asserted : Nat) (p : RegFile × List Out) (v : Nat) : RegFile × List Out :=
  if asserted.testBit v && !(p.1.get64 IRQ_VEC_INSVC.ofs).testBit v then
    RegFile.deliver (p.1.put64 IRQ_VEC_INSVC.ofs (p.1.get64 IRQ_VEC_INSVC.ofs ||| 2 ^ v), p.2) v
  else p

/-- Every vector brought up to date after a change of the raw bits, enables, map or IRQ_CFG (R380). -/
def RegFile.irqUpdate (p : RegFile × List Out) : RegFile × List Out :=
  let a := p.1.assertedSet
  let p1 := (p.1.put64 IRQ_VEC_ASSERTED.ofs a, p.2)
  if a = 0 then p1 else (List.range 64).foldl (RegFile.serve a) p1

/-- A source's raw bit set (R378), with its effect on the vectors; a reserved source is never raw (R379). -/
def RegFile.irqRaise (r : RegFile) (src : Nat) : RegFile × List Out :=
  RegFile.irqUpdate (r.put ⟨IRQ_RAW.ofs (src / 32), src % 32, 1⟩ 1, [])

/-! ### The same operations on the whole state -/

/-- A change made only under a condition. -/
def State.onlyIf (c : Bool) (f : State → State) (s : State) : State := if c then f s else s

/-- The live value of a register. -/
def State.reg (s : State) (ofs : Nat) : Word := s.rf.reg ofs

/-- A register's live value replaced. -/
def State.setReg (ofs : Nat) (v : Word) (s : State) : State := { s with rf := s.rf.set ofs v }

/-- The value of a field. -/
def State.get (s : State) (f : Fld) : Nat := s.rf.get f

/-- Whether a one-bit field is 1. -/
def State.flag (s : State) (f : Fld) : Bool := s.rf.get f == 1

/-- A field replaced. -/
def State.put (f : Fld) (x : Nat) (s : State) : State := { s with rf := s.rf.put f x }

/-- A one-bit field replaced by a truth value. -/
def State.putB (f : Fld) (b : Bool) (s : State) : State := s.put f (bit b)

/-- A field read as two's complement. -/
def State.getI (s : State) (f : Fld) : Int := signedOf f.width (s.get f)

/-- A field replaced by a two's complement value, wrapping at its width. -/
def State.putI (f : Fld) (x : Int) (s : State) : State := s.put f (patternOf f.width x)

/-- The unsigned value of a pair (R11). -/
def State.get64 (s : State) (ofs : Nat) : Nat := s.rf.get64 ofs

/-- A pair's live value replaced (R11). -/
def State.put64 (ofs v : Nat) (s : State) : State := { s with rf := s.rf.put64 ofs v }

/-- The signed value of a `_FF` or `_PH` pair (R9). -/
def State.getS (s : State) (ofs : Nat) : Int := signedOf 64 (s.get64 ofs)

/-- A `_FF` or `_PH` pair replaced by a computed value, saturating (R10). -/
def State.putS (ofs : Nat) (x : Int) (s : State) : State := s.put64 ofs (patternOf 64 (sat64 x))

/-- A counter advanced, saturating at the top of its field. -/
def State.count (f : Fld) (n : Nat) (s : State) : State := s.put f (min (s.get f + n) (2 ^ f.width - 1))

/-- A counter advanced, wrapping at its width. -/
def State.countWrap (f : Fld) (n : Nat) (s : State) : State := s.put f (s.get f + n)

/-- Something sent to the outside. -/
def State.emit (o : Out) (s : State) : State := { s with outbox := o :: s.outbox }

/-- An interrupt source raised (R378). -/
def State.raise (src : Nat) (s : State) : State :=
  { s with rf := (s.rf.irqRaise src).1, outbox := (s.rf.irqRaise src).2 ++ s.outbox }

/-- A flag set; a change from 0 to 1 raises the interrupt source that lists it (R378). -/
def State.setFlag (f : Fld) (src : Nat) (s : State) : State := if s.flag f then s else (s.put f 1).raise src

/-- An event whose chapter names it as raising an interrupt: its flag is set, and each time the source's raw bit too (R378). -/
def State.setEvent (f : Fld) (src : Nat) (s : State) : State := (s.put f 1).raise src

/-- The next free value, a number the spec leaves open (assumption 3). -/
def State.freeVal (s : State) : Nat := Config.freeNat s.free

/-- The free value used up. -/
def State.freeNext (s : State) : State := { s with free := s.free + 1 }

/-- `n` bytes whose content the spec leaves open, such as a DRBG draw; the free value is used up by `freeNext`. -/
def State.freeBytes (s : State) (n : Nat) : List Byte := leBytes n s.freeVal

/-- The registers of an offset range taken back to their image values (R17): their entries leave the register file. -/
def State.revert (lo hi : Nat) (s : State) : State :=
  { s with rf := { s.rf with vals := s.rf.vals.filter fun e => decide (e.1 < lo ∨ hi ≤ e.1) } }

/-- The staging register of a pair discarded (R13). -/
def State.unstage (ofs : Nat) (s : State) : State := { s with rf := { s.rf with staged := s.rf.staged.filter fun e => e.1 != ofs } }

/-! ### Phases and the liveness of blocks (R342, R395) -/

/-- The start-up phase. -/
def State.phase (s : State) : Nat := s.get CAT_STATUS.PHASE

/-- The bit of GLB_BLK_RST that resets a block; none for a block that has no such reset. -/
def Blk.resetBit : Blk → Option Nat
  | .evt => some 0 | .rgs => some 1 | .loop => some 2 | .ens => some 3 | .out => some 4 | .gnss => some 5 | .mac => some 6
  | .ans => some 7 | .ptp => some 8 | .bne => some 9 | .lnk => some 10 | .pair => some 11 | .vit => some 12
  | _ => none

/-- Whether a block keeps its state through a live load (R344). Of NTS and PROV only the key store and the chain do. -/
def Blk.keptByLoad : Blk → Bool
  | .tb | .con | .hif => true
  | _ => false

/-- Whether a block has no BLK domain: a live load gives its RW fields the new image's values and resets nothing in it (R17, R344). -/
def Blk.onlyDev : Blk → Bool
  | .glb | .cat | .cdc | .irq => true
  | _ => false

/-- Whether a block runs: start-up has reached RUN, which a live load does not leave before it resets the blocks, and no BLK
reset holds the block (R342, R344, R395). -/
def State.live (s : State) (b : Blk) : Bool :=
  (s.phase == 6 || s.phase == 7) && !s.sys.coreAbsent &&
  (match b.resetBit with | some i => !s.sys.blkHeld.testBit i | none => true)

/-- Whether the CORE domain runs: start-up has passed FACTORY (R342) and its clock is present (R353). -/
def coreRuns (s : State) : Bool := decide (3 ≤ s.phase) && !s.sys.coreAbsent

/-- Whether a host write reaches a block: GLB, CAT, CDC and IRQ take writes once the factory image stands, any other block while it
runs (R342, R395). -/
def hostMay (b : Blk) (s : State) : Bool :=
  match b with
  | .glb | .cat | .cdc | .irq => coreRuns s
  | _ => s.live b

/-- Whether a host write reaches a register of a block, and of one instance of it, by BLOCK and INDEX of GLB_INST_RST: no held
reset drops it (R342, R395). -/
def State.hostReach (b : Blk) (inst : Option (Nat × Nat)) (s : State) : Bool :=
  hostMay b s && (inst.isNone || s.sys.instHeld != inst)

/-- Whether CFG_WRITES of a ledger record counts the writes of a block (R284). -/
def Blk.counted : Blk → Bool
  | .prov | .hif | .irq | .vit => false
  | _ => true

/-- CFG_WRITES advanced when a host write changed an RW field, saturating (R284). -/
def hostCount (changed : Bool) (s : State) : State :=
  if changed then { s with prov := { s.prov with cfgWrites := min (s.prov.cfgWrites + 1) (2 ^ 32 - 1) } } else s

/-- The effect of a host write on a block, dropped where a reset holds its registers; `watch` lists the registers whose RW fields the
write may change. -/
def State.hostDo (b : Blk) (inst : Option (Nat × Nat)) (watch : List Nat) (f : State → State) (s : State) : State :=
  if s.hostReach b inst then
    let t := f s
    hostCount (b.counted && watch.any fun o => t.reg o != s.reg o) t
  else s

/-- The effect of a host read that acts on a block; a read of a held register returns 0 (R342, R395). -/
def State.hostPop (b : Blk) (inst : Option (Nat × Nat)) (f : State → State) (s : State) : State :=
  if s.hostReach b inst then f s else { s with sys := { s.sys with rdata := 0 } }

/-- A counter advanced whose text says neither that it wraps nor that it saturates: past its top it holds a free value
(assumption 10). -/
def State.countOpen (f : Fld) (n : Nat) (s : State) : State :=
  if s.get f + n < 2 ^ f.width then s.put f (s.get f + n) else (s.put f s.freeVal).freeNext

/-! ### Device time -/

/-- One nanosecond in the units of device time, 2^-60 ns. -/
def nsUnit : Int := 2 ^ 60

/-- One second in the units of device time. -/
def secUnit : Int := 10 ^ 9 * 2 ^ 60

/-- One `_PH` step, 2^-16 ns (R9), in the units of device time. -/
def phUnit : Int := 2 ^ 44

/-- Pivot time of one model tick, in units of 2^-12 ns: 1 ms (R46). -/
def tickUnits : Nat := 10 ^ 6 * 4096

/-- A core cycle of 1.25 ns (R346) in pivot units of 2^-12 ns. -/
def coreUnits : Nat := 5120

/-- Device time at the pivot instant that lies `at_` units of 2^-12 ns after the last model tick: linear interpolation at the
tick's rate (R46). -/
def State.timeAt (s : State) (at_ : Nat) : Int := s.tb.dev + s.tb.adv * at_ / tickUnits

/-- Pivot time since the last restart at an instant after the last tick, in units of 2^-12 ns. -/
def State.pivotAt (s : State) (at_ : Nat) : Nat := s.tb.ticks * tickUnits + at_

/-- SEC of a device time (R43). -/
def secOf (t : Int) : Nat := (t / secUnit).toNat % 2 ^ 64

/-- NS of a device time (R43). -/
def nsOf (t : Int) : Nat := (t % secUnit / nsUnit).toNat

/-- FRAC of a device time (R43). -/
def fracOf (t : Int) : Nat := (t % nsUnit / 2 ^ 28).toNat

/-- The device time of a value in the time format (R43). -/
def timeOf (sec ns frac : Nat) : Int := sec * secUnit + ns * nsUnit + frac * 2 ^ 28

/-- An offset in units of device time as a `_PH` value: exact where it falls on a step (assumption 4). -/
def toPh (x : Int) : Int := Config.quot x phUnit

/-- A computed `_FF` or `_PH` value stored, saturating and setting the owning block's overflow flag (R10). -/
def State.putSat (ofs : Nat) (flag : Fld) (src : Nat) (x : Int) (s : State) : State :=
  if out64 x then (s.putS ofs x).setFlag flag src else s.putS ofs x

/-! ### Means and medians -/

/-- The mean of a list, zero for an empty one. -/
def meanOf (l : List Int) : Int := if l.isEmpty then 0 else Config.quot l.sum l.length

/-- An integer inserted into an ascending list. -/
def insertAsc (x : Int) : List Int → List Int
  | [] => [x]
  | y :: ys => if x ≤ y then x :: y :: ys else y :: insertAsc x ys

/-- The median: the mean of the two middle values for an even count (R170). -/
def medianOf (l : List Int) : Int :=
  let a := l.foldl (fun acc x => insertAsc x acc) []
  let n := a.length
  if n % 2 = 1 then a.getD (n / 2) 0 else Config.quot (a.getD (n / 2 - 1) 0 + a.getD (n / 2) 0) 2

/-! ### The deadline monitor (R363) -/

/-- A deadline fault of duty `d`: counted, its flag set, its interrupt raised, and noted with its
instant in device time for the escalation of R363 (assumption 11). -/
def State.deadline (d : Nat) (t : Int) (s : State) : State :=
  let s := (s.count (CON_DL_CNT.COUNT d) 1).put ⟨CON_DL_FLAGS.FAULT.ofs, d, 1⟩ 1
  let recent := (t, d) :: s.con.faults.filter (fun p => t < p.1 + secUnit)
  let esc := s.get (CON_DL_CFG.ESC d)
  let past := esc != 0 && esc < (recent.filter (fun p => p.2 == d)).length
  let s := { s with con := { s.con with faults := recent,
                                        escalated := if past then s.con.escalated ||| 2 ^ d else s.con.escalated } }
  s.raise (16 + d)

end Sys2Proof.Machine
end

