-- ==== Sys2Proof/Machine/Crossing.lean ====
section
/-! DEFINITION. The clock-domain crossings as every block uses them (18_clock_domains_and_resets.md, R353, R355, R356): what becomes of
an entry that one side writes. -/

namespace Sys2Proof.Machine

/-- A crossing flag with its interrupt (R379). -/
def cdcFlag (f : Fld) (s : State) : State := s.setFlag f 4

/-- Whether both sides of a crossing are in RUN. -/
def xsRuns (s : State) (k : Nat) : Bool := s.get (CDC_XS_STATUS.STATE_A k) == 0 && s.get (CDC_XS_STATUS.STATE_B k) == 0

/-- Whether the far side of a crossing holds its domain's logic in reset: its own reset, or its clock absent (R353). -/
def xsFarHeld (s : State) (k : Nat) : Bool := s.flag (CDC_XS_STATUS.CLK_ABSENT k) || s.get (CDC_XS_STATUS.STATE_B k) == 2

/-- Writes dropped at a crossing, counted in DROPPED with DROP_EV (R355). -/
def xsDrop (k n : Nat) (s : State) : State :=
  if n = 0 then s else cdcFlag CDC_FLAGS.DROP_EV (s.count (CDC_XS_CNT.DROPPED k) n)

/-- Entries written before the handshake, which discards and counts them (R356). -/
def xsHold (k n : Nat) (s : State) : State :=
  { s with sys := { s.sys with xsHeld := tableSet s.sys.xsHeld k ((tableGet s.sys.xsHeld k).getD 0 + n) } }

/-- `n` entries written at one side of crossing `k`, `f` being what they do on the other: in RUN they pass, in PARTNER_RESET they are
dropped and counted, in RESYNC the handshake discards them, and a side in reset writes nothing (R355, R356). -/
def State.cross (near : Bool) (k n : Nat) (f : State → State) (s : State) : State :=
  match s.get (if near then CDC_XS_STATUS.STATE_A k else CDC_XS_STATUS.STATE_B k) with
  | 0 => f s
  | 1 => xsDrop k n s
  | 3 => xsHold k n s
  | _ => s

/-- A register write carried to another domain (R347): the CORE register holds the value, which the far domain takes when the
crossing next runs; what the crossing does to the write itself is counted there (R355; assumption 177). -/
def xsWrite (k : Nat) (s : State) : State := s.cross true k 1 fun s => s

end Sys2Proof.Machine
end

