-- ==== Sys2Proof/Machine/Hif.lean ====
section
/-! DEFINITION. The DMA queues of the host interface (21_host_interface.md, R384 to R391). -/

namespace Sys2Proof.Machine

/-- Whether a queue carries elements up to the host (R384). -/
def hifUp (q : Nat) : Bool := q < 20

/-- The ring size of a queue (R385). -/
def hifSize (s : State) (q : Nat) : Nat := 2 ^ s.get (HIF_Q_CFG.SIZE_LOG2 q)

/-- The difference of two free-running 32-bit indices (R385). -/
def idxDiff (a b : Nat) : Nat := (a + 2 ^ 32 - b) % 2 ^ 32

/-- The interrupt source of a queue (R389). -/
def hifSource (q : Nat) : Nat :=
  if q < 8 then 8 else if q < 12 then 9 else if q < 20 then 10 else if q < 28 then 11 else 12

/-- A queue's internal state. -/
def hifQueue (s : State) (q : Nat) : HifQueue := s.hif.queues.getD q HifQueue.reset

/-- A queue's internal state changed. -/
def hifSetQueue (q : Nat) (f : HifQueue → HifQueue) (s : State) : State :=
  { s with hif := { s.hif with queues := s.hif.queues.modify q f } }

/-- Elements of an up queue that the host has not freed (R385). -/
def hifFill (s : State) (q : Nat) : Nat := idxDiff (s.get (HIF_Q_HEAD.HEAD q)) (s.get (HIF_Q_TAIL.TAIL q))

/-- Whether an up queue is enabled and has room (R384, R385). -/
def hifRoom (s : State) (q : Nat) : Bool := s.flag (HIF_Q_CFG.EN q) && decide (hifFill s q < hifSize s q)

/-- HEAD advanced by one, counted, and notified at the threshold (R385, R389). -/
def hifAdvance (q : Nat) (s : State) : State :=
  let s := (s.countWrap (HIF_Q_HEAD.HEAD q) 1).count (HIF_Q_ELEM.COUNT q) 1
  let n := (hifQueue s q).unnotified + 1
  let th := s.get (HIF_Q_IRQ.THRESH q)
  if th != 0 && decide (th ≤ n) then (hifSetQueue q (fun x => { x with unnotified := 0 }) s).raise (hifSource q)
  else hifSetQueue q (fun x => { x with unnotified := n }) s

/-- Bytes written to host memory, over crossing 25 (R354): a write that the crossing drops or flushes never reaches the host. -/
def hifWrite (addr : Nat) (bytes : List Byte) (s : State) : State := s.cross true 25 1 fun s => s.emit (.hostBytes addr bytes)

/-- An element written to an up queue that has room, over crossing 25: a lost one advances nothing (R354, R355; assumption 177). -/
def hifPush (q : Nat) (bytes : List Byte) (s : State) : State :=
  s.cross true 25 1 fun s => hifAdvance q (s.emit (.element q (s.get (HIF_Q_HEAD.HEAD q) % hifSize s q) bytes))

/-- A DROPS increment of a queue (R384, R389). -/
def hifDrop (q : Nat) (s : State) : State :=
  (s.count (HIF_Q_CNT.DROPS q) 1).setEvent HIF_FLAGS.DROP 13

/-- An element written, or dropped and counted at a full ring (R384). -/
def hifPushOrDrop (q : Nat) (bytes : List Byte) (s : State) : State :=
  if hifRoom s q then hifPush q bytes s else hifDrop q s

/-- Q_ERR set for a queue (R385, R390). -/
def hifError (q : Nat) (s : State) : State := (s.put (HIF_Q_CFG.Q_ERR q) 1).setEvent HIF_FLAGS.Q_ERR 14

/-- A write of HIF_Q_TAIL (R385). -/
def hifTailWrite (q v : Nat) (s : State) : State :=
  let head := s.get (HIF_Q_HEAD.HEAD q)
  let d := if hifUp q then idxDiff head v else idxDiff v head
  if hifSize s q < d then hifError q s else s.put (HIF_Q_TAIL.TAIL q) v

/-- Q_TAIL_WRITE. -/
def execQTailWrite (q : Fin 32) (v : Word) (s : State) : Host.Outcome State Fault Refusal :=
  .next (s.hostDo .hif none [] (hifTailWrite q v.toNat))

/-- QUEUE_ENABLE (R390): EN written; a queue resumes from HEAD. -/
def execQueueEnable (q : Fin 32) (en : Bool) (s : State) : Host.Outcome State Fault Refusal :=
  .next (s.hostDo .hif none [] (State.putB (HIF_Q_CFG.EN q) en))

/-- A write of HIF_Q_CFG: SIZE_LOG2 is taken only while EN = 0 and is clamped to 6 to 16; Q_ERR is W1C. -/
def hifCfgWrite (q : Nat) (w : Word) (s : State) : State :=
  let s := if s.flag (HIF_Q_CFG.EN q) then s else s.put (HIF_Q_CFG.SIZE_LOG2 q) (max 6 (min 16 (fieldOf w 1 5)))
  let s := s.putB (HIF_Q_CFG.EN q) (w.getLsbD 0)
  s.onlyIf (w.getLsbD 6) (State.put (HIF_Q_CFG.Q_ERR q) 0)

/-- The completion ring of a job queue (R388). -/
def hifCompletion (q : Nat) : Option Nat := if q = 28 then some 10 else if q = 29 then some 11 else none

/-- Whether a completion ring holds a free place that no fetched job has claimed (R388). -/
def hifPlace (s : State) (c : Nat) : Bool :=
  s.flag (HIF_Q_CFG.EN c) && decide (hifFill s c + (hifQueue s c).claims < hifSize s c)

/-- Whether a down queue may fetch its next descriptor (R385, R388, R391): a crossing that does not run returns none (R355). -/
def hifMayFetch (s : State) (q : Nat) : Bool :=
  !hifUp q && q != 31 && s.flag (HIF_Q_CFG.EN q) && !s.sys.pfailLow && xsRuns s 25 &&
  decide ((hifQueue s q).fetched.length < idxDiff (s.get (HIF_Q_TAIL.TAIL q)) (s.get (HIF_Q_HEAD.HEAD q))) &&
  (match hifCompletion q with | some c => hifPlace s c | none => true)

/-- DESCRIPTOR_FETCH (R385, R388): the next posted descriptor is fetched; a job claims its completion place. -/
def execDescriptorFetch (q : Fin 32) (bytes : List Byte) (s : State) : Host.Outcome State Fault Refusal :=
  if hifMayFetch s q then
    let s := hifSetQueue q (fun x => { x with fetched := x.fetched ++ [bytes] }) s
    .next (match hifCompletion q with
      | some c => hifSetQueue c (fun x => { x with claims := x.claims + 1 }) s
      | none => s)
  else .next s

/-- The oldest fetched descriptor of a down queue. -/
def hifDescriptor (s : State) (q : Nat) : Option (List Byte) := (hifQueue s q).fetched.head?

/-- The oldest fetched descriptor consumed (R385). -/
def hifConsume (q : Nat) (s : State) : State :=
  hifAdvance q (hifSetQueue q (fun x => { x with fetched := x.fetched.drop 1 }) s)

/-- A descriptor that breaks the rules of R387: consumed, counted and flagged. -/
def hifBadDesc (q : Nat) (s : State) : State :=
  ((hifConsume q s).count (HIF_Q_CNT.BAD_DESC q) 1).setFlag HIF_FLAGS.BAD_DESC 15

/-- A completion record written to its ring, using up the claimed place (R388). -/
def hifComplete (c : Nat) (bytes : List Byte) (s : State) : State :=
  hifPush c bytes (hifSetQueue c (fun x => { x with claims := x.claims - 1 }) s)

/-- WRITE_BACK (R385): HEAD is written to Q_WB; bits [2:0] of the address are ignored. -/
def execWriteBack (q : Fin 32) (s : State) : Host.Outcome State Fault Refusal :=
  .next (if s.flag (HIF_Q_CFG.EN q) then
    s.cross true 25 1 fun s => (s.emit (.writeBack q (s.get (HIF_Q_HEAD.HEAD q)))).emit
      (.hostBytes (s.get64 (HIF_Q_WB.ofs q) / 8 * 8) (leBytes 8 (s.get (HIF_Q_HEAD.HEAD q))))
  else s)

/-- QUEUE_TIMER (R389): an advance has gone unnotified for TIMER µs. -/
def execQueueTimer (q : Fin 32) (s : State) : Host.Outcome State Fault Refusal :=
  .next (if s.get (HIF_Q_IRQ.TIMER q) != 0 && (hifQueue s q).unnotified != 0 then
    (hifSetQueue q (fun x => { x with unnotified := 0 }) s).raise (hifSource q)
  else s)

/-- DMA_ERROR (R390): the queue stops with Q_ERR. Descriptors fetched and not consumed are fetched again from HEAD, so their
completion places are no longer claimed. -/
def execDmaError (q : Fin 32) (s : State) : Host.Outcome State Fault Refusal :=
  let n := (hifQueue s q).fetched.length
  let s := hifError q ((hifSetQueue q (fun x => { x with fetched := [] }) s).put (HIF_Q_CFG.EN q) 0)
  .next (match hifCompletion q with
    | some c => hifSetQueue c (fun x => { x with claims := x.claims - n }) s
    | none => s)

end Sys2Proof.Machine
end

