-- ==== Sys2Proof/Machine/Gains.lean ====
section
/-! DEFINITION. Products and sums with irrational factors: the filter terms of a loop (R116, R119) and the ageing term of the pivot
model (R46). The irrational constants stand with 60 decimals, and the result goes to one of the two neighbours on its grid
(assumptions 5 and 12). -/

namespace Sys2Proof.Machine

/-- 10^(r / 20) for r from 0 to 19, in units of 10^-60 (R116). -/
def tenRoots : List Nat :=
  [1000000000000000000000000000000000000000000000000000000000000, 1122018454301963435591038946477905736722308507360552962445074,
   1258925411794167210423954106395800606093617409466931069107923, 1412537544622754302155607863930240929789716150101268510911969,
   1584893192461113485202101373391507013269442133825039068316297, 1778279410038922801225421195192684844735790526402255358011831,
   1995262314968879601352455396739535557986274315405346099229914, 2238721138568339611954950852465742333707261397683803528065353,
   2511886431509580111085032067799327394158518100782475428679888, 2818382931264453819101923699155110718683043583770954002941054,
   3162277660168379331998893544432718533719555139325216826857505, 3548133892335754584332187022644906204913468320653236306803393,
   3981071705534972507702523050877520434876770372973804468652841, 4466835921509631185562505243193766163773001786080145682016724,
   5011872336272722850015541868849457680604719898328192639296975, 5623413251903490803949510397764812314682510430986916640816894,
   6309573444801932494343601366223438646729452571882287245277295, 7079457843841379108022149421893127093544329655512986813271592,
   7943282347242815020659182828363879325889606317554843320923239, 8912509381337455299531086810782969639858747829300483699479435]

/-- 2π in units of 10^-60. -/
def twoPi : Nat := 6283185307179586476925286766559005768394338798750211641949889

/-- ωn = 2π × 1 µHz × 10^(BW_CODE / 20) in units of 10^-126 rad/s (R116). -/
def omegaN (code : Nat) : Nat := twoPi * (tenRoots.getD (code % 20) 0 * 10 ^ (code / 20))

/-- kp × e in `_FF` units, for e in `_PH` units: kp = 2ζωn with ζ = ZETA / 64 (R116, R119). -/
def loopKpE (code zeta : Nat) (e : Int) : Int :=
  Config.quot (2 * zeta * omegaN code * e * 2 ^ 44) (64 * 10 ^ 135)

/-- kp × τ × e in `_PH` units, for τ in ns (R116, R119). -/
def loopKpTauE (code zeta tau : Nat) (e : Int) : Int :=
  Config.quot (2 * zeta * omegaN code * tau * e) (64 * 10 ^ 135)

/-- ki × τ × e in `_FF` units: ki = ωn² (R116, R119). -/
def loopKiTauE (code tau : Nat) (e : Int) : Int :=
  Config.quot (omegaN code * omegaN code * tau * e * 2 ^ 44) (10 ^ 270)

/-- The tail of the series z + z³ / 3 + z⁵ / 5 + ... in units of 10^-60: `p` is the power of z that comes next, `zz` is z². -/
def atanhTail (zz : Nat) : Nat → Nat → Nat → Nat
  | 0, _, _ => 0
  | k + 1, p, odd => p / odd + atanhTail zz k (p * zz / 10 ^ 60) (odd + 2)

/-- ln 2 in units of 10^-60. -/
def lnTwo : Nat := 693147180559945309417232121458176568075500134360255254120680

/-- ln(n / d) for n ≥ d > 0, in units of 10^-60: n / d = m × 2^k with m from 1 to 2, and ln m is twice the area hyperbolic tangent
of (m - 1) / (m + 1), which lies below 1 / 3. -/
def lnRatio (n d : Nat) : Nat :=
  let k := (n / d).log2
  let b := d * 2 ^ k
  let z := (n - b) * 10 ^ 60 / (n + b)
  k * lnTwo + 2 * atanhTail (z * z / 10 ^ 60) 64 z 1

/-- The ageing term age_a × ln(1 + t / age_tau) in `_FF` units, for t in units of device time and age_tau in s (R46). -/
def ageingTerm (a t : Int) (tau : Nat) : Int :=
  let one : Nat := tau * (10 ^ 9 * 2 ^ 60)
  Config.quot (a * lnRatio (one + t.toNat) one) (10 ^ 60)

end Sys2Proof.Machine
end

