-- ==== Sys2Proof/Machine/Timebase.lean ====
section
/-! DEFINITION. Device time and the timebase (02_timebase.md): the model tick, the steering owner, pending steps, verification,
UTC and leap seconds, and the time-of-day replicas. -/

namespace Sys2Proof.Machine

/-! ### Status bits that follow the state -/

/-- Whether a loop's selected reference is qualified: its incumbent is QUALIFIED or REQUALIFYING (R49, R59, R105; assumption 146). -/
def tbRefQualified (s : State) (k : Nat) : Bool :=
  s.flag (RGS_SEL_STATUS.VALID k) && [4, 5].contains (s.get (RGS_SLOT_STATUS.STATE (s.get (RGS_SEL_STATUS.SLOT k))))

/-- FREE_MEAS (R49): no owner, an owner loop without a qualified reference, in OFF, FREERUN (R120) or holdover, an ensemble owner not
started or without an ACTIVE member that had a stamp (R141), or a pending step. -/
def tbFreeMeas (s : State) : Bool :=
  let k := s.get TB_OWNER.LOOP
  match s.get TB_OWNER.KIND with
  | 1 => !s.ens.started || s.get ENS_STATUS.ACTIVE_CNT == 0 || s.flag TB_STATUS.STEP_PENDING
  | 2 => !tbRefQualified s k || [0, 1, 5].contains (s.get (LOOP_STATUS.STATE k)) || s.flag TB_STATUS.STEP_PENDING
  | _ => true

/-- JUMP_LIMIT in `_PH` units (R57). -/
def tbJumpLimit (s : State) : Int := s.getS TB_JUMP_LIMIT_PH.ofs

/-- Whether a report lies beyond JUMP_LIMIT (R59). -/
def tbBeyond (s : State) (r : Report) : Bool := tbJumpLimit s < r.x.natAbs

/-- VERIFY_DISAGREE (R59, rule 1): a report beyond the limit that an evaluation found beside one within it still stands. -/
def tbDisagree (s : State) : Bool := s.tb.reports.any fun r => r.against && tbBeyond s r

/-- The status bits that follow the state brought up to date: FREE_MEAS, SLEWING, VERIFY_DISAGREE (R49, R56, R59). -/
def tbRefresh (s : State) : State :=
  ((s.putB TB_STATUS.FREE_MEAS (tbFreeMeas s)).putB TB_STATUS.SLEWING (s.tb.residual != 0)).putB TB_STATUS.VERIFY_DISAGREE
    (tbDisagree s)

/-! ### Verified time (R64) -/

/-- VERIFIED left: the state becomes UNVERIFIED or PENDING and, where it was VERIFIED, VERIFIED_LOST is set (R64). -/
def tbLoseVerified (s : State) : State :=
  if s.flag TB_STATUS.VERIFIED then (s.put TB_STATUS.VERIFIED 0).setFlag TB_FLAGS.VERIFIED_LOST 34 else s

/-- The time becomes VERIFIED (R64); the outputs remember it (R152). -/
def tbSetVerified (s : State) : State := { s.put TB_STATUS.VERIFIED 1 with tb := { s.tb with wasVerified := true } }

/-- A report within the limit verifies UNVERIFIED time (R64); it changes nothing while a step is pending (R59). DESIGN CHOICE: the
time is verified when the report arrives, not at the model tick that weighs the standing reports (assumption 147). -/
def tbVerifyBy (x : Int) (s : State) : State :=
  if (x.natAbs : Int) ≤ tbJumpLimit s && !s.flag TB_STATUS.VERIFIED && !s.flag TB_STATUS.STEP_PENDING then
    (tbSetVerified s).put TB_STATUS.TIME_SRC 3
  else s

/-! ### Pending steps (R58 to R62) -/

/-- Model ticks from an instant to the first one that lies at least 10 µs later (R61). -/
def tbTicksTo (at_ : Nat) : Nat := if 10 ^ 4 * 4096 ≤ tickUnits - at_ then 1 else 2

/-- The pending offset authorised at an instant (R60, R61). -/
def tbAuthorise (at_ : Nat) (s : State) : State :=
  { s with tb := { s.tb with commit := some ⟨.step (s.getS TB_PEND_PH.ofs), tbTicksTo at_⟩ } }

/-- Whether a pending step is authorised: from then on TB_PEND_PH is frozen (R61). -/
def tbAuthorised (s : State) : Bool :=
  match s.tb.commit with
  | some ⟨.step _, _⟩ => s.flag TB_STATUS.STEP_PENDING
  | _ => false

/-- The pending offset and its source written, SEQ advanced (R58). -/
def tbPend (r : Report) (s : State) : State :=
  let s := s.putSat TB_PEND_PH.ofs TB_FLAGS.SAT 36 r.x
  let s := s.putB TB_PEND_INFO.SRC r.loop.isSome
  let s := s.put TB_PEND_INFO.LOOP (r.loop.getD 0)
  let s := s.countWrap TB_PEND_INFO.SEQ 1
  if r.loop.isNone then { s with tb := { s.tb with ownerPends := s.tb.ownerPends + 1 } } else s

/-- A refusal counted (R58) and, with PREAUTH set, its pending offset authorised at once (R60). -/
def tbCountRefusal (s : State) : State :=
  let s := (s.put TB_FLAGS.STEP_REFUSED 1).count TB_STEP_CNT.REFUSED 1
  if s.flag TB_STATUS.PREAUTH then tbAuthorise 0 (s.put TB_STATUS.PREAUTH 0) else s

/-- A correction refused with no step pending (R58), with the transition of R64. -/
def tbRefuse (r : Report) (s : State) : State :=
  let s := (tbPend r s).put TB_STATUS.STEP_PENDING 1
  tbCountRefusal (tbLoseVerified (s.raise 32))

/-- A correction refused while a step is pending (R56): its offset replaces TB_PEND_PH without a new interrupt (R58, R59). -/
def tbReplace (r : Report) (s : State) : State := tbCountRefusal (tbPend r s)

/-- A pending step discarded (R61, R62). -/
def tbDiscard (s : State) : State :=
  let s := s.put TB_STATUS.STEP_PENDING 0
  match s.tb.commit with
  | some ⟨.step _, _⟩ => { s with tb := { s.tb with commit := none } }
  | _ => s

/-- Whether the standing report of a source sets VERIFY_DISAGREE. -/
def tbAgainst (loop : Option Nat) (s : State) : Bool := s.tb.reports.any fun r => r.loop == loop && r.against

/-- The standing report of a source replaced (R59); what it sets of VERIFY_DISAGREE stands until the next evaluation. -/
def tbReport (loop : Option Nat) (x : Int) (s : State) : State :=
  { s with tb := { s.tb with reports := ⟨loop, x, true, tbAgainst loop s⟩ :: s.tb.reports.filter (fun r => r.loop != loop) } }

/-- The reports after an evaluation: with `rule1` every one beyond the limit sets VERIFY_DISAGREE for as long as it stands (R59). -/
def tbMark (rule1 : Bool) (s : State) : State :=
  { s with tb := { s.tb with reports := s.tb.reports.map fun r =>
    { r with fresh := false, against := (rule1 && tbBeyond s r) || (!r.fresh && r.against) } } }

/-- The reports of the verifying loops whose selected reference is not qualified lapse (R59). -/
def tbLapseLost (s : State) : State :=
  { s with tb := { s.tb with reports := s.tb.reports.filter fun r =>
    match r.loop with | some k => tbRefQualified s k | none => true } }

/-- The report of the lowest-numbered verifying loop in a list (R59). -/
def tbLowest (rs : List Report) : Option Report :=
  rs.foldl (fun best r =>
    match best, r.loop with
    | some b, some k => if k < b.loop.getD 24 then some r else some b
    | none, some _ => some r
    | best, none => best) none

/-- The report that a list of reports beyond the limit puts first: the owner's, else the lowest-numbered loop's (R59). -/
def tbFirst (rs : List Report) : Option Report :=
  match rs.find? (fun r => r.loop == none) with
  | some r => some r
  | none => tbLowest rs

/-- The evaluation of the standing reports at a model tick (R59). -/
def tbEvaluate (s : State) : State :=
  let fresh := s.tb.reports.filter (fun r => r.fresh)
  if fresh.isEmpty then s
  else if s.flag TB_STATUS.STEP_PENDING then
    let bad := fresh.filter (tbBeyond s)
    let s1 := tbMark false s
    match tbFirst bad with
    | some r => if tbAuthorised s then s1.count TB_STEP_CNT.REFUSED 1 else tbReplace r s1
    | none => s1
  else if s.tb.reports.any (fun r => !tbBeyond s r) then tbMark true s
  else match tbFirst (s.tb.reports.filter (tbBeyond s)) with
    | some r => tbRefuse r (tbMark false s)
    | none => tbMark false s

/-! ### The model tick (R46) -/

/-- The temperature in use, in units of 1/256 °C (R48). -/
def tbTheta (s : State) : Int :=
  if s.flag TB_PM_TEMP_CFG.TEXT then s.getI TB_PM_TEMP_EXT.TEMP
  else s.getI (CON_TEMP.TEMP (s.get TB_PM_TEMP_CFG.TSRC))

/-- t of R46 in units of device time: device time since the origin, not below zero. -/
def tbModelAge (s : State) : Int := max 0 (s.tb.dev - s.get64 TB_PM_ORIGIN_SEC.ofs * secUnit)

/-- e of R46 in `_FF` units. -/
def tbModelError (s : State) : Int :=
  let t := tbModelAge s
  let a := s.getS TB_PM_AGE_FF.ofs
  let tau := max 1 (s.get TB_PM_AGE_TAU.TAU)
  s.getS TB_PM_FREQ_FF.ofs
    + (if s.flag TB_CFG.DRIFT_EN then Config.quot (s.getS TB_PM_DRIFT_FF.ofs * t) (86400 * secUnit) else 0)
    + (if s.flag TB_CFG.AGEING_EN && a != 0 && t != 0 then ageingTerm a t tau else 0)
    + (if s.flag TB_CFG.TEMP_EN && !(s.flag TB_PM_TEMP_CFG.TEXT && s.flag TB_PM_TEMP.TEMP_STALE) then
        Config.quot (s.getS TB_PM_TEMPCO_FF.ofs * (tbTheta s - s.getI TB_PM_TEMP_CFG.TREF)) 256
      else 0)

/-- What the servo slews over one tick, in units of device time: the residual, limited to the slew limit times 1 ms; nothing
while a step is pending (R46, R58). -/
def tbSlew (s : State) : Int :=
  if s.flag TB_STATUS.STEP_PENDING then 0
  else
    let lim := s.getS TB_SLEW_LIM_FF.ofs * 10 ^ 6
    clampInt (-lim) lim s.tb.residual

/-- 1 ms divided by (1 + e), in units of device time (R46); a free value where 1 + e is not positive. -/
def tbRate (s : State) : Int :=
  let d := 2 ^ 60 + tbModelError s
  if 0 < d then 10 ^ 6 * Config.quot (2 ^ 120) d else s.freeVal

/-- The accepted owner update takes effect (R56). -/
def tbTakeUpdate (s : State) : State :=
  match s.tb.update with
  | some (x, y) =>
    let s := s.putSat TB_PM_FREQ_FF.ofs TB_FLAGS.SAT 36 y
    { s with tb := { s.tb with residual := x * phUnit, update := none } }
  | none => s

/-- Device time brought to the tick, and the rate and slew of the tick that begins (R46). -/
def tbAdvance (s : State) : State :=
  let s := { s with tb := { s.tb with dev := s.tb.dev + s.tb.adv, ticks := s.tb.ticks + 1 } }
  let s := s.putI TB_PM_TEMP.THETA (tbTheta s)
  let sl := tbSlew s
  let r := tbRate s
  { s with tb := { s.tb with adv := r - sl, slew := sl, residual := s.tb.residual - sl }, free := s.free + 1 }

/-- A committed change comes one tick nearer (R61). -/
def tbCountdown (s : State) : State :=
  match s.tb.commit with
  | some c => { s with tb := { s.tb with commit := some { c with wait := c.wait - 1 } } }
  | none => s

/-- TX_FOLLOW as it stands at a model tick acts on the ports' transmit clocks (R179). -/
def tbFollow (s : State) : State :=
  { s with mac := s.mac.mapIdx fun n (p : MacPort) => { p with follow := s.flag (EP_CFG.TX_FOLLOW n) } }

/-- MODEL_TICK (R46, R56, R59, R179). -/
def execModelTick (s : State) : Host.Outcome State Fault Refusal :=
  if s.live .tb then .next (tbFollow (tbRefresh (tbAdvance (tbTakeUpdate (tbEvaluate (tbCountdown s)))))) else .next s

/-- OWNER_UPDATE (R56): the pair (x, y) is accepted for the next tick or left to the evaluation of R59. -/
def tbOwnerUpdate (x y : Int) (s : State) : State :=
  let s := tbVerifyBy x (tbReport none x s)
  if s.flag TB_STATUS.STEP_PENDING || tbJumpLimit s < x.natAbs then tbRefresh s
  else tbRefresh { s with tb := { s.tb with update := some (x, y) } }

/-- OWNER_UPDATE. -/
def execOwnerUpdate (x y : Int) (s : State) : Host.Outcome State Fault Refusal :=
  if s.live .tb && s.get TB_OWNER.KIND != 0 then .next (tbOwnerUpdate (sat64 x) (sat64 y) s) else .next s

/-- A verifying loop's report (R59): taken while its bit is set in TB_VERIFY_MASK and its selected reference is qualified. -/
def tbVerifyReport (k : Nat) (x : Int) (s : State) : State :=
  if (s.get TB_VERIFY_MASK.LOOPS).testBit k && tbRefQualified s k then tbRefresh (tbVerifyBy x (tbReport (some k) x s)) else s

/-- VERIFY_REPORT. -/
def execVerifyReport (k : Fin 24) (x : Int) (s : State) : Host.Outcome State Fault Refusal :=
  if s.live .tb then .next (tbVerifyReport k (sat64 x) s) else .next s

/-- A standing report lapses (R59). -/
def tbLapse (loop : Option Nat) (s : State) : State :=
  tbRefresh { s with tb := { s.tb with reports := s.tb.reports.filter (fun r => r.loop != loop) } }

/-- STANDING_REPORT_LAPSE; `none` names the steering owner. -/
def execStandingReportLapse (loop : Option (Fin 24)) (s : State) : Host.Outcome State Fault Refusal :=
  .next (tbLapse (loop.map Fin.val) s)

/-! ### Host actions on steps (R60 to R62, R64) -/

/-- A mismatched TB_STEP_AUTH write (R60). -/
def tbMismatch (s : State) : State :=
  { s.setFlag TB_FLAGS.AUTH_MISMATCH 33 with tb := { s.tb with mismatches := s.tb.mismatches + 1 } }

/-- A write of TB_STEP_AUTH (R60): AUTH and REJECT together are ignored. DESIGN CHOICE: between an authorisation and its tick a
further AUTH with the same SEQ changes nothing and a REJECT discards the step (assumption 148). -/
def tbStepAuth (seq : Nat) (auth rej : Bool) (at_ : Nat) (s : State) : State :=
  if auth && rej then s
  else if seq != s.get TB_PEND_INFO.SEQ || (!s.flag TB_STATUS.STEP_PENDING && (auth || rej)) then tbMismatch s
  else if auth then (if tbAuthorised s then s else tbAuthorise at_ s)
  else if rej then tbRefresh (tbDiscard s)
  else s

/-- STEP_AUTH. -/
def execStepAuth (seq : BitVec 16) (at_ : Nat) (s : State) : Host.Outcome State Fault Refusal :=
  .next (s.hostDo .tb none [] (tbStepAuth seq.toNat true false at_))

/-- STEP_REJECT. -/
def execStepReject (seq : BitVec 16) (s : State) : Host.Outcome State Fault Refusal :=
  .next (s.hostDo .tb none [] (tbStepAuth seq.toNat false true 0))

/-- PREAUTH_ARM (R60). -/
def execPreauthArm (s : State) : Host.Outcome State Fault Refusal :=
  .next (s.hostDo .tb none [] (State.put TB_STATUS.PREAUTH 1))

/-- PREAUTH_CANCEL (R60). -/
def execPreauthCancel (s : State) : Host.Outcome State Fault Refusal :=
  .next (s.hostDo .tb none [] (State.put TB_STATUS.PREAUTH 0))

/-- SET_GO (R61, R62): the set value commits and a pending step is discarded, or HOST_SET_BAD. -/
def tbSetGo (at_ : Nat) (s : State) : State :=
  if 999999999 < s.get TB_SET_NS.NS then s.setFlag TB_FLAGS.HOST_SET_BAD 33
  else
    let t := timeOf (s.get64 TB_SET_SEC.ofs) (s.get TB_SET_NS.NS) (s.get TB_SET_FRAC.FRAC)
    let s := tbDiscard s
    tbRefresh { s with tb := { s.tb with commit := some ⟨.set t, tbTicksTo at_⟩ } }

/-- SET_GO. -/
def execSetGo (at_ : Nat) (s : State) : Host.Outcome State Fault Refusal :=
  .next (s.hostDo .tb none [] (tbSetGo at_))

/-- DECLARE_VERIFIED (R64): UNVERIFIED time becomes VERIFIED when HOST_VERIFY_EN = 1. -/
def tbDeclare (s : State) : State :=
  if s.flag TB_CFG.HOST_VERIFY_EN && !s.flag TB_STATUS.STEP_PENDING then tbSetVerified s else s

/-- DECLARE_VERIFIED. -/
def execDeclareVerified (s : State) : Host.Outcome State Fault Refusal :=
  .next (s.hostDo .tb none [] tbDeclare)

/-- WITHDRAW_VERIFIED (R64). -/
def execWithdrawVerified (s : State) : Host.Outcome State Fault Refusal :=
  .next (s.hostDo .tb none [] tbLoseVerified)

/-- A write of TB_CTRL: each set bit acts (TB register map). PREAUTH_CANCEL wins over PREAUTH_ARM. -/
def tbCtrl (w : Word) (at_ : Nat) (s : State) : State :=
  let s := s.onlyIf (w.getLsbD 2) (State.put TB_STATUS.PREAUTH 1)
  let s := s.onlyIf (w.getLsbD 3) (State.put TB_STATUS.PREAUTH 0)
  let s := s.onlyIf (w.getLsbD 0) (tbSetGo at_)
  let s := s.onlyIf (w.getLsbD 1) tbDeclare
  s.onlyIf (w.getLsbD 4) tbLoseVerified

/-- A device time within the range of the time format (R43); a free value where a step would carry it below zero. -/
def tbLegal (t : Int) (s : State) : Int := if 0 ≤ t then t else s.freeVal

/-- The change applied at its tick (R61) with the transitions of R64; no residual is left to slew from that tick on. The step is delivered to every replica, tagged with the
device time at which it takes effect (R66). -/
def tbApply (c : Change) (s : State) : State :=
  let t := match c with | .step x => tbLegal (s.tb.dev - x * phUnit) s | .set t => t
  let move := t - s.tb.dev
  let tag := s.tb.dev
  let s := { s with
    tb := { s.tb with dev := t, adv := s.tb.adv + s.tb.slew, slew := 0, residual := 0, commit := none, update := none, reports := [],
                      replicas := s.tb.replicas.map (fun (r : Replica) => { r with steps := r.steps ++ [(tag, move)] }) },
    free := s.free + 1 }
  let s := (s.put TB_STATUS.STEP_PENDING 0).count TB_STEP_CNT.APPLIED 1
  let s := match c with
    | .step _ => s.setFlag TB_FLAGS.STEP_APPLIED 33
    | .set _ => tbLoseVerified ((s.setFlag TB_FLAGS.HOST_SET 33).put TB_STATUS.TIME_SRC 2)
  tbRefresh s

/-! ### UTC and leap seconds (R50 to R53) -/

/-- The offset of the UTC views at a device-time second, and whether that second is an inserted one (R52). -/
def tbUtcAt (s : State) (sec : Nat) : Int × Bool :=
  match s.tb.leap with
  | some l =>
    if l.sL ≤ sec then (l.oNew, false)
    else if !l.delete && sec + 1 = l.sL then (l.oNew, true)
    else (s.tb.utcOfs, false)
  | none => (s.tb.utcOfs, false)

/-- The leap indications at a device-time second (R52, R53). -/
def tbLeapView (s : State) (sec : Nat) : LeapView :=
  match s.tb.leap with
  | some l =>
    let ntp := l.sL - s.get TB_LEAP_WARN_NTP.WINDOW ≤ sec && sec < l.sL
    let ptp := l.sL - s.get TB_LEAP_WARN_PTP.WINDOW ≤ sec && sec < l.sL
    ⟨if ntp then (if l.delete then 2 else 1) else 0, ptp && !l.delete, ptp && l.delete, (tbUtcAt s sec).2⟩
  | none => ⟨0, false, false, false⟩

/-- Seconds since 1900-01-01 00:00:00 UTC at a device-time second (R52). -/
def tbNtpTotal (s : State) (sec : Nat) : Int := sec - (tbUtcAt s sec).1 + 2208988800

/-- The NTP fraction of a device time (R52). -/
def tbNtpFrac (t : Int) : Nat := (nsOf t * 2 ^ 32 + fracOf t) / 10 ^ 9

/-- UTC_OFS_WRITE (R50): the written value reads back; it comes into force at the next whole second. -/
def execUtcOfsWrite (v : BitVec 16) (s : State) : Host.Outcome State Fault Refusal :=
  .next (s.hostDo .tb none [TB_UTC_OFS.ofs] (State.put TB_UTC_OFS.OFS v.toNat))

/-- UTC_OFS_IN_FORCE (R50). -/
def execUtcOfsInForce (s : State) : Host.Outcome State Fault Refusal :=
  .next { s with tb := { s.tb with utcOfs := s.getI TB_UTC_OFS.OFS } }

/-- The leap indications brought to an instant (R53). -/
def tbWarn (at_ : Nat) (s : State) : State :=
  { s with tb := { s.tb with warn := tbLeapView s (secOf (s.timeAt at_)) } }

/-- The leap disarmed at once; ignored during an inserted second (R51). -/
def tbDisarm (at_ : Nat) (s : State) : State :=
  if (tbUtcAt s (secOf (s.timeAt at_))).2 then s
  else
    { s.put TB_LEAP_CFG.ARM 0 with tb := { s.tb with leap := none, warn := ⟨0, false, false, false⟩ } }

/-- Whether the leap schedule fails a check of R51. -/
def tbLeapRefused (s : State) (delete : Bool) (t : Int) : Bool :=
  let sL : Int := s.get64 TB_LEAP_TAI.ofs
  let o := s.tb.utcOfs
  (sL - (o + (if delete then -1 else 1))) % 86400 != 0 || sL * secUnit < t + 86400 * secUnit ||
    (secOf t == 0 && s.get TB_STATUS.TIME_SRC == 0)

/-- The leap armed, or refused with LEAP_BAD (R51); an arm discards a staged half of TB_LEAP_TAI. -/
def tbArm (delete : Bool) (at_ : Nat) (s : State) : State :=
  if s.tb.leap.isSome then s
  else
    let s := s.putB TB_LEAP_CFG.DIR delete
    if tbLeapRefused s delete (s.timeAt at_) then s.setFlag TB_FLAGS.LEAP_BAD 35
    else tbWarn at_ { (s.put TB_LEAP_CFG.ARM 1).unstage TB_LEAP_TAI.ofs with
      tb := { s.tb with leap := some ⟨s.get64 TB_LEAP_TAI.ofs, delete, s.tb.utcOfs + (if delete then -1 else 1)⟩ } }

/-- A write of TB_LEAP_CFG (R51). -/
def tbLeapCfg (w : Word) (at_ : Nat) (s : State) : State :=
  if w.getLsbD 0 then tbArm (w.getLsbD 1) at_ s
  else if s.tb.leap.isSome then tbDisarm at_ s
  else s.putB TB_LEAP_CFG.DIR (w.getLsbD 1)

/-- LEAP_ARM. -/
def execLeapArm (delete : Bool) (at_ : Nat) (s : State) : Host.Outcome State Fault Refusal :=
  .next (s.hostDo .tb none [TB_LEAP_CFG.ofs] (tbArm delete at_))

/-- LEAP_DISARM. -/
def execLeapDisarm (at_ : Nat) (s : State) : Host.Outcome State Fault Refusal :=
  .next (s.hostDo .tb none [TB_LEAP_CFG.ofs] (State.onlyIf s.tb.leap.isSome (tbDisarm at_)))

/-- LEAP_WARNING (R53). -/
def execLeapWarning (at_ : Nat) (s : State) : Host.Outcome State Fault Refusal := .next (tbWarn at_ s)

/-- LEAP_INSERTED_SECOND (R52). -/
def execLeapInsertedSecond (at_ : Nat) (s : State) : Host.Outcome State Fault Refusal := .next (tbWarn at_ s)

/-- The leap completes once device time has reached S_L (R52). -/
def tbLeapDone (at_ : Nat) (s : State) : State :=
  match s.tb.leap with
  | some l =>
    if l.sL ≤ secOf (s.timeAt at_) then
      let s := ((s.putI TB_UTC_OFS.OFS l.oNew).put TB_LEAP_CFG.ARM 0).setFlag TB_FLAGS.LEAP_DONE 35
      { s with tb := { s.tb with utcOfs := l.oNew, leap := none, warn := ⟨0, false, false, false⟩ } }
    else s
  | none => s

/-- LEAP_DONE. -/
def execLeapDone (at_ : Nat) (s : State) : Host.Outcome State Fault Refusal := .next (tbLeapDone at_ s)

/-! ### The capture of R45 -/

/-- Device time and its views captured in one core cycle (R45, R52 to R54). -/
def tbCapture (t : Int) (s : State) : State :=
  let sec := secOf t
  let v := tbLeapView s sec
  let n := tbNtpTotal s sec
  let s := s.put64 TB_TIME_SEC.ofs sec
  let s := (s.put TB_TIME_NS.NS (nsOf t)).put TB_TIME_FRAC.FRAC (fracOf t)
  let s := s.putI TB_NTP_ERA.ERA (n / 2 ^ 32)
  let s := (s.put TB_NTP_SEC.SEC (n % 2 ^ 32).toNat).put TB_NTP_FRAC.FRAC (tbNtpFrac t)
  let s := (s.put TB_UTC_STATE.LI v.li).putB TB_UTC_STATE.LEAP61 v.leap61
  (s.putB TB_UTC_STATE.LEAP59 v.leap59).putB TB_UTC_STATE.IN_LEAP v.inLeap

/-! ### Temperature (R48) -/

/-- A write of TB_PM_TEMP_EXT: the value, and TEMP_STALE clears (R48). -/
def tbTempExt (v : Nat) (s : State) : State := (s.put TB_PM_TEMP_EXT.TEMP v).put TB_PM_TEMP.TEMP_STALE 0

/-- TEMP_EXT_WRITE. -/
def execTempExtWrite (v : BitVec 16) (s : State) : Host.Outcome State Fault Refusal :=
  .next (s.hostDo .tb none [TB_PM_TEMP_EXT.ofs] (tbTempExt v.toNat))

/-- TEMP_STALE (R48): with TEXT = 1, 10 s have passed without a write of TB_PM_TEMP_EXT. -/
def execTempStale (s : State) : Host.Outcome State Fault Refusal :=
  .next (s.onlyIf (s.flag TB_PM_TEMP_CFG.TEXT) (State.put TB_PM_TEMP.TEMP_STALE 1))

/-! ### Replicas (R66, R67) -/

/-- One replica of the list changed. -/
def tbSetReplica (k : Nat) (f : Replica → Replica) (s : State) : State :=
  { s with tb := { s.tb with replicas := s.tb.replicas.modify k f } }

/-- A replica's state written to its status register, with LOCKED (R67). -/
def tbRepState (k state : Nat) (s : State) : State :=
  (s.put (TB_REP_STATUS.STATE k) state).putB (TB_REP_STATUS.LOCKED k) (state == 2)

/-- A replica loaded from core time, its rate word nominal, in ACQUIRE (R67): the row of OFF and that of a comparison outside
±1 ns. -/
def tbRepLoad (k : Nat) (s : State) : State := tbRepState k 1 (tbSetReplica k (fun _ => Replica.off) s)

/-- A replica started when its port or link is enabled and its clock is present (R67): its crossing runs (R356, R357). -/
def tbRepStart (k : Nat) (s : State) : State :=
  if s.get (TB_REP_STATUS.STATE k) = 0 ∧ xsRuns s (k + 1) ∧ s.flag (CDC_XS_STATUS.CLK_ABSENT (k + 1)) = false then tbRepLoad k s else s

/-- A replica taken OFF (R67). -/
def tbRepOff (k : Nat) (s : State) : State := tbRepState k 0 (tbSetReplica k (fun _ => Replica.off) s)

/-- A phase comparison of a running replica (R67). The error is replica minus core time in units of 2^-16 ns; the trimmed rate
word is a free value, with which the replica keeps its error until the next comparison 320 ns later (assumption 149). -/
def tbRepCompare (k : Nat) (err : Int) (s : State) : State :=
  let st := s.get (TB_REP_STATUS.STATE k)
  if st = 0 then s
  else
    let good := decide (10 * err.natAbs ≤ 65536)
    let run := if good then ((s.tb.replicas.getD k Replica.off).run + 1) else 0
    let trim := s.freeVal
    let s := (s.putI (TB_REP_ERR.ERR k) (clampInt (-0x80000000) 0x7fffffff err)).freeNext
    let s := tbSetReplica k (fun r => { r with run := run, err := err, rate := trim }) s
    if st = 2 then
      if 65536 < 5 * err.natAbs then
        ((tbSetReplica k (fun r => { r with run := 0 }) (tbRepState k 3 s)).count (TB_REP_STATUS.ALARM_CNT k) 1).setEvent
          TB_FLAGS.REPLICA_ALARM 36
      else s
    else if 65536 < err.natAbs then tbRepLoad k s
    else if 64 ≤ run then tbRepState k 2 s
    else s

/-- REPLICA_COMPARE. -/
def execReplicaCompare (k : Fin 24) (err : Int) (s : State) : Host.Outcome State Fault Refusal :=
  .next (tbRepCompare k err s)

/-- REPLICA_STEP (R66): the replica's time reaches the tag of its oldest step and the step is applied. -/
def execReplicaStep (k : Fin 24) (s : State) : Host.Outcome State Fault Refusal :=
  .next (tbSetReplica k (fun r => { r with steps := r.steps.drop 1 }) s)

/-- The time of replica `k` at an instant (R66, R67): device time with the replica's error against it, without the steps that the
replica has not applied yet. -/
def repTime (s : State) (k at_ : Nat) : Int :=
  let r := s.tb.replicas.getD k Replica.off
  s.timeAt at_ + r.err * phUnit - (r.steps.map (·.2)).sum

end Sys2Proof.Machine
end

