-- ==== Sys2Proof/Machine/EventTimer.lean ====
section
/-! DEFINITION. The event timing channels (03_event_timer.md): stamps, records, pairing, and the calibration rotation. -/

namespace Sys2Proof.Machine

/-! ### Channels and banks -/

/-- A channel's internal state. -/
def evtChan (s : State) (n : Nat) : EvtChan := s.evt.chans.getD n EvtChan.reset

/-- A channel's internal state changed. -/
def evtSetChan (n : Nat) (f : EvtChan → EvtChan) (s : State) : State :=
  { s with evt := { s.evt with chans := s.evt.chans.modify n f } }

/-- A bank's internal state. -/
def evtBank (s : State) (b : Nat) : EvtBank := s.evt.banks.getD b EvtBank.reset

/-- A bank's internal state changed. -/
def evtSetBank (b : Nat) (f : EvtBank → EvtBank) (s : State) : State :=
  { s with evt := { s.evt with banks := s.evt.banks.modify b f } }

/-- FILL of a channel follows its queue (R80). -/
def evtFill (n : Nat) (s : State) : State := s.put (EVT_CH_QUEUE.FILL n) (evtChan s n).queue.length

/-- The event timer's bank interrupt (R379) raised with a bank flag. -/
def evtBankFlag (b : Nat) (f : Fld) (s : State) : State := s.setFlag f (96 + b)

/-! ### Which stamper serves (R24, R87, R88) -/

/-- Whether the relief stamper of the bank takes a channel's edges at a pivot instant: in SERVE and SPARE always, during a
hand-over on the relief side of T_sw (R88). -/
def evtByRelief (s : State) (n piv : Nat) : Bool :=
  let b := n / 16
  s.get (EVT_BK_STATUS.RELIEF_POS b) == n % 16 && s.flag (EVT_CH_CFG.EN n) &&
  (match s.get (EVT_BK_STATUS.RELIEF_STATE b), (evtBank s b).tsw with
   | 2, some t => decide (t ≤ piv)
   | 3, _ => true
   | 4, some t => decide (piv < t)
   | 5, _ => true
   | _, _ => false)

/-- The calibration state of the stamper that takes an edge: 0 none since restart, 1 current, 2 stale (R76). -/
def evtCalState (s : State) (n : Nat) (relief : Bool) : Nat :=
  if relief then (evtBank s (n / 16)).reliefCal else s.get (EVT_CH_STATUS.CAL_STATE n)

/-- Whether the timing matrix routes a channel to the pair comparison (R33, R77). -/
def evtPairRouted (s : State) (n : Nat) : Bool := s.flag PAIR_BIND.VALID && s.get PAIR_BIND.CH == n

/-! ### Records -/

/-- The record time of a stamp: device time less the channel offset, rounded to the nearest 2^-12 ns, half up (R73). -/
def evtRecordTime (s : State) (n at_ : Nat) : Int :=
  (s.timeAt at_ - s.getS (EVT_CH_OFS_PH.ofs n) * phUnit + 2 ^ 47) / 2 ^ 48

/-- FLAGS bits 3, 4 and 6, as they stand at the stamp instant (R76). -/
def evtBaseFlags (s : State) (n : Nat) (relief : Bool) : Nat :=
  let cal := evtCalState s n relief
  8 * bit (cal == 1 && !s.flag (EVT_CH_STATUS.SETTLING n)) + 16 * bit (cal == 0) + 64 * bit (tbFreeMeas s)

/-- FLAGS bits 0 and 5: what befell the channel before the record that it stores next (R75, R76). -/
def evtMarks (s : State) (n : Nat) : Nat :=
  let c := evtChan s n
  bit (c.loss || c.destroyed) + 32 * bit c.ovf

/-- A record stored in its channel queue in SEQ order, or dropped at a full queue (R75, R80). -/
def evtStore (n : Nat) (r : EvtRec) (s : State) : State :=
  let c := evtChan s n
  if 4096 ≤ c.queue.length then
    (evtSetChan n (fun c => { c with ovf := true }) s).countOpen (EVT_CH_LOST_OTHER.OVF n) 1
  else
    let s := evtSetChan n (fun c =>
      { c with queue := c.queue ++ [{ r with seq := c.seq }], seq := (c.seq + 1) % 2 ^ 16,
               loss := false, ovf := false, destroyed := false }) s
    evtFill n (s.count (EVT_CH_RECORDS.COUNT n) 1)

/-- Whether a new record of a channel would be stored: HOST_EN, no power-fail hold, room in the queue (R80, R82). -/
def evtStores (s : State) (n : Nat) : Bool :=
  s.flag (EVT_CH_CFG.HOST_EN n) && !s.flag EVT_STATUS.PFAIL_HOLD && decide ((evtChan s n).queue.length < 4096)

/-- SEC of a record time in units of device time; a time below zero has none to show (R43; assumption 150). -/
def evtSec (t : Int) : Nat := if 0 ≤ t then secOf t else Config.secBelowZero t

/-- The little-endian bytes of a record (R74). -/
def evtBytes (n : Nat) (r : EvtRec) : List Byte :=
  let t := r.t * 2 ^ 48
  let w1 := nsOf t + (if r.rising then 1 else 2) * 2 ^ 30
  let w2 := (r.t % 4096).toNat + n * 2 ^ 12 + r.flags * 2 ^ 20 + r.src * 2 ^ 28
  leBytes 4 (evtSec t) ++ leBytes 4 w1 ++ leBytes 4 w2 ++ leBytes 4 r.seq

/-! ### Pairing (R83 to R85) -/

/-- The window W of a stop channel in units of 2^-12 ns (R83). -/
def evtWindow (s : State) (n : Nat) : Int := max 1 (s.get (EVT_CH_PAIR_WIN.W n)) * 4096

/-- The first held record of a queue changed by a function. -/
def evtFirstHeld (f : EvtRec → EvtRec) : List EvtRec → List EvtRec
  | [] => []
  | r :: rs => if r.held then f r :: rs else r :: evtFirstHeld f rs

/-- A record released by pairing with its flags (R84). -/
def EvtRec.release (flags : Nat) (r : EvtRec) : EvtRec := { r with held := false, flags := r.flags ||| flags }

/-- The oldest waiting stop released with flags (R84). -/
def evtReleaseOldest (n flags : Nat) (s : State) : State :=
  match (evtChan s n).waiting with
  | [] => s
  | (_, stored) :: ws =>
    evtSetChan n (fun c =>
      { c with waiting := ws, queue := if stored then evtFirstHeld (EvtRec.release flags) c.queue else c.queue }) s

/-- Starts older than W expire, oldest first (R84). -/
def evtExpireStarts (now w : Int) : List Int → List Int × Nat
  | [] => ([], 0)
  | t :: ts => if w < now - t then let r := evtExpireStarts now w ts; (r.1, r.2 + 1) else (t :: ts, 0)

/-- How many waiting stops are older than W (R84). -/
def evtOldStops (now w : Int) : List (Int × Bool) → Nat
  | [] => 0
  | (t, _) :: ts => if w < now - t then evtOldStops now w ts + 1 else 0

/-- `k` waiting stops released unpaired and counted (R84). -/
def evtReleaseUnpaired (n : Nat) : Nat → State → State
  | 0, s => s
  | k + 1, s => evtReleaseUnpaired n k ((evtReleaseOldest n 0 s).countOpen (EVT_CH_PAIR_CNT2.UNP_STOP n) 1)

/-- expire(now) of R84 for a stop channel. -/
def evtExpire (n : Nat) (now : Int) (s : State) : State :=
  let w := evtWindow s n
  let r := evtExpireStarts now w (evtChan s n).starts
  let s := (evtSetChan n (fun c => { c with starts := r.1 }) s).countOpen (EVT_CH_PAIR_CNT1.UNP_START n) r.2
  evtReleaseUnpaired n (evtOldStops now w (evtChan s n).waiting) s

/-- The pairing flags of a difference d: bit 2 reversed, bit 1 unresolved (R84). -/
def evtPairFlags (d : Int) : Nat := 4 * bit (d < 0) + 2 * bit (d.natAbs ≤ 18)

/-- The counters and the last interval of a pair (R84): d × 16 in `_PH` units. -/
def evtPaired (n : Nat) (d : Int) (s : State) : State :=
  let s := (s.putS (EVT_CH_PAIR_LAST_PH.ofs n) (d * 16)).countOpen (EVT_CH_PAIR_CNT0.PAIRED n) 1
  let s := s.onlyIf (d < 0) (State.countOpen (EVT_CH_PAIR_CNT1.REVERSED n) 1)
  s.onlyIf (decide (d.natAbs ≤ 18)) (State.countOpen (EVT_CH_PAIR_CNT0.UNRESOLVED n) 1)

/-- A list shortened to 15 entries before a 16th is held, with the number dropped (R84). -/
def evtOverfull {α : Type} (l : List α) : Nat := l.length - 15

/-- on start s of R84, for stop channel `n`. -/
def evtOnStart (n : Nat) (t : Int) (s : State) : State :=
  let s := evtExpire n t s
  match (evtChan s n).waiting with
  | (p, _) :: _ => evtPaired n (p - t) (evtReleaseOldest n (evtPairFlags (p - t)) s)
  | [] =>
    let k := evtOverfull (evtChan s n).starts
    (evtSetChan n (fun c => { c with starts := c.starts.drop k ++ [t] }) s).countOpen (EVT_CH_PAIR_CNT1.UNP_START n) k

/-- The stop channels that a channel's edge starts (R83). -/
def evtStopsOf (s : State) (ch : Nat) (rising : Bool) : List Nat :=
  (List.range 128).filter fun n =>
    s.flag (EVT_CH_PAIR.PAIR_EN n) && s.get (EVT_CH_PAIR.START n) == ch && s.flag (EVT_CH_PAIR.START_EDGE n) == !rising

/-- Whether an edge is a stop of its own channel (R83). -/
def evtIsStop (s : State) (ch : Nat) (rising : Bool) : Bool :=
  s.flag (EVT_CH_PAIR.PAIR_EN ch) && s.flag (EVT_CH_PAIR.STOP_EDGE ch) == !rising

/-- on stop p of R84 for stop channel `n`, whose record is stored and held where `stored`: it pairs with the oldest start, or waits. -/
def evtOnStop (n : Nat) (p : Int) (stored : Bool) (s : State) : State :=
  let s := evtExpire n p s
  match (evtChan s n).starts with
  | t :: ts =>
    let d := p - t
    evtPaired n d (evtSetChan n (fun c =>
      { c with starts := ts, queue := if stored then evtFirstHeld (EvtRec.release (evtPairFlags d)) c.queue else c.queue }) s)
  | [] =>
    let s := evtReleaseUnpaired n (evtOverfull (evtChan s n).waiting) s
    evtSetChan n (fun c => { c with waiting := c.waiting ++ [(p, stored)] }) s

/-- A start or a stop placed in stamp order among those that pairing has not processed: a start before a stop of equal stamp (R84). -/
def evtInsert (t : Int) (e : Option Bool) : List (Int × Option Bool) → List (Int × Option Bool)
  | [] => [(t, e)]
  | (u, f) :: l => if t < u || (t == u && e.isNone && f.isSome) then (t, e) :: (u, f) :: l else (u, f) :: evtInsert t e l

/-- Whether pairing may process a start or a stop of stamp `t`, where an edge yet to come on the start channel has a stamp of `hs` or
later and one on the stop channel `hp` or later: none of them may come before it (R84). A stop of stamp `hs` waits for a start of
equal stamp only where that start would displace an entry. -/
def evtMayPair (s : State) (n : Nat) (hs hp t : Int) (stop : Bool) : Bool :=
  if stop then decide (t < hs) || (t == hs && decide ((evtChan s n).starts.length < 16 ∧ (evtChan s n).waiting.length < 16))
  else decide (t ≤ min hs hp)

/-- The starts and stops of a stop channel that pairing may process, in stamp order; the rest stays (R84; assumption 151). -/
def evtPairRun (n : Nat) (hs hp : Int) : List (Int × Option Bool) → State → State
  | [], s => evtSetChan n (fun c => { c with ahead := [] }) s
  | (t, e) :: l, s =>
    if evtMayPair s n hs hp t e.isSome then
      evtPairRun n hs hp l (match e with | none => evtOnStart n t s | some stored => evtOnStop n t stored s)
    else evtSetChan n (fun c => { c with ahead := (t, e) :: l }) s

/-- Pairing of a stop channel brought to an instant: an edge that its start or its own channel stamps from now on has at least the
record time of that instant (R73). -/
def evtPairTo (n at_ : Nat) (s : State) : State :=
  evtPairRun n (evtRecordTime s (s.get (EVT_CH_PAIR.START n)) at_) (evtRecordTime s n at_) (evtChan s n).ahead s

/-- A start or a stop handed to the pairing of stop channel `n` at an instant. -/
def evtPairIn (n : Nat) (t : Int) (e : Option Bool) (at_ : Nat) (s : State) : State :=
  evtPairTo n at_ (evtSetChan n (fun c => { c with ahead := evtInsert t e c.ahead }) s)

/-- The stops of a stop channel that pairing has not processed join its waiting stops, and its starts are discarded. -/
def evtFlushAhead (n : Nat) (s : State) : State :=
  evtSetChan n (fun c => { c with
    starts := [], ahead := [],
    waiting := c.waiting ++ c.ahead.filterMap fun e => e.2.map fun stored => (e.1, stored) }) s

/-- The pairing state of a stop channel cleared: starts discarded, waiting stops released unflagged and counted (R83). -/
def evtClearPairing (n : Nat) (s : State) : State :=
  let s := evtFlushAhead n s
  evtReleaseUnpaired n (evtChan s n).waiting.length s

/-! ### EDGE (R73, R78 to R85) -/

/-- A selected edge lost before a record: counted, and the next record carries loss-before (R78, R82, R90). -/
def evtLose (n : Nat) (f : State → State) (s : State) : State := f (evtSetChan n (fun c => { c with loss := true }) s)

/-- The diagnostic registers of the last stamp (R73). -/
def evtRaw (n piv : Nat) (relief : Bool) (s : State) : State :=
  let s := s.put64 (EVT_CH_RAW.ofs n) (piv / 2560)
  (s.put (EVT_CH_RAW_FINE.FINE n) (piv % 2560)).putB (EVT_CH_RAW_FINE.BY_RELIEF n) relief

/-- The stamp of an edge at an instant (R73, R76, R77). -/
def evtStampAt (s : State) (ch : Nat) (rising : Bool) (at_ : Nat) : EvtStamp :=
  let piv := s.pivotAt at_
  let relief := evtByRelief s ch piv
  { ch := ch, rising := rising, piv := piv, t := evtRecordTime s ch at_, relief := relief,
    src := if evtPairRouted s ch then 3 else if relief then 1 else 0, flags := evtBaseFlags s ch relief }

/-- What a selected edge yields on the T-die: its stamp; or its loss, in a forced pass whatever the dead time (R78, R90). No edge is
taken during a pivot fault (R32), on a disabled channel, or on an edge that EDGE does not select. -/
def evtEdge (s : State) (ch : Nat) (rising : Bool) (at_ : Nat) : Option EvtCross :=
  let piv := s.pivotAt at_
  let sel := s.get (EVT_CH_CFG.EDGE ch)
  if s.sys.pivotFault || !s.live .evt || !s.flag (EVT_CH_CFG.EN ch) || !sel.testBit (if rising then 0 else 1) then none
  else if (evtBank s (ch / 16)).forced == some (ch % 16) then some (.forced ch)
  else if (match (evtChan s ch).last with | some l => decide (piv < l + 20 * 4096) | none => false) then some (.dead ch)
  else some (.stamp (evtStampAt s ch rising at_))

/-- A stamp's record, as its channel stores it next. -/
def EvtStamp.record (x : EvtStamp) (s : State) (held : Bool) : EvtRec :=
  { t := x.t, rising := x.rising, flags := x.flags + evtMarks s x.ch, src := x.src, seq := 0, held := held }

/-- A stamp that has crossed to the D-die: its raw value, its record and its pairing (R73, R80 to R85). Under PFAIL_HOLD an edge that
would have made a record is lost and never pairs; without HOST_EN pairing goes on (R82, R85). -/
def evtAccept (x : EvtStamp) (at_ : Nat) (s : State) : State :=
  let ch := x.ch
  let s := evtSetChan ch (fun c => { c with stamp := some x.t }) (evtRaw ch x.piv x.relief s)
  let host := s.flag (EVT_CH_CFG.HOST_EN ch)
  if s.flag EVT_STATUS.PFAIL_HOLD && host then evtLose ch (State.countOpen (EVT_CH_LOST_OTHER.OTHER ch) 1) s
  else
    let s := (evtStopsOf s ch x.rising).foldl (fun s n => evtPairIn n x.t none at_ s) s
    let stop := evtIsStop s ch x.rising
    let stored := evtStores s ch
    let s := if host then evtStore ch (x.record s stop) s else s
    if stop then evtPairIn ch x.t (some stored) at_ s else s

/-- What the D-die makes of an edge's word when it is no stamp: a counted loss (R78, R90). -/
def evtLost (x : EvtCross) (s : State) : State :=
  match x with
  | .stamp _ => s
  | .dead ch => evtLose ch (State.count (EVT_CH_LOST_DEAD.COUNT ch) 1) s
  | .forced ch => evtLose ch (State.countOpen (EVT_CH_LOST_OTHER.OTHER ch) 1) s

/-- The bank of a stamp held through a retrain. -/
def EvtCross.bank (x : EvtCross) : Option Nat := match x with | .stamp y => some (y.ch / 16) | _ => none

/-- An edge's word held on the T-die through a retrain: at most 2,048 stamps a bank, one beyond them being dropped at the crossing
(R350, R355). -/
def evtHold (x : EvtCross) (s : State) : State :=
  if x.bank.isSome && decide (2048 ≤ (s.evt.held.filter fun y => y.bank == x.bank).length) then xsDrop 0 1 s
  else { s with evt := { s.evt with held := s.evt.held ++ [x] } }

/-- PAIR_EXPIRY (R84): expiry as device time passes, once pairing has processed what comes before. -/
def execPairExpiry (ch : Fin 128) (at_ : Nat) (s : State) : Host.Outcome State Fault Refusal :=
  .next (if s.flag (EVT_CH_PAIR.PAIR_EN ch) then
    let s := evtPairTo ch at_ s
    if (evtChan s ch).ahead.isEmpty then evtExpire ch (s.timeAt at_ / 2 ^ 48) s else s
  else s)

/-- A write of EVT_CH_PAIR or EVT_CH_PAIR_WIN (R83). A configuration whose start is its own stop is refused with CFG_BAD, and
PAIR_EN stays 0. DESIGN CHOICE: the refused write's START, START_EDGE and STOP_EDGE are stored, and the same values with PAIR_EN = 0
are stored without CFG_BAD (assumption 152). -/
def evtPairWrite (n : Nat) (window : Bool) (v : Word) (s : State) : State :=
  let s := evtClearPairing n s
  if window then s.put (EVT_CH_PAIR_WIN.W n) (min (10 ^ 9) (fieldOf v 0 30))
  else
    let bad := v.getLsbD 0 && fieldOf v 1 7 == n && v.getLsbD 8 == v.getLsbD 9
    let s := (s.put (EVT_CH_PAIR.START n) (fieldOf v 1 7)).putB (EVT_CH_PAIR.START_EDGE n) (v.getLsbD 8)
    let s := s.putB (EVT_CH_PAIR.STOP_EDGE n) (v.getLsbD 9)
    if bad then evtBankFlag (n / 16) (EVT_BK_FLAGS.CFG_BAD (n / 16)) (s.put (EVT_CH_PAIR.PAIR_EN n) 0)
    else s.putB (EVT_CH_PAIR.PAIR_EN n) (v.getLsbD 0)

/-- PAIR_CONFIG_WRITE. -/
def execPairConfigWrite (ch : Fin 128) (window : Bool) (v : Word) (s : State) : Host.Outcome State Fault Refusal :=
  .next (s.hostDo .evt (some (0, ch)) [EVT_CH_PAIR.ofs ch, EVT_CH_PAIR_WIN.ofs ch] (evtPairWrite ch window v))

/-- A write of EVT_CH_CFG or EVT_CH_THRESH: a changed front-end field starts settling (R70, R72); EN of a channel in an
unpowered bank stays 0 (R333). -/
def evtFrontWrite (n : Nat) (thresh : Bool) (v : Word) (s : State) : State :=
  let s := xsWrite 0 s
  if thresh then
    let th := patternOf 16 (clampInt (-1000) 2500 (signedOf 16 (fieldOf v 0 16)))
    let changed := th != s.get (EVT_CH_THRESH.THRESH n) || fieldOf v 16 5 != s.get (EVT_CH_THRESH.HYST n)
    let s := (s.put (EVT_CH_THRESH.THRESH n) th).put (EVT_CH_THRESH.HYST n) (fieldOf v 16 5)
    s.onlyIf changed (State.put (EVT_CH_STATUS.SETTLING n) 1)
  else
    let changed := v.getLsbD 1 != s.flag (EVT_CH_CFG.MODE n) || v.getLsbD 2 != s.flag (EVT_CH_CFG.TERM n)
    let powered := s.flag (EVT_BK_STATUS.READY (n / 16))
    let s := s.onlyIf powered (State.putB (EVT_CH_CFG.EN n) (v.getLsbD 0))
    let s := (s.putB (EVT_CH_CFG.MODE n) (v.getLsbD 1)).putB (EVT_CH_CFG.TERM n) (v.getLsbD 2)
    let s := (s.put (EVT_CH_CFG.EDGE n) (fieldOf v 3 2)).putB (EVT_CH_CFG.HOST_EN n) (v.getLsbD 5)
    s.onlyIf changed (State.put (EVT_CH_STATUS.SETTLING n) 1)

/-- FRONT_END_WRITE. -/
def execFrontEndWrite (ch : Fin 128) (thresh : Bool) (v : Word) (s : State) : Host.Outcome State Fault Refusal :=
  .next (s.hostDo .evt (some (0, ch)) [EVT_CH_CFG.ofs ch, EVT_CH_THRESH.ofs ch] (evtFrontWrite ch thresh v))

/-- SETTLING_DONE (R72). -/
def execSettlingDone (ch : Fin 128) (s : State) : Host.Outcome State Fault Refusal :=
  .next (s.put (EVT_CH_STATUS.SETTLING ch) 0)

/-! ### Commitment (R81) -/

/-- The oldest record of a channel, where it is releasable. -/
def evtReleasable (s : State) (n : Nat) : Option EvtRec :=
  match (evtChan s n).queue with
  | r :: _ => if r.held then none else some r
  | [] => none

/-- A releasable record written to the ring of its bank where that has room (R81). -/
def evtCommit (n : Nat) (s : State) : State :=
  match evtReleasable s n with
  | some r =>
    if hifRoom s (n / 16) then
      let s := evtSetChan n (fun c => { c with queue := c.queue.drop 1 }) s
      hifPush (n / 16) (evtBytes n r) (evtFill n s)
    else s
  | none => s

/-- RECORD_COMMIT. -/
def execRecordCommit (ch : Fin 128) (s : State) : Host.Outcome State Fault Refusal := .next (evtCommit ch s)

/-- COMMIT_LATE (R81): a releasable record is late while its ring has room. -/
def execCommitLate (ch : Fin 128) (at_ : Nat) (s : State) : Host.Outcome State Fault Refusal :=
  .next (if (evtReleasable s ch).isSome && hifRoom s (ch / 16) then
    ((s.count EVT_COMMIT_LATE_CNT.COUNT 1).setFlag EVT_FLAGS.COMMIT_LATE 104).deadline 4 (s.timeAt at_)
  else s)

/-- Every record of a channel that may be committed now, committed as far as its ring has room (R82). -/
def evtDrain (s : State) (n : Nat) : State := (evtChan s n).queue.foldl (fun s _ => evtCommit n s) s

/-- Of the waiting stops whose records were stored, the one behind a number of others no longer has a record. -/
def evtOrphan : Nat → List (Int × Bool) → List (Int × Bool)
  | _, [] => []
  | 0, (t, true) :: ws => (t, false) :: ws
  | k + 1, (t, true) :: ws => (t, true) :: evtOrphan k ws
  | k, (t, false) :: ws => (t, false) :: evtOrphan k ws

@[inherit_doc evtOrphan]
def evtOrphanAhead : Nat → List (Int × Option Bool) → List (Int × Option Bool)
  | _, [] => []
  | 0, (t, some true) :: ws => (t, some false) :: ws
  | k + 1, (t, some true) :: ws => (t, some true) :: evtOrphanAhead k ws
  | k, w :: ws => w :: evtOrphanAhead k ws

/-- A list whose element at a place, where there is one, carries loss-before. -/
def evtMarkLoss (i : Nat) (q : List EvtRec) : List EvtRec := q.modify i fun r => { r with flags := r.flags ||| 1 }

/-- A stored record of a channel, by its place in the queue, destroyed by an uncorrectable SRAM error (R75, R360): the record behind
the gap in SEQ carries loss-before. Pairing precedes the queue, so a waiting stop goes on waiting without its record (R85). -/
def evtDestroy (n i : Nat) (s : State) : State :=
  let q := (evtChan s n).queue
  match q[i]? with
  | some r =>
    let before := ((q.take i).filter fun (x : EvtRec) => x.held).length
    let waits := ((evtChan s n).waiting.filter fun w => w.2).length
    let s := if r.held then evtSetChan n (fun c =>
        { c with waiting := if before < waits then evtOrphan before c.waiting else c.waiting,
                 ahead := if before < waits then c.ahead else evtOrphanAhead (before - waits) c.ahead }) s else s
    let s := evtSetChan n (fun c => { c with queue := evtMarkLoss i (c.queue.eraseIdx i),
                                             destroyed := c.destroyed || q.length == i + 1 }) s
    (evtFill n s).countOpen (EVT_CH_LOST_OTHER.OTHER n) 1
  | none => s

/-! ### The calibration rotation (R86 to R90) -/

/-- The relief stamper's state. -/
def evtRelief (s : State) (b : Nat) : Nat := s.get (EVT_BK_STATUS.RELIEF_STATE b)

/-- The channel at the position that a bank's rotation stands at. -/
def evtDue (s : State) (b : Nat) : Nat := 16 * b + s.get (EVT_BK_STATUS.RELIEF_POS b)

/-- T_sw: the first core cycle (1.25 ns) at least 1 µs after a pivot instant (R88). -/
def evtSwitchAt (piv : Nat) : Nat := (piv + 1000 * 4096 + 5119) / 5120 * 5120

/-- A slot starts: the relief pass begins (R87). -/
def evtStartSlot (b : Nat) (s : State) : State := s.put (EVT_BK_STATUS.RELIEF_STATE b) 1

/-- The relief stamper enters IDLE; a held request starts at once (R90). -/
def evtIdle (b : Nat) (s : State) : State :=
  let s := s.put (EVT_BK_STATUS.RELIEF_STATE b) 0
  let s := evtSetBank b (fun x => { x with tsw := none, retry := false }) s
  match (evtBank s b).request with
  | some p =>
    evtStartSlot b (evtSetBank b (fun x => { x with request := none }) (s.put (EVT_BK_STATUS.RELIEF_POS b) p))
  | none => s

/-- The channel is done: next position, then IDLE (R87). -/
def evtNextPos (b : Nat) (s : State) : State :=
  evtIdle b (s.put (EVT_BK_STATUS.RELIEF_POS b) ((s.get (EVT_BK_STATUS.RELIEF_POS b) + 1) % 16))

/-- SLOT_INSTANT (R87): in IDLE a slot starts with CAL_EN = 1; in any other state the instant is skipped and counted. -/
def execSlotInstant (bank : Fin 8) (s : State) : Host.Outcome State Fault Refusal :=
  .next (if !s.live .evt then s
    else if evtRelief s bank ≠ 0 then s.count (EVT_BK_STATUS.SLOTS_SKIPPED bank) 1
    else if s.flag (EVT_BK_CFG.CAL_EN bank) then evtStartSlot bank s
    else s)

/-- Whether a pass passes (R86): the histogram is complete and the delay, in `_PH` units, lies within 20 ps of the previous
passed value. -/
def evtPassOk (complete : Bool) (prev : Option Int) (delay : Int) : Bool :=
  complete && (match prev with | some p => decide (100 * (delay - p).natAbs ≤ 131072) | none => true)

/-- The stamps of calibration pulses, by edge and instant; FLAGS bit 3 shows the stamper's state before the pass (R87). -/
def evtPulseStamps (s : State) (n : Nat) (relief : Bool) (pulses : List (Bool × Nat)) : List EvtStamp :=
  pulses.map fun p => { ch := n, rising := p.1, piv := s.pivotAt p.2, t := evtRecordTime s n p.2, relief := relief, src := 2,
                        flags := evtBaseFlags s n relief }

/-- SRC 2 records stored. -/
def evtStorePulses (l : List EvtStamp) (s : State) : State := l.foldl (fun s x => evtStore x.ch (x.record s false) s) s

/-- The delay-measurement stamps of a pass, stored as SRC 2 records while CAL_REC_EN = 1 (R87), or held through a retrain, at most
4,096 a bank (R350). None is taken during a pivot fault (R32). DESIGN CHOICE: they are stored whatever HOST_EN of the channel is
(assumption 153). -/
def evtPulses (n : Nat) (relief : Bool) (pulses : List (Bool × Nat)) (s : State) : State :=
  let l := evtPulseStamps s n relief pulses
  if s.flag (EVT_BK_CFG.CAL_REC_EN (n / 16)) && !s.flag EVT_STATUS.PFAIL_HOLD && !s.sys.pivotFault then
    if s.flag CDC_STATUS.D2D_RETRAINING then
      let room := 4096 - (s.evt.calHeld.filter fun (x : EvtStamp) => x.ch / 16 == n / 16).length
      xsDrop 0 (l.length - room) { s with evt := { s.evt with calHeld := s.evt.calHeld ++ l.take room } }
    else s.cross false 0 l.length (evtStorePulses l)
  else s

/-- RELIEF_PASS_DONE (R87). -/
def evtReliefDone (b : Nat) (complete : Bool) (delay : Int) (pulses : List (Bool × Nat)) (at_ : Nat) (s : State) : State :=
  if evtRelief s b = 1 then
    let n := evtDue s b
    let s := evtPulses n true pulses s
    if evtPassOk complete (evtBank s b).delay delay then
      let s := evtSetBank b (fun x => { x with reliefCal := 1, delay := some delay }) s
      if s.flag (EVT_CH_CFG.EN n) then
        evtSetBank b (fun x => { x with tsw := some (evtSwitchAt (s.pivotAt at_)) })
          (s.put (EVT_BK_STATUS.RELIEF_STATE b) 2)
      else s.put (EVT_BK_STATUS.RELIEF_STATE b) 3
    else
      let s := (s.put (EVT_BK_STATUS.RELIEF_STATE b) 6).put (EVT_BK_STATUS.CAL_HALTED b) 1
      s.setEvent (EVT_BK_FLAGS.RELIEF_FAULT b) (96 + b)
  else s

/-- HANDOVER_SWITCH (R87, R88): T_sw + 1 µs is reached. -/
def evtHandover (b : Nat) (s : State) : State :=
  let n := evtDue s b
  match evtRelief s b with
  | 2 => (evtSetBank b (fun x => { x with tsw := none }) (s.put (EVT_BK_STATUS.RELIEF_STATE b) 3)).put
           (EVT_CH_STATUS.SERVED_BY_RELIEF n) 1
  | 4 => evtNextPos b (s.put (EVT_CH_STATUS.SERVED_BY_RELIEF n) 0)
  | _ => s

/-- HANDOVER_SWITCH. -/
def execHandoverSwitch (bank : Fin 8) (s : State) : Host.Outcome State Fault Refusal := .next (evtHandover bank s)

/-- A channel stamper's passed pass: its tables, age and delay (R86). -/
def evtChanPassed (n : Nat) (delay : Int) (at_ : Nat) (s : State) : State :=
  let piv := s.pivotAt at_
  let s := s.put (EVT_CH_STATUS.CAL_STATE n) 1
  evtSetChan n (fun c => { c with delay := some delay, calAt := some piv }) (s.putS (EVT_CH_CAL_DLY_PH.ofs n) delay)

/-- CAL_AGE: whole seconds of pivot time since a channel's last passed pass, saturating; 0 before the first one. -/
def evtCalAge (s : State) (n at_ : Nat) : Nat :=
  match (evtChan s n).calAt with
  | some c => min 0xFFFF ((s.pivotAt at_ - c) / (1000 * tickUnits))
  | none => 0

/-- The channel stamper rejoins: SHADOW_OUT, or the next position at once for a disabled channel, which the relief stamper no longer
serves (R87). -/
def evtRejoin (b at_ : Nat) (s : State) : State :=
  if s.flag (EVT_CH_CFG.EN (evtDue s b)) then
    evtSetBank b (fun x => { x with tsw := some (evtSwitchAt (s.pivotAt at_)), retry := false })
      (s.put (EVT_BK_STATUS.RELIEF_STATE b) 4)
  else evtNextPos b (s.put (EVT_CH_STATUS.SERVED_BY_RELIEF (evtDue s b)) 0)

/-- CHANNEL_PASS_DONE (R87, R90): the pass of a forced calibration, of the served channel, or of a retry in SPARE. DESIGN CHOICE: a
retry that fails raises CH_FAULT again and the bank stays in SPARE; a forced pass that fails raises STAMPER_FAULT and CH_FAULT and
leaves the state of the bank (assumption 153). -/
def evtChannelDone (b : Nat) (complete : Bool) (delay : Int) (pulses : List (Bool × Nat)) (at_ : Nat) (s : State) : State :=
  match (evtBank s b).forced with
  | some p =>
    let n := 16 * b + p
    let s := evtSetBank b (fun x => { x with forced := none }) (evtPulses n false pulses s)
    if evtPassOk complete (evtChan s n).delay delay then evtChanPassed n delay at_ s
    else (s.put (EVT_CH_STATUS.STAMPER_FAULT n) 1).setEvent (EVT_BK_FLAGS.CH_FAULT b) (96 + b)
  | none =>
    let n := evtDue s b
    let ok := evtPassOk complete (evtChan s n).delay delay
    match evtRelief s b with
    | 3 =>
      let s := evtPulses n false pulses s
      if ok then evtRejoin b at_ (evtChanPassed n delay at_ s)
      else
        let s := ((s.put (EVT_BK_STATUS.RELIEF_STATE b) 5).put (EVT_BK_STATUS.CAL_HALTED b) 1).put
          (EVT_CH_STATUS.STAMPER_FAULT n) 1
        s.setEvent (EVT_BK_FLAGS.CH_FAULT b) (96 + b)
    | 5 =>
      if (evtBank s b).retry then
        let s := evtPulses n false pulses s
        if ok then
          let s := (s.put (EVT_BK_STATUS.CAL_HALTED b) 0).put (EVT_CH_STATUS.STAMPER_FAULT n) 0
          evtRejoin b at_ (evtChanPassed n delay at_ s)
        else (evtSetBank b (fun x => { x with retry := false }) s).setEvent (EVT_BK_FLAGS.CH_FAULT b) (96 + b)
      else s
    | _ => s

/-- RETRY (R87): FAULT returns to SELF; in SPARE a new pass of the spared stamper begins. -/
def evtRetry (b : Nat) (s : State) : State :=
  match evtRelief s b with
  | 5 => evtSetBank b (fun x => { x with retry := true }) s
  | 6 => (s.put (EVT_BK_STATUS.RELIEF_STATE b) 1).put (EVT_BK_STATUS.CAL_HALTED b) 0
  | _ => s

/-- CAL_RETRY. -/
def execCalRetry (bank : Fin 8) (s : State) : Host.Outcome State Fault Refusal :=
  .next (s.hostDo .evt none [] (State.cross true 0 1 (evtRetry bank)))

/-- A calibration request (R90). DESIGN CHOICE: a second FORCE while a forced pass runs replaces the forced position. In SPARE and
FAULT no other channel calibrates without FORCE (R89): a request for a disabled one has no effect (assumption 153). -/
def evtRequest (b pos : Nat) (force : Bool) (s : State) : State :=
  let st := evtRelief s b
  if st = 0 then evtStartSlot b (s.put (EVT_BK_STATUS.RELIEF_POS b) pos)
  else if st < 5 then evtSetBank b (fun x => { x with request := some pos }) s
  else if st = 5 && s.get (EVT_BK_STATUS.RELIEF_POS b) == pos then evtRetry b s
  else if s.flag (EVT_CH_CFG.EN (16 * b + pos)) then
    if force then
      evtBankFlag b (EVT_BK_FLAGS.FORCED_OUT b) (evtSetBank b (fun x => { x with forced := some pos }) s)
    else evtBankFlag b (EVT_BK_FLAGS.BUSY_IN_SERVICE b) s
  else s.onlyIf force (evtSetBank b (fun x => { x with forced := some pos }))

/-- A write of EVT_BK_CAL_CMD. -/
def evtCalCmd (b : Nat) (w : Word) (s : State) : State :=
  s.cross true 0 1 fun s =>
    let s := s.onlyIf (w.getLsbD 6) (evtRetry b)
    s.onlyIf (w.getLsbD 4) (evtRequest b (fieldOf w 0 4) (w.getLsbD 5))

/-- CAL_REQUEST. -/
def execCalRequest (bank : Fin 8) (pos : Fin 16) (force : Bool) (s : State) : Host.Outcome State Fault Refusal :=
  .next (s.hostDo .evt none [] (State.cross true 0 1 (evtRequest bank pos force)))

/-- CAL_AGE_EXPIRY (R89): a stamper's calibration passes CAL_MAX_AGE; `none` names the relief stamper. -/
def execCalAgeExpiry (bank : Fin 8) (pos : Option (Fin 16)) (s : State) : Host.Outcome State Fault Refusal :=
  .next (match pos with
    | some p =>
      let n := 16 * bank.val + p.val
      if s.get (EVT_CH_STATUS.CAL_STATE n) = 1 then s.put (EVT_CH_STATUS.CAL_STATE n) 2 else s
    | none => if (evtBank s bank).reliefCal = 1 then evtSetBank bank (fun x => { x with reliefCal := 2 }) s else s)

/-! ### Power failure and resets -/

/-- Held stop records of a channel released as they stand and counted as unpaired; pairing drops those stops (R82). A stop without a
record goes on waiting (R85). -/
def evtPfailChan (s : State) (n : Nat) : State :=
  let c := evtChan s n
  let k := (c.waiting.filter fun w => w.2).length + (c.ahead.filter fun e => e.2 == some true).length
  (evtSetChan n (fun c => { c with waiting := c.waiting.filter fun w => !w.2, ahead := c.ahead.filter fun e => e.2 != some true,
                                   queue := c.queue.map (EvtRec.release 0) }) s).countOpen (EVT_CH_PAIR_CNT2.UNP_STOP n) k

/-- PFAIL_N low (R82): storing stops, held stops are released, and every queued record is committed at once. -/
def evtPfailLow (s : State) : State :=
  (List.range 128).foldl evtDrain ((List.range 128).foldl evtPfailChan (s.put EVT_STATUS.PFAIL_HOLD 1))

/-- PFAIL_N high again (R82): storing resumes and every channel's first record carries loss-before. -/
def evtPfailHigh (s : State) : State :=
  let s := s.put EVT_STATUS.PFAIL_HOLD 0
  { s with evt := { s.evt with chans := s.evt.chans.map (fun (c : EvtChan) => { c with loss := true }) } }

/-- What an INST or BLK reset does to a channel (R75): SEQ 0, pairing cleared, loss-before on the next record, which still shows an
earlier drop (R80); stored records stay, and its words on the T-die go. -/
def evtResetChan (s : State) (n : Nat) : State :=
  let s := evtSetChan n (fun c => { c with seq := 0, starts := [], waiting := [], ahead := [], loss := true, last := none,
                                           queue := c.queue.map (EvtRec.release 0) }) s
  { s with evt := { s.evt with
    held := s.evt.held.filter (fun x => match x with | .stamp y => y.ch != n | .dead ch => ch != n | .forced ch => ch != n),
    calHeld := s.evt.calHeld.filter fun x => x.ch != n } }

end Sys2Proof.Machine
end

