-- ==== Sys2Proof/Machine/Registrar.lean ====
section
/-! DEFINITION. The Registrar (04_registrar.md): samples and grades of the reference slots, qualification, selection,
switching and disputes. -/

namespace Sys2Proof.Machine

/-! ### Slots -/

/-- A slot's internal state. -/
def rgsSlot (s : State) (n : Nat) : RgsSlot := s.rgs.slots.getD n RgsSlot.reset

/-- A slot's internal state changed. -/
def rgsSetSlot (n : Nat) (f : RgsSlot → RgsSlot) (s : State) : State :=
  { s with rgs := { s.rgs with slots := s.rgs.slots.modify n f } }

/-- TYPE of a slot (R92). -/
def rgsType (s : State) (n : Nat) : Nat := s.get (RGS_SLOT_BIND.TYPE n)

/-- STATE of a slot (R103). -/
def rgsStateOf (s : State) (n : Nat) : Nat := s.get (RGS_SLOT_STATUS.STATE n)

/-- Whether a slot is bound to a loop (R92). -/
def rgsBound (s : State) (k n : Nat) : Bool := (s.get (RGS_SLOT_LOOPS.LOOPS n)).testBit k

/-- The slots, in order. -/
def rgsSlots : List Nat := List.range 64

/-- Evaluation cycles of a QUAL_TIME, zero treated as 1 s. -/
def rgsQualCycles (s : State) (n : Nat) : Nat := 100 * max 1 (s.get (RGS_SLOT_TIMERS.QUAL_TIME n))

/-- Evaluation cycles of WTR. -/
def rgsWtrCycles (s : State) (n : Nat) : Nat := 100 * s.get (RGS_SLOT_WTR.WTR n)

/-- The incumbent of a loop (R106). -/
def rgsIncumbent (s : State) (k : Nat) : Option Nat :=
  if s.flag (RGS_SEL_STATUS.VALID k) then some (s.get (RGS_SEL_STATUS.SLOT k)) else none

/-- A slot flag other than LOST, with its interrupt (R379). -/
def rgsSlotFlag (f : Fld) (s : State) : State := s.setFlag f 40

/-- ANY_DISPUTED and ANY_HOLD brought up to date (R111), and the timebase told of references that are qualified no more (R59). -/
def rgsRefresh (s : State) : State :=
  tbLapseLost <| (s.putB RGS_STATUS.ANY_DISPUTED (rgsSlots.any fun n => s.flag (RGS_SLOT_STATUS.DISPUTED n))).putB RGS_STATUS.ANY_HOLD
    ((List.range 24).any fun k => s.flag (RGS_SEL_STATUS.HOLD_ON_DISPUTE k))

/-! ### Disputes that end (R112) -/

/-- Hold on dispute ends for the loops whose incumbent is one of two slots (R112). -/
def rgsEndHold (a b : Nat) (s : State) : State :=
  (List.range 24).foldl (fun s k =>
    if rgsIncumbent s k == some a || rgsIncumbent s k == some b then s.put (RGS_SEL_STATUS.HOLD_ON_DISPUTE k) 0 else s) s

/-- DISPUTED of a slot cleared; it is checked again after a further DISPUTE_TAU (R112). -/
def rgsClearDisputed (n : Nat) (s : State) : State :=
  rgsSetSlot n (fun (x : RgsSlot) => { x with checkAt := s.rgs.now }) (s.put (RGS_SLOT_STATUS.DISPUTED n) 0)

/-- A dispute removed from the list of disputes. -/
def rgsDropDispute (d : Dispute) (s : State) : State :=
  { s with rgs := { s.rgs with disputes := s.rgs.disputes.filter (fun x => x != d) } }

/-- A dispute ends with both bits cleared (R112, agreement and diverging ranks). -/
def rgsEndDispute (s : State) (d : Dispute) : State :=
  rgsDropDispute d (rgsEndHold d.a d.b (rgsClearDisputed d.b (rgsClearDisputed d.a s)))

/-- The disputes that a slot which leaves QUALIFIED takes with it (R112): with both marked, the remaining slot's bit clears as
well. -/
def rgsLeaveDisputes (n : Nat) (s : State) : State :=
  s.rgs.disputes.foldl (fun s d =>
    if d.both && (d.a == n || d.b == n) then rgsEndDispute s d
    else if !d.both && d.loser == n then rgsDropDispute d s
    else s) s

/-- A slot's state changed. A slot that leaves QUALIFIED or REQUALIFYING clears its DISPUTED bit; entry to LOST drops the last
accepted ledger line (R102, R103). -/
def rgsEnter (n st : Nat) (s : State) : State :=
  let old := rgsStateOf s n
  let s := s.put (RGS_SLOT_STATUS.STATE n) st
  let s := if (old == 4 || old == 5) && st != old then (rgsLeaveDisputes n s).put (RGS_SLOT_STATUS.DISPUTED n) 0 else s
  let s := if st ≤ 1 then
      (rgsSetSlot n (fun (x : RgsSlot) => { x with llRef := none }) s).put (RGS_SLOT_STATUS.TIMER n) 0 else s
  rgsRefresh s

/-- A slot becomes QUALIFIED from QUALIFYING or WTR (R103). -/
def rgsQualified (n : Nat) (s : State) : State :=
  let s := (rgsEnter n 4 s).put (RGS_SLOT_STATUS.EVER_QUAL n) 1
  let s := rgsSetSlot n (fun (x : RgsSlot) => { x with qualAt := s.rgs.now, checkAt := s.rgs.now }) s
  rgsSlotFlag (RGS_SLOT_FLAGS.QUALIFIED_EV n) (s.put (RGS_SLOT_STATUS.TIMER n) 0)

/-- A QUALIFIED or REQUALIFYING slot fails: LOST set, LOS_CNT + 1 (R103). The row of the hold-off in QUALIFIED names the interrupt,
which each such loss raises; otherwise LOST raises it as it becomes 1 (R378). -/
def rgsFail (n : Nat) (holdoff : Bool) (s : State) : State :=
  let each := holdoff && rgsStateOf s n == 4
  let s := (rgsEnter n 1 s).count (RGS_SLOT_CNT.LOS_CNT n) 1
  if each then s.setEvent (RGS_SLOT_FLAGS.LOST n) 39 else s.setFlag (RGS_SLOT_FLAGS.LOST n) 39

/-- A slot enters QUALIFYING (R93, R103): its timer starts, its samples and the origin of a frequency slot begin anew. -/
def rgsQualify (n : Nat) (s : State) : State :=
  let now := s.rgs.now
  let ever := s.flag (RGS_SLOT_STATUS.EVER_QUAL n)
  rgsSetSlot n (fun (x : RgsSlot) =>
    { x with since := now, retAt := if ever then now else x.retAt, samples := [], origin := none, cycles := 0 })
    ((rgsEnter n 2 s).put (RGS_SLOT_STATUS.TIMER n) (max 1 (s.get (RGS_SLOT_TIMERS.QUAL_TIME n))))

/-! ### Grades (R96 to R101) -/

/-- The grade of an SSM and an enhanced SSM code (R97). -/
def gradeOfSsm (ssm essm : Nat) : Nat :=
  match ssm, essm with
  | 2, 0x21 => 1
  | 2, 0x23 => 1
  | 2, _ => 2
  | 4, _ => 5
  | 8, _ => 6
  | 0xB, 0x22 => 7
  | 0xB, _ => 8
  | _, _ => 15

/-- The class floor of a clockClass (R98). -/
def gradeOfClass (c : Nat) : Nat :=
  match c with
  | 6 => 0 | 13 => 0 | 7 => 3 | 135 => 3 | 14 => 4 | 140 => 4 | 150 => 5 | 160 => 6 | 165 => 7
  | 52 => 10 | 58 => 10 | 187 => 10 | 193 => 10 | 248 => 14 | _ => 15

/-- The accuracy grade of a clockAccuracy (R98). -/
def gradeOfAccuracy (a : Nat) : Nat :=
  if 0x17 ≤ a ∧ a ≤ 0x1D then 0
  else if 0x1E ≤ a ∧ a ≤ 0x20 then 1
  else match a with
    | 0x21 => 2 | 0x22 => 3 | 0x23 => 4 | 0x24 => 5 | 0x25 => 5 | 0x26 => 6 | 0x27 => 6 | 0x28 => 7 | 0x29 => 7
    | 0x2A => 8 | 0x2B => 8 | 0x2C => 9 | 0x2D => 9 | 0x2E => 10 | 0x2F => 10 | 0x30 => 11 | 0x31 => 12 | 0xFE => 14
    | _ => 15

/-- The grade of a GNSS verdict (R99). -/
def gradeOfVerdict (v : Nat) : Nat := match v with | 2 => 2 | 3 => 3 | 4 => 4 | _ => 15

/-- The grade of a link quality tag (R100). -/
def gradeOfTag (t : Nat) : Nat := if t / 16 % 8 ≤ 4 then t % 16 else 15

/-- The grade of a ledger line from its GRADE and FLAGS bytes (R102). -/
def gradeOfLine (grade flags : Nat) : Nat := if flags.testBit 3 then grade % 16 else 15

/-- The grade that RGS_SLOT_MSG's raw message maps to (R97 to R100, R102). -/
def rgsMsgGrade (type raw : Nat) : Nat :=
  match type with
  | 1 => gradeOfLine (raw % 256) (raw / 256)
  | 3 => gradeOfSsm (raw % 16) (raw / 256)
  | 4 => max (gradeOfClass (raw % 256)) (gradeOfAccuracy (raw / 256))
  | 5 => gradeOfVerdict (raw % 8)
  | 6 => gradeOfTag (raw % 256)
  | _ => 15

/-- Whether a slot takes FIXED_GRADE (R96). -/
def rgsFixed (s : State) (n : Nat) : Bool :=
  s.flag (RGS_SLOT_CFG.GRADE_SRC n) || rgsType s n == 2 || (rgsType s n == 1 && !s.flag (RGS_SLOT_BIND.LL_EN n))

/-- GRADE brought up to date; a change sets GRADE_CHANGE (R96). -/
def rgsRegrade (n : Nat) (s : State) : State :=
  let g := if rgsFixed s n then s.get (RGS_SLOT_CFG.FIXED_GRADE n) else s.get (RGS_SLOT_STATUS.MSG_GRADE n)
  if rgsType s n == 0 || g == s.get (RGS_SLOT_STATUS.GRADE n) then s
  else rgsSlotFlag (RGS_SLOT_FLAGS.GRADE_CHANGE n) (s.put (RGS_SLOT_STATUS.GRADE n) g)

/-- A slot's message received: RAW, MSG_GRADE and GRADE (R96). -/
def rgsMessage (n raw : Nat) (s : State) : State :=
  rgsRegrade n ((s.put (RGS_SLOT_MSG.RAW n) raw).put (RGS_SLOT_STATUS.MSG_GRADE n) (rgsMsgGrade (rgsType s n) raw))

/-- A slot's message has failed: grade 15, the raw message kept (R97). -/
def rgsMessageFailed (n : Nat) (s : State) : State := rgsRegrade n (s.put (RGS_SLOT_STATUS.MSG_GRADE n) 15)

/-- The slots bound to a source of a TYPE and INDEX (R92). -/
def rgsSlotsOf (s : State) (type index : Nat) : List Nat :=
  rgsSlots.filter fun n => rgsType s n == type && s.get (RGS_SLOT_BIND.INDEX n) == index

/-- An operation on every slot bound to a source. -/
def rgsForSource (type index : Nat) (f : Nat → State → State) (s : State) : State :=
  (rgsSlotsOf s type index).foldl (fun s n => f n s) s

/-! ### Samples (R93) -/

/-- The signal of a slot seen or gone; the hold-off counts from the first absence (R103). -/
def rgsSignal (n : Nat) (on : Bool) (s : State) : State :=
  if on == s.flag (RGS_SLOT_STATUS.SIG n) then s
  else
    let s := s.putB (RGS_SLOT_STATUS.SIG n) on
    if on then s else rgsSetSlot n (fun (x : RgsSlot) => { x with absentAt := s.rgs.now + 1 }) s

/-- A sample x of a slot, in `_PH` units (R93), taken at a pivot instant: posted and kept for the frequency over an interval; the signal
is present. -/
def rgsSample (n : Nat) (x : Int) (piv : Nat) (s : State) : State :=
  let now := s.rgs.now
  rgsSignal n true (rgsSetSlot n (fun (sl : RgsSlot) =>
    { sl with samples := (now, x) :: sl.samples.filter (fun p => decide (now < p.1 + 1010000)),
              sampleNo := sl.sampleNo + 1, fresh := true, heard := some piv }) (s.putS (RGS_SLOT_PH.ofs n) x))

/-- A rate in `_FF` units: a change of x in `_PH` units over a number of evaluation cycles. -/
def rgsRate (dx : Int) (cycles : Nat) : Int := Config.quot (dx * 2 ^ 44) (cycles * 10 ^ 7)

/-- y of a slot over an interval in evaluation cycles (R93): from the newest sample and the newest one at least that much
older; none without such a pair. -/
def rgsY (sl : RgsSlot) (tau : Nat) : Option Int :=
  match sl.samples with
  | (t, x) :: rest =>
    match rest.find? (fun p => decide (p.1 + tau ≤ t)) with
    | some (t', x') => some (rgsRate (x - x') (t - t'))
    | none => none
  | [] => none

/-- Whether |y| over 1 s exceeds RGS_QUAL_FREQ_LIM_FF (R103). -/
def rgsFast (s : State) (n : Nat) : Bool :=
  match rgsY (rgsSlot s n) 100 with
  | some y => decide (s.getS RGS_QUAL_FREQ_LIM_FF.ofs < y.natAbs)
  | none => false

/-- The offset of t from the nearest multiple of a period, in the same units (R96). -/
def rgsNearest (t period : Int) : Int :=
  let m := t % period
  if 2 * m < period ∨ (2 * m = period ∧ Config.roundUp t period) then m else m - period

/-- A pulse without an accepted line (R102): the third in succession is loss of signal. -/
def rgsNoLine (n : Nat) (s : State) : State :=
  let k := (rgsSlot s n).llMiss + 1
  let s := rgsSetSlot n (fun (x : RgsSlot) => { x with llMiss := k, llRef := if 3 ≤ k then none else x.llRef }) s
  s.onlyIf (decide (3 ≤ k)) (rgsSignal n false)

/-- The last pulse is over: one that no accepted line has answered sets LL_MISSING and counts (R102). -/
def rgsPulseOver (n : Nat) (s : State) : State :=
  match (rgsSlot s n).pulse with
  | some (_, _, false) =>
    rgsNoLine n (rgsSlotFlag (RGS_SLOT_FLAGS.LL_MISSING n)
      (rgsSetSlot n (fun (x : RgsSlot) => { x with pulse := none, spoiled := false }) s))
  | _ => s

/-- A pulse of a type 1 slot with record time `t` in 2^-12 ns (R96, R102): a sample, or with LL_EN = 1 the pulse that the next
ledger line answers. -/
def rgsPulse (n : Nat) (t : Int) (piv : Nat) (s : State) : State :=
  if s.flag (RGS_SLOT_BIND.LL_EN n) then
    rgsSetSlot n (fun (x : RgsSlot) => { x with pulse := some (t, piv, false), spoiled := false, last := t }) (rgsPulseOver n s)
  else
    let period : Int := max 1 (s.get (RGS_SLOT_BIND.PERIOD n)) * (10 ^ 9 * 4096)
    rgsSample n (rgsNearest t period * 16) piv (rgsSetSlot n (fun (x : RgsSlot) => { x with last := t }) s)

/-- A cycle of a type 2 slot stamped at `t` in 2^-12 ns (R93): the first after the entry to QUALIFYING is the origin. -/
def rgsCycle (n : Nat) (t : Int) (s : State) : State :=
  rgsSetSlot n (fun (x : RgsSlot) =>
    match x.origin with
    | none => { x with origin := some t, cycles := 0, last := t }
    | some _ => { x with cycles := x.cycles + 1, last := t }) s

/-- An accepted stamp of a channel passed to the Registrar (R79): pulses of type 1 slots, rising cycles of type 2 slots. DESIGN CHOICE:
with EDGE = 11 both edges of a channel are pulses of its type 1 slots (assumption 154). -/
def rgsEdge (ch : Nat) (rising : Bool) (t : Int) (piv : Nat) (s : State) : State :=
  if s.live .rgs then
    rgsForSource 1 ch (fun n => rgsPulse n t piv) (if rising then rgsForSource 2 ch (fun n => rgsCycle n t) s else s)
  else s

/-- x of a type 2 slot in `_PH` units (R93): the device time since the origin less the cycles over F_NOM. -/
def rgsFreqX (s : State) (n : Nat) : Option Int :=
  let sl := rgsSlot s n
  let f := s.get (RGS_SLOT_NOM.F_NOM n)
  match sl.origin with
  | some o => if f = 0 then none else some ((sl.last - o) * 16 - Config.quot (sl.cycles * 10 ^ 9 * 65536) f)
  | none => none

/-- The nominal frequency in Hz of the recovered line clock of a port, by its MODE (R93, R346). -/
def rgsLineHz (s : State) (p : Nat) : Nat :=
  match s.get (EP_CFG.MODE p) with | 0 => 125000000 | 1 => 156250000 | _ => 390625000

/-- x of a type 3 slot in `_PH` units (R93): device time elapsed since the origin less the recovered cycles over the nominal frequency;
`v` is the comparator's unwrapped reading in 2^-16 cycles at a device time `t` in 2^-12 ns. None before the origin is set. -/
def rgsLineX (s : State) (n : Nat) (v t : Int) : Option Int :=
  let sl := rgsSlot s n
  match sl.origin with
  | some o => some ((t - o) * 16 - Config.quot ((v - sl.phase0) * 10 ^ 9) (rgsLineHz s (s.get (RGS_SLOT_BIND.INDEX n))))
  | none => none

/-- A sample of a type 3 slot: the first after the entry to QUALIFYING is the origin (R93). -/
def rgsLineSample (n : Nat) (v t : Int) (piv : Nat) (s : State) : State :=
  match rgsLineX s n v t with
  | some x => rgsSample n x piv s
  | none => rgsSample n 0 piv (rgsSetSlot n (fun (x : RgsSlot) => { x with origin := some t, phase0 := v }) s)

/-- The mean of x over the blocks that a link in RUN has accepted in its running window (R302). -/
def rgsLinkX (s : State) (i : Nat) : Option Int :=
  let l := s.lnk.links.getD i LkLink.reset
  if s.get (LK_STATUS.STATE i) = 3 && !l.winX.isEmpty then some (meanOf l.winX) else none

/-- A source delivers a sample (R92, R93). The samples of types 1 and 2 come from the channel's stamps, those of types 4 and 5 from the
offset that the source has posted, those of type 6 from the blocks of the window; `v` is the reading of a type 3 slot's comparator. -/
def rgsReferenceSample (n : Nat) (v : Int) (at_ : Nat) (s : State) : State :=
  let i := s.get (RGS_SLOT_BIND.INDEX n)
  let piv := s.pivotAt at_
  if !s.live .rgs then s
  else match rgsType s n with
    | 1 =>
      match (evtChan s i).stamp, (evtChan s i).last with
      | some t, some p => if t = (rgsSlot s n).last then s else rgsPulse n t p s
      | _, _ => s
    | 2 => match rgsFreqX s n with | some x => rgsSample n x piv s | none => s
    | 3 => s.onlyIf (s.flag (EP_STATUS.LINK i) && xsRuns s (9 + i)) (rgsLineSample n v (s.timeAt at_ / 2 ^ 48) piv)
    | 4 => rgsSample n (s.getS (PTP_CLI_X_PH.ofs i)) piv s
    | 5 => rgsSample n (s.getS (GNSS_SOL_X_PH.ofs i)) piv s
    | 6 => match rgsLinkX s i with | some x => rgsSample n x piv s | none => s
    | _ => s

/-- REFERENCE_SAMPLE. -/
def execReferenceSample (slot : Fin 64) (v : Int) (at_ : Nat) (s : State) : Host.Outcome State Fault Refusal :=
  .next (rgsReferenceSample slot v at_ s)

/-! ### The ledger line (R101, R102) -/

/-- The line rate in baud that LL_BAUD selects. -/
def rgsBaud (c : Nat) : Nat :=
  match c with
  | 0 => 9600 | 1 => 19200 | 2 => 38400 | 3 => 57600 | 4 => 115200 | 5 => 230400 | 6 => 460800 | _ => 921600

/-- A field of a byte list: the little-endian value of `n` bytes at an offset (R7). -/
def leField (bs : List Byte) (ofs n : Nat) : Nat := leNat ((bs.drop ofs).take n)

/-- A line discarded: counted in MSG_ERR, with one flag; the pulse yields no sample (R102). -/
def rgsDiscard (n : Nat) (f : Fld) (s : State) : State :=
  rgsSlotFlag f ((rgsSetSlot n (fun (x : RgsSlot) => { x with spoiled := true }) s).count (RGS_SLOT_CNT.MSG_ERR n) 1)

/-- The time that a line of `len` bytes takes at the least on its pin, in 2^-12 ns: ten bits a byte at the rate of LL_BAUD (R101). -/
def rgsLineTicks (s : State) (n len : Nat) : Nat := 10 * len * 10 ^ 9 * 4096 / rgsBaud (s.get (RGS_SLOT_CFG.LL_BAUD n))

/-- Whether the whole line lies between the slot's latest pulse and 900 ms after it (R102). The line takes `dur` and ends at
pivot instant `piv`, both in 2^-12 ns. -/
def rgsInWindow (s : State) (n dur piv : Nat) : Bool :=
  match (rgsSlot s n).pulse with
  | some (_, p, _) => decide (p + dur ≤ piv) && decide (piv ≤ p + 900 * 10 ^ 6 * 4096)
  | none => false

/-- Whether SYNC0, SYNC1, VER, LEN and CRC are correct (R102). -/
def rgsLineForm (bs : List Byte) : Bool :=
  bs.length == 36 && bs.take 4 == [0xA5, 0x4C, 0x01, 36] && leField bs 32 4 == crc32c (bs.take 32)

/-- SEC and NS of a line in 2^-12 ns. -/
def rgsLineTime (bs : List Byte) : Int := ((leField bs 4 8 : Int) * 10 ^ 9 + leField bs 12 4) * 4096

/-- Whether NS, SENDER_ID and the advance over the last accepted line are in order (R102). -/
def rgsLineSeq (s : State) (n : Nat) (bs : List Byte) : Bool :=
  let id := s.reg (RGS_SLOT_LL_ID.ofs n)
  decide (leField bs 12 4 ≤ 999999999) && (id == 0 || leField bs 24 4 == id.toNat) &&
  (match (rgsSlot s n).llRef with
   | some t => rgsLineTime bs == t + s.get (RGS_SLOT_BIND.PERIOD n) * (10 ^ 9 * 4096)
   | none => true)

/-- An accepted line (R102): the sample, the grade, UNC, and the UTC offset check. -/
def rgsAccept (n : Nat) (bs : List Byte) (s : State) : State :=
  let t := rgsLineTime bs
  match (rgsSlot s n).pulse with
  | some (rec, p, _) =>
    let s := rgsSetSlot n (fun (x : RgsSlot) => { x with llRef := some t, llMiss := 0, pulse := some (rec, p, true) }) s
    let s := rgsMessage n (leField bs 16 1 + 256 * leField bs 17 1) s
    let s := s.setReg (RGS_SLOT_UNC.ofs n) (BitVec.ofNat 32 (leField bs 20 4))
    let s := s.onlyIf (leField bs 18 2 != patternOf 16 s.tb.utcOfs) (rgsSlotFlag (RGS_SLOT_FLAGS.LL_UTC_MISMATCH n))
    rgsSample n ((rec - t) * 16) p s
  | none => s

/-- A ledger line received (R102): `dur` is the time that it took, with any pauses between its bytes. A pulse that a discarded line has
spoiled yields no sample. -/
def rgsLedgerLine (n : Nat) (bs : List Byte) (dur at_ : Nat) (s : State) : State :=
  if !(s.live .rgs && rgsType s n == 1 && s.flag (RGS_SLOT_BIND.LL_EN n)) then s
  else if !rgsInWindow s n (max dur (rgsLineTicks s n bs.length)) (s.pivotAt at_) then rgsDiscard n (RGS_SLOT_FLAGS.LL_LATE n) s
  else if !rgsLineForm bs then rgsDiscard n (RGS_SLOT_FLAGS.LL_CRC n) s
  else if !rgsLineSeq s n bs then rgsDiscard n (RGS_SLOT_FLAGS.LL_SEQ n) s
  else if (rgsSlot s n).spoiled then s
  else rgsAccept n bs s

/-- LEDGER_LINE: the bytes received on the slot's pin, the time the line took and its end. -/
def execLedgerLine (slot : Fin 64) (bytes : List Byte) (dur at_ : Nat) (s : State) : Host.Outcome State Fault Refusal :=
  .next (rgsLedgerLine slot bytes dur at_ s)

/-- LEDGER_LINE_TIMEOUT (R102): 900 ms after a pulse without an accepted line. -/
def execLedgerLineTimeout (slot : Fin 64) (s : State) : Host.Outcome State Fault Refusal :=
  .next (rgsPulseOver slot s)

/-- PULSE_ABSENT (R102): no pulse for 1.5 × PERIOD is loss of signal. -/
def execPulseAbsent (slot : Fin 64) (s : State) : Host.Outcome State Fault Refusal :=
  .next (if rgsType s slot = 1 then
    rgsSignal slot false (rgsSetSlot slot (fun (x : RgsSlot) => { x with llRef := none, pulse := none }) s)
  else s)

/-! ### The slot states (R103) -/

/-- The qualification timer reaches QUAL_TIME (R103). -/
def rgsQualDone (n : Nat) (s : State) : State :=
  if rgsStateOf s n = 2 then
    if s.flag (RGS_SLOT_STATUS.EVER_QUAL n) && decide (s.rgs.now < (rgsSlot s n).retAt + rgsWtrCycles s n) then rgsEnter n 3 s
    else rgsQualified n s
  else s

/-- QUAL_TIMER_DONE. -/
def execQualTimerDone (slot : Fin 64) (s : State) : Host.Outcome State Fault Refusal := .next (rgsQualDone slot s)

/-- Wait-to-restore ends (R103). -/
def rgsWtrEnd (n : Nat) (s : State) : State := if rgsStateOf s n = 3 then rgsQualified n s else s

/-- WTR_EXPIRY. -/
def execWtrExpiry (slot : Fin 64) (s : State) : Host.Outcome State Fault Refusal := .next (rgsWtrEnd slot s)

/-- WTR_CLEAR (R103). -/
def execWtrClear (slot : Fin 64) (s : State) : Host.Outcome State Fault Refusal :=
  .next (s.hostDo .rgs (some (1, slot)) [] (rgsWtrEnd slot))

/-- The signal of a slot has been absent for HOLDOFF (R103). -/
def rgsHoldoff (n : Nat) (s : State) : State :=
  if (rgsStateOf s n = 4 ∨ rgsStateOf s n = 5) ∧ s.flag (RGS_SLOT_STATUS.SIG n) = false then rgsFail n true s else s

/-- HOLDOFF_EXPIRY. -/
def execHoldoffExpiry (slot : Fin 64) (s : State) : Host.Outcome State Fault Refusal := .next (rgsHoldoff slot s)

/-- EN of a slot written (R103): OFF, or from OFF to LOST. -/
def rgsEnable (n : Nat) (en : Bool) (s : State) : State :=
  let s := s.putB (RGS_SLOT_CFG.EN n) en
  if !en then ((rgsEnter n 0 s).put (RGS_SLOT_STATUS.EVER_QUAL n) 0).put (RGS_SLOT_STATUS.DISPUTED n) 0
  else if rgsStateOf s n = 0 then rgsEnter n 1 s
  else s

/-- SLOT_ENABLE. -/
def execSlotEnable (slot : Fin 64) (en : Bool) (s : State) : Host.Outcome State Fault Refusal :=
  .next (s.hostDo .rgs (some (1, slot)) [RGS_SLOT_CFG.ofs slot] (rgsEnable slot en))

/-- Seconds left in QUALIFYING or WTR shown in TIMER. -/
def rgsTimer (n : Nat) (s : State) : State :=
  let sl := rgsSlot s n
  let left : Nat :=
    match rgsStateOf s n with
    | 2 => sl.since + rgsQualCycles s n - s.rgs.now
    | 3 => sl.retAt + rgsWtrCycles s n - s.rgs.now
    | _ => 0
  s.put (RGS_SLOT_STATUS.TIMER n) (min 0xFFFF (Config.quot left 100).toNat)

/-- A source that samples every 10 ms has no signal in a cycle without a sample (R92, R103). -/
def rgsPresence (n : Nat) (s : State) : State :=
  let t := rgsType s n
  let lost := (t == 2 || t == 3 || t == 6) && !(rgsSlot s n).fresh && s.flag (RGS_SLOT_STATUS.SIG n)
  let s := if lost then rgsSignal n false s else s
  rgsSetSlot n (fun (x : RgsSlot) => { x with fresh := false, absentAt := if lost then s.rgs.now else x.absentAt }) s

/-- One slot's evaluation (R103). -/
def rgsEvalSlot (n : Nat) (s : State) : State :=
  let s := rgsRegrade n (rgsPresence n s)
  let sig := s.flag (RGS_SLOT_STATUS.SIG n)
  let bad := s.get (RGS_SLOT_STATUS.GRADE n) == 15
  let sl := rgsSlot s n
  let gone := !sig && decide (sl.absentAt + s.get (RGS_SLOT_TIMERS.HOLDOFF n) ≤ s.rgs.now)
  let s := match rgsStateOf s n with
    | 1 => if sig && !bad then rgsQualify n s else s
    | 2 =>
      if !sig || bad || rgsFast s n then rgsEnter n 1 s
      else if sl.since + rgsQualCycles s n ≤ s.rgs.now then rgsQualDone n s
      else s
    | 3 =>
      if !sig || bad then rgsEnter n 1 s
      else if sl.retAt + rgsWtrCycles s n ≤ s.rgs.now then rgsQualified n s
      else s
    | 4 => if gone || bad || rgsFast s n then rgsFail n gone s else s
    | 5 => if gone || bad then rgsFail n gone s else s
    | _ => s
  rgsTimer n s

/-- The source of a slot reports a path step (R103). -/
def rgsPathStep (n : Nat) (s : State) : State := if rgsStateOf s n = 4 then rgsEnter n 5 s else s

/-- The source of a slot reports its path reaccepted (R103). -/
def rgsPathOk (n : Nat) (s : State) : State :=
  if rgsStateOf s n = 5 then
    rgsSetSlot n (fun (x : RgsSlot) => { x with qualAt := s.rgs.now, checkAt := s.rgs.now }) (rgsEnter n 4 s)
  else s

/-! ### Selection and switching (R94, R105 to R108) -/

/-- Whether a slot is eligible for a loop (R94, R105). -/
def rgsEligible (s : State) (k n : Nat) : Bool :=
  let inc := rgsIncumbent s k == some n
  rgsBound s k n && (s.flag (RGS_SLOT_BIND.CAP n) || !s.flag (LOOP_INFO.NEEDS_TIME k)) &&
  (rgsStateOf s n == 4 || (rgsStateOf s n == 5 && inc)) &&
  decide (s.get (RGS_SLOT_STATUS.GRADE n) ≤ 14) && !s.flag (RGS_SLOT_CFG.LOCKOUT n) &&
  (!s.flag (RGS_SLOT_STATUS.DISPUTED n) || (inc && s.flag (RGS_SEL_STATUS.HOLD_ON_DISPUTE k)))

/-- rank of a slot for a loop, as one number compared left to right (R106). -/
def rgsRank (s : State) (k n : Nat) : Nat :=
  ((s.get (RGS_SLOT_STATUS.GRADE n) * 256 + s.get (RGS_SLOT_CFG.PRIO n)) * 2 +
    bit (rgsIncumbent s k != some n)) * 64 + n

/-- The eligible slot of least rank (R106). -/
def rgsTop (s : State) (k : Nat) : Option Nat :=
  (rgsSlots.filter (rgsEligible s k)).foldl (fun b n =>
    match b with
    | some m => if rgsRank s k n < rgsRank s k m then some n else some m
    | none => some n) none

/-- best of a loop, with the manual choice (R106). -/
def rgsBest (s : State) (k : Nat) : Option Nat :=
  if s.flag (RGS_SEL_CTRL.MANUAL_EN k) && rgsEligible s k (s.get (RGS_SEL_CTRL.MANUAL_SLOT k)) then
    some (s.get (RGS_SEL_CTRL.MANUAL_SLOT k))
  else rgsTop s k

/-- The switch state of a loop written (R107). -/
def rgsSwitch (k st : Nat) (s : State) : State := s.put (RGS_SEL_STATUS.SW_STATE k) st

/-- A switch abandoned and counted (R107). -/
def rgsAbandon (k : Nat) (s : State) : State := s.count (RGS_SEL_CNT.ABANDONS k) 1

/-- A switch abandoned because best changed: counted, SWITCH_ABANDONED set (R107). -/
def rgsAbandonFlag (k : Nat) (s : State) : State :=
  (rgsAbandon k (rgsSwitch k 1 s)).setFlag RGS_FLAGS.SWITCH_ABANDONED 38

/-- An event noted for a loop's next epoch (R118). -/
def rgsTell (k : Nat) (f : LoopState → LoopState) (s : State) : State := { s with loops := s.loops.modify k f }

/-- Entry to NONE: the incumbent is cleared, which the loop takes up at its next epoch with the incumbent's grade (R107, R118, R126).
DESIGN CHOICE: HOLD_ON_DISPUTE ends with it (assumption 155). -/
def rgsNone (k : Nat) (s : State) : State :=
  let g := s.get (RGS_SLOT_STATUS.GRADE (s.get (RGS_SEL_STATUS.SLOT k)))
  let s := rgsTell k (fun (l : LoopState) => { l with sawNone := true, lostGrade := g }) s
  (((rgsSwitch k 4 s).put (RGS_SEL_STATUS.VALID k) 0).put (RGS_SEL_STATUS.GRADE k) 15).put
    (RGS_SEL_STATUS.HOLD_ON_DISPUTE k) 0

/-- The target's ALIGN_TIME in evaluation cycles, zero treated as 100 ms. -/
def rgsAlignCycles (s : State) (n : Nat) : Nat := 10 * max 1 (s.get (RGS_SLOT_TIMERS.ALIGN_TIME n))

/-- The align timer of a loop set. -/
def rgsSetAlign (k v : Nat) (s : State) : State :=
  { s with rgs := { s.rgs with alignEnd := s.rgs.alignEnd.modify k (fun _ => v) } }

/-- ALIGN is entered with a target (R107). -/
def rgsAlign (k n : Nat) (s : State) : State :=
  rgsSetAlign k (s.rgs.now + rgsAlignCycles s n) ((rgsSwitch k 2 s).put (RGS_SEL_STATUS.TARGET k) n)

/-- Whether a loop has an eligible incumbent. -/
def rgsIncEligible (s : State) (k : Nat) : Bool := match rgsIncumbent s k with | some n => rgsEligible s k n | none => false

/-- Whether the incumbent of a loop that switches away from it has become eligible again since the last evaluation (R108). -/
def rgsReturned (s : State) (k : Nat) : Bool :=
  rgsIncEligible s k && !s.rgs.incOk.testBit k && rgsIncumbent s k != some (s.get (RGS_SEL_STATUS.TARGET k))

/-- One transition of a loop's switch in an evaluation cycle (R107, R108). -/
def rgsEvalSwitch (k : Nat) (s : State) : State :=
  let best := rgsBest s k
  let target := s.get (RGS_SEL_STATUS.TARGET k)
  match s.get (RGS_SEL_STATUS.SW_STATE k), best with
  | 4, some _ => rgsSwitch k 1 s
  | 4, none => s
  | 0, none => rgsNone k s
  | _, none => rgsNone k s
  | 0, some n => if rgsIncumbent s k == some n then s else rgsSwitch k 1 s
  | 1, some n => if rgsIncumbent s k == some n then rgsAbandon k (rgsSwitch k 0 s) else rgsAlign k n s
  | 2, some n =>
    if n != target || rgsReturned s k then rgsAbandonFlag k s
    else if s.rgs.alignEnd.getD k 0 ≤ s.rgs.now then rgsSwitch k 3 s
    else s
  | _, some n => if n != target || rgsReturned s k then rgsAbandonFlag k s else s

/-- Whether a loop's incumbent is eligible, noted for the next evaluation (R108). -/
def rgsNoteInc (k : Nat) (s : State) : State :=
  { s with rgs := { s.rgs with incOk := s.rgs.incOk &&& (2 ^ 24 - 1 - 2 ^ k) ||| (if rgsIncEligible s k then 2 ^ k else 0) } }

/-- One loop's evaluation (R106, R107): MANUAL_BAD, the switch, and the published grade of the incumbent. -/
def rgsEvalLoop (k : Nat) (s : State) : State :=
  let bad := s.flag (RGS_SEL_CTRL.MANUAL_EN k) && !rgsEligible s k (s.get (RGS_SEL_CTRL.MANUAL_SLOT k))
  let s := rgsNoteInc k (rgsEvalSwitch k (s.onlyIf bad (State.setFlag RGS_FLAGS.MANUAL_BAD 38)))
  match rgsIncumbent s k with
  | some n => s.put (RGS_SEL_STATUS.GRADE k) (s.get (RGS_SLOT_STATUS.GRADE n))
  | none => s

/-- Disputes whose two slots no longer have equal grade and priority end (R112). -/
def rgsDiverged (s : State) : State :=
  s.rgs.disputes.foldl (fun s d =>
    if s.get (RGS_SLOT_STATUS.GRADE d.a) == s.get (RGS_SLOT_STATUS.GRADE d.b) &&
       s.get (RGS_SLOT_CFG.PRIO d.a) == s.get (RGS_SLOT_CFG.PRIO d.b) then s
    else rgsEndDispute s d) s

/-- One evaluation cycle of the Registrar (R103, R106, R107). -/
def rgsEvaluate (s : State) : State :=
  if s.live .rgs then
    let s := { s with rgs := { s.rgs with now := s.rgs.now + 1 } }
    let s := rgsDiverged (rgsSlots.foldl (fun s n => rgsEvalSlot n s) s)
    rgsRefresh ((List.range 24).foldl (fun s k => rgsEvalLoop k s) s)
  else s

/-- ALIGN_TIMER (R107). -/
def execAlignTimer (k : Fin 24) (s : State) : Host.Outcome State Fault Refusal :=
  .next (if s.get (RGS_SEL_STATUS.SW_STATE k) = 2 then rgsSwitch k 3 s else s)

/-! ### Disputes (R110 to R112) -/

/-- A slot marked DISPUTED. -/
def rgsMark (n : Nat) (s : State) : State := s.put (RGS_SLOT_STATUS.DISPUTED n) 1

/-- The slot of a pair that lies further from y_ens (R110). -/
def rgsLoser (s : State) (a b : Nat) (ya yb : Int) : Nat :=
  let ye := s.getS ENS_YENS_FF.ofs
  if (yb - ye).natAbs < (ya - ye).natAbs then a else b

/-- Hold on dispute for the loops whose incumbent is one of two slots (R110). -/
def rgsHold (a b : Nat) (s : State) : State :=
  (List.range 24).foldl (fun s k =>
    if rgsIncumbent s k == some a || rgsIncumbent s k == some b then
      rgsTell k (fun (l : LoopState) => { l with sawHold := true }) (s.put (RGS_SEL_STATUS.HOLD_ON_DISPUTE k) 1)
    else s) s

/-- A disagreement marked (R110, R111). -/
def rgsDispute (a b : Nat) (ya yb : Int) (s : State) : State :=
  let both := decide (s.get ENS_STATUS.ACTIVE_CNT < 3)
  let l := rgsLoser s a b ya yb
  let s := if both then rgsHold a b (rgsMark b (rgsMark a s)) else rgsMark l s
  let s := { s with rgs := { s.rgs with disputes := s.rgs.disputes ++ ([⟨a, b, both, l⟩] : List Dispute) } }
  let s := ((s.put RGS_DISPUTE_INFO.SLOT_A a).put RGS_DISPUTE_INFO.SLOT_B b).putB RGS_DISPUTE_INFO.BOTH both
  s.setEvent RGS_FLAGS.DISPUTE_RAISED 37

/-- DISPUTE_TAU in evaluation cycles, within its limits. -/
def rgsTau (s : State) : Nat := 100 * max 10 (min 10000 (s.get RGS_CFG.DISPUTE_TAU))

/-- Whether a pair meets the conditions of R110. -/
def rgsComparable (s : State) (a b : Nat) : Bool :=
  let ok := fun n => rgsStateOf s n == 4 && !s.flag (RGS_SLOT_STATUS.DISPUTED n) &&
    decide ((rgsSlot s n).checkAt + rgsTau s ≤ s.rgs.now)
  ok a && ok b && s.get (RGS_SLOT_STATUS.GRADE a) == s.get (RGS_SLOT_STATUS.GRADE b) &&
  s.get (RGS_SLOT_CFG.PRIO a) == s.get (RGS_SLOT_CFG.PRIO b) &&
  (s.get (RGS_SLOT_LOOPS.LOOPS a) &&& s.get (RGS_SLOT_LOOPS.LOOPS b)) != 0

/-- One pair checked (R110). -/
def rgsCheckPair (s : State) (p : Nat × Nat) : State :=
  if rgsComparable s p.1 p.2 then
    match rgsY (rgsSlot s p.1) (rgsTau s), rgsY (rgsSlot s p.2) (rgsTau s) with
    | some ya, some yb =>
      if s.getS RGS_DISPUTE_LIM_FF.ofs < (ya - yb).natAbs then rgsDispute p.1 p.2 ya yb s else s
    | _, _ => s
  else s

/-- The pairs a < b in ascending order of a, then of b (R110). -/
def rgsPairs : List (Nat × Nat) :=
  rgsSlots.flatMap fun a => (rgsSlots.filter fun b => a < b).map fun b => (a, b)

/-- One dispute in force checked for agreement, or decided once the ensemble has three members (R112). DESIGN CHOICE: it is decided
then also where |y(a) - y(b)| no longer exceeds the limit and is not yet half of it (assumption 156). -/
def rgsCheckDispute (s : State) (d : Dispute) : State :=
  match rgsY (rgsSlot s d.a) (rgsTau s), rgsY (rgsSlot s d.b) (rgsTau s) with
  | some ya, some yb =>
    let full := fun n => rgsStateOf s n == 4 && decide ((rgsSlot s n).qualAt + rgsTau s ≤ s.rgs.now)
    if full d.a && full d.b && decide (2 * ((ya - yb).natAbs : Int) ≤ s.getS RGS_DISPUTE_LIM_FF.ofs) then rgsEndDispute s d
    else if d.both && decide (3 ≤ s.get ENS_STATUS.ACTIVE_CNT) then
      let l := rgsLoser s d.a d.b ya yb
      let w := if l = d.a then d.b else d.a
      let s := rgsEndHold d.a d.b (rgsClearDisputed w s)
      { s with rgs := { s.rgs with disputes := s.rgs.disputes.map fun (x : Dispute) =>
        if x == d then { d with both := false, loser := l } else x } }
    else s
  | _, _ => s

/-- y of every slot over DISPUTE_TAU posted (R93). -/
def rgsPostY (s : State) : State :=
  rgsSlots.foldl (fun s n =>
    match rgsY (rgsSlot s n) (rgsTau s) with
    | some y => s.putS (RGS_SLOT_FF.ofs n) y
    | none => s) s

/-- DISPUTE_CHECK (R93, R110, R112). -/
def rgsDisputeCheck (s : State) : State :=
  if s.live .rgs then
    let s := rgsPostY s
    if s.flag RGS_CFG.DISPUTE_EN then
      rgsRefresh (rgsPairs.foldl rgsCheckPair (s.rgs.disputes.foldl rgsCheckDispute s))
    else s
  else s

/-- DISPUTE_CHECK. -/
def execDisputeCheck (s : State) : Host.Outcome State Fault Refusal := .next (rgsDisputeCheck s)

/-- DISPUTE_CLEAR from the host (R112): the slot's bit clears and the dispute ends. -/
def rgsHostClear (n : Nat) (s : State) : State :=
  if s.flag (RGS_SLOT_STATUS.DISPUTED n) then
    let s := s.rgs.disputes.foldl (fun s d =>
      if d.both && (d.a == n || d.b == n) then rgsDropDispute d (rgsEndHold d.a d.b s)
      else if d.loser == n then rgsDropDispute d s
      else s) (rgsClearDisputed n s)
    rgsRefresh s
  else s

/-- DISPUTE_CLEAR. -/
def execDisputeClear (slot : Fin 64) (s : State) : Host.Outcome State Fault Refusal :=
  .next (s.hostDo .rgs (some (1, slot)) [] (rgsHostClear slot))

/-! ### Steps of device time -/

/-- A step of device time by `move` units of 2^-60 ns shifts the record times and the offsets that the Registrar holds, so
that no step of device time shows as a rate of a reference (R61). -/
def rgsStep (move : Int) (s : State) : State :=
  let d := move / 2 ^ 48
  { s with rgs := { s.rgs with slots := s.rgs.slots.map fun (x : RgsSlot) =>
    { x with samples := x.samples.map fun p => (p.1, p.2 + d * 16), origin := x.origin.map (· + d), last := x.last + d,
             pulse := x.pulse.map fun q => (q.1 + d, q.2.1, q.2.2) } } }

end Sys2Proof.Machine
end

