-- ==== Sys2Proof/Machine/Loops.lean ====
section
/-! DEFINITION. The disciplining loops and holdover (05_loops_and_holdover.md). -/

namespace Sys2Proof.Machine

/-! ### Settings and state -/

/-- A loop's internal state. -/
def loopSt (s : State) (k : Nat) : LoopState := s.loops.getD k LoopState.reset

/-- A loop's internal state changed. -/
def loopSet (k : Nat) (f : LoopState → LoopState) (s : State) : State := { s with loops := s.loops.modify k f }

/-- STATE of a loop (R120): 0 OFF, 1 FREERUN, 2 LOCKING, 3 LOCKED, 4 BRIDGE, 5 HOLDOVER, 6 HOLD_DISPUTE, 7 PENDING. -/
def loopState (s : State) (k : Nat) : Nat := s.get (LOOP_STATUS.STATE k)

/-- STATE of a loop written. -/
def loopEnter (k st : Nat) (s : State) : State := s.put (LOOP_STATUS.STATE k) st

/-- Whether a loop is tracking: LOCKING or LOCKED (R120). -/
def loopTracking (s : State) (k : Nat) : Bool := loopState s k == 2 || loopState s k == 3

/-- The published grade follows the incumbent in FREERUN and while tracking, and stays from the entry to BRIDGE, HOLD_DISPUTE and
PENDING (R127). In a tracking loop whose switch has reached NONE it is the last incumbent's, for the entry to HOLDOVER (R126). -/
def loopPublish (k : Nat) (s : State) : State :=
  let last := loopTracking s k && !s.flag (RGS_SEL_STATUS.VALID k)
  s.onlyIf (loopState s k == 1 || loopTracking s k) (State.put (LOOP_STATUS.GRADE k)
    (s.get (if last then RGS_SLOT_STATUS.GRADE (s.get (RGS_SEL_STATUS.SLOT k)) else RGS_SEL_STATUS.GRADE k)))

/-- Whether a loop is of role 2 or 3 and so keeps no p and r (R114). -/
def loopOwner (s : State) (k : Nat) : Bool := 2 ≤ s.get (LOOP_INFO.ROLE k)

/-- The epoch period of a code in ns (R115, LOOP_CFG.EPOCH). -/
def loopEpochNs (code : Nat) : Nat :=
  match code with
  | 0 => 250000 | 1 => 10 ^ 6 | 2 => 10 ^ 7 | 3 => 10 ^ 8 | 5 => 10 ^ 10 | 6 => 10 ^ 11 | _ => 10 ^ 9

/-- τ of a loop in ns (R119). -/
def loopTau (s : State) (k : Nat) : Nat := loopEpochNs (s.get (LOOP_CFG.EPOCH k))

/-- A loop flag other than a pending step, with its interrupt (R379). -/
def loopFlag (k : Nat) (f : Fld) (s : State) : State := s.setFlag f (49 + 2 * k)

/-- A computed register of a loop, saturating with FREQ_SAT (R10). -/
def loopPutS (k ofs : Nat) (x : Int) (s : State) : State := s.putSat ofs (LOOP_FLAGS.FREQ_SAT k) (49 + 2 * k) x

/-- i limited by LOOP_FREQ_LIM_FF; a clamp sets FREQ_SAT (R119). -/
def loopPutI (k : Nat) (i : Int) (s : State) : State :=
  let lim := s.getS (LOOP_FREQ_LIM_FF.ofs k)
  let c := clampInt (-lim) lim i
  (s.onlyIf (decide (c ≠ i)) (loopFlag k (LOOP_FLAGS.FREQ_SAT k))).putS (LOOP_INT_FF.ofs k) c

/-- r and its register (R119). -/
def loopPutR (k : Nat) (r : Int) (s : State) : State :=
  (loopPutS k (LOOP_RESID_PH.ofs k) (toPh r) (loopSet k (fun (l : LoopState) => { l with r := r }) s)).putB
    (LOOP_STATUS.SLEWING k) (r != 0)

/-- The status loop (R127): STAT_LOOP, or with STAT_AUTO the loop of role 2, else of role 3; 24 stands for none. -/
def loopStatus (s : State) : Nat :=
  if s.flag LOOP_GLB_CFG.STAT_AUTO then
    let find := fun r => (List.range 24).find? fun k => s.get (LOOP_INFO.ROLE k) == r
    ((find 2).orElse fun _ => find 3).getD 24
  else min 24 (s.get LOOP_GLB_CFG.STAT_LOOP)

/-- The block's status bits brought up to date (R127). -/
def loopRefresh (s : State) : State :=
  let e := loopStatus s
  let any := fun st => (List.range 24).any fun k => loopState s k == st
  let s := (s.putB LOOP_GLB_STATUS.ANY_HOLDOVER (any 5)).putB LOOP_GLB_STATUS.ANY_PENDING (any 7)
  tbRefresh ((s.put LOOP_GLB_STATUS.STAT_LOOP_EFF (if e = 24 then 0 else e)).putB LOOP_GLB_STATUS.STAT_NONE (e == 24))

/-! ### Gains (R116, R117) -/

/-- T in µs: the longer of EPOCH and the sample interval of the incumbent (R116). -/
def loopTus (s : State) (k n : Nat) : Nat :=
  let e := loopTau s k / 1000
  match rgsType s n with
  | 1 => max e (s.get (RGS_SLOT_BIND.PERIOD n) * 10 ^ 6)
  | 4 => max e (10 ^ 6)
  | 5 => max e (10 ^ 6)
  | _ => e

/-- The largest code up to `c` for which BW × T ≤ 0.025 (R116). -/
def loopFit (tus : Nat) : Nat → Nat
  | 0 => 0
  | c + 1 => if 10 ^ (c + 1) * tus ^ 20 ≤ (25 * 10 ^ 9) ^ 20 then c + 1 else loopFit tus c

/-- BW_CODE and ZETA in use for an incumbent, and whether the bandwidth is clamped (R116, R117). -/
def loopGains (s : State) (k n : Nat) : Nat × Nat × Bool :=
  let byType := !s.flag (LOOP_CFG.BW_MODE k) && rgsType s n != 0
  let code := min 160 (if byType then s.get (LOOP_TYPE_BW.BW_CODE (rgsType s n)) else s.get (LOOP_BW.BW_CODE k))
  let zeta := max 1 (if byType then s.get (LOOP_TYPE_BW.ZETA (rgsType s n)) else s.get (LOOP_BW.ZETA k))
  let c := loopFit (loopTus s k n) code
  (c, zeta, c != code)

/-! ### Phase and slewing (R55, R114, R119) -/

/-- p of a loop at a device time: carried at STEER since it was last brought up (R114), in every state, OFF among them. -/
def loopPhase (s : State) (k : Nat) (t : Int) : Int :=
  (loopSt s k).p +
    if loopOwner s k then 0 else Config.quot (s.getS (LOOP_STEER_FF.ofs k) * (t - (loopSt s k).pAt)) (2 ^ 60)

/-- p carried to a device time at the rate STEER (R114). -/
def loopAdvance (k : Nat) (t : Int) (s : State) : State :=
  let p := loopPhase s k t
  loopSet k (fun (l : LoopState) => { l with p := p, pAt := t, moved := 0 }) s

/-- The slew term s for this epoch, with r reduced by it (R119). -/
def loopSlew (k : Nat) (s : State) : Int × State :=
  let r := (loopSt s k).r
  let tau : Int := loopTau s k
  let lim := s.getS (LOOP_SLEW_LIM_FF.ofs k)
  if (r.natAbs : Int) ≤ lim * tau then (Config.quot r tau, loopPutR k 0 s)
  else
    let v := if r < 0 then -lim else lim
    (v, loopPutR k (r - v * tau) s)

/-- STEER written. -/
def loopSteer (k : Nat) (v : Int) (s : State) : State := loopPutS k (LOOP_STEER_FF.ofs k) v s

/-- steer := i + s, with the residual slewing on (R119, R120). -/
def loopCoast (k : Nat) (base : Int) (s : State) : State :=
  if loopOwner s k then s
  else
    let p := loopSlew k s
    loopSteer k (base + p.1) p.2

/-- steer := i, the residual frozen (R120). -/
def loopFreeze (k : Nat) (s : State) : State :=
  if loopOwner s k then s else loopSteer k (s.getS (LOOP_INT_FF.ofs k)) s

/-- A pair delivered by a loop of role 2 or 3 (R114, R119). -/
def loopDeliver (k : Nat) (x y : Int) (s : State) : State :=
  let s := loopSteer k y s
  if s.get (LOOP_INFO.ROLE k) = 3 then { s with ens := { s.ens with pair := some (sat64 x, sat64 y) } }
  else if s.get TB_OWNER.KIND = 2 ∧ s.get TB_OWNER.LOOP = k then tbOwnerUpdate (sat64 x) (sat64 y) s
  else s

/-- An alignment p := x, r := 0 (R119, R122); `moved` records the step of the loop's output time. -/
def loopAlign (k : Nat) (x : Int) (s : State) : State :=
  (loopPutR k 0 (loopSet k (fun (l : LoopState) => { l with moved := l.moved + (x * phUnit - l.p), p := x * phUnit }) s)).put
    (LOOP_STATUS.FIRST_DONE k) 1

/-! ### Refusals (R121) -/

/-- PENDING entered; a loop of role 2 or 3 watches the timebase's pending step from here on (R121). -/
def loopPend (k : Nat) (s : State) : State :=
  loopFreeze k (loopEnter k 7 (loopSet k (fun (l : LoopState) =>
    { l with sawPend := s.flag TB_STATUS.STEP_PENDING && !s.flag TB_PEND_INFO.SRC, pendMark := s.tb.ownerPends,
             accepted := false }) (loopPublish k s)))

/-- The pending offset of a loop of role 0 or 1 written, SEQ advanced and STEP_REFUSED set (R121). -/
def loopPendOffset (k : Nat) (e : Int) (s : State) : State :=
  ((loopPutS k (LOOP_PEND_PH.ofs k) e s).countWrap (LOOP_PEND_INFO.SEQ k) 1).put (LOOP_FLAGS.STEP_REFUSED k) 1

/-- A refusal by a loop of role 0 or 1 (R121). -/
def loopRefuse (k : Nat) (e : Int) (s : State) : State :=
  loopPend k ((loopPendOffset k e s).raise (48 + 2 * k))

/-- Whether an offset lies beyond the jump limit (R119). -/
def loopBeyond (s : State) (e : Int) : Bool := tbJumpLimit s < e.natAbs

/-! ### Holdover (R125, R126) -/

/-- The R95 time bound of a grade in `_PH` units; the largest value for grades without one (R126). -/
def gradeBound (g : Nat) : Int :=
  match g with
  | 0 => 65536 | 1 => 30 * 65536 | 2 => 100 * 65536 | 3 => 250 * 65536
  | 4 => 10 ^ 3 * 65536 | 5 => 10 ^ 4 * 65536 | 6 => 10 ^ 5 * 65536 | 7 => 10 ^ 6 * 65536
  | 8 => 10 ^ 7 * 65536 | 9 => 10 ^ 8 * 65536 | 10 => 10 ^ 9 * 65536 | 11 => 10 ^ 10 * 65536
  | _ => 0x7fffffffffffffff

/-- g(u) of R126: the lowest grade from 0 to 11 whose bound is at least u, else 12. -/
def gradeOfUnc (u : Int) : Nat := ((List.range 12).find? fun g => decide (u ≤ gradeBound g)).getD 12

/-- HO_AVG in s, values below 64 treated as 64. -/
def loopHoAvg (s : State) (k : Nat) : Nat := max 64 (s.get (LOOP_HO_CFG.HO_AVG k))

/-- The width of a bin in units of device time (R125). -/
def loopBinWidth (s : State) (k : Nat) : Int := loopHoAvg s k * secUnit / 64

/-- i of a LOCKED epoch taken into its bin; the last 64 bins are kept (R125). -/
def loopBin (k : Nat) (t : Int) (s : State) : State :=
  let no := t / loopBinWidth s k
  let i := s.getS (LOOP_INT_FF.ofs k)
  loopSet k (fun (l : LoopState) =>
    match l.bins with
    | b :: bs => if b.no = no then { l with bins := { b with sum := b.sum + i, count := b.count + 1 } :: bs }
                 else { l with bins := (⟨no, i, 1⟩ :: b :: bs).take 64 }
    | [] => { l with bins := [⟨no, i, 1⟩] }) s

/-- The bins that ended at least HO_GUARD before an entry, of the 64 that end with it (R125). -/
def loopUsable (s : State) (k : Nat) (t : Int) : List HoBin :=
  let w := loopBinWidth s k
  (loopSt s k).bins.filter fun b =>
    decide ((b.no + 1) * w ≤ t - s.get (LOOP_HO_CFG.HO_GUARD k) * secUnit) && decide (t / w - 64 < b.no)

/-- The least-squares slope of points (t, x): the numerator and the denominator. -/
def slopeOf (pts : List (Int × Int)) : Int × Int :=
  let n : Int := pts.length
  let st := (pts.map (·.1)).sum
  let sx := (pts.map (·.2)).sum
  let stx := (pts.map fun p => p.1 * p.2).sum
  let stt := (pts.map fun p => p.1 * p.1).sum
  (n * stx - st * sx, n * stt - st * st)

/-- HOLDOVER entered (R120, R125): f_ho and d_ho are fixed from the bins. u starts from the u0 kept while tracking, the grade from the
incumbent's at the switch's entry to NONE (R126). -/
def loopHoldover (k : Nat) (t : Int) (s : State) : State :=
  let bs := (loopUsable s k t).map fun b => (b.no, Config.quot b.sum b.count)
  let i := s.getS (LOOP_INT_FF.ofs k)
  let f := if bs.isEmpty then i else Config.quot (bs.map (·.2)).sum bs.length
  let sl := slopeOf bs
  let d := if s.flag (LOOP_CFG.HO_DRIFT_EN k) && decide (2 ≤ bs.length) then
      Config.quot (sl.1 * 86400 * 64) (sl.2 * loopHoAvg s k) else 0
  let s := loopPutS k (LOOP_HO_DRIFT_FF.ofs k) d (loopPutS k (LOOP_HO_FF.ofs k) f s)
  let s := (s.putB (LOOP_STATUS.HO_SHORT k) bs.isEmpty).count (LOOP_CNT.HO_ENTRIES k) 1
  let s := loopSet k (fun (l : LoopState) => { l with hoAt := t, hoGrade := l.lostGrade, auth := none }) s
  loopFlag k (LOOP_FLAGS.HO_ENTERED k) ((loopEnter k 5 s).put (LOOP_HO_TIME.SEC k) 0)

/-- u of R126 at a time since entry, in `_PH` units. -/
def loopUnc (s : State) (k : Nat) (t : Int) : Int :=
  (loopSt s k).u0 + Config.quot (s.getS (LOOP_HO_FREQ_UNC_FF.ofs k) * t) (2 ^ 104) +
    Config.quot (s.getS (LOOP_HO_DRIFT_UNC_FF.ofs k) * t * t) (2 ^ 165 * 86400 * 10 ^ 9)

/-- One epoch in HOLDOVER of a closed or open loop: time, u and the published grade (R126, R127). -/
def loopHoEpoch (k : Nat) (t : Int) (s : State) : State :=
  let dt := t - (loopSt s k).hoAt
  let u := loopUnc s k dt
  let g := max (loopSt s k).hoGrade (gradeOfUnc u)
  let s := loopPutS k (LOOP_UNC_PH.ofs k) u (s.put (LOOP_HO_TIME.SEC k) (min 0xFFFFFFFF (dt / secUnit).toNat))
  let worse := decide (s.get (LOOP_STATUS.GRADE k) < g)
  s.onlyIf worse fun s =>
    (s.put (LOOP_STATUS.GRADE k) g).setEvent (LOOP_FLAGS.GRADE_DOWN k) (49 + 2 * k)

/-- The prediction f_ho + d_ho × t / 86,400 (R125). -/
def loopPredict (s : State) (k : Nat) (t : Int) : Int :=
  s.getS (LOOP_HO_FF.ofs k) +
    Config.quot (s.getS (LOOP_HO_DRIFT_FF.ofs k) * (t - (loopSt s k).hoAt)) (86400 * secUnit)

/-! ### The input x (R115) -/

/-- Whether a slot's x is read directly at the epoch (R115). -/
def rgsDirect (type : Nat) : Bool := type == 2 || type == 3 || type == 6

/-- The new x of a loop's incumbent at an epoch (R115): the source's measurement at the epoch, or a Registrar sample not yet
taken. A lost incumbent, or one without a signal, gives none (R107, R120). -/
def loopNewX (s : State) (k : Nat) (meas : Option Int) : Option Int :=
  match rgsIncumbent s k with
  | some n =>
    if !(s.flag (RGS_SLOT_STATUS.SIG n) && (rgsStateOf s n == 4 || rgsStateOf s n == 5)) then none
    else if rgsDirect (rgsType s n) then meas.map sat64
    else if (rgsSlot s n).sampleNo = (loopSt s k).lastSample then none
    else some (s.getS (RGS_SLOT_PH.ofs n))
  | none => none

/-- The measured x of a switch target at the commit epoch (R115, R119). -/
def loopTargetX (s : State) (n : Nat) (meas : Option Int) : Int :=
  if rgsDirect (rgsType s n) then (meas.map sat64).getD (s.getS (RGS_SLOT_PH.ofs n)) else s.getS (RGS_SLOT_PH.ofs n)

/-- The x that an epoch takes recorded as taken. -/
def loopTook (k : Nat) (x : Option Int) (s : State) : State :=
  match x, rgsIncumbent s k with
  | some v, some n =>
    loopSet k (fun (l : LoopState) => { l with xLast := v, lastSample := (rgsSlot s n).sampleNo }) s
  | _, _ => s

/-- e of a loop for an x, in `_PH` units (R119). -/
def loopErr (s : State) (k : Nat) (x : Int) : Int :=
  if loopOwner s k then x else toPh (x * phUnit - (loopSt s k).p - (loopSt s k).r)

/-! ### The commit (R107, R119) -/

/-- x̂ of R107. -/
def loopXhat (s : State) (k : Nat) : Int :=
  let predicted := if loopOwner s k then s.getS (LOOP_E_PH.ofs k) else toPh ((loopSt s k).p + (loopSt s k).r)
  match rgsIncumbent s k with
  | some n =>
    if rgsEligible s k n then
      (if rgsDirect (rgsType s n) then (loopSt s k).xLast else s.getS (RGS_SLOT_PH.ofs n))
    else predicted
  | none => predicted

/-- y_a of R119: the least-squares rate of the target's x over its ALIGN_TIME; none with fewer than two samples. -/
def loopYa (s : State) (n : Nat) : Option Int :=
  let pts := ((rgsSlot s n).samples.filter fun p => decide (s.rgs.now ≤ p.1 + rgsAlignCycles s n)).map
    fun p => ((p.1 : Int), p.2)
  let sl := slopeOf pts
  if pts.length < 2 || sl.2 = 0 then none else some (Config.quot (sl.1 * 2 ^ 44) (sl.2 * 10 ^ 7))

/-- The Registrar's side of a commit (R107). DESIGN CHOICE: HOLD_ON_DISPUTE of the loop ends with it (assumption 155). -/
def rgsCommit (k n : Nat) (step : Int) (s : State) : State :=
  let s := ((s.put (RGS_SEL_STATUS.SLOT k) n).put (RGS_SEL_STATUS.VALID k) 1).put (RGS_SEL_STATUS.SW_STATE k) 0
  let s := (s.put (RGS_SEL_STATUS.GRADE k) (s.get (RGS_SLOT_STATUS.GRADE n))).put (RGS_SEL_STATUS.HOLD_ON_DISPUTE k) 0
  rgsRefresh (((s.putS (RGS_SEL_STEP_PH.ofs k) step).count (RGS_SEL_CNT.COMMITS k) 1).setFlag RGS_FLAGS.SWITCH_DONE 38)

/-- u0 of R126: 2 × rms of the e of the last 64 tracking epochs, or with fewer than 16 the bound of the incumbent's grade. -/
def loopU0 (s : State) (k : Nat) : Int :=
  let es := (loopSt s k).es
  if es.length < 16 then gradeBound (s.get (RGS_SEL_STATUS.GRADE k))
  else (Config.root (4 * (es.map fun e => e.natAbs * e.natAbs).sum) es.length : Int)

/-- The loop's side of a commit with measured x (R119, R120). An open loop changes only its input (R123). -/
def loopCommitWork (k n : Nat) (x : Int) (s : State) : State :=
  let i := s.getS (LOOP_INT_FF.ofs k)
  let f := s.getS TB_PM_FREQ_FF.ofs
  if s.flag (LOOP_CFG.OPEN k) then s
  else if loopOwner s k then
    let i' := f + (loopYa s n).getD (i - f)
    let s := loopDeliver k x i' (loopPutS k (LOOP_INT_FF.ofs k) i' (s.putS (LOOP_E_PH.ofs k) x))
    s.onlyIf (loopBeyond s x) (loopPend k)
  else
    let s' := loopPutS k (LOOP_INT_FF.ofs k) ((loopYa s n).getD i) s
    if !s.flag (LOOP_STATUS.FIRST_DONE k) then loopAlign k x s'
    else
      let e := loopErr s k x
      if loopBeyond s e then loopRefuse k e s' else loopPutR k (x * phUnit - (loopSt s k).p) s'

/-- A switch committed at a loop epoch (R107, R120): STEP_PH is the target's x less x̂. -/
def loopCommit (k : Nat) (meas : Option Int) (s : State) : State :=
  let n := s.get (RGS_SEL_STATUS.TARGET k)
  let x := loopTargetX s n meas
  let s := rgsCommit k n (x - loopXhat s k) s
  let s := loopSet k (fun (l : LoopState) =>
    { l with xLast := x, lastSample := (rgsSlot s n).sampleNo, lockRun := 0, unlockRun := 0, u0 := loopU0 s k }) s
  let s := s.onlyIf (loopState s k == 5) (loopFlag k (LOOP_FLAGS.HO_LEFT k))
  loopCommitWork k n x (loopEnter k 2 s)

/-! ### Resolutions (R121, R122) -/

/-- PENDING is left for LOCKING, or for HOLD_DISPUTE while a hold lasts (R120). -/
def loopResolved (k : Nat) (s : State) : State :=
  loopEnter k (if s.flag (RGS_SEL_STATUS.HOLD_ON_DISPUTE k) then 6 else 2)
    (loopSet k (fun (l : LoopState) => { l with lockRun := 0, unlockRun := 0 }) s)

/-- Whether a LOOP_STEP_AUTH write is one that R122 takes: roles 0 and 1, PENDING, SEQ matching, exactly one bit. -/
def loopAuthOk (s : State) (k : Nat) (w : Word) : Bool :=
  let b := fieldOf w 16 3
  !loopOwner s k && loopState s k == 7 && fieldOf w 0 16 == s.get (LOOP_PEND_INFO.SEQ k) && (b == 1 || b == 2 || b == 4)

/-- A write of LOOP_STEP_AUTH (R122): stored for the next epoch, or a mismatch. -/
def loopAuthWrite (k : Nat) (w : Word) (at_ : Nat) (s : State) : State :=
  if loopAuthOk s k w then loopSet k (fun (l : LoopState) => { l with auth := some (w, s.pivotAt at_) }) s
  else loopFlag k (LOOP_FLAGS.AUTH_MISMATCH k) s

/-- 1 µs of pivot time. -/
def microsecond : Nat := 1000 * 4096

/-- A stored resolution acts (R122); `x` is the new x of the epoch. -/
def loopAct (k : Nat) (w : Word) (x : Option Int) (s : State) : State :=
  if w.getLsbD 16 then
    let r := (loopSt s k).r + s.getS (LOOP_PEND_PH.ofs k) * phUnit
    loopFlag k (LOOP_FLAGS.STEP_APPLIED k) (loopResolved k (loopPutR k r s))
  else if w.getLsbD 17 then
    loopFlag k (LOOP_FLAGS.STEP_APPLIED k) (loopResolved k (loopAlign k (x.getD (loopSt s k).xLast) s))
  else loopResolved k s

/-- Step 2 of an epoch (R118): a stored LOOP_STEP_AUTH write received at least 1 µs before acts, if its SEQ still matches; a
loop of role 2 or 3 leaves PENDING as R121 says. -/
def loopResolve (k piv : Nat) (x : Option Int) (s : State) : State :=
  let l := loopSt s k
  if loopOwner s k then
    if loopState s k = 7 then
      let saw := l.sawPend || l.pendMark != s.tb.ownerPends
      let s := loopSet k (fun (l : LoopState) => { l with sawPend := saw }) s
      if (saw && !s.flag TB_STATUS.STEP_PENDING) || l.accepted then loopResolved k s else s
    else s
  else match l.auth with
    | some (w, at_) =>
      if at_ + microsecond ≤ piv then
        let s := loopSet k (fun (l : LoopState) => { l with auth := none }) s
        if loopAuthOk s k w then loopAct k w x s else loopFlag k (LOOP_FLAGS.AUTH_MISMATCH k) s
      else s
    | none => s

/-! ### Numeric writes (R123, R124) -/

/-- A committed LOOP_NUM_FF write (R124). -/
def loopNumFF (k : Nat) (old v : Int) (at_ : Nat) (s : State) : State :=
  loopSet k (fun (l : LoopState) =>
    { l with numFF := (s.pivotAt at_, v) :: (if l.numFF.isEmpty then [(0, old)] else l.numFF) }) s

/-- A committed LOOP_NUM_PH write: collected while OPEN = 1, else discarded (R124). -/
def loopNumPh (k : Nat) (v : Int) (at_ : Nat) (s : State) : State :=
  if s.flag (LOOP_CFG.OPEN k) then
    loopSet k (fun (l : LoopState) => { l with numPh := (s.pivotAt at_, v) :: l.numPh }) s
  else s

/-- NUM_PH_WRITE. -/
def execNumPhWrite (k : Fin 24) (v : BitVec 64) (at_ : Nat) (s : State) : Host.Outcome State Fault Refusal :=
  .next (s.hostDo .loop (some (2, k)) [] (loopNumPh k v.toInt at_))

/-- num_ff in force at an epoch: the last commit at least 1 µs before it (R118, R124). -/
def loopFFInForce (s : State) (k piv : Nat) : Int :=
  match (loopSt s k).numFF.find? fun p => decide (p.1 + microsecond ≤ piv) with
  | some (_, v) => v
  | none => s.getS (LOOP_NUM_FF.ofs k)

/-- The sum of phase writes, oldest last in the list, saturating, and whether it saturated (R10, R123). -/
def loopNumSum (l : List (Nat × Int)) : Int × Bool :=
  l.foldr (fun p a => (sat64 (a.1 + p.2), a.2 || out64 (a.1 + p.2))) (0, false)

/-- Step 3 of an epoch (R118): the sum of the phase writes committed at least 1 µs before it, none where there were none; those
writes are used up. A sum that saturates sets FREQ_SAT (R10). -/
def loopTakeNum (k piv : Nat) (s : State) : Option Int × State :=
  let l := loopSt s k
  let due := l.numPh.filter fun p => decide (p.1 + microsecond ≤ piv)
  let sum := loopNumSum due
  let keep := l.numFF.filter (fun p => decide (piv < p.1 + microsecond))
  (if due.isEmpty then none else some sum.1,
   State.onlyIf sum.2 (loopFlag k (LOOP_FLAGS.FREQ_SAT k)) <| loopSet k (fun (l : LoopState) =>
     { l with numPh := l.numPh.filter (fun p => decide (piv < p.1 + microsecond)),
              numFF := keep ++ [(0, loopFFInForce s k piv)] }) s)

/-! ### The work of an epoch (R118 to R120) -/

/-- Lock detection with an e (R120). -/
def loopLock (k : Nat) (e : Int) (r0 : Bool) (s : State) : State :=
  let thr : Int := s.get (LOOP_LOCK.LOCK_THR k) * 65536
  let l := loopSt s k
  if loopState s k = 2 then
    let run := if r0 && decide ((e.natAbs : Int) ≤ thr) then l.lockRun + 1 else 0
    let s := loopSet k (fun (l : LoopState) => { l with lockRun := run, unlockRun := 0 }) s
    if max 1 (s.get (LOOP_LOCK.LOCK_CNT k)) ≤ run then loopFlag k (LOOP_FLAGS.LOCK_GAINED k) (loopEnter k 3 s) else s
  else
    let run := if 2 * thr < e.natAbs then l.unlockRun + 1 else 0
    let s := loopSet k (fun (l : LoopState) => { l with unlockRun := run, lockRun := 0 }) s
    if 4 ≤ run then
      loopFlag k (LOOP_FLAGS.LOCK_LOST k)
        ((loopEnter k 2 (loopSet k (fun (l : LoopState) => { l with unlockRun := 0 }) s)).count (LOOP_CNT.LOCK_LOSSES k) 1)
    else s

/-- e posted (R119). -/
def loopPostE (k : Nat) (e : Int) (s : State) : State :=
  loopPutS k (LOOP_E_PH.ofs k) e s

/-- The e of a tracking epoch kept for u0, the last 64 of them; a refused e is not (R119, R126). -/
def loopKeepE (k : Nat) (e : Int) (s : State) : State :=
  loopSet k (fun (l : LoopState) => { l with es := (e :: l.es).take 64 }) s

/-- u0 kept and posted while tracking (R126). -/
def loopPostU (k : Nat) (s : State) : State :=
  let u := loopU0 s k
  loopPutS k (LOOP_UNC_PH.ofs k) u (loopSet k (fun (l : LoopState) => { l with u0 := u }) s)

/-- Whether r is zero for lock detection: for roles 2 and 3, nothing is left to slew (SLEWING = 0, R56, R120). -/
def loopSettled (s : State) (k : Nat) : Bool :=
  if loopOwner s k then s.tb.residual == 0 else (loopSt s k).r == 0

/-- The numeric steer of an open loop, at an epoch at which it acts: roles 2 and 3 act only while tracking (R123). -/
def loopNumeric (k : Nat) (ff : Int) (ph : Option Int) (s : State) : State :=
  if loopOwner s k && !loopTracking s k then s
  else
    let s := loopPutI k ff s
    let i := s.getS (LOOP_INT_FF.ofs k)
    if loopOwner s k then loopDeliver k (ph.getD (toPh s.tb.residual)) i s
    else loopCoast k i (loopPutR k ((loopSt s k).r + ph.getD 0 * phUnit) s)

/-- The filter of a closed loop with an x, tracking (R119). -/
def loopFilter (k : Nat) (x : Int) (s : State) : State :=
  let e := loopErr s k x
  let n := (rgsIncumbent s k).getD 0
  let g := loopGains s k n
  let s := loopPostE k e (s.onlyIf g.2.2 (loopFlag k (LOOP_FLAGS.BW_CLAMPED k)))
  if loopBeyond s e then
    if loopOwner s k then loopPend k (loopDeliver k e (s.getS (LOOP_INT_FF.ofs k)) s) else loopRefuse k e s
  else
    let r0 := loopSettled s k
    let tau := loopTau s k
    let s := loopPutI k (s.getS (LOOP_INT_FF.ofs k) + loopKiTauE g.1 tau e) s
    let i := s.getS (LOOP_INT_FF.ofs k)
    let s :=
      if loopOwner s k then loopDeliver k (loopKpTauE g.1 g.2.1 tau e) i s
      else loopCoast k (i + loopKpE g.1 g.2.1 e) s
    loopPostU k (loopLock k e r0 (loopKeepE k e s))

/-- The tracking states with a new x: e, the lock test and the filter; an open loop runs no filter (R119, R123). -/
def loopTrack (k : Nat) (x : Int) (s : State) : State :=
  if s.flag (LOOP_CFG.OPEN k) then
    let e := loopErr s k x
    loopPostU k (loopLock k e (loopSettled s k) (loopKeepE k e (loopPostE k e s)))
  else loopFilter k x s

/-- A tracking epoch; i of one that ends LOCKED goes into its bin (R125). -/
def loopTrackBin (k : Nat) (t x : Int) (s : State) : State :=
  let s := loopTrack k x s
  s.onlyIf (loopState s k == 3) (loopBin k t)

/-- The epoch of a loop after its events, by its state (R119, R120). `x` is the new x of the epoch. -/
def loopWork (k : Nat) (t : Int) (x : Option Int) (s : State) : State :=
  let open_ := s.flag (LOOP_CFG.OPEN k)
  let i := s.getS (LOOP_INT_FF.ofs k)
  match loopState s k, x with
  | 2, some v => loopTrackBin k t v s
  | 3, some v => loopTrackBin k t v s
  | 4, some v => loopTrackBin k t v (loopEnter k (loopSt s k).left s)
  | 4, none => if open_ then s else loopCoast k i s
  | 5, _ =>
    let s := loopHoEpoch k t s
    if open_ then s else loopCoast k (loopPredict s k t) s
  | 6, some v =>
    let s := loopPutS k (LOOP_E_PH.ofs k) (loopErr s k v) s
    if open_ then s else loopFreeze k s
  | 6, none => if open_ then s else loopFreeze k s
  | 7, some v =>
    let e := loopErr s k v
    let s := loopPutS k (LOOP_E_PH.ofs k) e s
    if open_ || loopOwner s k then s
    else loopFreeze k (s.onlyIf (loopBeyond s e) (loopPendOffset k e))
  | 7, none => if open_ then s else loopFreeze k s
  | 1, _ => s
  | 0, _ => s
  | st, none =>
    let s := loopEnter k 4 (loopSet k (fun (l : LoopState) => { l with left := st }) (loopPublish k s))
    if open_ then s else loopCoast k i s
  | _, _ => s

/-- HOLD_DISPUTE left as the hold ends (R120). -/
def loopHoldEnds (k : Nat) (s : State) : State :=
  if loopState s k = 6 ∧ s.flag (RGS_SEL_STATUS.HOLD_ON_DISPUTE k) = false then
    loopEnter k 2 (loopSet k (fun (l : LoopState) => { l with lockRun := 0 }) s)
  else s

/-- Step 1 of an epoch but for a commit (R118): the switch has reached NONE, or a hold on dispute has begun or ended, since the previous
epoch, also where that has passed again by now. -/
def loopEvents (k : Nat) (t : Int) (s : State) : State :=
  let st := loopState s k
  let l := loopSt s k
  let hold := l.sawHold || s.flag (RGS_SEL_STATUS.HOLD_ON_DISPUTE k)
  let s := loopSet k (fun (l : LoopState) => { l with sawNone := false, sawHold := false }) s
  if (l.sawNone || s.get (RGS_SEL_STATUS.SW_STATE k) == 4) && decide (2 ≤ st ∧ st ≠ 5) then loopHoldover k t s
  else loopHoldEnds k (if hold && (st == 2 || st == 3 || st == 4) then loopEnter k 6 (loopPublish k s) else s)

/-- Device time of the epoch that falls at an instant: the nearest whole multiple of the period (R115). -/
def loopEpochTime (s : State) (k at_ : Nat) : Int :=
  let tau : Int := loopTau s k * nsUnit
  (s.timeAt at_ + tau / 2) / tau * tau

/-- A commit is due at an epoch (R107): the switch waits in COMMIT and the loop is neither OFF nor PENDING. -/
def loopCommits (s : State) (k : Nat) : Bool :=
  s.get (RGS_SEL_STATUS.SW_STATE k) == 3 && loopState s k != 7 && loopState s k != 0

/-- LOOP_EPOCH (R118 to R127). `meas` is the source's phase measurement at the epoch instant for a slot of type 2, 3 or 6. -/
def loopEpoch (k : Nat) (meas : Option Int) (at_ : Nat) (s : State) : State :=
  if !s.live .loop || loopState s k = 0 then s
  else
    let t := loopEpochTime s k at_
    let piv := s.pivotAt at_
    let s := loopEvents k t (loopAdvance k t s)
    let commits := loopCommits s k
    let s := s.onlyIf commits (loopCommit k meas)
    let x := if commits then none else loopNewX s k meas
    let s := s.onlyIf (commits || x.isSome) (loopSet k (fun (l : LoopState) => { l with xAt := some t }))
    let s := loopResolve k piv x s
    let num := loopTakeNum k piv s
    let s := loopTook k x num.2
    let s := if commits then s.onlyIf (loopTracking s k) (loopPostU k) else loopWork k t x s
    let s := if s.flag (LOOP_CFG.OPEN k) then loopNumeric k (loopFFInForce s k piv) num.1 s else s
    loopRefresh (loopPublish k s)

/-- LOOP_DEADLINE_MISS (R118): the epoch is skipped, its last steer holds, and DEADLINE is set. -/
def execLoopDeadlineMiss (k : Fin 24) (at_ : Nat) (s : State) : Host.Outcome State Fault Refusal :=
  .next ((loopFlag k (LOOP_FLAGS.DEADLINE k) s).deadline 1 (s.timeAt at_))

/-- LOOP_AUTH (R122). -/
def execLoopAuth (k : Fin 24) (seq : BitVec 16) (at_ : Nat) (s : State) : Host.Outcome State Fault Refusal :=
  .next (s.hostDo .loop (some (2, k)) [] (loopAuthWrite k (seq.setWidth 32 ||| 0x10000) at_))

/-- LOOP_ALIGN (R122). -/
def execLoopAlign (k : Fin 24) (seq : BitVec 16) (at_ : Nat) (s : State) : Host.Outcome State Fault Refusal :=
  .next (s.hostDo .loop (some (2, k)) [] (loopAuthWrite k (seq.setWidth 32 ||| 0x20000) at_))

/-- LOOP_REJECT (R122). -/
def execLoopReject (k : Fin 24) (seq : BitVec 16) (at_ : Nat) (s : State) : Host.Outcome State Fault Refusal :=
  .next (s.hostDo .loop (some (2, k)) [] (loopAuthWrite k (seq.setWidth 32 ||| 0x40000) at_))

/-- A loop that enters FREERUN with its switch STEADY on an eligible incumbent commits that incumbent again (R107). -/
def loopRecommit (k : Nat) (s : State) : State :=
  match rgsIncumbent s k with
  | some n =>
    if s.get (RGS_SEL_STATUS.SW_STATE k) = 0 ∧ rgsEligible s k n then rgsSwitch k 3 (s.put (RGS_SEL_STATUS.TARGET k) n) else s
  | none => s

/-- EN of a loop written (R120). -/
def loopEnable (k : Nat) (en : Bool) (s : State) : State :=
  let s := s.putB (LOOP_CFG.EN k) en
  let s := if !en then loopEnter k 0 s
    else if loopState s k = 0 then
      loopRecommit k ((loopEnter k 1 (loopSet k (fun (l : LoopState) => { l with sawNone := false, sawHold := false }) s)).put
        (LOOP_STATUS.FIRST_DONE k) 0)
    else s
  loopRefresh (loopPublish k s)

/-- LOOP_ENABLE. -/
def execLoopEnable (k : Fin 24) (en : Bool) (s : State) : Host.Outcome State Fault Refusal :=
  .next (s.hostDo .loop (some (2, k)) [LOOP_CFG.ofs k] (loopEnable k en))

/-- OPEN of a loop written (R124): from 0 to 1 the integrator is copied into LOOP_NUM_FF, from 1 to 0 the filter resumes from
it. -/
def loopOpen (k : Nat) (open_ : Bool) (s : State) : State :=
  let old := s.flag (LOOP_CFG.OPEN k)
  let s := s.putB (LOOP_CFG.OPEN k) open_
  if open_ && !old then
    let i := s.getS (LOOP_INT_FF.ofs k)
    loopSet k (fun (l : LoopState) => { l with numFF := [(0, i)] }) (s.putS (LOOP_NUM_FF.ofs k) i)
  else if !open_ && old then s.putS (LOOP_INT_FF.ofs k) (s.getS (LOOP_NUM_FF.ofs k))
  else s

/-- OPEN_CHANGE. -/
def execOpenChange (k : Fin 24) (open_ : Bool) (s : State) : Host.Outcome State Fault Refusal :=
  .next (s.hostDo .loop (some (2, k)) [LOOP_CFG.ofs k] (loopOpen k open_))

/-- What a loop keeps through its reset: p (R120), the latest x of its incumbent (R107) and the epoch at which it took a new x, which
only a PWR or DEV reset ends (R209). -/
def LoopState.kept (l : LoopState) : LoopState :=
  { LoopState.reset with p := l.p, pAt := l.pAt, xLast := l.xLast, lastSample := l.lastSample, xAt := l.xAt }

/-- An INST reset of a loop, once its registers have taken their values (R120). -/
def loopInstReset (k : Nat) (s : State) : State :=
  let s := loopPutR k 0 (loopSet k LoopState.kept s)
  let s := s.put (LOOP_STATUS.FIRST_DONE k) 0
  loopRefresh (loopPublish k (if s.flag (LOOP_CFG.EN k) then loopRecommit k (loopEnter k 1 s) else loopEnter k 0 s))

/-- A step of device time moves the epochs from which p is carried; p itself changes only through STEER (R55, R61). -/
def loopStep (move : Int) (s : State) : State :=
  { s with loops := s.loops.map fun (l : LoopState) => { l with pAt := l.pAt + move, hoAt := l.hoAt + move } }

/-- EVALUATION_CYCLE (R103, R106, R107), with the published grades of the loops that follow their incumbent (R127). -/
def execEvaluationCycle (s : State) : Host.Outcome State Fault Refusal :=
  .next (if s.live .rgs then (List.range 24).foldl (fun s k => loopPublish k s) (rgsEvaluate s) else s)

end Sys2Proof.Machine
end

