-- ==== Sys2Proof/Machine/Ensemble.lean ====
section
/-! DEFINITION. The ensemble engine and the realised timescale (06_ensemble.md). -/

namespace Sys2Proof.Machine

/-! ### Members -/

/-- A member's internal state. -/
def ensMember (s : State) (i : Nat) : EnsMember := s.ens.members.getD i EnsMember.reset

/-- A member's internal state changed. -/
def ensSet (i : Nat) (f : EnsMember → EnsMember) (s : State) : State :=
  { s with ens := { s.ens with members := s.ens.members.modify i f } }

/-- STATE of a member (R137): 0 OFF, 1 TRIAL, 2 ACTIVE, 3 SUSPENDED. -/
def ensState (s : State) (i : Nat) : Nat := s.get (MB_STATUS.STATE i)

/-- The members, in order. -/
def ensAll : List Nat := List.range 32

/-- τ0 in ns (R132). -/
def ensTau (s : State) : Nat := match s.get ENS_CFG.TAU0 with | 1 => 10 ^ 10 | 2 => 10 ^ 11 | _ => 10 ^ 9

/-- A computed register of the engine, saturating with SAT (R10). -/
def ensPutS (ofs : Nat) (x : Int) (s : State) : State := s.putSat ofs ENS_FLAGS.SAT 42 x

/-- TRIAL_CNT follows the member states. -/
def ensRefresh (s : State) : State := s.put ENS_STATUS.TRIAL_CNT (ensAll.filter fun i => ensState s i == 1).length

/-- Entry to TRIAL (R137): the runs and the trial count clear. -/
def ensTrial (i : Nat) (s : State) : State :=
  let s := ((s.put (MB_STATUS.STATE i) 1).put (MB_STATUS.REJ_RUN i) 0).put (MB_STATUS.MISS_RUN i) 0
  ensRefresh (ensSet i (fun (m : EnsMember) => { m with holdRun := 0 }) (s.setReg (MB_TRIAL.ofs i) 0))

/-- A member suspended (R137). -/
def ensSuspend (i : Nat) (s : State) : State :=
  let s := (s.put (MB_STATUS.STATE i) 3).setReg (MB_WEIGHT.ofs i) 0
  ensRefresh ((ensSet i (fun (m : EnsMember) => { m with holdRun := 0 }) s).setFlag ENS_FLAGS.SUSPENDED_EV 41)

/-- A member turned off: weight 0 (R137). -/
def ensOff (i : Nat) (s : State) : State := ensRefresh ((s.put (MB_STATUS.STATE i) 0).setReg (MB_WEIGHT.ofs i) 0)

/-- EN of a member written (R137). -/
def ensEnable (i : Nat) (en : Bool) (s : State) : State :=
  let s := s.putB (MB_CFG.EN i) en
  if !en then ensOff i s else if ensState s i = 0 then ensTrial i s else s

/-- MEMBER_ENABLE. -/
def execMemberEnable (i : Fin 32) (en : Bool) (s : State) : Host.Outcome State Fault Refusal :=
  .next (s.hostDo .ens (some (3, i)) [MB_CFG.ofs i] (ensEnable i en))

/-- MEMBER_RETRY (R137): ignored outside SUSPENDED. -/
def ensRetry (i : Nat) (s : State) : State := if ensState s i = 3 then ensTrial i s else s

/-- MEMBER_RETRY. -/
def execMemberRetry (i : Fin 32) (s : State) : Host.Outcome State Fault Refusal :=
  .next (s.hostDo .ens (some (3, i)) [] (ensRetry i))

/-- MEMBER_SUSPEND (R137): ignored outside ACTIVE. -/
def ensCmdSuspend (i : Nat) (s : State) : State := if ensState s i = 2 then ensSuspend i s else s

/-- MEMBER_SUSPEND. -/
def execMemberSuspend (i : Fin 32) (s : State) : Host.Outcome State Fault Refusal :=
  .next (s.hostDo .ens (some (3, i)) [] (ensCmdSuspend i))

/-- An INST reset of a member, once its registers have taken their values (R137). -/
def ensInstReset (i : Nat) (s : State) : State :=
  let s := ensSet i (fun _ => EnsMember.reset) s
  if s.flag (MB_CFG.EN i) then ensTrial i s else ensOff i s

/-- Whether a role 3 loop exists (R139). -/
def ensRole3 (s : State) : Option Nat := (List.range 24).find? fun k => s.get (LOOP_INFO.ROLE k) == 3

/-- A committed ENS_MAN_PH write (R139): added to man_ph_sum, which saturates with SAT (R10); ignored when a role 3 loop exists. -/
def ensManPh (v : Int) (s : State) : State :=
  if (ensRole3 s).isSome then s
  else
    let sum := s.ens.manPh + v
    { s with ens := { s.ens with manPh := sat64 sum } }.onlyIf (out64 sum) (State.setFlag ENS_FLAGS.SAT 42)

/-- MAN_PH_WRITE. -/
def execManPhWrite (v : BitVec 64) (s : State) : Host.Outcome State Fault Refusal :=
  .next (s.hostDo .ens none [] (ensManPh v.toInt))

/-- An accepted stamp of a channel passed to the members bound to it (R79, R130). -/
def ensEdge (ch : Nat) (t : Int) (piv : Nat) (s : State) : State :=
  ensAll.foldl (fun s i =>
    if s.flag (MB_BIND.VALID i) && s.get (MB_BIND.CH i) == ch then
      ensSet i (fun (m : EnsMember) => { m with stamps := (t, piv) :: m.stamps }) s
    else s) s

/-! ### Measurement (R130, R131) -/

/-- The steps of device time between the previous epoch and a stamp, in `_PH` units (R130). -/
def ensStepsTo (s : State) (piv : Nat) : Int :=
  let from_ := match s.ens.mark with | some (p, _) => p - 500 * 10 ^ 6 * 4096 | none => 0
  toPh ((s.ens.steps.filter fun x => decide (from_ ≤ x.1) && decide (x.1 ≤ piv)).map (·.2)).sum

/-- X_i of a stamp, brought by whole seconds nearest to x_i - x_dev (R130). -/
def ensX (s : State) (i : Nat) (tk : Int) (st : Int × Nat) : Int :=
  let x := (tk / 2 ^ 48 - st.1) * 16 + ensStepsTo s st.2
  let want := s.getS (MB_X_PH.ofs i) - s.getS ENS_XDEV_PH.ofs
  want + rgsNearest (x - want) (10 ^ 9 * 65536)

/-- The stamps of a member in the capture window of t_k (R130). -/
def ensWindow (s : State) (i : Nat) (tk : Int) : List (Int × Nat) :=
  (ensMember s i).stamps.filter fun p =>
    decide (tk - secUnit / 2 ≤ p.1 * 2 ^ 48) && decide (p.1 * 2 ^ 48 < tk + secUnit / 2)

/-- The measured X_i: of several stamps the one nearest to the unwrapped prediction; none for a missing member (R131). -/
def ensMeasure (s : State) (i : Nat) (tk : Int) : Option Int :=
  let want := s.getS (MB_X_PH.ofs i) - s.getS ENS_XDEV_PH.ofs
  ((ensWindow s i tk).map (ensX s i tk)).foldl (fun b x =>
    match b with
    | some y => if (x - want).natAbs < (y - want).natAbs then some x else some y
    | none => some x) none

/-- One member of an epoch: its number, X, its prediction xh, its predicted variance and its state. -/
structure EnsRow where
  i : Nat
  x : Int
  xh : Int
  v : Nat
  state : Nat
  trial : Nat
deriving DecidableEq, Repr

/-- x_i + y_i τ + d_i τ² / 2 of R133, in `_PH` units. -/
def ensPredict (s : State) (i : Nat) : Int :=
  let tau : Int := ensTau s
  s.getS (MB_X_PH.ofs i) + Config.quot (s.getS (MB_Y_FF.ofs i) * tau) (2 ^ 44) +
    Config.quot (s.getS (MB_DRIFT_FF.ofs i) * tau * tau) (2 ^ 45 * 86400 * 10 ^ 9)

/-- SIGMA_FLOOR squared, in units of 2^-64 ns². -/
def ensFloorVar (s : State) : Nat :=
  let f := max 1 (s.reg ENS_SIGMA_FLOOR.ofs).toNat
  f * f * 2 ^ 32

/-- The members with a stamp at an epoch. -/
def ensRows (s : State) (tk : Int) : List EnsRow :=
  ensAll.filterMap fun i =>
    if ensState s i = 0 then none
    else (ensMeasure s i tk).map fun x =>
      { i := i, x := x, xh := ensPredict s i, v := max (ensMember s i).var (ensFloorVar s), state := ensState s i,
        trial := (s.reg (MB_TRIAL.ofs i)).toNat }

/-! ### Weights (R134) -/

/-- The weight cap max(WMAX, 1 / n) as a numerator and a denominator. -/
def ensCap (s : State) (n : Nat) : Nat × Nat :=
  let w := s.get ENS_CFG.WMAX
  let w := if w = 0 then 0x10000 else max 0x800 w
  if 0x10000 ≤ w * n then (w, 0x10000) else (1, n)

/-- Step 4 of R134 until no weight exceeds the cap: the members fixed at the cap, given 1/v of each member scaled to a whole
number. -/
def ensFix (c d : Nat) (rs : List (Nat × Nat)) : Nat → List Nat → List Nat
  | 0, fixed => fixed
  | fuel + 1, fixed =>
    let free := rs.filter fun p => !fixed.contains p.1
    let sum := (free.map (·.2)).sum
    let past := free.filter fun p => decide (c * sum < (d - fixed.length * c) * p.2)
    if past.isEmpty then fixed else ensFix c d rs fuel (fixed ++ past.map (·.1))

/-- The weights of a set of members, as numerators over one denominator (R134). -/
def ensWeights (s : State) (set : List EnsRow) : List (Nat × Nat) × Nat :=
  let n := set.length
  let prod := (set.map (·.v)).foldl (· * ·) 1
  let rs := set.map fun m => (m.i, prod / m.v)
  let cd := ensCap s n
  let fixed := ensFix cd.1 cd.2 rs n []
  let sum := max 1 ((rs.filter fun p => !fixed.contains p.1).map (·.2)).sum
  (rs.map fun p => (p.1, if fixed.contains p.1 then cd.1 * sum else (cd.2 - fixed.length * cd.1) * p.2), cd.2 * sum)

/-- The weighted sum of the prediction errors of a set: x_dev (R133). -/
def ensXdev (s : State) (set : List EnsRow) : Int :=
  let w := ensWeights s set
  Config.quot (set.map fun m => ((tableGet w.1 m.i).getD 0 : Int) * (m.xh - m.x)).sum w.2

/-! ### The outlier test (R133, R135) -/

/-- thr_i squared, in units of 2^-40 `_PH`² (R135). -/
def ensThr2 (s : State) (m : EnsRow) : Nat :=
  let k := max 16 (s.get ENS_CFG.OUT_K)
  let f := (s.reg ENS_OUT_FLOOR.ofs).toNat
  max (k * k * m.v) (f * f * 2 ^ 40)

/-- ε_i of a member for an x_dev. -/
def EnsRow.eps (xdev : Int) (m : EnsRow) : Int := m.xh - m.x - xdev

/-- Whether |ε_i| exceeds thr_i. -/
def ensExceeds (s : State) (xdev : Int) (m : EnsRow) : Bool :=
  ensThr2 s m < (m.eps xdev).natAbs * (m.eps xdev).natAbs * 2 ^ 40

/-- The member of a set worst in proportion to its threshold (R135). -/
def ensWorst (s : State) (xdev : Int) (set : List EnsRow) : Option EnsRow :=
  set.foldl (fun b m =>
    match b with
    | some w =>
      if (w.eps xdev).natAbs * (w.eps xdev).natAbs * ensThr2 s m < (m.eps xdev).natAbs * (m.eps xdev).natAbs * ensThr2 s w
      then some m else some w
    | none => some m) none

/-- The outcome of the outlier test: the final set, x_dev, the rejected members and NO_MAJORITY. -/
structure EnsTest where
  set : List EnsRow
  xdev : Int
  rejected : List Nat
  noMajority : Bool
deriving DecidableEq, Repr

/-- The outlier test (R133, R135): one member removed per pass. -/
def ensTest (s : State) (coast : Int) : Nat → List EnsRow → List Nat → EnsTest
  | 0, set, rej => { set := set, xdev := ensXdev s set, rejected := rej, noMajority := false }
  | fuel + 1, set, rej =>
    match ensWorst s (ensXdev s set) set with
    | none => { set := [], xdev := coast, rejected := rej, noMajority := false }
    | some m =>
      let xd := ensXdev s set
      if !ensExceeds s xd m then { set := set, xdev := xd, rejected := rej, noMajority := false }
      else if set.length ≤ 3 then { set := set, xdev := xd, rejected := rej, noMajority := true }
      else ensTest s coast fuel (set.filter fun x => x.i != m.i) (rej ++ [m.i])

/-! ### Updates (R133, R136, R137) -/

/-- y and var of a member that takes part (R133). -/
def ensLearn (s : State) (xdev : Int) (m : EnsRow) : Int × Nat :=
  let tau : Int := ensTau s
  let cap := fun n => if m.state = 1 then min n (max 1 m.trial) else n
  let nf : Int := cap (max 1 (s.reg ENS_FREQ_AVG.ofs).toNat)
  let nv : Int := cap (max 1 (s.reg ENS_VAR_AVG.ofs).toNat)
  let y := s.getS (MB_Y_FF.ofs m.i)
  let dt := Config.quot (s.getS (MB_DRIFT_FF.ofs m.i) * tau) (86400 * 10 ^ 9)
  let half := Config.quot (s.getS (MB_DRIFT_FF.ofs m.i) * tau) (2 * 86400 * 10 ^ 9)
  let rate := Config.quot ((m.x + xdev - s.getS (MB_X_PH.ofs m.i)) * 2 ^ 44) tau
  let e := m.eps xdev
  let var : Int := (ensMember s m.i).var
  (y + dt + Config.quot (rate - y - half) nf, (var + Config.quot (e * e * 2 ^ 32 - var) nv).toNat)

/-- MB_SIGMA follows the variance, saturating. -/
def ensPutVar (i v : Nat) (s : State) : State :=
  (ensSet i (fun (m : EnsMember) => { m with var := v }) s).setReg (MB_SIGMA.ofs i)
    (BitVec.ofNat 32 (min 0xFFFFFFFF (Config.root v (2 ^ 32))))

/-- The state machine of a member with a stamp (R136, R137). `past` says that |ε| exceeds its threshold, `active` that an
ACTIVE member exists. -/
def ensAdvance (m : EnsRow) (rejected past active : Bool) (s : State) : State :=
  let s := (s.put (MB_STATUS.MISS_RUN m.i) 0).put (MB_STATUS.MISSING m.i) 0
  match m.state with
  | 1 =>
    if 64 ≤ m.trial ∧ active ∧ past then (s.setReg (MB_TRIAL.ofs m.i) 1).setFlag ENS_FLAGS.TRIAL_RESTART 42
    else
      let s := s.setReg (MB_TRIAL.ofs m.i) (BitVec.ofNat 32 (m.trial + 1))
      if max 64 (s.reg ENS_TRIAL.ofs).toNat ≤ m.trial + 1 then
        (s.put (MB_STATUS.STATE m.i) 2).setFlag ENS_FLAGS.MB_ACTIVE_EV 42
      else s
  | 2 =>
    if rejected then
      let s := ((s.count (MB_STATUS.REJ_RUN m.i) 1).count (MB_CNT.REJECTS m.i) 1).count ENS_CNT.REJECTS 1
      let s := s.setEvent ENS_FLAGS.REJECTED 41
      s.onlyIf (decide (max 1 (s.get ENS_LIMITS.REJ_LIMIT) ≤ s.get (MB_STATUS.REJ_RUN m.i))) (ensSuspend m.i)
    else s.put (MB_STATUS.REJ_RUN m.i) 0
  | _ =>
    let run := (ensMember s m.i).holdRun + 1
    let s := ensSet m.i (fun (x : EnsMember) => { x with holdRun := run }) s
    s.onlyIf (s.flag (MB_CFG.AUTO_RETRY m.i) && decide (s.get ENS_LIMITS.SUSP_HOLD ≤ run)) (ensTrial m.i)

/-- A member with a stamp after the test: y, var and x (R133), then its state. -/
def ensUpdate (r : EnsTest) (active : Bool) (s : State) (m : EnsRow) : State :=
  let inSet := r.set.any fun x => x.i == m.i
  let first := m.state == 1 && m.trial == 0
  let s := if first then ensPutVar m.i ((s.reg ENS_SIGMA_INIT.ofs).toNat ^ 2 * 2 ^ 32) (s.putS (MB_Y_FF.ofs m.i) 0)
    else if inSet || m.state == 1 then
      let l := ensLearn s r.xdev m
      ensPutVar m.i l.2 (ensPutS (MB_Y_FF.ofs m.i) l.1 s)
    else s
  let s := if m.state == 3 then s else ensPutS (MB_EPS_PH.ofs m.i) (m.eps r.xdev) s
  let past := ensExceeds s r.xdev m
  ensAdvance m (r.rejected.contains m.i) past active (ensPutS (MB_X_PH.ofs m.i) (m.x + r.xdev) s)

/-- A member without a stamp: its phase is its prediction, and the miss is counted (R133, R136, R137). -/
def ensMissing (i : Nat) (s : State) : State :=
  let st := ensState s i
  if st = 0 then s
  else
    let s := if st = 3 then ensSet i (fun (m : EnsMember) => { m with holdRun := 0 }) s
      else ensPutS (MB_X_PH.ofs i) (ensPredict s i) s
    let s := ((s.put (MB_STATUS.MISSING i) 1).count (MB_STATUS.MISS_RUN i) 1).count (MB_CNT.MISSES i) 1
    s.onlyIf (st != 3 && decide (max 1 (s.get ENS_LIMITS.MISS_LIMIT) ≤ s.get (MB_STATUS.MISS_RUN i))) 
      fun s => (ensSuspend i s).raise 41

/-- MB_WEIGHT of every member: the final set's weights, 0 elsewhere (R134). -/
def ensPostWeights (set : List EnsRow) (s : State) : State :=
  let w := ensWeights s set
  ensAll.foldl (fun s i =>
    let v := match tableGet w.1 i with
      | some n => min 0xFFFFFFFF (Config.quot (n * 2 ^ 32) w.2).toNat
      | none => 0
    s.setReg (MB_WEIGHT.ofs i) (BitVec.ofNat 32 v)) s

/-! ### Steer, delivery and budget (R138 to R145) -/

/-- ρ in `_FF` units: the mean rate by which device time fell behind the pivot over the epoch (R133). -/
def ensRho (s : State) (piv : Nat) (dev : Int) : Int :=
  match s.ens.mark with
  | some (p, d) =>
    let dp : Int := ((piv : Int) - p) * 2 ^ 48
    if dp = 0 then 0 else Config.quot ((dp - (dev - s.ens.moved - d)) * 2 ^ 60) dp
  | none => Config.quot (10 ^ 6 * 2 ^ 60 - s.tb.adv) (10 ^ 6)

/-- q of R139: r_T slewed over one epoch. -/
def ensSlew (s : State) : Int :=
  let lim := Config.quot (s.getS ENS_SLEW_LIM_FF.ofs * ensTau s) (2 ^ 44)
  clampInt (-lim) lim (s.getS ENS_RES_PH.ofs)

/-- The steer of R139 after the update of R133: the state and xout. -/
def ensSteer (s : State) : State × Int :=
  let q := ensSlew s
  let c := s.getS ENS_C_PH.ofs + Config.quot (s.getS ENS_S_FF.ofs * ensTau s) (2 ^ 44) - q
  let s := ensPutS ENS_RES_PH.ofs (s.getS ENS_RES_PH.ofs - q) (ensPutS ENS_C_PH.ofs c s)
  let base := s.getS ENS_XDEV_PH.ofs - s.getS ENS_C_PH.ofs
  let yp := s.getS ENS_YP_FF.ofs
  let man := s.ens.manPh
  let pair := s.ens.pair
  let s := { s with ens := { s.ens with pair := none, manPh := 0 } }
  match pair with
  | some (xl, yl) =>
    if tbJumpLimit s < xl.natAbs then (s, base + xl)
    else (ensPutS ENS_RES_PH.ofs xl (ensPutS ENS_S_FF.ofs (yp - yl) s), base)
  | none =>
    if (ensRole3 s).isSome then (s, base)
    else (ensPutS ENS_RES_PH.ofs (s.getS ENS_RES_PH.ofs + man) (s.putS ENS_S_FF.ofs (s.getS ENS_MAN_STEER_FF.ofs)), base)

/-- T started at device time at the first epoch at which the time is VERIFIED (R141). -/
def ensStart (s : State) : State :=
  if s.ens.started || !s.flag TB_STATUS.VERIFIED then s
  else
    let s := { s with ens := { s.ens with started := true } }
    (s.putS ENS_C_PH.ofs (s.getS ENS_XDEV_PH.ofs)).putS ENS_RES_PH.ofs 0

/-- The pair handed to the timebase (R140, R141). A role 3 loop in PENDING learns whether the timebase accepted the delivery
that carried its offset (R121). -/
def ensDeliver (active : Nat) (carried : Bool) (xout : Int) (s : State) : State :=
  let go := s.get TB_OWNER.KIND = 1 ∧ ¬ s.flag TB_STATUS.STEP_PENDING ∧ s.ens.started ∧ active ≠ 0
  let s := s.putB ENS_STATUS.DELIVERING (decide go)
  if go then
    let x := sat64 xout
    let s := tbOwnerUpdate x (sat64 (s.getS ENS_YP_FF.ofs - s.getS ENS_S_FF.ofs)) s
    match ensRole3 s with
    | some k =>
      if carried && !loopBeyond s x then loopSet k (fun (l : LoopState) => { l with accepted := true }) s else s
    | none => s
  else tbRefresh s

/-- The traceability loop and its role (R145). -/
def ensTrace (s : State) : Option (Nat × Nat) :=
  match ensRole3 s with
  | some k => some (k, 3)
  | none => ((List.range 24).find? fun k => s.get (LOOP_INFO.ROLE k) == 2).map fun k => (k, 2)

/-- u_A: the type A term over the final set (R145). -/
def ensUa (s : State) (set : List EnsRow) : Nat :=
  let w := ensWeights s set
  if set.isEmpty then 0
  else Config.root ((set.map fun m => ((tableGet w.1 m.i).getD 0) ^ 2 * m.v).sum) (w.2 * w.2 * 2 ^ 32)

/-- The budget (R145). -/
def ensBudget (set : List EnsRow) (s : State) : State :=
  let ua : Int := ensUa s set
  let tr := ensTrace s
  let ul : Int := match tr with | some (k, _) => Config.quot (s.getS (LOOP_UNC_PH.ofs k)) 2 | none => 0
  let res := s.tb.residual.natAbs
  let ur : Int := Config.root (res * res) (3 * 2 ^ 88)
  let ub := (List.range 4).map fun j => (s.getS (ENS_UB_PH.ofs j)).natAbs
  let sum := ua.natAbs ^ 2 + ul.natAbs ^ 2 + ur.natAbs ^ 2 + (ub.map fun u => u ^ 2).sum
  let s := (s.putB ENS_STATUS.UNTRACED tr.isNone).put ENS_UNC_INFO.TRACE_ROLE (match tr with | some (_, r) => r | none => 0)
  let s := s.put ENS_UNC_INFO.TRACE_LOOP (match tr with | some (k, _) => k | none => 0)
  let s := ensPutS ENS_URES_PH.ofs ur (ensPutS ENS_UL_PH.ofs ul (ensPutS ENS_UA_PH.ofs ua s))
  ensPutS ENS_UNC_PH.ofs (Config.root (4 * sum) 1) s

/-- t_k of the epoch whose window closes at an instant (R132). -/
def ensEpochTime (s : State) (at_ : Nat) : Int :=
  let tau : Int := ensTau s * nsUnit
  (s.timeAt at_ - secUnit / 2 + tau / 2) / tau * tau

/-- The stamps and steps that an epoch has used are dropped, and its mark is set (R130, R133). -/
def ensClose (tk : Int) (piv : Nat) (dev : Int) (s : State) : State :=
  { s with ens := { s.ens with
      members := s.ens.members.map fun (m : EnsMember) =>
        { m with stamps := m.stamps.filter fun p => decide (tk + secUnit / 2 ≤ p.1 * 2 ^ 48) },
      steps := s.ens.steps.filter (fun x => decide (piv ≤ x.1 + 500 * 10 ^ 6 * 4096)),
      mark := some (piv, dev - s.ens.moved) } }

/-- The first epoch after a restore or a BLK reset with a stamp (R143, R412): phases only. -/
def ensRebase (rows : List EnsRow) (s : State) : State :=
  let s := { s.putS ENS_XDEV_PH.ofs 0 with ens := { s.ens with rebase := false, rebases := s.ens.rebases + 1 } }
  let s := rows.foldl (fun s m =>
    let s := ensPutS (MB_X_PH.ofs m.i) m.x s
    let s := if m.state == 1 && m.trial == 0 then
        ensPutVar m.i ((s.reg ENS_SIGMA_INIT.ofs).toNat ^ 2 * 2 ^ 32) (s.putS (MB_Y_FF.ofs m.i) 0) else s
    ensAdvance m false false false s) s
  s.setFlag ENS_FLAGS.REBASED 42

/-- The update of R133 by the outlier test's outcome: members, x_dev and y_p. -/
def ensApply (rows : List EnsRow) (r : EnsTest) (rho : Int) (s : State) : State :=
  let active := ensAll.any fun i => ensState s i == 2
  let prev := s.getS ENS_XDEV_PH.ofs
  let s := ensPostWeights r.set s
  let s := rows.foldl (ensUpdate r active) s
  let s := (s.putB ENS_STATUS.NO_MAJORITY r.noMajority).onlyIf r.noMajority (State.setFlag ENS_FLAGS.NO_MAJ_EV 41)
  let s := ensPutS ENS_XDEV_PH.ofs r.xdev s
  if r.set.isEmpty then s
  else
    let yp := s.getS ENS_YP_FF.ofs
    let np : Int := max 1 (s.reg ENS_DEV_AVG.ofs).toNat
    ensPutS ENS_YP_FF.ofs (yp + Config.quot (Config.quot ((r.xdev - prev) * 2 ^ 44) (ensTau s) + rho - yp) np) s

/-- EXTRA of every member follows its window (R131). -/
def ensExtra (tk : Int) (s : State) : State :=
  ensAll.foldl (fun s i => s.putB (MB_STATUS.EXTRA i) (decide (1 < (ensWindow s i tk).length))) s

/-- ENSEMBLE_EPOCH (R133 to R145). -/
def ensEpoch (at_ : Nat) (s : State) : State :=
  if !s.live .ens then s
  else
    let tk := ensEpochTime s at_
    let piv := s.pivotAt at_
    let dev := s.timeAt at_
    let rho := ensRho s piv dev
    let rows := ensRows s tk
    let set := rows.filter fun m => m.state == 2
    let coast := s.getS ENS_XDEV_PH.ofs +
      Config.quot ((s.getS ENS_YP_FF.ofs - rho) * ensTau s) (2 ^ 44)
    let r := ensTest s coast 32 set []
    let gone := ensAll.filter fun i => !rows.any fun m => m.i == i
    let rebase := s.ens.rebase && !rows.isEmpty
    let s := gone.foldl (fun s i => ensMissing i s) (ensExtra tk s)
    let s := if rebase then ensRebase rows s else ensApply rows r rho s
    let carried := match s.ens.pair with | some (xl, _) => loopBeyond s xl | none => false
    let p := ensSteer (ensStart s)
    let s := ensPutS ENS_TDEV_PH.ofs (p.1.getS ENS_XDEV_PH.ofs - p.1.getS ENS_C_PH.ofs) p.1
    let s := s.put ENS_STATUS.ACTIVE_CNT set.length
    let s := ensDeliver set.length carried p.2 s
    let s := s.countWrap ⟨ENS_EPOCH.ofs, 0, 32⟩ 1
    let s := ensPutS ENS_YENS_FF.ofs (s.getS ENS_YP_FF.ofs - s.getS ENS_S_FF.ofs - rho) s
    let s := { s with ens := { s.ens with hist := ((tk, s.getS ENS_XDEV_PH.ofs) :: s.ens.hist).take 2 } }
    ensClose tk piv dev (ensRefresh (ensBudget (if rebase then [] else r.set) s))

/-- ENSEMBLE_EPOCH. -/
def execEnsembleEpoch (at_ : Nat) (s : State) : Host.Outcome State Fault Refusal := .next (ensEpoch at_ s)

/-- EPOCH_LATE (R132): the work is discarded; each member's phase is its prediction and nothing is delivered. -/
def ensLate (at_ : Nat) (s : State) : State :=
  let tk := ensEpochTime s at_
  let s := ensAll.foldl (fun s i => if ensState s i = 0 then s else ensPutS (MB_X_PH.ofs i) (ensPredict s i) s) s
  let s := ((s.setFlag ENS_FLAGS.EPOCH_LATE 42).count ENS_CNT.LATE 1).put ENS_STATUS.DELIVERING 0
  let s := ensClose tk (s.pivotAt at_) (s.timeAt at_) { s with ens := { s.ens with pair := none, manPh := 0 } }
  tbRefresh (s.deadline 2 (s.timeAt at_))

/-- EPOCH_LATE. -/
def execEpochLate (at_ : Nat) (s : State) : Host.Outcome State Fault Refusal := .next (ensLate at_ s)

/-- A step of device time: E and T move with it, so that the completed epochs lie `move` later on device time with their x_dev, and a
stamp taken after it is corrected at the next epoch (R130, R142). -/
def ensStep (piv : Nat) (move : Int) (s : State) : State :=
  { s with ens := { s.ens with steps := (piv, move) :: s.ens.steps, moved := s.ens.moved + move,
                               hist := s.ens.hist.map fun h => (h.1 + move, h.2) } }

end Sys2Proof.Machine
end

