-- ==== Sys2Proof/Machine/Frames.lean ====
section
/-! DEFINITION. What the parser of the answer pipelines finds in a frame (R199), and the Ethernet, IP and UDP parts of an
answer (R207). Field places inside the headers are those of IEEE 802.1Q, IPv4, IPv6, UDP and NTP (assumption 16). -/

namespace Sys2Proof.Machine

/-- A big-endian field of a byte string. -/
def beAt (bs : List Byte) (ofs n : Nat) : Nat := beNat ((bs.drop ofs).take n)

/-- Where the EtherType after at most two VLAN tags lies (R199). -/
def frameEtOfs (bs : List Byte) : Nat :=
  let t := beAt bs 12 2
  if t = 0x88A8 ∨ t = 0x8100 then (if beAt bs 16 2 = 0x8100 then 20 else 16) else 12

/-- What the parser finds (R199): the offset of the EtherType, the L3 kind (1 IPv4, 2 IPv6, 3 non-IP), whether the frame is UDP,
the offset of the UDP header and the UDP payload. -/
structure Parsed where
  et : Nat
  l3 : Nat
  udp : Bool
  l4 : Nat
  payload : List Byte
deriving DecidableEq, Repr

/-- The L3 kind of a frame (R199). -/
def frameL3 (bs : List Byte) (et : Nat) : Nat :=
  let e := beAt bs et 2
  if e = 0x0800 ∧ beAt bs (et + 2) 1 = 0x45 ∧ et + 22 ≤ bs.length then 1
  else if e = 0x86DD ∧ beAt bs (et + 2) 1 / 16 = 6 ∧ beAt bs (et + 8) 1 = 17 ∧ et + 42 ≤ bs.length then 2
  else 3

/-- Whether the UDP part of an IP frame is whole: the UDP length agrees with the IP length and the frame holds it (R199). -/
def frameUdp (bs : List Byte) (et l3 l4 : Nat) : Bool :=
  let ulen := beAt bs (l4 + 4) 2
  decide (8 ≤ ulen) && decide (l4 + ulen ≤ bs.length) &&
  (match l3 with
   | 1 => beAt bs (et + 11) 1 == 17 && beAt bs (et + 8) 2 % 2 ^ 14 == 0 && beAt bs (et + 4) 2 == 20 + ulen
   | 2 => beAt bs (et + 6) 2 == ulen
   | _ => false)

/-- A frame parsed (R199). -/
def parseFrame (bs : List Byte) : Parsed :=
  let et := frameEtOfs bs
  let l3 := frameL3 bs et
  let l4 := if l3 = 1 then et + 22 else et + 42
  let udp := frameUdp bs et l3 l4
  { et := et, l3 := l3, udp := udp, l4 := l4,
    payload := if udp then (bs.drop (l4 + 8)).take (beAt bs (l4 + 4) 2 - 8) else [] }

/-- The EtherType of a frame. -/
def Parsed.etherType (f : Parsed) (bs : List Byte) : Nat := beAt bs f.et 2

/-- The source address of an IP frame. -/
def Parsed.srcIp (f : Parsed) (bs : List Byte) : List Byte :=
  if f.l3 = 1 then (bs.drop (f.et + 14)).take 4 else (bs.drop (f.et + 10)).take 16

/-- The destination address of an IP frame. -/
def Parsed.dstIp (f : Parsed) (bs : List Byte) : List Byte :=
  if f.l3 = 1 then (bs.drop (f.et + 18)).take 4 else (bs.drop (f.et + 26)).take 16

/-- Whether a frame has an NTP header (R199). -/
def Parsed.ntp (f : Parsed) : Bool := f.udp && decide (48 ≤ f.payload.length)

/-- VN of an NTP frame. -/
def Parsed.vn (f : Parsed) : Nat := (f.payload.headD 0).toNat / 8 % 8

/-- MODE of an NTP frame. -/
def Parsed.mode (f : Parsed) : Nat := (f.payload.headD 0).toNat % 8

/-- The extension fields of a byte string, each with its type and its whole bytes; none unless every length is at least 16 and a
multiple of 4 and the fields consume the string exactly (R199). -/
def extFields : Nat → List Byte → Option (List (Nat × List Byte))
  | _, [] => some []
  | 0, _ => none
  | k + 1, bs =>
    let n := beAt bs 2 2
    if bs.length < 4 ∨ n < 16 ∨ n % 4 ≠ 0 ∨ bs.length < n then none
    else (extFields k (bs.drop n)).map fun fs => (beAt bs 0 2, bs.take n) :: fs

/-- The extension fields after the NTP header. -/
def Parsed.fields (f : Parsed) : Option (List (Nat × List Byte)) := extFields f.payload.length (f.payload.drop 48)

/-- The content class NC of an NTP frame (R199). -/
def Parsed.nc (f : Parsed) : Nat :=
  if f.payload.length = 48 then 0
  else if f.vn = 4 then
    match f.fields with
    | some fs => if fs.any (fun e => e.1 == 0x0104) then 2 else 1
    | none => 3
  else 3

/-! ### PTP messages -/

/-- The PTP message of a frame: the payload of EtherType 0x88F7, or of a UDP datagram to port 319 or 320 (R239; Annexes C, D and E of
IEEE 1588, assumption 18). -/
def ptpPayload (f : Parsed) (bs : List Byte) : List Byte :=
  if f.udp then (if beAt bs (f.l4 + 2) 2 = 319 ∨ beAt bs (f.l4 + 2) 2 = 320 then f.payload else [])
  else if f.etherType bs = 0x88F7 then bs.drop (f.et + 2)
  else []

/-- The common header of a received PTP message: its messageType, what the block takes from it, twoStepFlag and the rest; none unless the
frame holds a whole header of version 2 (assumption 18). -/
def ptpParse (f : Parsed) (bs : List Byte) : Option (Nat × PtpMsg × Bool × List Byte) :=
  let h := ptpPayload f bs
  if h.length < 34 ∨ beAt h 1 1 % 16 ≠ 2 then none
  else
    some (beAt h 0 1 % 16,
      { mac := (bs.drop 6).take 6, ip := if f.udp then f.srcIp bs else [], domain := BitVec.ofNat 8 (beAt h 4 1),
        id := { clock := BitVec.ofNat 64 (beAt h 20 8), port := BitVec.ofNat 16 (beAt h 28 2) },
        seq := BitVec.ofNat 16 (beAt h 30 2), correction := BitVec.ofNat 64 (beAt h 8 8), unicast := (beAt h 6 2).testBit 10 },
      (beAt h 6 2).testBit 9, h.drop 34)

/-- The TLVs of a byte string, whole. -/
def ptpTlvs : Nat → List Byte → List (List Byte)
  | 0, _ => []
  | k + 1, bs =>
    let n := 4 + beAt bs 2 2
    if bs.length < 4 ∨ bs.length < n then [] else bs.take n :: ptpTlvs k (bs.drop n)

/-! ### Headers -/

/-- The ones' complement sum of 16-bit words. -/
def sum16 : List Byte → Nat
  | [] => 0
  | [a] => 256 * a.toNat
  | a :: b :: bs => 256 * a.toNat + b.toNat + sum16 bs

/-- A sum folded to 16 bits. -/
def fold16 : Nat → Nat → Nat
  | 0, v => v
  | k + 1, v => fold16 k (v % 65536 + v / 65536)

/-- The Internet checksum of a byte string. -/
def checksum16 (bs : List Byte) : Nat := 0xFFFF - fold16 4 (sum16 bs)

/-- A UDP datagram with its checksum over the pseudo-header; a sum of zero is sent as ones. Without `csum` the field is 0. -/
def udpBytes (csum : Bool) (src dst : List Byte) (sport dport : Nat) (payload : List Byte) : List Byte :=
  let len := 8 + payload.length
  let head := beBytes 2 sport ++ beBytes 2 dport ++ beBytes 2 len
  let pseudo := src ++ dst ++ (if src.length = 4 then [0, 17] ++ beBytes 2 len else beBytes 4 len ++ [0, 0, 0, 17])
  let c := checksum16 (pseudo ++ head ++ [0, 0] ++ payload)
  head ++ beBytes 2 (if csum then (if c = 0 then 0xFFFF else c) else 0) ++ payload

/-- An IPv4 packet (R207): IHL 5, identification 0, DF set, the header checksum computed. -/
def ip4Bytes (tos ttl : Nat) (src dst udp : List Byte) : List Byte :=
  let a := [0x45, BitVec.ofNat 8 tos] ++ beBytes 2 (20 + udp.length) ++ [0, 0, 0x40, 0, BitVec.ofNat 8 ttl, 17]
  a ++ beBytes 2 (checksum16 (a ++ [0, 0] ++ src ++ dst)) ++ src ++ dst ++ udp

/-- An IPv6 packet (R207): flow label 0. -/
def ip6Bytes (tos ttl : Nat) (src dst udp : List Byte) : List Byte :=
  beBytes 4 (6 * 2 ^ 28 + tos * 2 ^ 20) ++ beBytes 2 udp.length ++ [17, BitVec.ofNat 8 ttl] ++ src ++ dst ++ udp

/-- The traffic class octet of an answer to an IP request: the configured or the request's DSCP, ECN 0 (R207). -/
def answerTos (s : State) (f : Parsed) (bs : List Byte) : Nat :=
  let req := if f.l3 = 1 then beAt bs (f.et + 3) 1 else beAt bs (f.et + 2) 2 / 16 % 256
  4 * (if s.flag ANS_GLB_CFG.DSCP_COPY then req / 4 else s.get ANS_GLB_HDR.DSCP)

/-- The hop limit of what the pipelines send (R207). -/
def answerTtl (s : State) : Nat := if s.get ANS_GLB_HDR.TTL = 0 then 64 else s.get ANS_GLB_HDR.TTL

/-- An answer to a request on a port with a UDP payload (R207): addresses and ports exchanged, VLAN tags copied. -/
def answerFrame (s : State) (port : Nat) (bs payload : List Byte) : List Byte :=
  let f := parseFrame bs
  let src := f.dstIp bs
  let dst := f.srcIp bs
  let udp := udpBytes (f.l3 = 2 || s.flag ANS_GLB_CFG.CSUM4) src dst (beAt bs (f.l4 + 2) 2) (beAt bs f.l4 2) payload
  let ip := if f.l3 = 1 then ip4Bytes (answerTos s f bs) (answerTtl s) src dst udp
            else ip6Bytes (answerTos s f bs) (answerTtl s) src dst udp
  (bs.drop 6).take 6 ++ leBytes 6 (s.get64 (EP_MAC_ADDR.ofs port)) ++ (bs.drop 12).take (f.et - 10) ++ ip

/-- The length with FCS of an answer with a UDP payload of `n` bytes. -/
def answerLen (bs : List Byte) (n : Nat) : Nat := (parseFrame bs).l4 + 8 + n + 4

end Sys2Proof.Machine
end

