-- ==== Sys2Proof/Machine/Aes.lean ====
section
/-! DEFINITION. The block cipher work of the AES pool (R223, R225, R237): AES, CMAC, CTR and AES-SIV (RFC 5297), and
SipHash-2-4 (R214). The algorithms are those of the standards that the spec names (assumption 13). -/

namespace Sys2Proof.Machine

/-- Two byte strings added bit by bit, as long as the shorter. -/
def xorBytes (a b : List Byte) : List Byte := List.zipWith (fun x y => x ^^^ y) a b

/-! ### AES -/

/-- A byte times x in the field of AES. -/
def aesX (b : Byte) : Byte := (b <<< 1) ^^^ (if b.msb then 0x1B else 0)

/-- A product in the field of AES, over the low `n` bits of the second factor. -/
def aesMulBits (a b : Byte) : Nat → Byte
  | 0 => 0
  | n + 1 => (if b.getLsbD 0 then a else 0) ^^^ aesMulBits (aesX a) (b >>> 1) n

/-- A product in the field of AES. -/
def aesMul (a b : Byte) : Byte := aesMulBits a b 8

/-- The product of the squares x^2, x^4, …, over `n` squarings: for n = 7 the inverse, x^254. -/
def aesInvPow (x acc : Byte) : Nat → Byte
  | 0 => acc
  | n + 1 => aesInvPow (aesMul x x) (aesMul acc (aesMul x x)) n

/-- The substitution box. -/
def aesSbox (b : Byte) : Byte :=
  let i := aesInvPow b 1 7
  i ^^^ i.rotateLeft 1 ^^^ i.rotateLeft 2 ^^^ i.rotateLeft 3 ^^^ i.rotateLeft 4 ^^^ 0x63

/-- The substitution box as numbers of 32 bytes each, the lowest byte first. -/
def aesTable : List Nat :=
  [0xc072a49cafa2d4adf04759fa7dc982ca76abd7fe2b670130c56f6bf27b777c63,
   0x75b227ebe28012079a059618c323c7041531d871f1e5a534ccf73f362693fdb7,
   0xcf584c4a39becb6a5bb1fc20ed00d153842fe329b3d63b52a05a6e1b1a2c8309,
   0xd2f3ff1021dab6bcf5389d928f40a351a89f3c507f02f94585334d43fbaaefd0,
   0xdb0b5ede14b8ee4688902a22dc4f816073195d643d7ea7c41744975fec130ccd,
   0x08ae7a65eaf4566ca94ed58d6d37c8e779e4959162acd3c25c2406490a3a32e0,
   0x9e1dc186b95735610ef6034866b53e708a8bbd4b1f74dde8c6b4a61c2e2578ba,
   0x16bb54b00f2d99416842e6bf0d89a18cdf2855cee9871e9b948ed9691198f8e1]

/-- A byte through the table. -/
def aesSub (b : Byte) : Byte := BitVec.ofNat 8 (aesTable.getD (b.toNat / 32) 0 >>> (8 * (b.toNat % 32)))

/-- The words of the key schedule, newest first, `n` more of them; `nk` key words, `i` the number of the next. -/
def aesExpand (nk : Nat) : Nat → Nat → Byte → List (List Byte) → List (List Byte)
  | 0, _, _, ws => ws
  | n + 1, i, rcon, ws =>
    let prev := ws.headD []
    let t :=
      if i % nk = 0 then
        match prev.map aesSub with
        | [a, b, c, d] => [b ^^^ rcon, c, d, a]
        | l => l
      else if 6 < nk ∧ i % nk = 4 then prev.map aesSub
      else prev
    aesExpand nk n (i + 1) (if i % nk = 0 then aesX rcon else rcon) (xorBytes (ws.getD (nk - 1) []) t :: ws)

/-- A byte string in pieces of `n` bytes, at most `k` of them. -/
def chunks (n : Nat) : Nat → List Byte → List (List Byte)
  | 0, _ => []
  | k + 1, bs => if bs.isEmpty then [] else bs.take n :: chunks n k (bs.drop n)

/-- The round keys of a 16 or 32 byte key. -/
def aesKeys (key : List Byte) : List (List Byte) :=
  let nk := key.length / 4
  let ws := (aesExpand nk (4 * (nk + 7) - nk) nk 1 (chunks 4 nk key).reverse).reverse
  chunks 16 (nk + 7) ws.flatten

/-- The rows shifted; the state is held column by column. -/
def aesShift (b : List Byte) : List Byte := (List.range 16).map fun i => b.getD (5 * i % 16) 0

/-- One column mixed. -/
def aesMixCol : List Byte → List Byte
  | [a, b, c, d] =>
    [aesX a ^^^ (aesX b ^^^ b) ^^^ c ^^^ d, a ^^^ aesX b ^^^ (aesX c ^^^ c) ^^^ d,
     a ^^^ b ^^^ aesX c ^^^ (aesX d ^^^ d), (aesX a ^^^ a) ^^^ b ^^^ c ^^^ aesX d]
  | l => l

/-- The rounds after the first key addition. -/
def aesRounds : List (List Byte) → List Byte → List Byte
  | [], b => b
  | [k], b => xorBytes (aesShift (b.map aesSub)) k
  | k :: ks, b => aesRounds ks (xorBytes ((chunks 4 4 (aesShift (b.map aesSub))).map aesMixCol).flatten k)

/-- One block enciphered under round keys. -/
def aesBlock (ks : List (List Byte)) (b : List Byte) : List Byte := aesRounds ks.tail (xorBytes b (ks.headD []))

/-! ### CMAC, CTR and SIV -/

/-- A 16-byte block as a number, most significant byte first. -/
def blockNat (b : List Byte) : BitVec 128 := BitVec.ofNat 128 (b.foldl (fun a x => 256 * a + x.toNat) 0)

/-- A number as a 16-byte block. -/
def natBlock (v : BitVec 128) : List Byte := (List.range 16).map fun i => (v >>> (120 - 8 * i)).setWidth 8

/-- Doubling in the field of CMAC and S2V. -/
def dbl (b : List Byte) : List Byte :=
  let v := blockNat b
  natBlock ((v <<< 1) ^^^ (if v.msb then 0x87 else 0))

/-- A byte string padded to a block by a one bit and zeros. -/
def pad10 (bs : List Byte) : List Byte := (bs ++ 0x80 :: List.replicate 15 0).take 16

/-- CMAC under round keys. -/
def cmac (ks : List (List Byte)) (m : List Byte) : List Byte :=
  let k1 := dbl (aesBlock ks (List.replicate 16 0))
  let n := (m.length - 1) / 16
  let last := m.drop (16 * n)
  let last := if last.length = 16 then xorBytes last k1 else xorBytes (pad10 last) (dbl k1)
  let x := (chunks 16 n m).foldl (fun x b => aesBlock ks (xorBytes x b)) (List.replicate 16 0)
  aesBlock ks (xorBytes x last)

/-- S2V over the components that precede the last, and the last (RFC 5297). -/
def s2v (ks : List (List Byte)) (ads : List (List Byte)) (last : List Byte) : List Byte :=
  let d := ads.foldl (fun d a => xorBytes (dbl d) (cmac ks a)) (cmac ks (List.replicate 16 0))
  if 16 ≤ last.length then cmac ks (last.take (last.length - 16) ++ xorBytes (last.drop (last.length - 16)) d)
  else cmac ks (xorBytes (dbl d) (pad10 last))

/-- A byte string enciphered in CTR mode from a first counter block. -/
def ctr (ks : List (List Byte)) (iv : BitVec 128) (m : List Byte) : List Byte :=
  let n := (m.length + 15) / 16
  xorBytes m (((List.range n).map fun i => aesBlock ks (natBlock (iv + BitVec.ofNat 128 i))).flatten)

/-- The first counter block of a synthetic IV: the bits 31 and 63 cleared. -/
def sivIv (v : List Byte) : BitVec 128 := blockNat v &&& 0xFFFFFFFFFFFFFFFF7FFFFFFF7FFFFFFF

/-- AES-SIV sealing: V and the ciphertext. The first half of the key serves S2V, the second CTR. -/
def sivSeal (key : List Byte) (ads : List (List Byte)) (plain : List Byte) : List Byte × List Byte :=
  let h := key.length / 2
  let v := s2v (aesKeys (key.take h)) ads plain
  (v, ctr (aesKeys (key.drop h)) (sivIv v) plain)

/-- AES-SIV opening: the plaintext when V verifies. -/
def sivOpen (key : List Byte) (ads : List (List Byte)) (v cipher : List Byte) : Option (List Byte) :=
  let h := key.length / 2
  let plain := ctr (aesKeys (key.drop h)) (sivIv v) cipher
  if s2v (aesKeys (key.take h)) ads plain = v then some plain else none

/-! ### CTR_DRBG (NIST SP 800-90A, AES-256, no derivation function) -/

/-- `n` output blocks after a counter block. -/
def drbgBlocks (key : List Byte) (v : BitVec 128) (n : Nat) : List Byte :=
  ((List.range n).map fun i => aesBlock (aesKeys key) (natBlock (v + BitVec.ofNat 128 (i + 1)))).flatten

/-- Key and V updated with 48 bytes. -/
def drbgUpdate (key : List Byte) (v : BitVec 128) (data : List Byte) : List Byte × BitVec 128 :=
  let t := xorBytes (drbgBlocks key v 3) data
  (t.take 32, blockNat (t.drop 32))

/-- `n` bytes generated, and key and V after them. -/
def drbgGenerate (key : List Byte) (v : BitVec 128) (n : Nat) : List Byte × List Byte × BitVec 128 :=
  let k := (n + 15) / 16
  ((drbgBlocks key v k).take n, drbgUpdate key (v + BitVec.ofNat 128 k) (List.replicate 48 0))

/-! ### SipHash-2-4 -/

/-- One round of SipHash. -/
def sipRound (v : BitVec 64 × BitVec 64 × BitVec 64 × BitVec 64) : BitVec 64 × BitVec 64 × BitVec 64 × BitVec 64 :=
  let a := v.1 + v.2.1
  let b := v.2.1.rotateLeft 13 ^^^ a
  let a := a.rotateLeft 32
  let c := v.2.2.1 + v.2.2.2
  let d := v.2.2.2.rotateLeft 16 ^^^ c
  let a' := a + d
  let d := d.rotateLeft 21 ^^^ a'
  let c := c + b
  let b := b.rotateLeft 17 ^^^ c
  (a', b, c.rotateLeft 32, d)

/-- `n` rounds of SipHash. -/
def sipRounds : Nat → BitVec 64 × BitVec 64 × BitVec 64 × BitVec 64 → BitVec 64 × BitVec 64 × BitVec 64 × BitVec 64
  | 0, v => v
  | n + 1, v => sipRounds n (sipRound v)

/-- The 64-bit little-endian value of up to 8 bytes. -/
def le64 (bs : List Byte) : BitVec 64 := BitVec.ofNat 64 (bs.foldr (fun x a => 256 * a + x.toNat) 0)

/-- SipHash-2-4 of a byte string under a 16-byte key. -/
def sipHash (key m : List Byte) : BitVec 64 :=
  let k0 := le64 (key.take 8)
  let k1 := le64 (key.drop 8)
  let n := m.length / 8
  let blocks := (List.range n).map (fun i => le64 ((m.drop (8 * i)).take 8)) ++
    [le64 (m.drop (8 * n)) ||| (BitVec.ofNat 64 (m.length % 256) <<< 56)]
  let v0 := (k0 ^^^ 0x736F6D6570736575, k1 ^^^ 0x646F72616E646F6D, k0 ^^^ 0x6C7967656E657261, k1 ^^^ 0x7465646279746573)
  let v := blocks.foldl (fun v w =>
    let u := sipRounds 2 (v.1, v.2.1, v.2.2.1, v.2.2.2 ^^^ w)
    (u.1 ^^^ w, u.2.1, u.2.2.1, u.2.2.2)) v0
  let f := sipRounds 4 (v.1, v.2.1, v.2.2.1 ^^^ 0xFF, v.2.2.2)
  f.1 ^^^ f.2.1 ^^^ f.2.2.1 ^^^ f.2.2.2

end Sys2Proof.Machine
end

