-- ==== Sys2Proof/Machine/Sha.lean ====
section
/-! DEFINITION. The hash functions that the spec names: SHA-256 and SHA-512 (FIPS 180-4), SHAKE256 (FIPS 202), and HMAC and
HKDF over SHA-256 (RFC 2104, RFC 5869). They serve provenance records (R287), image hashes (R338), EdDSA (R271) and pair keys
(R317). The algorithms are those of the standards (assumption 13). -/

namespace Sys2Proof.Machine

/-! ### SHA-256 and SHA-512 -/

/-- The round constants of SHA-256, part 0. -/
def sha256K0 : List (BitVec 32) :=
  [
    0x428A2F98, 0x71374491, 0xB5C0FBCF, 0xE9B5DBA5, 0x3956C25B, 0x59F111F1, 0x923F82A4, 0xAB1C5ED5,
    0xD807AA98, 0x12835B01, 0x243185BE, 0x550C7DC3, 0x72BE5D74, 0x80DEB1FE, 0x9BDC06A7, 0xC19BF174,
    0xE49B69C1, 0xEFBE4786, 0x0FC19DC6, 0x240CA1CC, 0x2DE92C6F, 0x4A7484AA, 0x5CB0A9DC, 0x76F988DA,
    0x983E5152, 0xA831C66D, 0xB00327C8, 0xBF597FC7, 0xC6E00BF3, 0xD5A79147, 0x06CA6351, 0x14292967]

/-- The round constants of SHA-256, part 1. -/
def sha256K1 : List (BitVec 32) :=
  [
    0x27B70A85, 0x2E1B2138, 0x4D2C6DFC, 0x53380D13, 0x650A7354, 0x766A0ABB, 0x81C2C92E, 0x92722C85,
    0xA2BFE8A1, 0xA81A664B, 0xC24B8B70, 0xC76C51A3, 0xD192E819, 0xD6990624, 0xF40E3585, 0x106AA070,
    0x19A4C116, 0x1E376C08, 0x2748774C, 0x34B0BCB5, 0x391C0CB3, 0x4ED8AA4A, 0x5B9CCA4F, 0x682E6FF3,
    0x748F82EE, 0x78A5636F, 0x84C87814, 0x8CC70208, 0x90BEFFFA, 0xA4506CEB, 0xBEF9A3F7, 0xC67178F2]

/-- The round constants of SHA-256. -/
def sha256K : List (BitVec 32) := sha256K0 ++ sha256K1

/-- The initial value of SHA-256. -/
def sha256Init : List (BitVec 32) :=
  [
    0x6A09E667, 0xBB67AE85, 0x3C6EF372, 0xA54FF53A, 0x510E527F, 0x9B05688C, 0x1F83D9AB, 0x5BE0CD19]

/-- The round constants of SHA-512, part 0. -/
def sha512K0 : List (BitVec 64) :=
  [
    0x428A2F98D728AE22, 0x7137449123EF65CD, 0xB5C0FBCFEC4D3B2F, 0xE9B5DBA58189DBBC,
    0x3956C25BF348B538, 0x59F111F1B605D019, 0x923F82A4AF194F9B, 0xAB1C5ED5DA6D8118,
    0xD807AA98A3030242, 0x12835B0145706FBE, 0x243185BE4EE4B28C, 0x550C7DC3D5FFB4E2,
    0x72BE5D74F27B896F, 0x80DEB1FE3B1696B1, 0x9BDC06A725C71235, 0xC19BF174CF692694,
    0xE49B69C19EF14AD2, 0xEFBE4786384F25E3, 0x0FC19DC68B8CD5B5, 0x240CA1CC77AC9C65,
    0x2DE92C6F592B0275, 0x4A7484AA6EA6E483, 0x5CB0A9DCBD41FBD4, 0x76F988DA831153B5,
    0x983E5152EE66DFAB, 0xA831C66D2DB43210, 0xB00327C898FB213F, 0xBF597FC7BEEF0EE4,
    0xC6E00BF33DA88FC2, 0xD5A79147930AA725, 0x06CA6351E003826F, 0x142929670A0E6E70,
    0x27B70A8546D22FFC, 0x2E1B21385C26C926, 0x4D2C6DFC5AC42AED, 0x53380D139D95B3DF,
    0x650A73548BAF63DE, 0x766A0ABB3C77B2A8, 0x81C2C92E47EDAEE6, 0x92722C851482353B]

/-- The round constants of SHA-512, part 1. -/
def sha512K1 : List (BitVec 64) :=
  [
    0xA2BFE8A14CF10364, 0xA81A664BBC423001, 0xC24B8B70D0F89791, 0xC76C51A30654BE30,
    0xD192E819D6EF5218, 0xD69906245565A910, 0xF40E35855771202A, 0x106AA07032BBD1B8,
    0x19A4C116B8D2D0C8, 0x1E376C085141AB53, 0x2748774CDF8EEB99, 0x34B0BCB5E19B48A8,
    0x391C0CB3C5C95A63, 0x4ED8AA4AE3418ACB, 0x5B9CCA4F7763E373, 0x682E6FF3D6B2B8A3,
    0x748F82EE5DEFB2FC, 0x78A5636F43172F60, 0x84C87814A1F0AB72, 0x8CC702081A6439EC,
    0x90BEFFFA23631E28, 0xA4506CEBDE82BDE9, 0xBEF9A3F7B2C67915, 0xC67178F2E372532B,
    0xCA273ECEEA26619C, 0xD186B8C721C0C207, 0xEADA7DD6CDE0EB1E, 0xF57D4F7FEE6ED178,
    0x06F067AA72176FBA, 0x0A637DC5A2C898A6, 0x113F9804BEF90DAE, 0x1B710B35131C471B,
    0x28DB77F523047D84, 0x32CAAB7B40C72493, 0x3C9EBE0A15C9BEBC, 0x431D67C49C100D4C,
    0x4CC5D4BECB3E42B6, 0x597F299CFC657E2A, 0x5FCB6FAB3AD6FAEC, 0x6C44198C4A475817]

/-- The round constants of SHA-512. -/
def sha512K : List (BitVec 64) := sha512K0 ++ sha512K1

/-- The initial value of SHA-512. -/
def sha512Init : List (BitVec 64) :=
  [
    0x6A09E667F3BCC908, 0xBB67AE8584CAA73B, 0x3C6EF372FE94F82B, 0xA54FF53A5F1D36F1,
    0x510E527FADE682D1, 0x9B05688C2B3E6C1F, 0x1F83D9ABFB41BD6B, 0x5BE0CD19137E2179]

/-- The two hashes differ in word width, rotation counts and round count. -/
structure ShaShape (w : Nat) where
  s0 : Nat × Nat × Nat
  s1 : Nat × Nat × Nat
  e0 : Nat × Nat × Nat
  e1 : Nat × Nat × Nat
  keys : List (BitVec w)

/-- SHA-256. -/
def sha256Shape : ShaShape 32 :=
  { s0 := (7, 18, 3), s1 := (17, 19, 10), e0 := (2, 13, 22), e1 := (6, 11, 25), keys := sha256K }

/-- SHA-512. -/
def sha512Shape : ShaShape 64 :=
  { s0 := (1, 8, 7), s1 := (19, 61, 6), e0 := (28, 34, 39), e1 := (14, 18, 41), keys := sha512K }

/-- Two rotations and a shift, added bit by bit. -/
def shaSmall {w : Nat} (c : Nat × Nat × Nat) (x : BitVec w) : BitVec w :=
  x.rotateRight c.1 ^^^ x.rotateRight c.2.1 ^^^ (x >>> c.2.2)

/-- Three rotations, added bit by bit. -/
def shaBig {w : Nat} (c : Nat × Nat × Nat) (x : BitVec w) : BitVec w :=
  x.rotateRight c.1 ^^^ x.rotateRight c.2.1 ^^^ x.rotateRight c.2.2

/-- `n` more words of the message schedule, newest first. -/
def shaExtend {w : Nat} (sh : ShaShape w) : Nat → List (BitVec w) → List (BitVec w)
  | 0, ws => ws
  | n + 1, ws =>
    shaExtend sh n ((shaSmall sh.s1 (ws.getD 1 0) + ws.getD 6 0 + shaSmall sh.s0 (ws.getD 14 0) + ws.getD 15 0) :: ws)

/-- One round on the eight working words. -/
def shaRound {w : Nat} (sh : ShaShape w) (st : List (BitVec w)) (kw : BitVec w × BitVec w) : List (BitVec w) :=
  match st with
  | [a, b, c, d, e, f, g, h] =>
    let t1 := h + shaBig sh.e1 e + ((e &&& f) ^^^ (~~~e &&& g)) + kw.1 + kw.2
    let t2 := shaBig sh.e0 a + ((a &&& b) ^^^ (a &&& c) ^^^ (b &&& c))
    [t1 + t2, a, b, c, d + t1, e, f, g]
  | l => l

/-- A message block of 16 words taken into the hash value. -/
def shaBlock {w : Nat} (sh : ShaShape w) (st : List (BitVec w)) (block : List (BitVec w)) : List (BitVec w) :=
  let ws := (shaExtend sh (sh.keys.length - 16) block.reverse).reverse
  List.zipWith (fun x y => x + y) st ((sh.keys.zip ws).foldl (shaRound sh) st)

/-- A message padded to whole blocks of `16 * wb` bytes, with its length in bits at the end. -/
def shaPad (wb : Nat) (m : List Byte) : List Byte :=
  let z := (16 * wb - (m.length + 1 + 2 * wb) % (16 * wb)) % (16 * wb)
  m ++ 0x80 :: List.replicate z 0 ++ beBytes (2 * wb) (8 * m.length)

/-- The big-endian words of a byte string. -/
def shaWords (w : Nat) (bs : List Byte) : List (BitVec w) :=
  (chunks (w / 8) bs.length bs).map fun c => BitVec.ofNat w (beNat c)

/-- A hash of either shape. -/
def shaHash {w : Nat} (sh : ShaShape w) (init : List (BitVec w)) (m : List Byte) : List Byte :=
  let p := shaPad (w / 8) m
  let blocks := (chunks (2 * w) (p.length / (2 * w)) p).map (shaWords w)
  (blocks.foldl (shaBlock sh) init).flatMap fun x => beBytes (w / 8) x.toNat

/-- SHA-256. -/
def sha256 (m : List Byte) : List Byte := shaHash sha256Shape sha256Init m

/-- SHA-512. -/
def sha512 (m : List Byte) : List Byte := shaHash sha512Shape sha512Init m

/-! ### HMAC and HKDF -/

/-- HMAC-SHA-256. -/
def hmac256 (key m : List Byte) : List Byte :=
  let k := if 64 < key.length then sha256 key else key
  let k := k ++ List.replicate (64 - k.length) 0
  sha256 (k.map (fun b => b ^^^ 0x5C) ++ sha256 (k.map (fun b => b ^^^ 0x36) ++ m))

/-- The output blocks of HKDF, `n` of them from number `i` on. -/
def hkdfBlocks (prk info : List Byte) : Nat → Nat → List Byte → List Byte
  | 0, _, _ => []
  | n + 1, i, prev =>
    let t := hmac256 prk (prev ++ info ++ [BitVec.ofNat 8 i])
    t ++ hkdfBlocks prk info n (i + 1) t

/-- HKDF-SHA-256 with `len` bytes of output. -/
def hkdf256 (secret salt info : List Byte) (len : Nat) : List Byte :=
  (hkdfBlocks (hmac256 salt secret) info ((len + 31) / 32) 1 []).take len

/-! ### SHAKE256 -/

/-- A step of the round constant's shift register. -/
def keccakLfsr (r : Nat) : Nat := if (2 * r).testBit 8 then (2 * r) ^^^ 0x171 else 2 * r

/-- The round constant that starts at a state of the shift register, with the register after it. -/
def keccakRc : Nat → Nat → Nat → Nat × Nat
  | 0, _, r => (0, r)
  | n + 1, j, r =>
    let p := keccakRc n (j + 1) (keccakLfsr r)
    (p.1 ||| (if r.testBit 0 then 2 ^ (2 ^ j - 1) else 0), p.2)

/-- The first `n` round constants. -/
def keccakRcs : Nat → Nat → List (BitVec 64)
  | 0, _ => []
  | n + 1, r => BitVec.ofNat 64 (keccakRc 7 0 r).1 :: keccakRcs n (keccakRc 7 0 r).2

/-- The path of rho and pi: each lane's next place and its rotation, `n` steps. -/
def keccakPath : Nat → Nat → Nat → Nat → List (Nat × Nat)
  | 0, _, _, _ => []
  | n + 1, x, y, t => (x + 5 * y, (t + 1) * (t + 2) / 2 % 64) :: keccakPath n y ((2 * x + 3 * y) % 5) (t + 1)

/-- The lane rotated by rho that pi moves to a place, from lane values. -/
def keccakRhoPi (a : List (BitVec 64)) : List (BitVec 64) :=
  let path := keccakPath 24 1 0 0
  let moved := path.zip (path.drop 1 ++ path.take 1)
  moved.foldl (fun b m => b.set m.2.1 ((a.getD m.1.1 0).rotateLeft m.1.2)) a

/-- One round of Keccak-f[1600]. -/
def keccakRound (a : List (BitVec 64)) (rc : BitVec 64) : List (BitVec 64) :=
  let g := fun i => a.getD i (0 : BitVec 64)
  let c := (List.range 5).map fun x => g x ^^^ g (x + 5) ^^^ g (x + 10) ^^^ g (x + 15) ^^^ g (x + 20)
  let d := (List.range 5).map fun x => c.getD ((x + 4) % 5) 0 ^^^ (c.getD ((x + 1) % 5) 0).rotateLeft 1
  let b := keccakRhoPi ((List.range 25).map fun i => g i ^^^ d.getD (i % 5) 0)
  let h := fun i => b.getD i (0 : BitVec 64)
  (List.range 25).map fun i =>
    let y := i / 5 * 5
    h i ^^^ (~~~(h (y + (i + 1) % 5)) &&& h (y + (i + 2) % 5)) ^^^ (if i = 0 then rc else 0)

/-- Keccak-f[1600]. -/
def keccakF (a : List (BitVec 64)) : List (BitVec 64) := (keccakRcs 24 1).foldl keccakRound a

/-- A block of 136 bytes taken in. -/
def keccakAbsorb (a : List (BitVec 64)) (block : List Byte) : List (BitVec 64) :=
  let ws := (chunks 8 25 (block ++ List.replicate 64 0)).map fun c => BitVec.ofNat 64 (leNat c)
  keccakF (List.zipWith (fun x y => x ^^^ y) a ws)

/-- Output of the sponge, `n` blocks. -/
def keccakSqueeze : Nat → List (BitVec 64) → List Byte
  | 0, _ => []
  | n + 1, a => (a.take 17).flatMap (fun x => leBytes 8 x.toNat) ++ keccakSqueeze n (keccakF a)

/-- SHAKE256 with `len` bytes of output. -/
def shake256 (m : List Byte) (len : Nat) : List Byte :=
  let z := 136 - 1 - m.length % 136
  let p := if z = 0 then m ++ [0x9F] else m ++ 0x1F :: List.replicate (z - 1) 0 ++ [0x80]
  (keccakSqueeze ((len + 135) / 136) ((chunks 136 (p.length / 136) p).foldl keccakAbsorb (List.replicate 25 0))).take len

end Sys2Proof.Machine
end

