-- ==== Sys2Proof/Machine/Rehearse.lean ====
section
/-! DEFINITION. What the pair logic does to frames on their way out, and the rehearsal digests of the answer pipelines
(16_pairs_and_failover.md, R316 and R323). -/

namespace Sys2Proof.Machine

/-- The pair state (R318): 0 OFF, 1 KEYING, 2 SYNCING, 3 STANDBY, 4 ACTIVE, 5 ALONE, 6 FAILED. -/
def pairStateOf (s : State) : Nat := s.get PAIR_STATUS.STATE

/-- Whether the unit is ACTIVE or ALONE. -/
def pairActive (s : State) : Bool := pairStateOf s == 4 || pairStateOf s == 5

/-- Whether the unit sends answers, PTP messages and scheduled departures (R316). -/
def pairSends (s : State) : Bool := !s.flag PAIR_CFG.EN || (pairActive s && !s.sys.activeN)

/-- The pair block's internal state changed. -/
def pairSet (f : PairState → PairState) (s : State) : State := { s with pair := f s.pair }

/-- A pair flag with its interrupt: PROMOTED, FAILED_EV and LINK_LOST raise source 221, the others 222 (R379). -/
def pairFlag (f : Fld) (s : State) : State := s.setFlag f (if f.lo < 3 then 221 else 222)

/-- A frame kept back at its t_d and counted in REHEARSED, per 1,024 (R316). -/
def pairKept (s : State) : State :=
  let n := s.pair.rehearsed + 1
  if n = 1024 then (pairSet (fun (p : PairState) => { p with rehearsed := 0 }) s).count PAIR_CNT2.REHEARSED 1
  else pairSet (fun (p : PairState) => { p with rehearsed := n }) s

/-- A pair of digests compared by the standby (R323). -/
def pairCompared (bad : Bool) (s : State) : State :=
  let now := s.tb.dev
  let s := pairSet (fun (p : PairState) =>
    { p with compared := (now, bad) :: p.compared.filter fun c => decide (now < c.1 + 10 * secUnit) }) s
  s.onlyIf bad fun s => pairFlag PAIR_FLAGS.REHEARSE_MISMATCH (s.count PAIR_CNT1.MISMATCH 1)

/-- The HMAC that R323 takes over a request: source address, source port and origin timestamp, under the tag part of K; the
origin timestamp is the one that the answer carries. -/
def pairHmac (key bs : List Byte) : List Byte :=
  let f := parseFrame bs
  hmac256 (key.drop 64) (f.srcIp bs ++ (bs.drop f.l4).take 2 ++ (f.payload.drop 40).take 8)

/-- The 16 bytes of a digest (R323): the HMAC's first 8 bytes, the outcome, LI, stratum and reference ID of the answer. -/
def pairDigestBytes (hmac : List Byte) (outcome : Nat) (header : List Byte) : List Byte :=
  hmac.take 8 ++ [BitVec.ofNat 8 outcome, (header.getD 0 0) >>> 6, header.getD 1 0] ++
    ((header.drop 12).take 4 ++ List.replicate (4 - ((header.drop 12).take 4).length) 0) ++ [0]

/-- A digest of the standby's own compared with the partner's, or kept until that arrives. -/
def pairOwnDigest (d : List Byte) (s : State) : State :=
  match s.pair.other.find? fun o => o.take 8 == d.take 8 with
  | some o => pairCompared (o != d) (pairSet (fun (p : PairState) => { p with other := p.other.erase o }) s)
  | none => pairSet (fun (p : PairState) => { p with own := p.own ++ [d] }) s

/-- A request whose outcome is decided (R323): a sampled one sends a digest. Outcomes: 0 NTP, 1 NTS, 2 kiss-o'-death, 3 NAK; drop
causes: 4 UNLOCKED, 5 UNVER, 6 UNANSWERABLE, 7 OVERRUN, 8 LIMITED, 9 MALFORMED, 10 NOUNIT, 11 NOSLOT, 12 POOL_LATE, 13 QUEUE,
14 an NTS failure with NAK_EN = 0, 15 ABORT, 16 STEP_DROP. -/
def pairDigest (bs : List Byte) (outcome : Nat) (header : List Byte) (s : State) : State :=
  match s.flag PAIR_CFG.EN && s.flag PAIR_CFG.REHEARSE_EN, s.pair.key with
  | true, some k =>
    let h := pairHmac k bs
    if leNat (h.take 2) % 2 ^ s.get PAIR_CFG.SAMPLE_LOG = 0 then
      let d := pairDigestBytes h outcome header
      (s.emit (.pair 4 d)).onlyIf (pairStateOf s == 3) (pairOwnDigest d)
    else s
  | _, _ => s

end Sys2Proof.Machine
end

