-- ==== Sys2Proof/Machine/Ports.lean ====
section
/-! DEFINITION. The Ethernet ports (09_ethernet_ports.md): line time, reservations and departures, gate lists, received PAUSE and
ESMC, and the transmit-timestamp queue. -/

namespace Sys2Proof.Machine

/-! ### Ports -/

/-- A port's internal state. -/
def macPort (s : State) (n : Nat) : MacPort := s.mac.getD n MacPort.reset

/-- A port's internal state changed. -/
def macSet (n : Nat) (f : MacPort → MacPort) (s : State) : State := { s with mac := s.mac.modify n f }

/-! ### Line time (R183) -/

/-- One nanosecond of line time, whose unit is 2^-60/25 ns. -/
def lineNs : Int := 25 * 2 ^ 60

/-- A device or replica time in line time. -/
def lineOf (t : Int) : Int := 25 * t

/-- The byte time and the block period of a MODE, in 1/25 ns (R178, R183). -/
def portTimes (mode : Nat) : Int × Int :=
  match mode with
  | 0 => (200, 400) | 1 => (20, 160) | 2 => (8, 64) | 3 => (4, 32) | _ => (2, 16)

/-- The frequency of EPTXn against its nominal ratio to the pivot, less 1, in 2^-60 (R179): that of device time with TX_FOLLOW, else 0. -/
def portTxWord (s : State) (n : Nat) : Int :=
  if (macPort s n).follow then Config.quot (s.tb.adv - 10 ^ 6 * nsUnit) (10 ^ 6) else 0

/-- A nominal time of the transmit clock in line time (R179): itself while the clock follows device time, else what the raw pivot ratio makes
of it. -/
def portTime (s : State) (n : Nat) (x : Int) : Int :=
  if (macPort s n).follow then x else Config.quot (x * s.tb.adv) (10 ^ 6 * nsUnit)

/-- The byte time of a port in line time. -/
def portByte (s : State) (n : Nat) : Int := portTime s n (2 ^ 60 * (portTimes (s.get (EP_CFG.MODE n))).1)

/-- The data-block period of a port in line time. -/
def portBlock (s : State) (n : Nat) : Int := portTime s n (2 ^ 60 * (portTimes (s.get (EP_CFG.MODE n))).2)

/-- The SerDes lanes that a port uses: 2n, and 2n + 1 at 100 Gb/s (R178). -/
def portLanes (s : State) (n : Nat) : List Nat := if s.get (EP_CFG.MODE n) = 4 then [2 * n, 2 * n + 1] else [2 * n]

/-- Whether a lane is powered: some enabled port uses it (R178). -/
def laneOn (s : State) (l : Nat) : Bool := (List.range 8).any fun n => s.flag (EP_CFG.EN n) && (portLanes s n).contains l

/-- The occupancy of a frame of `len` bytes with its FCS (R184). -/
def portOcc (s : State) (n len : Nat) : Int := (8 + len) * portByte s n

/-- The first data-block start from the slot numbered `m` on, over at most `k` further slots (R183). -/
def gridFrom (g : BlockGrid) (p m : Int) : Nat → Int
  | 0 => g.phase + m * p
  | k + 1 => if g.markers.contains m then gridFrom g p (m + 1) k else g.phase + m * p

/-- The first data-block start at or after a line time (R183). -/
def gridNext (g : BlockGrid) (p x : Int) : Int := gridFrom g p (-((g.phase - x) / p)) g.markers.length

/-- A port flag with its interrupt (R379). -/
def portFlag (n : Nat) (f : Fld) (s : State) : State := s.setFlag f (144 + n)

/-- The transmit delay of a port to its reference plane, in 2^-60 ns (R181). -/
def portTxd (s : State) (n : Nat) : Int := (s.getS (EP_TX_DLY_PH.ofs n) + s.getS (EP_TX_EXT_PH.ofs n)) * phUnit

/-- The receive delay of a port from its reference plane, in 2^-60 ns (R181). -/
def portRxd (s : State) (n : Nat) : Int := (s.getS (EP_RX_DLY_PH.ofs n) + s.getS (EP_RX_EXT_PH.ofs n)) * phUnit

/-- The ingress stamp of a frame whose start-of-frame block lies at an instant (R180). -/
def portRxStamp (s : State) (n at_ : Nat) : Int := repTime s (8 + n) at_ - portRxd s n

/-- Whether MODE and FEC make an allowed combination (R178). -/
def portModeOk (mode fec : Nat) : Bool :=
  match mode with
  | 0 => fec == 0
  | 1 => fec ≤ 1
  | 2 => fec ≤ 2
  | 3 => fec == 3
  | 4 => fec == 3
  | _ => false

/-! ### Gate lists (R187 to R189) -/

/-- A gate list entry as the register holds it; an entry beyond 1,023 does not exist and has a free value (assumption 14). -/
def gateEntry (s : State) (n e : Nat) : Word := if e < 1024 then s.reg (EP_GATE_ENT.ofs n e) else Config.gateEntry n e

/-- The segments of a gate list from entry `e` on, `k` entries left, from an offset in ns: start, end and gate states, cut off
at the cycle's end and with the last states held to it (R188). -/
def gateSegs (s : State) (n cycle : Nat) : Nat → Nat → Nat → Nat → List (Nat × Nat × Nat)
  | 0, _, ofs, last => if ofs < cycle then [(ofs, cycle, last)] else []
  | k + 1, e, ofs, _ =>
    let w := gateEntry s n e
    let states := fieldOf w 0 8
    let stop := ofs + max 1 (fieldOf w 8 24)
    if cycle ≤ ofs then [] else (ofs, min stop cycle, states) :: gateSegs s n cycle k (e + 1) stop states

/-- The segments of a list. -/
def GateList.segs (l : GateList) (s : State) (n : Nat) : List (Nat × Nat × Nat) := gateSegs s n l.cycle l.len l.start 0 0xFF

/-- Whether a class is open under a list, repeating without end, over the closed interval from `a` to `b` in line time. -/
def GateList.isOpen (l : GateList) (s : State) (n cls : Nat) (a b : Int) : Bool :=
  let c : Int := l.cycle * lineNs
  let o := (a - lineOf l.base) % c
  let e := o + (b - a)
  (l.segs s n).all fun (g : Nat × Nat × Nat) =>
    let st : Int := g.1 * lineNs
    let en : Int := g.2.1 * lineNs
    g.2.2.testBit cls || !(decide (c ≤ b - a) || decide (st ≤ e ∧ o < en) || decide (st + c ≤ e))

/-- The start of the cycle that CYCLE_EXT extends up to a change time, where it does (R189). -/
def GateList.extended (l : GateList) (tc : Int) : Option Int :=
  let c : Int := l.cycle * lineNs
  let te := tc - (tc - lineOf l.base) % c
  if te < tc ∧ tc - te < l.ext * lineNs then some te else none

/-- The list over its extended cycle, which runs on in order past CYCLE from the start of the cycle that would end at the line time `te`
(R188, R189). -/
def GateList.runOn (l : GateList) (te : Int) : GateList := { l with base := te / 25 - l.cycle * nsUnit, cycle := l.cycle + l.ext }

/-- Whether the operational list keeps a class open from `a` to `b`, both before the change time `tc` (R189). -/
def gateOldOpen (s : State) (n cls : Nat) (a b tc : Int) : Bool :=
  let p := macPort s n
  match p.running, p.oper with
  | true, some l =>
    match l.extended tc with
    | some te =>
      (decide (te ≤ a) || l.isOpen s n cls a (min b (te - 1))) && (decide (b < te) || (l.runOn te).isOpen s n cls (max a te) b)
    | none => l.isOpen s n cls a b
  | _, _ => true

/-- Whether the gate of a class is open over the closed interval from `a` to `b` in line time, under the list that will be
operational then (R187, R189, R212). -/
def gateOpen (s : State) (n cls : Nat) (a b : Int) : Bool :=
  let p := macPort s n
  if !s.flag (EP_GATE_CFG.GATE_EN n) then true
  else match p.admin with
    | some (g, tc) =>
      (decide (tc ≤ a) || gateOldOpen s n cls a (min b (tc - 1)) tc) && (decide (b < tc) || g.isOpen s n cls (max a tc) b)
    | none =>
      match p.running, p.oper with
      | true, some l => l.isOpen s n cls a b
      | _, _ => true

/-- GATES brought up to date at a line time (R187). -/
def gateRefresh (n : Nat) (x : Int) (s : State) : State :=
  s.put (EP_GATE_STATUS.GATES n) ((List.range 8).foldl (fun v c => v + 2 ^ c * bit (gateOpen s n c x x)) 0)

/-- The state of a port's gate list (R189). -/
def gateState (n st : Nat) (s : State) : State := s.put (EP_GATE_STATUS.STATE n) st

/-- Whether an entry lies in the operational range (R188). -/
def gateProtected (s : State) (n e : Nat) : Bool :=
  match (macPort s n).oper with
  | some l => decide (l.start ≤ e ∧ e < l.start + l.len)
  | none => false

/-- A host write of a gate entry (R188): ignored with GATE_ERR inside the operational range. -/
def gateEntWrite (n e : Nat) (v : Word) (s : State) : State :=
  if gateProtected s n e then portFlag n (EP_FLAGS.GATE_ERR n) s else s.setReg (EP_GATE_ENT.ofs n e) v

/-- GATE_ENTRY (R188): the next gate states take effect. -/
def execGateEntry (n : Fin 8) (at_ : Nat) (s : State) : Host.Outcome State Fault Refusal :=
  .next (gateRefresh n (lineOf (repTime s n at_)) s)

/-- A write of GATE_EN (R189). -/
def gateEnable (n : Nat) (en : Bool) (at_ : Nat) (s : State) : State :=
  let st := s.get (EP_GATE_STATUS.STATE n)
  let s := s.putB (EP_GATE_CFG.GATE_EN n) en
  let s :=
    if en then
      if st = 0 ∧ (macPort s n).oper.isSome then
        gateState n 2 (macSet n (fun (p : MacPort) => { p with running := true }) s)
      else s
    else if st = 0 then s
    else gateState n 0 (macSet n (fun (p : MacPort) => { p with running := false, admin := none }) s)
  gateRefresh n (lineOf (repTime s n at_)) s

/-- GATE_ENABLE. -/
def execGateEnable (n : Fin 8) (en : Bool) (at_ : Nat) (s : State) : Host.Outcome State Fault Refusal :=
  .next (s.hostDo .mac (some (8, n)) [EP_GATE_CFG.ofs n] (gateEnable n en at_))

/-- The administrative list that the staging registers hold (R188). -/
def gateStaged (s : State) (n : Nat) : GateList :=
  { start := s.get (EP_GATE_CFG.ADMIN_START n), len := s.get (EP_GATE_CFG.ADMIN_LEN n),
    base := timeOf (s.get64 (EP_GATE_BASE_SEC.ofs n)) (s.reg (EP_GATE_BASE_NS.ofs n)).toNat 0,
    cycle := (s.reg (EP_GATE_CYCLE.ofs n)).toNat, ext := (s.reg (EP_GATE_EXT.ofs n)).toNat }

/-- Whether two ranges of entries overlap (R188). -/
def GateList.overlaps (a b : GateList) : Bool := decide (a.start < b.start + b.len ∧ b.start < a.start + a.len)

/-- Whether R189 refuses a change to the staged list. -/
def gateRefused (s : State) (n : Nat) : Bool :=
  let g := gateStaged s n
  g.len == 0 || decide (g.cycle < 64) || decide (10 ^ 9 < g.cycle) ||
  decide (999999999 < (s.reg (EP_GATE_BASE_NS.ofs n)).toNat) ||
  (match (macPort s n).oper with | some l => l.overlaps g | none => false)

/-- A write of CHANGE = 1 (R189): the staging registers are checked and the change time fixed, or GATE_ERR. -/
def gateChange (n : Nat) (at_ : Nat) (s : State) : State :=
  if gateRefused s n then portFlag n (EP_FLAGS.GATE_ERR n) s
  else
    let g := gateStaged s n
    let c : Int := g.cycle * nsUnit
    let want := repTime s n at_ + 10000 * nsUnit
    let tc := g.base + max 0 (-((g.base - want) / c)) * c
    gateState n 1 (macSet n (fun (p : MacPort) => { p with admin := some (g, lineOf tc) }) s)

/-- GATE_CHANGE. -/
def execGateChange (n : Fin 8) (at_ : Nat) (s : State) : Host.Outcome State Fault Refusal :=
  .next (s.hostDo .mac (some (8, n)) [EP_GATE_CFG.ofs n] (gateChange n at_))

/-- GATE_CHANGE_TIME (R189): the administrative list becomes operational. -/
def gateChangeTime (n : Nat) (s : State) : State :=
  match (macPort s n).admin with
  | some (g, tc) =>
    let s := macSet n (fun (p : MacPort) => { p with oper := some g, running := true, admin := none }) s
    let s := gateState n 2 ((s.put (EP_GATE_STATUS.OPER_START n) g.start).put (EP_GATE_STATUS.OPER_LEN n) g.len)
    gateRefresh n tc (portFlag n (EP_FLAGS.CHANGE_DONE n) s)
  | none => s

/-- GATE_CHANGE_TIME. -/
def execGateChangeTime (n : Fin 8) (s : State) : Host.Outcome State Fault Refusal := .next (gateChangeTime n s)

/-- A write of EP_GATE_CFG: the staged range, then GATE_EN, then CHANGE (R188, R189). -/
def gateCfgWrite (n : Nat) (v : Word) (at_ : Nat) (s : State) : State :=
  let s := (s.put (EP_GATE_CFG.ADMIN_START n) (fieldOf v 2 10)).put (EP_GATE_CFG.ADMIN_LEN n) (min 1024 (fieldOf v 12 11))
  let s := if v.getLsbD 0 == s.flag (EP_GATE_CFG.GATE_EN n) then s else gateEnable n (v.getLsbD 0) at_ s
  s.onlyIf (v.getLsbD 1) (gateChange n at_)

/-! ### The transmit-timestamp queue (R194, R195) -/

/-- The entry count of the queue brought up to date. -/
def tsqCount (n : Nat) (s : State) : State := s.put (EP_TSQ_STATUS.COUNT n) (macPort s n).tsq.length

/-- An entry appended for a frame that asked for one, or lost at a full queue (R194, R195). -/
def tsqAppend (n : Nat) (ts : Option TsReq) (dropped : Bool) (time : Int) (s : State) : State :=
  match ts with
  | none => s
  | some req =>
    let p := macPort s n
    if 64 ≤ p.tsq.length then
      ((macSet n (fun (p : MacPort) => { p with lost := true }) s).count (EP_TSQ_STATUS.OVF n) 1).setEvent (EP_FLAGS.TSQ_OVF n)
        (144 + n)
    else
      let e : TsEntry :=
        { req := req, dropped := dropped, ovfBefore := p.lost, unlocked := !s.flag (TB_REP_STATUS.LOCKED n),
          freeMeas := tbFreeMeas s, time := if dropped then 0 else time }
      tsqCount n (macSet n (fun (p : MacPort) => { p with tsq := p.tsq ++ [e], lost := false }) s)

/-- The identifier of a host entry. -/
def TsEntry.hostId (e : TsEntry) : Option Nat := match e.req with | .host id => some id | .ptp _ _ => none

/-- The first host entry of a port's queue, which EP_TSQ_POP shows (R194). -/
def tsqHead (s : State) (n : Nat) : Option TsEntry := (macPort s n).tsq.find? fun e => e.hostId.isSome

/-- The value that a read of EP_TSQ_POP returns (R194). -/
def tsqPopValue (s : State) (n : Nat) : Word :=
  match tsqHead s n with
  | some e => BitVec.ofNat 32 (e.hostId.getD 0 % 2 ^ 16 + 2 ^ 16 + 2 ^ 17 * bit e.dropped + 2 ^ 18 * bit e.ovfBefore +
      2 ^ 19 * bit e.unlocked + 2 ^ 20 * bit e.freeMeas)
  | none => 0

/-- A list without its first element that passes a test. -/
def dropFirst {α : Type} (t : α → Bool) : List α → List α
  | [] => []
  | x :: xs => if t x then xs else x :: dropFirst t xs

/-- A host read of EP_TSQ_POP (R194): the head entry leaves the queue and its time is latched; an empty queue leaves the
latch. -/
def tsqPop (n : Nat) (s : State) : State :=
  let s := { s with sys := { s.sys with rdata := tsqPopValue s n } }
  match tsqHead s n with
  | some e =>
    let s := tsqCount n (macSet n (fun (p : MacPort) => { p with tsq := dropFirst (fun e => e.hostId.isSome) p.tsq }) s)
    let s := s.put64 (EP_TSQ_SEC.ofs n) (secOf e.time)
    (s.put (EP_TSQ_NS.NS n) (nsOf e.time)).put (EP_TSQ_FRAC.FRAC n) (fracOf e.time)
  | none => s

/-- TSQ_POP. -/
def execTsqPop (n : Fin 8) (s : State) : Host.Outcome State Fault Refusal := .next (s.hostPop .mac (some (8, n)) (tsqPop n))

/-! ### Reservations and departures (R184, R186) -/

/-- The fill count of the departure queue brought up to date. -/
def depFill (n : Nat) (s : State) : State := s.put (EP_STATUS.DEP_FILL n) (macPort s n).resv.length

/-- A PTP instance's internal state changed. -/
def ptpSet (i : Nat) (f : PtpInst → PtpInst) (s : State) : State :=
  { s with ptp := { s.ptp with insts := s.ptp.insts.modify i f } }

/-- A reservation owner's own count of a frame that the MAC dropped: a Sync (R242) or a Delay_Req, which leaves no exchange
(R252). -/
def ownerDropped (o : ResvOwner) (s : State) : State :=
  match o with
  | .ans _ _ => s
  | .sync i => (s.count (PTP_INST_CNT0.SYNC_DROP i) 1).setFlag (PTP_INST_FLAGS.SYNC_DROP i) (160 + i)
  | .delayReq i q =>
    ptpSet i (fun (x : PtpInst) => { x with reqs := x.reqs.filter fun (r : ReqRec) => decide (r.seq ≠ q) })
      (s.count (PTP_INST_CNT2.DEP_DROP i) 1)

/-- A scheduled frame dropped by the MAC under a cause (R186): counted, DEP_DROP, the departure deadline fault, and the owner's
own count; a requested timestamp entry carries DROPPED (R194). -/
def depDrop (n : Nat) (cause : Fld) (o : ResvOwner) (ts : Option TsReq) (line : Int) (s : State) : State :=
  ownerDropped o (tsqAppend n ts true 0 (portFlag n (EP_FLAGS.DEP_DROP n) ((s.count cause 1).deadline 0 (line / 25))))

/-- The data-block start that R212 and R242 choose: the least one from `b` on with the gate of DEP_TC open over the frame, none
further than `slack` beyond `tmin`; at most `k` starts are tried. -/
def depSearch (s : State) (n len : Nat) (g : BlockGrid) (tmin slack : Int) : Nat → Int → Option Int
  | 0, _ => none
  | k + 1, b =>
    if slack < b - tmin then none
    else if gateOpen s n (s.get (EP_CFG.DEP_TC n)) b (b + portOcc s n len) then some b
    else depSearch s n len g tmin slack k (gridNext g (portBlock s n) (b + 1))

/-- t_d for a frame of `len` bytes wanted at `tmin`, chosen at the line time `now` (R212, R242). -/
def depChoose (s : State) (n len : Nat) (g : BlockGrid) (tmin now slack : Int) : Option Int :=
  let b := gridNext g (portBlock s n) (max (max tmin (macPort s n).f) (now + 300 * lineNs))
  depSearch s n len g tmin slack ((slack / portBlock s n).toNat + 2) b

/-- Whether the departure queue has a place (R184). -/
def depRoom (s : State) (n : Nat) : Bool := decide ((macPort s n).resv.length < 512)

/-- A reservation made (R184), with its frame where that is ready: F moves to the first data-block start at or after the frame's end and 12 byte times. -/
def depReserve (n : Nat) (o : ResvOwner) (td : Int) (len : Nat) (g : BlockGrid) (fr : Option EthFrame) (s : State) : State :=
  let f := gridNext g (portBlock s n) (td + portOcc s n len + 12 * portByte s n)
  let r : Resv :=
    { owner := o, td := td, len := len, txd := portTxd s n, dead := false, sends := pairSends s, frame := fr }
  depFill n (macSet n (fun (p : MacPort) => { p with f := f, resv := p.resv ++ [r] }) s)

/-- A reservation refused at a full queue: the frame is dropped under QUEUE (R184, R186). -/
def depRefuse (n : Nat) (o : ResvOwner) (line : Int) (s : State) : State := depDrop n (EP_DEP_DROP0.QUEUE n) o none line s

/-- A reservation that its owner cancels (R186): it stays, is never filled, and its slot stays idle. -/
def depCancel (n : Nat) (o : ResvOwner) (s : State) : State :=
  macSet n (fun (p : MacPort) =>
    { p with resv := p.resv.map fun (r : Resv) => if r.owner = o then { r with dead := true, frame := none } else r }) s

/-- The live reservation of an owner that waits for its frame. -/
def depFind (s : State) (n : Nat) (o : ResvOwner) : Option Resv :=
  (macPort s n).resv.find? fun r => decide (r.owner = o) && !r.dead && r.frame.isNone

/-- A finished frame handed over at a line time (R184, R186): late within 100 ns of t_d or without a reservation. -/
def depHandOver (n : Nat) (o : ResvOwner) (fr : EthFrame) (now : Int) (s : State) : State :=
  match depFind s n o with
  | some r =>
    if r.td < now + 100 * lineNs then depDrop n (EP_DEP_DROP0.LATE n) o fr.ts now (depCancel n o s)
    else macSet n (fun (p : MacPort) =>
      { p with resv := p.resv.map fun (x : Resv) => if x.owner = o ∧ !x.dead then { x with frame := some fr } else x }) s
  | none => depDrop n (EP_DEP_DROP0.LATE n) o fr.ts now s

/-- The frame length with FCS of a frame as it leaves: padded to 60 bytes (R387). -/
def EthFrame.wireLen (fr : EthFrame) : Nat := max 60 fr.bytes.length + 4

/-- A frame as it leaves, padded to 60 bytes. -/
def EthFrame.padded (fr : EthFrame) : List Byte := fr.bytes ++ List.replicate (60 - fr.bytes.length) 0

/-- The first cause of R186 that keeps a frame from leaving at t_d. -/
def depCause (s : State) (n : Nat) (td : Int) (fr : EthFrame) : Option Fld :=
  if !s.flag (EP_STATUS.LINK n) then some (EP_DEP_DROP1.LINK n)
  else if !s.flag (TB_REP_STATUS.LOCKED n) then some (EP_DEP_DROP1.REPLICA n)
  else if s.flag (EP_STATUS.PAUSED n) then some (EP_DEP_DROP2.PAUSE n)
  else if !gateOpen s n (s.get (EP_CFG.DEP_TC n)) td (td + portOcc s n fr.wireLen) then some (EP_DEP_DROP2.GATE n)
  else none

/-- The words in which a frame crosses between CORE and its port, at the datapath width of MODE (R346). -/
def portWords (s : State) (n len : Nat) : Nat :=
  let w := match s.get (EP_CFG.MODE n) with | 0 => 1 | 1 => 8 | 2 => 8 | 3 => 16 | _ => 32
  (len + w - 1) / w

/-- Whether the words that CORE writes to a port's transmitter pass (R355). -/
def portFeeds (s : State) (n : Nat) : Bool := s.get (CDC_XS_STATUS.STATE_A (1 + n)) == 0

/-- A frame started on the line: it leaves the device, and its timestamp entry gives the block start plus the transmit delay in
2^-60 ns (R180, R181). -/
def portSend (n : Nat) (fr : EthFrame) (start txd : Int) (s : State) : State :=
  if portFeeds s n then
    let stop := start + portOcc s n fr.wireLen + 12 * portByte s n
    let s := macSet n (fun (p : MacPort) => { p with busy := max p.busy stop }) s
    tsqAppend n fr.ts false (start / 25 + txd) (s.emit (.frame n fr.padded))
  else tsqAppend n fr.ts true 0 (s.cross true (1 + n) (portWords s n fr.wireLen) fun s => s)

/-- A frame that R316 keeps back at its instant: discarded and counted in REHEARSED; its timestamp entry is kept as for a frame
that leaves. -/
def portKeep (n : Nat) (fr : EthFrame) (start txd : Int) (s : State) : State :=
  tsqAppend n fr.ts false (start / 25 + txd) (pairKept s)

/-- The earliest reservation at its t_d (R186, R320): its frame leaves or is dropped under the first cause; an empty slot counts in
UNUSED. -/
def depDeparture (n : Nat) (s : State) : State :=
  match (macPort s n).resv with
  | [] => s
  | r :: rest =>
    let s := depFill n (macSet n (fun (p : MacPort) => { p with resv := rest }) s)
    match r.frame with
    | none => s.count (EP_DEP_UNUSED.UNUSED n) 1
    | some fr =>
      if fr.gated && !(r.sends && pairSends s) then portKeep n fr r.td r.txd s
      else match depCause s n r.td fr with
      | some c => depDrop n c r.owner fr.ts r.td s
      | none => portSend n fr r.td r.txd (s.onlyIf (portFeeds s n) fun s => s.count (EP_DEP_SENT.COUNT n) 1)

/-- DEPARTURE. -/
def execDeparture (n : Fin 8) (s : State) : Host.Outcome State Fault Refusal := .next (depDeparture n s)

/-! ### Frames that are not scheduled (R185) -/

/-- Whether a waiting frame may start at a line time (R185). -/
def portMayStart (s : State) (n : Nat) (fr : EthFrame) (start : Int) : Bool :=
  let p := macPort s n
  let occ := portOcc s n fr.wireLen
  s.flag (EP_STATUS.LINK n) && decide (p.busy ≤ start) && !s.flag (EP_STATUS.PAUSED n) &&
  (match p.resv with | r :: _ => decide (start + occ + 12 * portByte s n ≤ r.td) | [] => true) &&
  gateOpen s n fr.cls start (start + occ)

/-- UNSCHEDULED_TX (R185): the waiting frame numbered `i` starts at an instant, if it may. -/
def portUnscheduled (n i at_ : Nat) (s : State) : State :=
  match (macPort s n).waiting[i]? with
  | none => s
  | some fr =>
    let start := lineOf (repTime s n at_)
    if portMayStart s n fr start then
      if fr.gated && !pairSends s then
        portKeep n fr start (portTxd s n) (macSet n (fun (p : MacPort) => { p with waiting := p.waiting.eraseIdx i }) s)
      else
        let stop := start + portOcc s n fr.wireLen + 12 * portByte s n
        let s := macSet n (fun (p : MacPort) => { p with waiting := p.waiting.eraseIdx i, f := max p.f stop }) s
        portSend n fr start (portTxd s n) s
    else s

/-- UNSCHEDULED_TX. -/
def execUnscheduledTx (n : Fin 8) (i at_ : Nat) (s : State) : Host.Outcome State Fault Refusal :=
  .next (portUnscheduled n i at_ s)

/-- A frame queued to leave unscheduled. -/
def portQueue (n : Nat) (fr : EthFrame) (s : State) : State :=
  macSet n (fun (p : MacPort) => { p with waiting := p.waiting ++ [fr] }) s

/-- Whether a transmit descriptor keeps the rules of R387. -/
def txDescOk (d : List Byte) : Bool :=
  let len := leNat ((d.drop 8).take 2)
  decide (14 ≤ len) && decide (len ≤ 1522) && leNat ((d.drop 10).take 2) / 16 == 0 && (d.drop 14).all (· == 0)

/-- TX_DESCRIPTOR (R387): the oldest fetched transmit descriptor of a port is consumed and its frame, as DMA read it, queued. -/
def txDescriptor (n : Nat) (frame : List Byte) (s : State) : State :=
  match hifDescriptor s (20 + n) with
  | none => s
  | some d =>
    if !txDescOk d then hifBadDesc (20 + n) s
    else
      let len := leNat ((d.drop 8).take 2)
      let flags := leNat ((d.drop 10).take 2)
      let ts := if flags.testBit 3 then some (TsReq.host (leNat ((d.drop 12).take 2))) else none
      let fr : EthFrame := { bytes := (frame ++ List.replicate len 0).take len, cls := flags % 8, ts := ts, gated := false, inst := none }
      let s := hifConsume (20 + n) s
      if s.flag (EP_CFG.EN n) && s.flag (EP_STATUS.LINK n) then portQueue n fr s
      else tsqAppend n ts true 0 (hifDrop (20 + n) s)

/-- TX_DESCRIPTOR. -/
def execTxDescriptor (port : Fin 8) (frame : List Byte) (s : State) : Host.Outcome State Fault Refusal :=
  .next (txDescriptor port frame s)

/-! ### Link and configuration (R178, R181, R186) -/

/-- A 64-bit register pair that now holds a value the spec leaves undefined. -/
def putFree64 (ofs : Nat) (s : State) : State := (s.put64 ofs s.freeVal).freeNext

/-- The delays of a port recomputed after a FEC change: values held on the die that the spec does not give (R181; assumption 65). -/
def portDelays (n : Nat) (s : State) : State := putFree64 (EP_RX_DLY_PH.ofs n) (putFree64 (EP_TX_DLY_PH.ofs n) s)

/-- A port's link lost (R186): LINK_DOWN_EV; frames that have not left give entries with DROPPED (R194); the delays are not
defined (R181); the recovered clock is gone (R67). -/
def portLinkDown (n : Nat) (s : State) : State :=
  let s := portFlag n (EP_FLAGS.LINK_DOWN_EV n) ((s.put (EP_STATUS.LINK n) 0).put (EP_STATUS.FEC_LOCK n) 0)
  let waiting := (macPort s n).waiting
  let s := macSet n (fun (p : MacPort) => { p with waiting := [] }) s
  let s := waiting.foldl (fun s fr => tsqAppend n fr.ts true 0 s) s
  tbRepOff (8 + n) (portDelays n s)

/-- ETH_LINK_DOWN. -/
def execEthLinkDown (n : Fin 8) (s : State) : Host.Outcome State Fault Refusal :=
  .next (s.onlyIf (s.flag (EP_STATUS.LINK n)) (portLinkDown n))

/-- Whether a port can have a link: enabled, its lanes powered, with an allowed MODE and FEC (R178). -/
def portUsable (s : State) (n : Nat) : Bool :=
  s.live .mac && s.flag (EP_CFG.EN n) && (portLanes s n).all (laneOn s) && portModeOk (s.get (EP_CFG.MODE n)) (s.get (EP_CFG.FEC n))

/-- ETH_LINK_UP (R181): the PCS has locked; the delays are recomputed, given in `_PH`, and the replicas run (R67). -/
def execEthLinkUp (n : Fin 8) (txDly rxDly : BitVec 64) (s : State) : Host.Outcome State Fault Refusal :=
  .next (s.onlyIf (portUsable s n && !xsFarHeld s (1 + n) && !xsFarHeld s (9 + n)) fun s =>
    let s := (s.put (EP_STATUS.LINK n) 1).putB (EP_STATUS.FEC_LOCK n) (s.get (EP_CFG.FEC n) != 0)
    let s := (s.put64 (EP_TX_DLY_PH.ofs n) txDly.toNat).put64 (EP_RX_DLY_PH.ofs n) rxDly.toNat
    tbRepStart (8 + n) (tbRepStart n s))

/-- The rate of a MODE in Gb/s (R178). -/
def modeRate (mode : Nat) : Nat := match mode with | 0 => 1 | 1 => 10 | 2 => 25 | 3 => 50 | 4 => 100 | _ => 0

/-- Whether the MODEs of the ports keep the limits of R37, with port `n` at `mode`. -/
def portRatesOk (s : State) (n mode : Nat) : Bool :=
  let rate := fun i => modeRate (if i = n then mode else s.get (EP_CFG.MODE i))
  (List.range 4).all (fun p => decide (rate (2 * p) + rate (2 * p + 1) ≤ 100)) &&
  decide (((List.range 8).map rate).sum ≤ 400)

/-- A write of EP_CFG (R178): a MODE that breaks R37 is ignored with CFG_BAD; a combination that R178 does not list leaves the
port down and sets CFG_BAD; EN starts and stops the replicas (R67). -/
def portCfgWrite (n : Nat) (v : Word) (s : State) : State :=
  let s := xsWrite (1 + n) s
  let was := s.flag (EP_CFG.EN n)
  let fec := s.get (EP_CFG.FEC n)
  let mode := fieldOf v 1 3
  let ok := mode = s.get (EP_CFG.MODE n) ∨ portRatesOk s n mode
  let v := if ok then v else fieldSet v 1 3 (s.get (EP_CFG.MODE n))
  let s := (s.onlyIf (!decide ok) (portFlag n (EP_FLAGS.CFG_BAD n))).setReg (EP_CFG.ofs n) (v &&& 0x1FFFF)
  let en := v.getLsbD 0
  let bad := !portModeOk (s.get (EP_CFG.MODE n)) (s.get (EP_CFG.FEC n))
  let s := s.onlyIf bad (portFlag n (EP_FLAGS.CFG_BAD n))
  let s := s.onlyIf (s.flag (EP_STATUS.LINK n) && (!en || bad)) (portLinkDown n)
  let s := s.onlyIf (s.flag (EP_STATUS.LINK n) && s.get (EP_CFG.FEC n) != fec) (portDelays n)
  if en && !was then tbRepStart n s else if !en && was then tbRepOff n (tbRepOff (8 + n) s) else s

/-! ### Received PAUSE (R193) -/

/-- PAUSE_RX (R193): a PAUSE frame whose reception ends at an instant. -/
def portPauseRx (n : Nat) (opcode quanta : Nat) (at_ : Nat) (s : State) : State :=
  let s := s.count (EP_RX_CNT.PAUSE_RX n) 1
  if opcode = 1 ∧ s.flag (EP_CFG.RX_PAUSE_EN n) then
    let stop := 25 * s.pivotAt at_ + quanta * 64 * 4096 * (portTimes (s.get (EP_CFG.MODE n))).1.toNat
    (macSet n (fun (p : MacPort) => { p with pauseEnd := stop }) s).putB (EP_STATUS.PAUSED n) (quanta != 0)
  else s

/-- PAUSE_RX. -/
def execPauseRx (n : Fin 8) (opcode quanta : BitVec 16) (at_ : Nat) (s : State) : Host.Outcome State Fault Refusal :=
  .next (portPauseRx n opcode.toNat quanta.toNat at_ s)

/-- PAUSE_END (R193): the remaining time of the latest PAUSE frame runs out. -/
def execPauseEnd (n : Fin 8) (at_ : Nat) (s : State) : Host.Outcome State Fault Refusal :=
  .next (s.onlyIf (decide ((macPort s n).pauseEnd ≤ 25 * s.pivotAt at_)) (State.put (EP_STATUS.PAUSED n) 0))

/-! ### Receive filter (R190) -/

/-- Whether a destination address is accepted (R190). -/
def portAccepts (s : State) (n : Nat) (dst : List Byte) : Bool :=
  let promisc := s.flag (EP_CFG.PROMISC n)
  if dst.all (· == 0xFF) then s.flag (EP_CFG.BCAST_EN n)
  else if (dst.headD 0).getLsbD 0 then
    let h := crc32 dst % 4096
    !s.flag (EP_CFG.HASH_EN n) || promisc || (s.reg (EP_HASH.ofs n (h / 32))).getLsbD (h % 32)
  else promisc || leNat dst == s.get64 (EP_MAC_ADDR.ofs n) % 2 ^ 48

/-! ### SyncE and ESMC (R191, R192) -/

/-- Whether the ESMC receiver accepts a PDU (R191). -/
def esmcAccepted (p : EsmcPdu) : Bool :=
  p.dst == 0x0180C2000002 && p.etherType == 0x8809 && p.subtype == 0x0A && p.oui == 0x0019A7 && p.ituSubtype == 1 &&
  p.version == 1 && p.ql.isSome

/-- ESMC_PDU_RX (R191): an accepted PDU updates the received QL and the type 3 slot's message. -/
def esmcRx (n : Nat) (p : EsmcPdu) (s : State) : State :=
  if esmcAccepted p && s.flag (EP_STATUS.LINK n) then
    let ssm := (p.ql.getD 0).toNat
    let essm := (p.ext.getD 0xFF).toNat
    let changed := s.get (EP_ESMC_STATUS.RX_SSM n) ≠ ssm ∨ s.get (EP_ESMC_STATUS.RX_ESSM n) ≠ essm
    let s := (s.put (EP_ESMC_STATUS.RX_SSM n) ssm).put (EP_ESMC_STATUS.RX_ESSM n) essm
    let s := s.put (EP_ESMC_STATUS.RX_VALID n) 1
    let s := s.onlyIf (decide changed) (portFlag n (EP_FLAGS.ESMC_RX_EV n))
    rgsForSource 3 n (fun slot s => rgsMessage slot (ssm + 256 * essm) s) s
  else s

/-- ESMC_PDU_RX. -/
def execEsmcPduRx (n : Fin 8) (p : EsmcPdu) (s : State) : Host.Outcome State Fault Refusal := .next (esmcRx n p s)

/-- ESMC_TIMEOUT (R97): no valid PDU for 5 s. -/
def execEsmcTimeout (n : Fin 8) (s : State) : Host.Outcome State Fault Refusal :=
  .next (rgsForSource 3 n rgsMessageFailed (s.put (EP_ESMC_STATUS.RX_VALID n) 0))

/-- The ESMC loop of a port; 24 stands for none (R192). -/
def esmcLoop (s : State) (n : Nat) : Nat :=
  if s.flag (EP_ESMC_CFG.LOOP_AUTO n) then loopStatus s else min 24 (s.get (EP_ESMC_CFG.ESMC_LOOP n))

/-- The SSM and the enhanced code that a published grade gives (R192). -/
def esmcOfGrade (g : Nat) : Nat × Nat :=
  match g with
  | 0 => (2, 0x21) | 1 => (2, 0x21) | 2 => (2, 0x20) | 3 => (2, 0x20) | 4 => (4, 0xFF) | 5 => (4, 0xFF) | 6 => (8, 0xFF)
  | 7 => (0xB, 0x22) | 15 => (0xF, 0xFF) | _ => (0xB, 0xFF)

/-- The QL that a port transmits (R192): DNU towards the port whose own recovered clock is the incumbent. -/
def esmcTxQl (s : State) (n : Nat) : Nat × Nat :=
  let k := esmcLoop s n
  if k = 24 then (0xF, 0xFF)
  else match rgsIncumbent s k with
    | some r =>
      if rgsType s r == 3 && s.get (RGS_SLOT_BIND.INDEX r) == n then (0xF, 0xFF)
      else esmcOfGrade (s.get (LOOP_STATUS.GRADE k))
    | none => esmcOfGrade (s.get (LOOP_STATUS.GRADE k))

/-- An ESMC PDU of a port, an event or an information PDU (R192; layout of G.8264, assumption 15). -/
def esmcFrame (s : State) (n : Nat) (event : Bool) (ql : Nat × Nat) : List Byte :=
  [0x01, 0x80, 0xC2, 0, 0, 2] ++ leBytes 6 (s.get64 (EP_MAC_ADDR.ofs n)) ++ [0x88, 0x09, 0x0A, 0x00, 0x19, 0xA7, 0, 1] ++
  [if event then 0x18 else 0x10, 0, 0, 0] ++ [1, 0, 4, BitVec.ofNat 8 ql.1] ++
  (if s.flag (EP_CFG.ESSM_EN n) then [2, 0, 0x14, BitVec.ofNat 8 ql.2] ++ s.freeBytes 11 ++ List.replicate 5 0 else [])

/-- An ESMC PDU queued and the sent QL posted (R192). -/
def esmcSend (n : Nat) (event : Bool) (s : State) : State :=
  let ql := esmcTxQl s n
  let fr : EthFrame := { bytes := esmcFrame s n event ql, cls := 7, ts := none, gated := false, inst := none }
  let s := (portQueue n fr s).freeNext.put (EP_ESMC_STATUS.TX_SSM n) ql.1
  s.onlyIf (s.flag (EP_CFG.ESSM_EN n)) (State.put (EP_ESMC_STATUS.TX_ESSM n) ql.2)

/-- Whether a port sends ESMC PDUs now. -/
def esmcOn (s : State) (n : Nat) : Bool := portUsable s n && s.flag (EP_CFG.ESMC_TX_EN n) && s.flag (EP_STATUS.LINK n)

/-- ESMC_INFO_TX (R192). -/
def execEsmcInfoTx (n : Fin 8) (s : State) : Host.Outcome State Fault Refusal :=
  .next (s.onlyIf (esmcOn s n) (esmcSend n false))

/-- ESMC_EVENT_TX (R192): the transmitted QL has changed. -/
def execEsmcEventTx (n : Fin 8) (s : State) : Host.Outcome State Fault Refusal :=
  .next (s.onlyIf (esmcOn s n) (esmcSend n true))

/-! ### A step of device time (R186) -/

/-- A step that carries device time to `t` (R186): the frames of PTP reservations whose t_d is now past are dropped under LATE.
A pipeline's frames are dropped by R213. -/
def portStep (t : Int) (n : Nat) (s : State) : State :=
  let gone := (macPort s n).resv.filter fun r =>
    r.frame.isSome && decide (r.td < lineOf t) && (match r.owner with | .ans _ _ => false | _ => true)
  gone.foldl (fun s r => depDrop n (EP_DEP_DROP0.LATE n) r.owner (r.frame.bind (·.ts)) (lineOf t) (depCancel n r.owner s)) s

end Sys2Proof.Machine
end

