-- ==== Sys2Proof/Machine/Visitor.lean ====
section
/-! DEFINITION. The visitor book (10_answer_pipelines.md, R214 to R218). -/

namespace Sys2Proof.Machine

/-- One entry of the book as its fields (R215). -/
structure VbEntry where
  tag : Nat
  last : Nat
  score : Nat
  kod : Bool
deriving DecidableEq, Repr

/-- An entry unpacked (R215). -/
def vbUnpack (e : BitVec 64) : VbEntry :=
  { tag := e.toNat % 2 ^ 24, last := e.toNat / 2 ^ 24 % 2 ^ 20, score := e.toNat / 2 ^ 44 % 2 ^ 12, kod := e.getLsbD 56 }

/-- An entry packed (R215). -/
def vbPack (e : VbEntry) : BitVec 64 :=
  BitVec.ofNat 64 (e.tag % 2 ^ 24 + 2 ^ 24 * (e.last % 2 ^ 20) + 2 ^ 44 * (e.score % 2 ^ 12) + 2 ^ 56 * bit e.kod)

/-- The entry of a number; an unlisted one is empty (R214). -/
def vbEntry (s : State) (i : Nat) : BitVec 64 := (tableGet s.ans.book i).getD 0

/-- An entry written; an empty one is not listed. -/
def vbPut (i : Nat) (e : BitVec 64) (s : State) : State :=
  { s with ans := { s.ans with book := if e = 0 then tableErase s.ans.book i else tableSet s.ans.book i e } }

/-- V6_PREFIX within its limits (R214). -/
def vbPrefix (s : State) : Nat := min 128 (max 32 (s.get ANS_VB_CFG.V6_PREFIX))

/-- An address with every bit beyond its first `n` bits cleared, as ⌈n / 8⌉ bytes (R214). -/
def keepBits (n : Nat) (bs : List Byte) : List Byte :=
  (List.range ((n + 7) / 8)).map fun i =>
    let k := min 8 (n - 8 * i)
    bs.getD i 0 &&& BitVec.ofNat 8 (256 - 2 ^ (8 - k))

/-- The bytes that the hash runs over: a family byte and the client key (R214). -/
def vbKey (s : State) (v6 : Bool) (addr : List Byte) : List Byte :=
  if v6 then 6 :: keepBits (vbPrefix s) addr else 4 :: addr.take 4

/-- The hash of a client (R214). -/
def vbHash (s : State) (v6 : Bool) (addr : List Byte) : Nat := (sipHash s.ans.key (vbKey s v6 addr)).toNat

/-- The bucket of a hash. -/
def vbBucket (h : Nat) : Nat := h % 2 ^ 20

/-- The tag of a hash; 0 is replaced by 1 (R214). -/
def vbTag (h : Nat) : Nat := max 1 (h / 2 ^ 20 % 2 ^ 24)

/-- The way of a bucket that satisfies a test, lowest first. -/
def vbWay (s : State) (b : Nat) (t : VbEntry → Bool) : Option Nat :=
  (List.range 4).find? fun w => t (vbUnpack (vbEntry s (4 * b + w)))

/-- Device time in 1/16 s modulo 2^20 (R215). -/
def vbNow (t : Int) : Nat := (t * 16 / secUnit % 2 ^ 20).toNat

/-- RATE and BURST, 0 treated as 1. -/
def vbRate (s : State) : Nat := max 1 (s.get ANS_VB_CFG.RATE)

@[inherit_doc vbRate]
def vbBurst (s : State) : Nat := max 1 (s.get ANS_VB_CFG.BURST)

/-- A score decayed to `now` (R216). -/
def vbDecayed (s : State) (now : Nat) (e : VbEntry) : Nat :=
  e.score - vbRate s * ((now + 2 ^ 20 - e.last) % 2 ^ 20) / 16

/-- The full bucket's way to take: the lowest decayed score, the lowest way on a tie (R214). -/
def vbVictim (s : State) (b now : Nat) : Nat :=
  (List.range 4).foldl (fun best w =>
    if vbDecayed s now (vbUnpack (vbEntry s (4 * b + w))) < vbDecayed s now (vbUnpack (vbEntry s (4 * b + best))) then w
    else best) 0

/-- The place of a client's entry, the entry, and the state with a miss or an eviction counted (R214). -/
def vbFind (v6 : Bool) (addr : List Byte) (now : Nat) (s : State) : Nat × VbEntry × State :=
  let h := vbHash s v6 addr
  let b := vbBucket h
  let fresh : VbEntry := { tag := vbTag h, last := now, score := 0, kod := false }
  match vbWay s b (fun e => e.tag == vbTag h) with
  | some w => (4 * b + w, vbUnpack (vbEntry s (4 * b + w)), s)
  | none =>
    let s' := s.count ANS_VB_MISSES.COUNT 1
    match vbWay s b (fun e => e.tag == 0) with
    | some w => (4 * b + w, fresh, s')
    | none => (4 * b + vbVictim s b now, fresh, s'.count ANS_VB_EVICTS.COUNT 1)

/-- What the book says of an admitted request (R216): admitted, answered with a kiss-o'-death, or dropped. -/
inductive VbVerdict where
  | pass | kiss | limited
deriving DecidableEq, Repr

/-- The update of an entry (R216). -/
def vbUpdate (v6 nts : Bool) (addr : List Byte) (now : Nat) (s : State) : VbVerdict × State :=
  let p := vbFind v6 addr now s
  let s := p.2.2
  let e := p.2.1
  let d := vbDecayed s now e
  let sent := if d ≤ vbBurst s * 8 then false else e.kod
  let score := min (d + 16) 4095
  let past := decide (vbBurst s * 16 < score)
  let kiss := past && s.flag ANS_GLB_CFG.KOD_EN && !sent && !nts
  let s := vbPut p.1 (vbPack { tag := e.tag, last := now, score := score, kod := sent || kiss }) s
  (if !past then .pass else if kiss then .kiss else .limited, s)

/-- Whether the book is in use: enabled, and no clear runs (R216, R218). -/
def vbActive (s : State) : Bool := s.flag ANS_GLB_CFG.VB_EN && !s.flag ANS_GLB_STATUS.VB_BUSY

/-- VB_SWEEP (R217): every entry whose LAST lies 32,768 s or more in the past is emptied. -/
def vbSweep (at_ : Nat) (s : State) : State :=
  let now := vbNow (s.timeAt at_)
  let young := fun (e : Nat × BitVec 64) => decide ((now + 2 ^ 20 - (vbUnpack e.2).last) % 2 ^ 20 < 2 ^ 19)
  { s with ans := { s.ans with book := s.ans.book.filter young } }

/-- VB_SWEEP. -/
def execVbSweep (at_ : Nat) (s : State) : Host.Outcome State Fault Refusal := .next (s.onlyIf (s.live .ans) (vbSweep at_))

/-- The book emptied and a new hash key drawn (R218). -/
def vbRenew (s : State) : State := { s with ans := { s.ans with book := [], key := s.freeBytes 16 }, free := s.free + 1 }

/-- A write of CLEAR (R218). -/
def vbClear (s : State) : State := (vbRenew s).put ANS_GLB_STATUS.VB_BUSY 1

/-- VB_CLEAR. -/
def execVbClear (s : State) : Host.Outcome State Fault Refusal :=
  .next (s.hostDo .ans none [] vbClear)

/-! ### Host access (R393) -/

/-- The result of a command posted: bucket, way, whether it hit, and the entry. -/
def vbResult (b w : Nat) (hit : Bool) (e : BitVec 64) (s : State) : State :=
  let s := (s.put HIF_VB_RES.BUCKET b).put HIF_VB_RES.WAY w
  ((s.putB HIF_VB_RES.HIT hit).put HIF_VB_RES.BUSY 0).put64 HIF_VB_ENTRY.ofs e.toNat

/-- The address in HIF_VB_KEY_W. -/
def vbHostKey (s : State) : List Byte :=
  ((List.range 4).map fun w => leBytes 4 (s.reg (HIF_VB_KEY_W.ofs w)).toNat).flatten

/-- The command that HIF_VB_CMD holds, carried out (R393). The way of a lookup that misses is a free value. -/
def vbServe (s : State) : State :=
  if s.flag HIF_VB_CMD.OP then
    let h := vbHash s (s.flag HIF_VB_CMD.V6) (vbHostKey s)
    let b := vbBucket h
    match vbWay s b (fun e => e.tag == vbTag h) with
    | some w => vbResult b w true (vbEntry s (4 * b + w)) s
    | none => (vbResult b (s.freeVal % 4) false 0 s).freeNext
  else
    let i := s.get HIF_VB_CMD.INDEX
    vbResult (i / 4) (i % 4) true (vbEntry s i) s

/-- A command started (R393): it waits while the book is being cleared, and GO is ignored while one runs. -/
def vbCommand (op v6 : Bool) (i : Nat) (s : State) : State :=
  let busy := s.flag HIF_VB_RES.BUSY
  let s := ((s.put HIF_VB_CMD.INDEX i).putB HIF_VB_CMD.V6 v6).putB HIF_VB_CMD.OP op
  if busy then s
  else if s.flag ANS_GLB_STATUS.VB_BUSY then s.put HIF_VB_RES.BUSY 1
  else vbServe s

/-- VB_READ_INDEX. -/
def execVbReadIndex (i : BitVec 22) (s : State) : Host.Outcome State Fault Refusal :=
  .next (s.hostDo .hif none [] (vbCommand false (s.flag HIF_VB_CMD.V6) i.toNat))

/-- VB_LOOKUP: the address is in HIF_VB_KEY_W. -/
def execVbLookup (v6 : Bool) (s : State) : Host.Outcome State Fault Refusal :=
  .next (s.hostDo .hif none [] (vbCommand true v6 (s.get HIF_VB_CMD.INDEX)))

/-- VB_CLEAR_DONE (R218): VB_BUSY clears and a waiting command is served (R393). -/
def execVbClearDone (s : State) : Host.Outcome State Fault Refusal :=
  .next (s.onlyIf (s.flag ANS_GLB_STATUS.VB_BUSY) fun s =>
    let s := s.put ANS_GLB_STATUS.VB_BUSY 0
    s.onlyIf (s.flag HIF_VB_RES.BUSY) vbServe)

end Sys2Proof.Machine
end

