-- ==== Sys2Proof/Machine/Nts.lean ====
section
/-! DEFINITION. The requests in flight of the answer pipelines and the NTS offload (10_answer_pipelines.md R205, 11_nts.md):
cookies, the key store, the AES pool and the mint service. -/

namespace Sys2Proof.Machine

/-! ### Requests in flight (R198, R205) -/

/-- A pipeline's internal state. -/
def ansPipe (s : State) (p : Nat) : AnsPipe := s.ans.pipes.getD p AnsPipe.reset

/-- A pipeline's internal state changed. -/
def ansSet (p : Nat) (f : AnsPipe → AnsPipe) (s : State) : State :=
  { s with ans := { s.ans with pipes := s.ans.pipes.modify p f } }

/-- A pipeline flag with its interrupt (R379). -/
def ansFlag (p : Nat) (f : Fld) (s : State) : State := s.setFlag f (152 + p)

/-- INFLIGHT brought up to date (R198). -/
def ansCount (p : Nat) (s : State) : State := s.put (ANS_STATUS.INFLIGHT p) (ansPipe s p).reqs.length

/-- A request of a pipeline. -/
def ansReq (s : State) (p id : Nat) : Option AnsReq := (ansPipe s p).reqs.find? fun r => r.id == id

/-- A request changed. -/
def ansSetReq (p id : Nat) (f : AnsReq → AnsReq) (s : State) : State :=
  ansSet p (fun (x : AnsPipe) => { x with reqs := x.reqs.map fun (r : AnsReq) => if r.id = id then f r else r }) s

/-- A request that leaves the pipeline. -/
def ansRemove (p id : Nat) (s : State) : State :=
  ansCount p (ansSet p (fun (x : AnsPipe) => { x with reqs := x.reqs.filter fun (r : AnsReq) => decide (r.id ≠ id) }) s)

/-- Whether the answer header is unverified (R208). -/
def ansUnverified (s : State) : Bool := !s.flag TB_STATUS.VERIFIED || s.flag TB_STATUS.PIVOT_FAULT

/-! ### The provenance field (R210, R211) -/

/-- The latest record issued: its serial and the first 16 bytes of its hash, zeros without one (R211). -/
def provLatest (s : State) : Nat × List Byte :=
  let serial := s.get64 PROV_LAST_SERIAL.ofs
  (serial, if serial = 0 then List.replicate 16 0
    else ((List.range 4).map fun w => leBytes 4 (s.reg (PROV_LAST_HASH.ofs w)).toNat).flatten)

/-- The latest record that an answer or an Announce sees: not yet one whose pivot instant of issue meets a test (R211, R291). -/
def provAsOf (s : State) (unseen : Nat → Bool) : Nat × List Byte :=
  match s.prov.issued with
  | some (p, before) => if unseen p then before else provLatest s
  | none => provLatest s

/-- FLAGS of a provenance field. -/
def provFlags (v : Nat × List Byte) (unver : Bool) : List Byte := beBytes 2 (bit unver + 2 * bit (v.1 == 0))

/-- SERIAL and HASH of a provenance field (R211). -/
def provRecord (v : Nat × List Byte) : List Byte := beBytes 8 v.1 ++ v.2

/-- The provenance field of an answer (R211). -/
def provField (s : State) (v : Nat × List Byte) (unver : Bool) : List Byte :=
  beBytes 2 (s.get ANS_PROV.PROV_EF_TYPE) ++ [0, 32] ++ provRecord v ++ provFlags v unver ++ [0, 0]

/-- Whether a request asks for the provenance field and gets it (R210). -/
def provWanted (s : State) (f : Parsed) : Bool :=
  s.flag ANS_PROV.PROV_EN &&
  (match f.fields with
   | some fs => f.vn == 4 && fs.any fun e => e.1 == s.get ANS_PROV.PROV_EF_TYPE && e.2.length == 32
   | none => false)

/-! ### Requests (R221, R222) -/

/-- What an NTS request holds (R221): the Unique Identifier field, the cookie, the number of placeholders, the authenticator's
nonce and ciphertext, and the length of its associated data. -/
structure NtsParts where
  uid : List Byte
  cookie : List Byte
  holders : Nat
  nonce : List Byte
  cipher : List Byte
  adLen : Nat
deriving DecidableEq, Repr

/-- A length rounded up to a multiple of 4. -/
def pad4 (n : Nat) : Nat := (n + 3) / 4 * 4

/-- The bodies of the fields of a type. -/
def fieldBodies (fs : List (Nat × List Byte)) (t : Nat) : List (List Byte) :=
  (fs.filter fun e => e.1 == t).map fun e => e.2.drop 4

/-- A well-formed NTS request taken apart (R221); none for a malformed one. -/
def ntsParse (s : State) (f : Parsed) : Option NtsParts :=
  match f.fields with
  | none => none
  | some fs =>
    match fs.getLast?, fieldBodies fs 0x0104, fieldBodies fs 0x0204, fieldBodies fs 0x0404 with
    | some last, [uid], [cookie], [auth] =>
      let holders := fieldBodies fs 0x0304
      let nl := beAt auth 0 2
      let cl := beAt auth 2 2
      if last.1 = 0x0404 ∧ 32 ≤ uid.length ∧ holders.all (fun h => h.length == 100) ∧ 16 ≤ nl ∧ 16 ≤ cl ∧
          4 + pad4 nl + pad4 cl ≤ auth.length ∧ (fieldBodies fs (s.get ANS_PROV.PROV_EF_TYPE)).length ≤ 1 ∧
          f.payload.length ≤ 1472 then
        some { uid := beBytes 2 0x0104 ++ beBytes 2 (uid.length + 4) ++ uid, cookie := cookie, holders := holders.length,
               nonce := (auth.drop 4).take nl, cipher := (auth.drop (4 + pad4 nl)).take cl,
               adLen := f.payload.length - last.2.length }
      else none
    | _, _, _, _ => none

/-- N, the number of cookies that the answer returns (R222). -/
def NtsParts.cookies (q : NtsParts) : Nat := 1 + min q.holders 7

/-- The phase-1 busy time c1 in core cycles (R236). -/
def NtsParts.phase1 (q : NtsParts) : Nat := 16 + (q.adLen + 15) / 16 + 28 * q.cookies

/-! ### The units' generators (R234) -/

/-- The generator of a unit. -/
def ntsDrbg (s : State) (u : Nat) : Drbg := s.ans.pool.getD u Drbg.reset

/-- The generator of a unit changed. -/
def ntsSetDrbg (u : Nat) (d : Drbg) (s : State) : State := { s with ans := { s.ans with pool := s.ans.pool.set u d } }

/-- A generator reseeded from the device DRBG, whose 48 bytes are a free value (R234). -/
def ntsReseed (u : Nat) (s : State) : State :=
  let d := ntsDrbg s u
  let r := drbgUpdate d.key d.v (s.freeBytes 48)
  ntsSetDrbg u { key := r.1, v := r.2, used := 0 } s.freeNext

/-- A unit begins a request or a mint job: after every 2^20 of them it is reseeded (R234). -/
def ntsBegin (u : Nat) (s : State) : State :=
  let s := s.onlyIf (decide (2 ^ 20 ≤ (ntsDrbg s u).used)) (ntsReseed u)
  let d := ntsDrbg s u
  ntsSetDrbg u { d with used := d.used + 1 } s

/-- The next `n` bytes of a unit's generator. -/
def ntsRandom (s : State) (u n : Nat) : List Byte := let d := ntsDrbg s u; (drbgGenerate d.key d.v n).1

/-- A unit's generator after it has given `n` bytes. -/
def ntsRandomDone (u n : Nat) (s : State) : State :=
  let d := ntsDrbg s u
  let r := (drbgGenerate d.key d.v n).2
  ntsSetDrbg u { d with key := r.1, v := r.2 } s

/-! ### Cookies (R223) -/

/-- The key of a generation that the store holds (R224). -/
def ntsHeld (s : State) (gen : Nat) : Option NtsKey :=
  ([s.nts.cur, s.nts.old1, s.nts.old2].filterMap id).find? fun k => k.gen == gen

/-- A cookie sealed under a master key (R223). -/
def ntsSeal (k : NtsKey) (nonce c2s s2c : List Byte) : List Byte :=
  let id := beBytes 4 k.gen
  let p := sivSeal k.key [id, nonce] ([0, 0x0F, 0, 0] ++ c2s ++ s2c)
  id ++ nonce ++ p.1 ++ p.2

/-- The C2S and S2C keys of a cookie opened under its master key; none when it is not valid (R223). -/
def ntsOpen (k : NtsKey) (cookie : List Byte) : Option (List Byte × List Byte) :=
  if cookie.length ≠ 100 then none
  else
    match sivOpen k.key [cookie.take 4, (cookie.drop 4).take 12] ((cookie.drop 16).take 16) (cookie.drop 32) with
    | some p => if p.take 4 = [0, 0x0F, 0, 0] then some ((p.drop 4).take 32, p.drop 36) else none
    | none => none

/-- `n` cookies sealed under CUR by a unit, each with the next nonce of its generator (R234). -/
def ntsSealMany (u : Nat) (k : NtsKey) (c2s s2c : List Byte) : Nat → State → List (List Byte) × State
  | 0, s => ([], s)
  | n + 1, s =>
    let r := ntsSealMany u k c2s s2c n (ntsRandomDone u 12 s)
    (ntsSeal k (ntsRandom s u 12) c2s s2c :: r.1, r.2)

/-! ### The AES pool (R235) -/

/-- The pipelines, in order. -/
def ansAll : List Nat := List.range 4

/-- The units, in order. -/
def ntsUnits : List Nat := List.range 16

/-- Whether a unit can serve: in use, not faulted, not under test (R235, R237). -/
def ntsUsable (s : State) (u : Nat) : Bool :=
  (s.get NTS_UNIT_CFG.EN).testBit u && !(s.get NTS_UNIT_STATUS.FAULT).testBit u &&
  !(s.get NTS_UNIT_STATUS.TESTING).testBit u

/-- The pipeline that the map gives a unit (R235). -/
def ntsMapOf (s : State) (u : Nat) : Nat := fieldOf (s.reg NTS_UNIT_MAP.ofs) (2 * u) 2

/-- The pipelines whose work a unit holds. -/
def ntsHolds (s : State) (u : Nat) : List Nat := ansAll.filter fun p => (ansPipe s p).reqs.any fun r => r.unit == some u

/-- Whether a unit is lent to a pipeline: by the work it holds, else by the map (R235). -/
def ntsLent (s : State) (p u : Nat) : Bool :=
  ntsUsable s u && (match ntsHolds s u with | [] => ntsMapOf s u == p | ps => ps.contains p)

/-- Whether a pipeline has any unit (R231). -/
def ntsAnyUnit (s : State) (p : Nat) : Bool := ntsUnits.any fun u => ntsLent s p u

/-- STATUS of a mint job (R230). -/
def mintStatus (s : State) (d : List Byte) : Nat :=
  if !s.flag NTS_CFG.EN || !s.flag NTS_UNIT_CFG.MINT_EN then 4
  else if leNat (d.take 2) ≠ 15 then 1
  else if leNat ((d.drop 2).take 1) = 0 ∨ 8 < leNat ((d.drop 2).take 1) then 2
  else if s.nts.cur.isNone then 3
  else 0

/-- Whether a unit has mint cookies to seal, which go ahead of a waiting phase 1 (R235). -/
def mintWaits (s : State) (u : Nat) : Bool :=
  u == s.get NTS_UNIT_CFG.MINT_UNIT && (match hifDescriptor s 29 with | some d => mintStatus s d == 0 | none => false)

/-- Whether a unit is free to begin phase 1 for a pipeline: no phase 1 runs on it, no mint job waits for it, and the map lends it
(R235, R236). -/
def ntsFree (s : State) (p u : Nat) : Bool :=
  ntsLent s p u && ntsMapOf s u == p && !mintWaits s u && !((ansPipe s p).reqs.any fun r => r.unit == some u && r.work == .running)

/-- The oldest NTS request of a pipeline that waits for a unit. -/
def ntsWaiting (s : State) (p : Nat) : Option AnsReq :=
  (ansPipe s p).reqs.find? fun r => r.nts && !r.kod && r.unit.isNone && r.work == .waiting

/-- Waiting requests of a pipeline given to its free units, the oldest to the lowest (R231; assumption 17). -/
def ntsAssign (p : Nat) (s : State) : State :=
  ntsUnits.foldl (fun s u =>
    match ntsWaiting s p with
    | some r => s.onlyIf (ntsFree s p u) fun s =>
        ntsBegin u (ansSetReq p r.id (fun (x : AnsReq) => { x with unit := some u, work := .running }) s)
    | none => s) s

/-- Waiting requests of every pipeline given to free units: what follows each change of the pool (R235). -/
def ntsServe (s : State) : State := ansAll.foldl (fun s p => ntsAssign p s) s

/-- The digest of a request that is dropped before its outcome went out in one (R323). -/
def pairDropped (r : AnsReq) (outcome : Nat) (s : State) : State :=
  s.onlyIf r.td.isNone (pairDigest r.bytes outcome [])

/-- A request dropped (R205): its reservation is left unfilled and its unit released. -/
def ansDrop (p : Nat) (r : AnsReq) (s : State) : State :=
  ntsServe (depCancel r.port (.ans p r.id) (ansRemove p r.id s))

/-! ### Phase 1 (R231) -/

/-- How phase 1 of a request ends (R231): a NAK under a counter, or the keys. -/
inductive Phase1 where
  | nak (counter : Nat → Fld)
  | keys (c2s s2c : List Byte)

/-- The cookie opened and the request verified (R231). -/
def ntsCheck (s : State) (f : Parsed) (q : NtsParts) : Phase1 :=
  match ntsHeld s (beNat (q.cookie.take 4)) with
  | none => .nak NTS_CNT_NAK.KEY
  | some k =>
    match ntsOpen k q.cookie with
    | none => .nak NTS_CNT_NAK.COOKIE
    | some (c2s, s2c) =>
      match sivOpen c2s [f.payload.take q.adLen, q.nonce] (q.cipher.take 16) (q.cipher.drop 16) with
      | some _ => .keys c2s s2c
      | none => .nak NTS_CNT_ERR.AUTH

/-- A field that carries a cookie. -/
def cookieField (c : List Byte) : List Byte := beBytes 2 0x0204 ++ beBytes 2 (c.length + 4) ++ c

/-- Phase 1 of a request completes (R231): new cookies sealed under CUR, or a NAK, or with NAK_EN = 0 a drop. -/
def ntsPhase1 (p : Nat) (r : AnsReq) (s : State) : State :=
  let f := parseFrame r.bytes
  match ntsParse s f with
  | none => ansDrop p r s
  | some q =>
    match ntsCheck s f q, s.nts.cur with
    | .keys c2s s2c, some k =>
      let m := ntsSealMany (r.unit.getD 0) k c2s s2c q.cookies s
      ntsServe (ansSetReq p r.id (fun (x : AnsReq) => { x with work := .ready s2c ((m.1.map cookieField).flatten) }) m.2)
    | .keys _ _, none => ansDrop p r s
    | .nak c, _ =>
      let s := s.count (c p) 1
      if s.flag NTS_CFG.NAK_EN then
        ntsServe (ansSetReq p r.id (fun (x : AnsReq) => { x with work := .nak, unit := none }) s)
      else pairDropped r 14 (ansDrop p r s)

/-- The request that a unit works on in phase 1, with its pipeline. -/
def ntsRunning (s : State) (u : Nat) : Option (Nat × AnsReq) :=
  ansAll.findSome? fun p =>
    ((ansPipe s p).reqs.find? fun r => r.unit == some u && r.work == .running).map fun r => (p, r)

/-- The oldest request of a unit that waits in phase 2, with its pipeline (R236). -/
def ntsSecond (s : State) (u : Nat) : Option (Nat × AnsReq) :=
  ansAll.findSome? fun p =>
    ((ansPipe s p).reqs.find? fun r => r.unit == some u && r.td.isSome).map fun r => (p, r)

/-- NTS_PHASE1: a unit completes phase 1; phase 2 has priority on the unit (R235). -/
def execNtsPhase1 (u : Fin 16) (s : State) : Host.Outcome State Fault Refusal :=
  .next (match ntsRunning s u, ntsSecond s u with | some (p, r), none => ntsPhase1 p r s | _, _ => s)

/-! ### Phase 2 (R231, R233) -/

/-- An NTS block flag of source 156 (R379). -/
def ntsFlag (f : Fld) (s : State) : State := s.setFlag f 156

/-- An NTS block flag of source 157 (R379). -/
def ntsFlagLow (f : Fld) (s : State) : State := s.setFlag f 157

/-- A drop under POOL_LATE (R231): counted, flagged, a departure deadline fault. -/
def ntsPoolLate (p : Nat) (r : AnsReq) (line : Int) (s : State) : State :=
  pairDropped r 12 <| ansDrop p r (ntsFlag NTS_FLAGS.POOL_LATE ((s.count (NTS_CNT_POOL.POOL_LATE p) 1).deadline 0 (line / 25)))

/-- A drop under NOUNIT (R231). -/
def ntsNoUnit (p : Nat) (r : AnsReq) (s : State) : State :=
  pairDropped r 10 (ansDrop p r (s.count (NTS_CNT_POOL.NOUNIT p) 1))

/-- The UDP payload of an authenticated answer (R233): what precedes the authenticator is its associated data. -/
def ntsAnswer (r : AnsReq) (uid s2c plain nonce : List Byte) : List Byte :=
  let ad := r.header ++ uid ++ r.prov
  let p := sivSeal s2c [ad, nonce] plain
  ad ++ beBytes 2 0x0404 ++ beBytes 2 (40 + plain.length) ++ beBytes 2 16 ++ beBytes 2 (16 + plain.length) ++ nonce ++
    p.1 ++ p.2

/-- A finished answer handed to the MAC (R184, R205); the request is no longer in flight. -/
def ansHandOver (p : Nat) (r : AnsReq) (payload : List Byte) (at_ : Nat) (s : State) : State :=
  let fr : EthFrame := { bytes := answerFrame s r.port r.bytes payload, cls := s.get (EP_CFG.DEP_TC r.port), ts := none,
                         gated := true, inst := none }
  depHandOver r.port (.ans p r.id) fr (lineOf (repTime s r.port at_)) (ntsServe (ansRemove p r.id s))

/-- Phase 2 of a request completes (R231): the answer is handed over, or 100 ns before t_d have passed. -/
def ntsPhase2 (p at_ : Nat) (r : AnsReq) (s : State) : State :=
  match r.td, r.work, ntsParse s (parseFrame r.bytes) with
  | some td, .ready s2c plain, some q =>
    if td < lineOf (repTime s r.port at_) + 100 * lineNs then ntsPoolLate p r (lineOf (repTime s r.port at_)) s
    else
      let u := r.unit.getD 0
      let nonce := ntsRandom s u 16
      let s := ((ntsRandomDone u 16 s).count (ANS_CNT_NTS.COUNT p) 1).count (NTS_CNT_COOKIES.COUNT p) q.cookies
      let s := s.onlyIf r.unver (State.count (ANS_CNT_UNVER.COUNT p) 1)
      ansHandOver p r (ntsAnswer r q.uid s2c plain nonce) at_ s
  | _, _, _ => s

/-- NTS_PHASE2: a unit completes phase 2. -/
def execNtsPhase2 (u : Fin 16) (at_ : Nat) (s : State) : Host.Outcome State Fault Refusal :=
  .next (match ntsSecond s u with | some (p, r) => ntsPhase2 p at_ r s | none => s)

/-! ### The key store (R224 to R228) -/

/-- The registers that show the store brought up to date (R224). -/
def ntsRefresh (s : State) : State :=
  let id := fun (k : Option NtsKey) => match k with | some k => k.gen | none => 0
  let s := ((s.put (NTS_KEYID.KEYID 0) (id s.nts.cur)).put (NTS_KEYID.KEYID 1) (id s.nts.old1)).put (NTS_KEYID.KEYID 2)
    (id s.nts.old2)
  s.put NTS_STATUS.GEN_VALID (bit s.nts.cur.isSome + 2 * bit s.nts.old1.isSome + 4 * bit s.nts.old2.isSome)

/-- The state of the store written (R226). -/
def ntsState (st : Nat) (s : State) : State := s.put NTS_STATUS.ROT_STATE st

/-- EMPTY or STEADY, as CUR is valid or not. -/
def ntsRest (s : State) : State := ntsState (if s.nts.cur.isSome then 3 else 0) s

/-- A new key drawn into staging with the next generation number, and a checkpoint requested (R226). -/
def ntsDraw (s : State) : State :=
  let gen := s.get NTS_GEN_NEXT.NEXT
  let s := { s with nts := { s.nts with staging := some { gen := gen, key := s.freeBytes 64 } }, free := s.free + 1,
                    con := { s.con with blockReq := true } }
  ntsState 2 (s.put NTS_GEN_NEXT.NEXT (if gen + 1 = 2 ^ 32 then 1 else gen + 1))

/-- Whether the unit draws generations of its own: a standby takes them from the active unit (R225). -/
def ntsOwnKeys (s : State) : Bool := s.get PAIR_STATUS.STATE != 3

/-- A first key drawn into an EMPTY store with EN = 1 (R226). -/
def ntsFirst (s : State) : State :=
  s.onlyIf (s.flag NTS_CFG.EN && s.get NTS_STATUS.ROT_STATE == 0 && ntsOwnKeys s) ntsDraw

/-- NTS_ENABLE (R226): EN = 1 with the store EMPTY. -/
def execNtsEnable (s : State) : Host.Outcome State Fault Refusal := .next (s.onlyIf (s.live .nts) ntsFirst)

/-- Rotation is due (R226): skipped while EN = 0 or ROT_EN = 0, ignored unless the store is STEADY. A standby does not rotate on
its own (R225). -/
def ntsDue (s : State) : State :=
  s.onlyIf (s.live .nts && s.flag NTS_CFG.EN && s.flag NTS_CFG.ROT_EN && s.get NTS_STATUS.ROT_STATE == 3 && ntsOwnKeys s) ntsDraw

/-- ROTATION_DUE. -/
def execRotationDue (s : State) : Host.Outcome State Fault Refusal := .next (ntsDue s)

/-- ROTATE. -/
def execRotate (s : State) : Host.Outcome State Fault Refusal :=
  .next (s.hostDo .nts none [] ntsDue)

/-- ROTATION_TIMEOUT (R226): no checkpoint has committed the staged key within 10 s. -/
def execRotationTimeout (s : State) : Host.Outcome State Fault Refusal :=
  .next (s.onlyIf (s.get NTS_STATUS.ROT_STATE == 2) fun s =>
    (ntsRest { s with nts := { s.nts with staging := none } }).setEvent NTS_FLAGS.ROT_FAIL 156)

/-- The generations shift once a checkpoint holding the staged key has committed (R226, R227). -/
def ntsRotated (s : State) : State :=
  match s.nts.staging with
  | some k =>
    let s := { s with nts := { s.nts with cur := some k, old1 := s.nts.cur, old2 := s.nts.old1, staging := none } }
    ntsFlagLow NTS_FLAGS.ROTATED (ntsRest (ntsRefresh s))
  | none => s

/-- A write of ZEROISE (R228): refused with CFG_BAD unless CONFIRM is 0xC3. -/
def ntsZeroise (confirm : Nat) (s : State) : State :=
  if confirm = 0xC3 then
    let s := { s with nts := { s.nts with cur := none, old1 := none, old2 := none, staging := none },
                      con := { s.con with blockReq := true } }
    ntsFlag NTS_FLAGS.ZEROISED (ntsRest (ntsRefresh s))
  else ntsFlagLow NTS_FLAGS.CFG_BAD s

/-- ZEROISE. -/
def execZeroise (confirm : Byte) (s : State) : Host.Outcome State Fault Refusal :=
  .next (s.hostDo .nts none [] (ntsZeroise confirm.toNat))

/-! ### Keys in a checkpoint (R225) -/

/-- The device's key-encryption key. -/
def ntsKek : List Byte := leBytes 64 Config.kek.toNat

/-- A master key wrapped for a checkpoint (R225): V and the ciphertext stand for its bytes (assumption 19). -/
def ntsWrap (k : NtsKey) : NtsKey := let p := sivSeal ntsKek [] k.key; { k with key := p.1 ++ p.2 }

/-- A wrapped master key of a checkpoint opened; none where V does not verify. -/
def ntsUnwrap (k : NtsKey) : Option NtsKey :=
  (sivOpen ntsKek [] (k.key.take 16) (k.key.drop 16)).map fun b => { k with key := b }

/-! ### Self-test of a unit (R237) -/

/-- Whether a unit is enabled and unfaulted (R237). -/
def ntsSound (s : State) (u : Nat) : Bool := (s.get NTS_UNIT_CFG.EN).testBit u && !(s.get NTS_UNIT_STATUS.FAULT).testBit u

/-- Whether a unit is the last enabled, unfaulted unit of its pipeline, or the mint unit (R237). -/
def ntsNeeded (s : State) (u : Nat) : Bool :=
  u == s.get NTS_UNIT_CFG.MINT_UNIT ||
  (ntsSound s u && !(ntsUnits.any fun v => v != u && ntsMapOf s v == ntsMapOf s u && ntsSound s v))

/-- A write of SELFTEST (R237): refused with BUSY_IN_SERVICE on a unit that is needed, unless FORCE. -/
def ntsSelftest (u : Nat) (force : Bool) (s : State) : State :=
  if ntsNeeded s u && !force then ntsFlagLow NTS_FLAGS.BUSY_IN_SERVICE s
  else (s.onlyIf (ntsNeeded s u) (ntsFlagLow NTS_FLAGS.FORCED_OUT)).put ⟨NTS_UNIT_STATUS.ofs, 16 + u, 1⟩ 1

/-- NTS_SELFTEST. -/
def execNtsSelftest (u : Fin 16) (force : Bool) (s : State) : Host.Outcome State Fault Refusal :=
  .next (s.hostDo .nts none [] (ntsSelftest u force))

/-- The self-test of a unit ends: a unit that fails is marked and never used; READY follows the last start-up test (R237). -/
def ntsTested (u : Nat) (ok : Bool) (s : State) : State :=
  let s := s.put ⟨NTS_UNIT_STATUS.ofs, 16 + u, 1⟩ 0
  let s := s.onlyIf (!ok) fun s => ntsFlag NTS_FLAGS.UNIT_FAULT (s.put ⟨NTS_UNIT_STATUS.ofs, u, 1⟩ 1)
  let s := s.onlyIf (s.get NTS_UNIT_STATUS.TESTING == 0) (State.put NTS_STATUS.READY 1)
  ntsServe s

/-- NTS_SELFTEST_DONE (R237). -/
def execNtsSelftestDone (u : Fin 16) (ok : Bool) (s : State) : Host.Outcome State Fault Refusal :=
  .next (s.onlyIf ((s.get NTS_UNIT_STATUS.TESTING).testBit u) (ntsTested u ok))

/-! ### The mint service (R229, R230) -/

/-- The completion record of a mint job (R230). -/
def mintRecord (d : List Byte) (status count gen : Nat) : List Byte :=
  (d.drop 4).take 4 ++ leBytes 1 status ++ leBytes 1 count ++ [0, 0] ++ leBytes 4 gen ++ [0, 0, 0, 0]

/-- A mint job run (R230): COUNT cookies sealed under CUR and written at DEST, or a status. -/
def mintJob (d : List Byte) (s : State) : State :=
  let st := mintStatus s d
  match st, s.nts.cur with
  | 0, some k =>
    let n := leNat ((d.drop 2).take 1)
    let u := s.get NTS_UNIT_CFG.MINT_UNIT
    let m := ntsSealMany u k ((d.drop 8).take 32) ((d.drop 40).take 32) n (ntsBegin u s)
    let s := (hifWrite (leNat ((d.drop 72).take 8)) m.1.flatten m.2).count NTS_MINT_CNT.COUNT n
    { s with nts := { s.nts with done := s.nts.done ++ [mintRecord d 0 n k.gen] } }
  | _, _ =>
    let s := ntsFlagLow NTS_FLAGS.MINT_ERR (s.count NTS_MINT_ERR.COUNT 1)
    { s with nts := { s.nts with done := s.nts.done ++ [mintRecord d st 0 0] } }

/-- Whether the mint unit can seal: it can serve, and neither runs a phase 1 nor has a phase 2 before it (R235). -/
def mintReady (s : State) : Bool :=
  let u := s.get NTS_UNIT_CFG.MINT_UNIT
  ntsUsable s u && (ntsRunning s u).isNone && (ntsSecond s u).isNone

/-- MINT_JOB (R230): the oldest fetched descriptor is consumed and run; jobs wait while the mint unit is out or at other work. -/
def execMintJob (s : State) : Host.Outcome State Fault Refusal :=
  .next (match hifDescriptor s 29 with
    | some d => if mintStatus s d = 0 && !mintReady s then s else ntsServe (mintJob d (hifConsume 29 s))
    | none => s)

/-- MINT_COMPLETION (R230): the oldest record goes to the mint completion ring. -/
def execMintCompletion (s : State) : Host.Outcome State Fault Refusal :=
  .next (match s.nts.done with
    | r :: rest => hifComplete 11 r { s with nts := { s.nts with done := rest } }
    | [] => s)

end Sys2Proof.Machine
end

