-- ==== Sys2Proof/Machine/Answer.lean ====
section
/-! DEFINITION. The answer pipelines (10_answer_pipelines.md): classification, admission, the departure instant, the NTP answer,
and the configuration of the pipelines. -/

namespace Sys2Proof.Machine

/-! ### Rule banks and local addresses (R200 to R204) -/

/-- The rules that the rule registers, which show the shadow bank, hold (R202). -/
def ansShadow (s : State) (p : Nat) : List RuleWords :=
  (List.range 64).map fun r =>
    { k0 := s.reg (ANS_RULE_K0.ofs p r), k1 := s.reg (ANS_RULE_K1.ofs p r), k2 := s.reg (ANS_RULE_K2.ofs p r),
      act := s.reg (ANS_RULE_ACT.ofs p r) }

/-- One rule written to the shadow bank. -/
def ansPutRule (p r : Nat) (w : RuleWords) (s : State) : State :=
  ((((s.setReg (ANS_RULE_K0.ofs p r) w.k0).setReg (ANS_RULE_K1.ofs p r) w.k1).setReg (ANS_RULE_K2.ofs p r) w.k2)).setReg
    (ANS_RULE_ACT.ofs p r) w.act

/-- A whole bank written to the shadow bank. -/
def ansPutShadow (p : Nat) : Nat → List RuleWords → State → State
  | _, [], s => s
  | r, w :: ws, s => ansPutShadow p (r + 1) ws (ansPutRule p r w s)

/-- The address entry that the registers of a local address hold (R203). -/
def ansStagedAddr (s : State) (p a : Nat) : Option (Bool × List Byte) :=
  if s.flag (ANS_ADDR_CFG.VALID p a) then
    let v6 := s.flag (ANS_ADDR_CFG.V6 p a)
    some (v6, ((List.range (if v6 then 4 else 1)).map fun w => leBytes 4 (s.reg (ANS_ADDR_W.ofs p a w)).toNat).flatten)
  else none

/-- ADDRESS_COMMIT (R203): a write of ANS_ADDR_CFG commits the whole entry. -/
def ansAddrCommit (p a : Nat) (v : Word) (s : State) : State :=
  let s := (s.putB (ANS_ADDR_CFG.VALID p a) (v.getLsbD 0)).putB (ANS_ADDR_CFG.V6 p a) (v.getLsbD 1)
  let e := ansStagedAddr s p a
  ansSet p (fun (x : AnsPipe) => { x with addrs := x.addrs.set a e }) s

/-- ADDRESS_COMMIT. -/
def execAddressCommit (p : Fin 4) (a : Fin 16) (v : Word) (s : State) : Host.Outcome State Fault Refusal :=
  .next (s.hostDo .ans (some (9, p)) [ANS_ADDR_CFG.ofs p a] (ansAddrCommit p a v))

/-- The banks and the address table of a pipeline taken from its registers, as an image load leaves them (R202). -/
def ansLoad (p : Nat) (s : State) : State :=
  let rules := ansShadow s p
  let addrs := (List.range 16).map fun a => ansStagedAddr s p a
  ansSet p (fun (x : AnsPipe) => { x with active := rules, badHit := [], swap := false, addrs := addrs }) s

/-- A write of COMMIT (R202): ignored with CFG_BAD during a copy. -/
def ansCommit (p : Nat) (s : State) : State :=
  if s.flag (ANS_STATUS.COMMIT_BUSY p) then ansFlag p (ANS_FLAGS.CFG_BAD p) s
  else ansSet p (fun (x : AnsPipe) => { x with swap := true }) s

/-- RULE_COMMIT. -/
def execRuleCommit (p : Fin 4) (s : State) : Host.Outcome State Fault Refusal :=
  .next (s.hostDo .ans (some (9, p)) [] (ansCommit p))

/-- BANK_SWAP (R202): at a frame boundary the banks exchange roles and the copy begins. -/
def ansSwap (p : Nat) (s : State) : State :=
  let x := ansPipe s p
  if x.swap then
    let rules := ansShadow s p
    let s := ansPutShadow p 0 (x.active.take 64) (ansSet p (fun (x : AnsPipe) => { x with active := rules, badHit := [], swap := false }) s)
    (s.put (ANS_STATUS.BANK p) (1 - s.get (ANS_STATUS.BANK p))).put (ANS_STATUS.COMMIT_BUSY p) 1
  else s

/-- BANK_SWAP. -/
def execBankSwap (p : Fin 4) (s : State) : Host.Outcome State Fault Refusal := .next (ansSwap p s)

/-- BANK_COPY_DONE (R202): the shadow bank equals the active bank. -/
def ansCopied (p : Nat) (s : State) : State :=
  if s.flag (ANS_STATUS.COMMIT_BUSY p) then
    ansFlag p (ANS_FLAGS.COMMIT_DONE p) ((ansPutShadow p 0 ((ansPipe s p).active.take 64) s).put (ANS_STATUS.COMMIT_BUSY p) 0)
  else s

/-- BANK_COPY_DONE. -/
def execBankCopyDone (p : Fin 4) (s : State) : Host.Outcome State Fault Refusal := .next (ansCopied p s)

/-- A host write of a rule register (R202): ignored with CFG_BAD during a copy. -/
def ansRuleWrite (p ofs : Nat) (v : Word) (s : State) : State :=
  if s.flag (ANS_STATUS.COMMIT_BUSY p) then ansFlag p (ANS_FLAGS.CFG_BAD p) s else s.setReg ofs v

/-! ### PTP instances (R240) -/

/-- An instance's internal state. -/
def ptpInst (s : State) (i : Nat) : PtpInst := s.ptp.insts.getD i PtpInst.reset

/-- The port an instance is bound to (R240). -/
def ptpPort (s : State) (i : Nat) : Nat := s.get (PTP_INST_BIND.PORT i)

/-- Whether an instance runs. -/
def ptpOn (s : State) (i : Nat) : Bool :=
  s.live .ptp && s.flag PTP_CFG.EN && s.flag (PTP_INST_CFG.EN i) && s.flag (PTP_INST_BIND.VALID i)

/-! ### Classification (R200, R201) -/

/-- The local address entries that equal the destination of an IP frame, as bits (R200). -/
def ansLocal (s : State) (p : Nat) (f : Parsed) (bs : List Byte) : Nat :=
  (List.range 16).foldl (fun m a =>
    if (f.l3 = 1 ∨ f.l3 = 2) ∧ (ansPipe s p).addrs.getD a none = some (f.l3 == 2, f.dstIp bs) then m ||| 2 ^ a else m) 0

/-- Whether a rule matches a frame that came in on the pipeline's port `side` (R200). -/
def RuleWords.hits (w : RuleWords) (side loc : Nat) (f : Parsed) (bs : List Byte) : Bool :=
  let l3 := fieldOf w.k0 1 2
  let ports := fieldOf w.k0 4 2
  let addr := fieldOf w.k0 6 16
  let mask := fieldOf w.k1 16 16
  let value := fieldOf w.k1 0 16
  let x := if f.udp then some (beAt bs (f.l4 + 2) 2) else if f.l3 = 3 then some (f.etherType bs) else none
  let ncs := fieldOf w.k2 12 4
  w.k0.getLsbD 0 && (l3 == 0 || l3 == f.l3) && (!w.k0.getLsbD 3 || f.udp) && (ports == 0 || ports.testBit side) &&
  (addr == 0 || addr &&& loc != 0) &&
  (match x with | some x => x &&& mask == value &&& mask | none => mask == 0) &&
  (let m := fieldOf w.k2 3 3; m == 0 || (f.ntp && f.vn &&& m == fieldOf w.k2 0 3 &&& m)) &&
  (let m := fieldOf w.k2 9 3; m == 0 || (f.ntp && f.mode &&& m == fieldOf w.k2 6 3 &&& m)) &&
  (ncs == 0 || ncs == 15 || (f.ntp && ncs.testBit f.nc))

/-- The number of the first of the 64 rules that matches (R200, R202). -/
def ansMatch (rules : List RuleWords) (side loc : Nat) (f : Parsed) (bs : List Byte) : Option Nat :=
  (List.range 64).find? fun r =>
    match rules[r]? with | some w => w.hits side loc f bs | none => false

/-- A received frame: its port, its ingress stamp in 2^-60 ns, and the flags of R182. -/
structure RxFrame where
  port : Nat
  bytes : List Byte
  stamp : Int
  unlocked : Bool
  freeMeas : Bool
deriving DecidableEq, Repr

/-- The receive element of a frame (R386). -/
def rxElement (x : RxFrame) (rule pipe : Nat) : List Byte :=
  let head := leBytes 2 x.bytes.length ++ [BitVec.ofNat 8 x.port, BitVec.ofNat 8 (bit x.unlocked + 2 * bit x.freeMeas),
    BitVec.ofNat 8 rule, BitVec.ofNat 8 pipe, 0, 0] ++ leBytes 8 (secOf x.stamp) ++ leBytes 4 (nsOf x.stamp) ++
    leBytes 4 (fracOf x.stamp) ++ List.replicate 8 0
  head ++ x.bytes ++ List.replicate (2016 - x.bytes.length) 0

/-- A frame sent to a host queue (R201, R384, R386). -/
def ansToHost (p queue rule : Nat) (x : RxFrame) (s : State) : State :=
  let s := s.count (ANS_CNT_HOST.COUNT p) 1
  let q := 12 + queue % 8
  if 2016 < x.bytes.length then hifDrop q s else hifPushOrDrop q (rxElement x rule p) s

/-- CFG_BAD of the first hit of a rule with a reserved action (R201); 64 stands for the default action. -/
def ansReserved (p rule : Nat) (s : State) : State :=
  if (ansPipe s p).badHit.contains rule then s
  else ansFlag p (ANS_FLAGS.CFG_BAD p) (ansSet p (fun (x : AnsPipe) => { x with badHit := rule :: x.badHit }) s)

/-! ### Admission (R205, R212) -/

/-- Whether an ANSWER action can act on a request (R201). -/
def ansAnswerable (s : State) (p : Nat) (nts : Bool) (f : Parsed) (bs : List Byte) : Bool :=
  f.udp && ansLocal s p f bs != 0 && f.ntp && f.mode == 3 && decide (1 ≤ f.vn) && decide (f.vn ≤ 4) &&
  (if nts then f.nc == 2 else f.nc ≤ 2)

/-- The length of the answer's UDP payload (R212, R222): a kiss-o'-death is a header alone. -/
def ansPayLen (s : State) (nts kod : Bool) (f : Parsed) : Nat :=
  let prov := if provWanted s f then 32 else 0
  if kod then 48
  else if nts then
    match ntsParse s f with
    | some q => 48 + q.uid.length + prov + 40 + 104 * q.cookies
    | none => 48
  else 48 + prov

/-- The processing floor between t_end and T3, in 1/100 ns (R212). -/
def ansFloor (s : State) (nts : Bool) (f : Parsed) : Nat :=
  if nts then
    match ntsParse s f with
    | some q => max 80000 (48000 + 125 * q.phase1)
    | none => 80000
  else 50000

/-- target, the earliest wanted T3, in line time (R212). -/
def ansTarget (s : State) (p : Nat) (nts kod : Bool) (x : RxFrame) (f : Parsed) : Int :=
  let delay := if nts && !kod then s.get (ANS_DELAY.DELAY_NTS p) else s.get (ANS_DELAY.DELAY_NTP p)
  let tEnd := lineOf (x.stamp + portRxd s x.port) + (x.bytes.length + 4) * portByte s x.port
  max (lineOf x.stamp + delay * lineNs) (tEnd + ansFloor s nts f * lineNs / 100)

/-- A request that has passed ADMIT enters WAIT (R205); an NTS request is parsed and given to a unit (R221, R231). -/
def ansEnter (p : Nat) (nts kod : Bool) (x : RxFrame) (f : Parsed) (s : State) : State :=
  if nts && (ntsParse s f).isNone then pairDigest x.bytes 9 [] (s.count (NTS_CNT_ERR.MALFORMED p) 1)
  else if nts && !ntsAnyUnit s p then pairDigest x.bytes 10 [] (s.count (NTS_CNT_POOL.NOUNIT p) 1)
  else
    let r : AnsReq :=
      { id := (ansPipe s p).next, port := x.port, bytes := x.bytes, nts := nts, kod := kod, tRx := x.stamp,
        target := ansTarget s p nts kod x f, lenTx := answerLen x.bytes (ansPayLen s nts kod f), td := none, header := [],
        prov := [], unver := false, unit := none, work := .waiting }
    let s := ansCount p (ansSet p (fun (y : AnsPipe) => { y with next := y.next + 1, reqs := y.reqs ++ [r] }) s)
    s.onlyIf nts (ntsAssign p)

/-- The visitor book consulted for an admitted request (R216). -/
def ansAdmit (p : Nat) (nts noLimit : Bool) (x : RxFrame) (f : Parsed) (now : Int) (s : State) : State :=
  if noLimit || !vbActive s then ansEnter p nts false x f s
  else
    let v := vbUpdate (f.l3 == 2) nts (f.srcIp x.bytes) (vbNow now) s
    match v.1 with
    | .pass => ansEnter p nts false x f v.2
    | .kiss => ansEnter p nts true x f v.2
    | .limited => pairDigest x.bytes 8 [] (v.2.count (ANS_CNT_LIMITED.COUNT p) 1)

/-- A request under an ANSWER action (R197, R205). -/
def ansRequest (p : Nat) (nts noLimit : Bool) (x : RxFrame) (f : Parsed) (now : Int) (s : State) : State :=
  let drop := fun (outcome : Nat) (s : State) => pairDigest x.bytes outcome [] s
  if !s.flag (ANS_CFG.EN p) then drop 15 (s.count (ANS_CNT_ERR2.ABORT p) 1)
  else if x.unlocked then drop 4 (s.count (ANS_CNT_ERR2.UNLOCKED p) 1)
  else if s.flag ANS_GLB_CFG.UNVER_DROP && ansUnverified s then drop 5 (s.count (ANS_CNT_UNVER.COUNT p) 1)
  else if !ansAnswerable s p nts f x.bytes then
    drop 6 (ansFlag p (ANS_FLAGS.UNANSWERABLE p) (s.count (ANS_CNT_ERR1.UNANSWERABLE p) 1))
  else if 1024 ≤ (ansPipe s p).reqs.length then
    drop 7 (ansFlag p (ANS_FLAGS.OVERRUN p) (s.count (ANS_CNT_ERR0.OVERRUN p) 1))
  else ansAdmit p nts noLimit x f now s

/-- The messageTypes that an instance works on (R241 to R251): Delay_Req and Signaling as a server, Sync, Follow_Up, Delay_Resp and
Announce as a client. -/
def ptpTypes (client : Bool) : List Nat := if client then [0x0, 0x8, 0x9, 0xB] else [0x1, 0xC]

/-- Whether an instance takes a received message: it runs on the port, in the message's domain, in a role that knows its type; a
Delay_Resp must name the instance itself. -/
def ptpTakes (s : State) (n i : Nat) (r : PtpRx) : Bool :=
  ptpOn s i && ptpPort s i == n && s.get (PTP_INST_CFG.DOMAIN i) == r.msg.domain.toNat &&
  (ptpTypes (s.flag (PTP_INST_BIND.ROLE i))).contains r.type &&
  (r.type != 9 || (r.body.drop 10).take 10 == beBytes 8 (s.get64 PTP_CLOCK_ID.ofs) ++ beBytes 2 (i + 1))

/-- A message put into the inbox of each instance that takes it (R201). -/
def ptpHandOver (n : Nat) (s : State) (r : PtpRx) : State :=
  (List.range 16).foldl (fun s i =>
    s.onlyIf (ptpTakes s n i r) (ptpSet i fun (y : PtpInst) => { y with inbox := y.inbox ++ [r] })) s

/-- A frame under the PTP action (R201): a management message goes to the host's queue (R239, assumption 18), any other PTP message
to the PTP block. -/
def ansPtp (p queue rule at_ : Nat) (x : RxFrame) (f : Parsed) (s : State) : State :=
  let s := s.count (ANS_CNT_PTP.COUNT p) 1
  match ptpParse f x.bytes with
  | none => s
  | some (type, m, two, body) =>
    if type = 0xD then ansToHost p queue rule x s
    else
      let parts := if type = 0xC then ptpTlvs 400 (body.drop 10) else [body]
      parts.foldl (fun s b => ptpHandOver x.port s (PtpRx.mk type m two b at_ x.stamp x.unlocked)) s

/-- A frame classified by its pipeline (R200, R201). -/
def ansClassify (p : Nat) (x : RxFrame) (at_ : Nat) (s : State) : State :=
  let now := s.timeAt at_
  let s := s.count (ANS_CNT_RX.COUNT p) 1
  let f := parseFrame x.bytes
  let rules := (ansPipe s p).active
  let m := ansMatch rules (x.port % 2) (ansLocal s p f x.bytes) f x.bytes
  let act := match m with | some r => (rules.getD r ⟨0, 0, 0, 0⟩).act | none => 0
  let action := match m with | some _ => fieldOf act 0 3 | none => s.get (ANS_CFG.DEFAULT_ACTION p)
  let queue := match m with | some _ => fieldOf act 3 5 | none => s.get (ANS_CFG.DEFAULT_QUEUE p)
  let s := match m with | some r => s.count (ANS_RULE_HITS.COUNT p r) 1 | none => s
  match action with
  | 0 => s.count (ANS_CNT_RULEDROP.COUNT p) 1
  | 1 => ansToHost p queue (m.getD 0xFF) x s
  | 2 => ansPtp p queue (m.getD 0xFF) at_ x f s
  | 3 => ansRequest p false (act.getLsbD 8) x f now s
  | 4 => ansRequest p true (act.getLsbD 8) x f now s
  | _ => (ansReserved p (m.getD 64) s).count (ANS_CNT_RULEDROP.COUNT p) 1

/-- FRAME_RX (R190, R197): a frame whose start-of-frame block lies at an instant is stamped, filtered and classified. -/
def frameRx (n : Nat) (bytes : List Byte) (at_ : Nat) (s : State) : State :=
  if !(s.live .mac && s.flag (EP_STATUS.LINK n)) then s
  else s.cross false (9 + n) (portWords s n bytes.length) fun s =>
  if !portAccepts s n (bytes.take 6) then s.count (EP_RX_CNT.FILTERED n) 1
  else
    let x : RxFrame := { port := n, bytes := bytes, stamp := portRxStamp s n at_,
                         unlocked := !s.flag (TB_REP_STATUS.LOCKED (8 + n)), freeMeas := tbFreeMeas s }
    s.onlyIf (s.live .ans) (ansClassify (n / 2) x at_)

/-- FRAME_RX. -/
def execFrameRx (n : Fin 8) (bytes : List Byte) (at_ : Nat) (s : State) : Host.Outcome State Fault Refusal :=
  .next (frameRx n bytes at_ s)

/-! ### The answer header (R208, R209) -/

/-- A device time in NTP form (R52, R209). -/
def ntpStamp (s : State) (t : Int) : List Byte :=
  beBytes 4 (tbNtpTotal s (secOf t) % 2 ^ 32).toNat ++ beBytes 4 (tbNtpFrac t)

/-- Root dispersion (R209). -/
def ansDispersion (s : State) : Nat := min 0xFFFFFFFF ((s.get64 ENS_UNC_PH.ofs + (10 ^ 9 - 1)) / 10 ^ 9)

/-- The reference timestamp's field (R209). -/
def ansRefTime (s : State) : List Byte :=
  match (ensTrace s).bind fun k => (loopSt s k.1).xAt with
  | some t => ntpStamp s t
  | none => List.replicate 8 0

/-- A reference identifier of at most four letters. -/
def refId (cs : List Char) : List Byte := (cs.map fun c => BitVec.ofNat 8 c.toNat) ++ List.replicate (4 - cs.length) 0

/-- The reference ID of a verified header (R209). -/
def ansRefId (s : State) : List Byte :=
  let k := loopStatus s
  if !s.flag ANS_GLB_CFG.REFID_AUTO then beBytes 4 (s.reg ANS_REFID.ofs).toNat
  else if k = 24 ∨ loopState s k = 0 then refId ['F', 'R', 'E', 'E']
  else match rgsIncumbent s k with
    | none => refId ['H', 'O', 'L', 'D']
    | some n =>
      if loopState s k = 1 ∨ loopState s k = 5 then refId ['H', 'O', 'L', 'D']
      else match rgsType s n with
        | 1 => refId ['P', 'P', 'S']
        | 2 => refId ['F', 'R', 'E', 'Q']
        | 3 => refId ['S', 'Y', 'N', 'C']
        | 4 => refId ['P', 'T', 'P']
        | 5 => refId ['G', 'N', 'S', 'S']
        | _ => refId ['L', 'I', 'N', 'K']

/-- The poll field of an answer: the request's poll, clamped (R208). -/
def ansPoll (s : State) (f : Parsed) : Int := clampInt (s.get ANS_GLB_CFG.POLL_MIN) 17 (f.payload.getD 2 0).toInt

/-- The poll field of a kiss-o'-death (R208). -/
def kodPoll (s : State) (f : Parsed) : Int := max (f.payload.getD 2 0).toInt (min 17 (s.get ANS_GLB_CFG.KOD_POLL))

/-- STRATUM of a verified header: 0 and values above 15 are treated as 15. -/
def ansStratum (s : State) : Nat :=
  let v := s.get ANS_GLB_CFG.STRATUM
  if v = 0 ∨ 15 < v then 15 else v

/-- The first four bytes of an answer. -/
def ntpHead (s : State) (f : Parsed) (li stratum : Nat) (poll : Int) : List Byte :=
  [BitVec.ofNat 8 (64 * li + 8 * f.vn + 4), BitVec.ofNat 8 stratum, BitVec.ofInt 8 poll,
   BitVec.ofNat 8 (s.get ANS_GLB_CFG.PRECISION)]

/-- The header of an answer with T2 and T3 (R208). -/
def ansHeader (s : State) (f : Parsed) (t2 t3 : Int) : List Byte :=
  let un := ansUnverified s
  ntpHead s f (if un then 3 else s.tb.warn.li) (if un then 16 else ansStratum s) (ansPoll s f) ++
  beBytes 4 (s.reg ANS_ROOT_DELAY.ofs).toNat ++ beBytes 4 (ansDispersion s) ++
  (if un then refId ['I', 'N', 'I', 'T'] else ansRefId s) ++ (if un then List.replicate 8 0 else ansRefTime s) ++
  (f.payload.drop 40).take 8 ++ ntpStamp s t2 ++ ntpStamp s t3

/-- The header of a kiss-o'-death or a NAK (R208, R232): no time. -/
def kissHeader (s : State) (f : Parsed) (poll : Int) (id : List Byte) : List Byte :=
  ntpHead s f 3 0 poll ++ List.replicate 8 0 ++ id ++ List.replicate 8 0 ++ (f.payload.drop 40).take 8 ++
  List.replicate 16 0

/-- The header of a request's answer, fixed at the RESERVE instant (R208, R232). -/
def ansFixed (s : State) (r : AnsReq) (t3 : Int) : List Byte :=
  let f := parseFrame r.bytes
  if r.kod then kissHeader s f (kodPoll s f) (refId ['R', 'A', 'T', 'E'])
  else if r.work = .nak then kissHeader s f (ansPoll s f) (refId ['N', 'T', 'S', 'N'])
  else ansHeader s f r.tRx t3

/-! ### RESERVE (R212) -/

/-- The request in WAIT with the least target, the earliest on a tie (R212). -/
def ansNext (s : State) (p : Nat) : Option AnsReq :=
  (ansPipe s p).reqs.foldl (fun best r =>
    if r.td.isSome then best
    else match best with
      | some b => if r.target < b.target then some r else best
      | none => some r) none

/-- Whether an NTS request's phase 1 has not completed (R231). -/
def ansUnready (r : AnsReq) : Bool := r.nts && !r.kod && (r.work == .waiting || r.work == .running)

/-- The latest record that a request's answer sees: one issued before the core cycle of its RESERVE instant (R211, R291). -/
def ansRecord (s : State) (r : AnsReq) : Nat × List Byte :=
  provAsOf s fun p =>
    let cycleEnd := (p / coreUnits + 1) * coreUnits - s.pivotAt 0
    decide (r.target - 400 * lineNs < lineOf (repTime s r.port cycleEnd))

/-- The reservation made, T3 and the header fixed (R208, R212). -/
def ansReserve (p : Nat) (r : AnsReq) (td : Int) (g : BlockGrid) (s : State) : State :=
  let t3 := td / 25 + portTxd s r.port
  let un := ansUnverified s
  let kiss := r.kod || r.work == .nak
  let prov := if provWanted s (parseFrame r.bytes) && !kiss then provField s (ansRecord s r) un else []
  let header := ansFixed s r t3
  let outcome := if r.kod then 2 else if r.work = .nak then 3 else if r.nts then 1 else 0
  pairDigest r.bytes outcome header <| depReserve r.port (.ans p r.id) td r.lenTx g none
    (ansSetReq p r.id (fun (x : AnsReq) => { x with td := some td, header := header, prov := prov, unver := un && !kiss }) s)

/-- The RESERVE instant of the next request, target − 400 ns (R205, R212). -/
def ansReserveNext (p : Nat) (g : BlockGrid) (s : State) : State :=
  match ansNext s p with
  | none => s
  | some r =>
    if ansUnready r then (if ntsAnyUnit s p then ntsPoolLate p r (r.target - 400 * lineNs) s else ntsNoUnit p r s)
    else
      let tmin := r.target - lineOf (portTxd s r.port)
      match depChoose s r.port r.lenTx g tmin (r.target - 400 * lineNs) (s.get (ANS_SLACK.SLACK p) * lineNs) with
      | none =>
        pairDropped r 11 <| ansDrop p r (ansFlag p (ANS_FLAGS.NOSLOT p) ((s.count (ANS_CNT_ERR0.NOSLOT p) 1).deadline 0 ((r.target - 400 * lineNs) / 25)))
      | some td =>
        if depRoom s r.port then ansReserve p r td g s
        else pairDropped r 13 (depRefuse r.port (.ans p r.id) (r.target - 400 * lineNs) (ansDrop p r s))

/-- RESERVE. -/
def execReserve (p : Fin 4) (g : BlockGrid) (s : State) : Host.Outcome State Fault Refusal := .next (ansReserveNext p g s)

/-! ### ANSWER_BUILT (R205, R207) -/

/-- The UDP payload of an answer that needs no phase 2: an NTP answer, a kiss-o'-death or a NAK (R207, R232). -/
def ansPayload (s : State) (r : AnsReq) : List Byte :=
  if r.work = .nak then
    r.header ++ (match ntsParse s (parseFrame r.bytes) with | some q => q.uid | none => [])
  else r.header ++ r.prov

/-- ANSWER_BUILT (R205): the answer of a request in BUILD is handed to the MAC. -/
def ansBuilt (p id at_ : Nat) (s : State) : State :=
  match ansReq s p id with
  | some r =>
    if r.td.isNone || (r.nts && !r.kod && r.work != .nak) then s
    else
      let s := if r.kod then s.count (ANS_CNT_KOD.COUNT p) 1 else if r.nts then s else s.count (ANS_CNT_NTP.COUNT p) 1
      let s := s.onlyIf r.unver (State.count (ANS_CNT_UNVER.COUNT p) 1)
      ansHandOver p r (ansPayload s r) at_ s
  | none => s

/-- ANSWER_BUILT. -/
def execAnswerBuilt (p : Fin 4) (id at_ : Nat) (s : State) : Host.Outcome State Fault Refusal := .next (ansBuilt p id at_ s)

/-! ### Enable, disable and reset (R197) -/

/-- Every request in flight discarded, its reservation left unfilled; the pipeline's rules, addresses and counters take their
image values (R197). -/
def ansAbort (p : Nat) (s : State) : State :=
  let reqs := (ansPipe s p).reqs
  let s := reqs.foldl (fun s r => pairDropped r 15 (depCancel r.port (.ans p r.id) s)) s
  let s := ansCount p (ansSet p (fun (x : AnsPipe) => { x with reqs := [] }) s)
  let s := s.revert (ANS_CNT_RX.ofs p) (ANS_CNT_UNVER.ofs p + 4)
  let s := s.revert (ANS_ADDR_W.ofs p 0 0) (ANS_RULE_HITS.ofs p 64)
  ansLoad p ((s.put (ANS_STATUS.COMMIT_BUSY p) 0).count (ANS_CNT_ERR2.ABORT p) reqs.length)

/-- A write of ANS_CFG (R197). -/
def ansCfgWrite (p : Nat) (v : Word) (s : State) : State :=
  let was := s.flag (ANS_CFG.EN p)
  let s := s.setReg (ANS_CFG.ofs p) (v &&& 0x1FF)
  s.onlyIf (was && !v.getLsbD 0) (ansAbort p)

/-- PIPELINE_DISABLE (R197): EN cleared. -/
def execPipelineDisable (p : Fin 4) (s : State) : Host.Outcome State Fault Refusal :=
  .next (s.hostDo .ans (some (9, p)) [ANS_CFG.ofs p] (ansCfgWrite p (s.reg (ANS_CFG.ofs p) &&& ~~~1)))

/-! ### A step of device time (R213) -/

/-- A request or a held answer dropped because a step separates its t_rx from its t_d (R213). -/
def ansStepDrop (p : Nat) (s : State) : State :=
  ansFlag p (ANS_FLAGS.STEP_DROP p) (s.count (ANS_CNT_ERR1.STEP_DROP p) 1)

/-- Every request in flight and every answer of the pipeline that waits for its t_d is dropped by a step (R205, R213). -/
def ansStep (p : Nat) (s : State) : State :=
  let reqs := (ansPipe s p).reqs
  let held := [2 * p, 2 * p + 1].flatMap fun n =>
    (macPort s n).resv.filterMap fun r =>
      match r.owner, r.frame with | .ans q id, some _ => if q = p then some (n, id) else none | _, _ => none
  let s := reqs.foldl (fun s r => pairDropped r 16 (ansStepDrop p (ansDrop p r s))) s
  held.foldl (fun s h => ansStepDrop p (depCancel h.1 (.ans p h.2) s)) s

end Sys2Proof.Machine
end

