-- ==== Sys2Proof/Machine/Curves.lean ====
section
/-! DEFINITION. The public-key arithmetic of the big-number engine's whole operations (R271 to R274): modular arithmetic, the
NIST prime curves with ECDH and ECDSA (FIPS 186-5, SP 800-186), X25519 and X448 (RFC 7748), Ed25519 and Ed448 (RFC 8032). The
algorithms are those of the standards (assumption 13). -/

namespace Sys2Proof.Machine

/-! ### Modular arithmetic -/

/-- A power modulo `m`, over the low `k` bits of the exponent. -/
def modPowBits (m : Nat) : Nat → Nat → Nat → Nat → Nat
  | 0, _, _, acc => acc
  | k + 1, a, e, acc => modPowBits m k (a * a % m) (e / 2) (if e % 2 = 1 then acc * a % m else acc)

/-- A power modulo `m`. -/
def modPow (m a e : Nat) : Nat := modPowBits m (e.log2 + 1) (a % m) e (1 % m)

/-- The extended Euclidean algorithm with `k` steps: the gcd, and the factor of the first argument. -/
def egcd : Nat → Nat → Nat → Int → Int → Nat × Int
  | 0, r0, _, s0, _ => (r0, s0)
  | k + 1, r0, r1, s0, s1 => if r1 = 0 then (r0, s0) else egcd k r1 (r0 % r1) s1 (s0 - (r0 / r1 : Nat) * s1)

/-- The inverse modulo `m`, if there is one. -/
def modInv (m a : Nat) : Option Nat :=
  let g := egcd (2 * m.log2 + 4) (a % m) m 1 0
  if g.1 = 1 then some (g.2 % m).toNat else none

/-- A difference modulo `m` of reduced values. -/
def modSub (m a b : Nat) : Nat := (a + m - b % m) % m

/-- A quotient modulo a prime. -/
def modDiv (m a b : Nat) : Nat := a * (modInv m b).getD 0 % m

/-! ### The NIST prime curves: y^2 = x^3 - 3x + b -/

/-- A curve: field words, field prime, coefficient, order and base point. -/
structure NistCurve where
  n : Nat
  p : Nat
  b : Nat
  q : Nat
  gx : Nat
  gy : Nat

/-- P-256. -/
def p256 : NistCurve :=
  { n := 4,
    p := 2 ^ 256 - 2 ^ 224 + 2 ^ 192 + 2 ^ 96 - 1,
    b := 0x5AC635D8AA3A93E7B3EBBD55769886BC651D06B0CC53B0F63BCE3C3E27D2604B,
    q := 0xFFFFFFFF00000000FFFFFFFFFFFFFFFFBCE6FAADA7179E84F3B9CAC2FC632551,
    gx := 0x6B17D1F2E12C4247F8BCE6E563A440F277037D812DEB33A0F4A13945D898C296,
    gy := 0x4FE342E2FE1A7F9B8EE7EB4A7C0F9E162BCE33576B315ECECBB6406837BF51F5 }

/-- P-384. -/
def p384 : NistCurve :=
  { n := 6,
    p := 2 ^ 384 - 2 ^ 128 - 2 ^ 96 + 2 ^ 32 - 1,
    b := 0xB3312FA7E23EE7E4988E056BE3F82D19181D9C6EFE8141120314088F5013875AC656398D8A2ED19D2A85C8EDD3EC2AEF,
    q := 0xFFFFFFFFFFFFFFFFFFFFFFFFFFFFFFFFFFFFFFFFFFFFFFFFC7634D81F4372DDF581A0DB248B0A77AECEC196ACCC52973,
    gx := 0xAA87CA22BE8B05378EB1C71EF320AD746E1D3B628BA79B9859F741E082542A385502F25DBF55296C3A545E3872760AB7,
    gy := 0x3617DE4A96262C6F5D9E98BF9292DC29F8F41DBD289A147CE9DA3113B5F0B8C00A60B1CE1D7E819D7A431D7C90EA0E5F }

/-- P-521. -/
def p521 : NistCurve :=
  { n := 9,
    p := 2 ^ 521 - 1,
    b := 0x51953EB9618E1C9A1F929A21A0B68540EEA2DA725B99B315F3B8B489918EF109E156193951EC7E937B1652C0BD3BB1BF073573DF883D2C34F1EF451FD46B503F00,
    q := 0x1FFFFFFFFFFFFFFFFFFFFFFFFFFFFFFFFFFFFFFFFFFFFFFFFFFFFFFFFFFFFFFFFFA51868783BF2F966B7FCC0148F709A5D03BB5C9B8899C47AEBB6FB71E91386409,
    gx := 0xC6858E06B70404E9CD9E3ECB662395B4429C648139053FB521F828AF606B4D3DBAA14B5E77EFE75928FE1DC127A2FFA8DE3348B3C1856A429BF97E7E31C2E5BD66,
    gy := 0x11839296A789A3BC0045C8A5FB42C7D1BD998F54449579B446817AFBD17273E662C97EE72995EF42640C550B9013FAD0761353C7086A272C24088BE94769FD16650 }

/-- A point; none is the point at infinity. -/
abbrev NistPoint := Option (Nat × Nat)

/-- Whether coordinates lie on the curve. -/
def NistCurve.has (c : NistCurve) (x y : Nat) : Bool := y * y % c.p == (x * x * x + (c.p - 3) * x + c.b) % c.p

/-- The sum of two points. -/
def NistCurve.add (c : NistCurve) : NistPoint → NistPoint → NistPoint
  | none, b => b
  | a, none => a
  | some (x1, y1), some (x2, y2) =>
    if x1 = x2 ∧ (y1 + y2) % c.p = 0 then none
    else
      let l := if x1 = x2 then modDiv c.p (3 * x1 * x1 + c.p - 3) (2 * y1)
        else modDiv c.p (modSub c.p y2 y1) (modSub c.p x2 x1)
      let x := modSub c.p (l * l) (x1 + x2)
      some (x, modSub c.p (l * modSub c.p x1 x) y1)

/-- A multiple of a point, over the low `k` bits of the factor. -/
def NistCurve.mulBits (c : NistCurve) : Nat → NistPoint → Nat → NistPoint → NistPoint
  | 0, _, _, acc => acc
  | k + 1, a, e, acc => c.mulBits k (c.add a a) (e / 2) (if e % 2 = 1 then c.add acc a else acc)

/-- A multiple of a point. -/
def NistCurve.mul (c : NistCurve) (e : Nat) (a : NistPoint) : NistPoint := c.mulBits (e.log2 + 1) a e none

/-- The base point. -/
def NistCurve.base (c : NistCurve) : NistPoint := some (c.gx, c.gy)

/-- A hash as an integer, truncated to the length of the order (FIPS 186-5). -/
def NistCurve.hashInt (c : NistCurve) (h : List Byte) : Nat :=
  let bits := c.q.log2 + 1
  if 8 * h.length ≤ bits then beNat h else beNat h / 2 ^ (8 * h.length - bits)

/-- The x-coordinate of a point, 0 for infinity. -/
def nistX (a : NistPoint) : Nat := match a with | some p => p.1 | none => 0

/-- An ECDSA signature with a given nonce. -/
def NistCurve.sign (c : NistCurve) (d k : Nat) (h : List Byte) : Nat × Nat :=
  let r := nistX (c.mul k c.base) % c.q
  (r, modDiv c.q ((c.hashInt h + r * d) % c.q) k)

/-- The check of an ECDSA signature under a public point (R273). -/
def NistCurve.verify (c : NistCurve) (x y r s : Nat) (h : List Byte) : Bool :=
  if r = 0 ∨ s = 0 ∨ c.q ≤ r ∨ c.q ≤ s then false
  else
    let w := (modInv c.q s).getD 0
    match c.add (c.mul (c.hashInt h * w % c.q) c.base) (c.mul (r * w % c.q) (some (x, y))) with
    | none => false
    | some p => p.1 % c.q == r

/-! ### X25519 and X448 -/

/-- A Montgomery curve of RFC 7748: field prime, its bits, (A - 2) / 4, base u and bytes of a string. -/
structure MontCurve where
  p : Nat
  bits : Nat
  a24 : Nat
  u : Nat
  len : Nat

/-- X25519. -/
def x25519 : MontCurve := { p := 2 ^ 255 - 19, bits := 255, a24 := 121665, u := 9, len := 32 }

/-- X448. -/
def x448 : MontCurve := { p := 2 ^ 448 - 2 ^ 224 - 1, bits := 448, a24 := 39081, u := 5, len := 56 }

/-- A scalar string clamped (RFC 7748). -/
def MontCurve.clamp (c : MontCurve) (k : List Byte) : Nat :=
  let v := leNat k
  if c.bits = 255 then v % 2 ^ 254 / 8 * 8 + 2 ^ 254 else v % 2 ^ 447 / 4 * 4 + 2 ^ 447

/-- The ladder from bit `k` down: the two running points in projective form. -/
def MontCurve.ladder (c : MontCurve) (x1 e : Nat) : Nat → Nat × Nat → Nat × Nat → Nat × Nat
  | 0, p2, _ => p2
  | k + 1, p2, p3 =>
    let b := e.testBit k
    let p2' := if b then p3 else p2
    let p3' := if b then p2 else p3
    let a := p2'.1 + p2'.2
    let aa := a * a % c.p
    let d := modSub c.p p2'.1 p2'.2
    let bb := d * d % c.p
    let ee := modSub c.p aa bb
    let da := modSub c.p p3'.1 p3'.2 * a % c.p
    let cb := (p3'.1 + p3'.2) * d % c.p
    let df := modSub c.p da cb
    let n3 := ((da + cb) * (da + cb) % c.p, x1 * (df * df % c.p) % c.p)
    let n2 := (aa * bb % c.p, ee * (aa + c.a24 * ee) % c.p)
    if b then c.ladder x1 e k n3 n2 else c.ladder x1 e k n2 n3

/-- The function of RFC 7748: a scalar string and a u-coordinate string. -/
def MontCurve.apply (c : MontCurve) (k u : List Byte) : List Byte :=
  let x1 := leNat u % 2 ^ c.bits % c.p
  let r := c.ladder x1 (c.clamp k) c.bits (1, 0) (x1, 1)
  leBytes c.len (modDiv c.p r.1 r.2)

/-- The public string of a scalar string. -/
def MontCurve.public (c : MontCurve) (k : List Byte) : List Byte := c.apply k (leBytes c.len c.u)

/-! ### Ed25519 and Ed448: a x^2 + y^2 = 1 + d x^2 y^2 -/

/-- An Edwards curve of RFC 8032: field prime, coefficients, order, base point and bytes of a key. -/
structure EdCurve where
  p : Nat
  a : Nat
  d : Nat
  order : Nat
  bx : Nat
  by_ : Nat
  len : Nat

/-- Ed25519. -/
def ed25519 : EdCurve :=
  { p := 2 ^ 255 - 19, a := 2 ^ 255 - 20,
    d := 37095705934669439343138083508754565189542113879843219016388785533085940283555,
    order := 2 ^ 252 + 27742317777372353535851937790883648493,
    bx := 15112221349535400772501151409588531511454012693041857206046113283949847762202,
    by_ := 46316835694926478169428394003475163141307993866256225615783033603165251855960,
    len := 32 }

/-- Ed448. -/
def ed448 : EdCurve :=
  { p := 2 ^ 448 - 2 ^ 224 - 1, a := 1, d := 2 ^ 448 - 2 ^ 224 - 1 - 39081,
    order := 2 ^ 446 - 13818066809895115352007386748515426880336692474882178609894547503885,
    bx := 0x4F1970C66BED0DED221D15A622BF36DA9E146570470F1767EA6DE324A3D3A46412AE1AF72AB66511433B80E18B00938E2626A82BC70CC05E,
    by_ := 0x693F46716EB6BC248876203756C9C7624BEA73736CA3984087789C1E05A0C2D73AD3FF1CE67C39C4FDBD132C4ED7C8AD9808795BF230FA14,
    len := 57 }

/-- A point of an Edwards curve in projective coordinates. -/
abbrev EdPoint := Nat × Nat × Nat

/-- The sum of two points. -/
def EdCurve.add (c : EdCurve) (u v : EdPoint) : EdPoint :=
  let z := u.2.2 * v.2.2 % c.p
  let b := z * z % c.p
  let xx := u.1 * v.1 % c.p
  let yy := u.2.1 * v.2.1 % c.p
  let e := c.d * (xx * yy % c.p) % c.p
  let f := modSub c.p b e
  let g := b + e
  let xy := modSub c.p (modSub c.p ((u.1 + u.2.1) * (v.1 + v.2.1)) xx) yy
  (z * (f * xy % c.p) % c.p, z * (g * modSub c.p yy (c.a * xx) % c.p) % c.p, f * g % c.p)

/-- A multiple of a point, over the low `k` bits of the factor. -/
def EdCurve.mulBits (c : EdCurve) : Nat → EdPoint → Nat → EdPoint → EdPoint
  | 0, _, _, acc => acc
  | k + 1, a, e, acc => c.mulBits k (c.add a a) (e / 2) (if e % 2 = 1 then c.add acc a else acc)

/-- A multiple of a point. -/
def EdCurve.mul (c : EdCurve) (e : Nat) (a : EdPoint) : EdPoint := c.mulBits (e.log2 + 1) a e (0, 1, 1)

/-- The base point. -/
def EdCurve.base (c : EdCurve) : EdPoint := (c.bx, c.by_, 1)

/-- Whether two points are equal. -/
def EdCurve.same (c : EdCurve) (u v : EdPoint) : Bool :=
  u.1 * v.2.2 % c.p == v.1 * u.2.2 % c.p && u.2.1 * v.2.2 % c.p == v.2.1 * u.2.2 % c.p

/-- The string of a point: y, with the low bit of x as the top bit. -/
def EdCurve.encode (c : EdCurve) (u : EdPoint) : List Byte :=
  let x := modDiv c.p u.1 u.2.2
  let y := modDiv c.p u.2.1 u.2.2
  leBytes c.len (y + x % 2 * 2 ^ (8 * c.len - 1))

/-- A square root modulo the field prime, if there is one. -/
def EdCurve.sqrt (c : EdCurve) (v : Nat) : Option Nat :=
  let r :=
    if c.p % 4 = 3 then modPow c.p v ((c.p + 1) / 4)
    else
      let r := modPow c.p v ((c.p + 3) / 8)
      if r * r % c.p = v % c.p then r else r * modPow c.p 2 ((c.p - 1) / 4) % c.p
  if r * r % c.p = v % c.p then some r else none

/-- A point string decoded (RFC 8032, 5.1.3 and 5.2.3). -/
def EdCurve.decode (c : EdCurve) (s : List Byte) : Option EdPoint :=
  let v := leNat s
  let sign := v / 2 ^ (8 * c.len - 1)
  let y := v % 2 ^ (8 * c.len - 1)
  if s.length ≠ c.len ∨ c.p ≤ y then none
  else
    match c.sqrt (modDiv c.p (modSub c.p (y * y) 1) (modSub c.p (c.d * (y * y % c.p)) c.a)) with
    | none => none
    | some x => if x = 0 ∧ sign = 1 then none else some (if x % 2 = sign then x else c.p - x, y, 1)

/-- The hash of a curve, twice the key length, with the dom4 prefix of Ed448 (RFC 8032). -/
def EdCurve.hash (c : EdCurve) (m : List Byte) : List Byte :=
  if c.len = 32 then sha512 m
  else shake256 ([0x53, 0x69, 0x67, 0x45, 0x64, 0x34, 0x34, 0x38, 0, 0] ++ m) 114

/-- The hash of a private key, without a prefix. -/
def EdCurve.keyHash (c : EdCurve) (seed : List Byte) : List Byte := if c.len = 32 then sha512 seed else shake256 seed 114

/-- The secret scalar of a private key. -/
def EdCurve.scalar (c : EdCurve) (seed : List Byte) : Nat :=
  let v := leNat ((c.keyHash seed).take c.len)
  if c.len = 32 then v % 2 ^ 254 / 8 * 8 + 2 ^ 254 else v % 2 ^ 447 / 4 * 4 + 2 ^ 447

/-- The public key of a private key. -/
def EdCurve.public (c : EdCurve) (seed : List Byte) : List Byte := c.encode (c.mul (c.scalar seed) c.base)

/-- The signature of a message (RFC 8032). -/
def EdCurve.sign (c : EdCurve) (seed m : List Byte) : List Byte :=
  let a := c.public seed
  let r := leNat (c.hash ((c.keyHash seed).drop c.len ++ m)) % c.order
  let rs := c.encode (c.mul r c.base)
  let k := leNat (c.hash (rs ++ a ++ m)) % c.order
  rs ++ leBytes c.len ((r + k * c.scalar seed) % c.order)

/-- The cofactored check of a signature (R273): an S of the order or above and an R that does not decode fail. -/
def EdCurve.verify (c : EdCurve) (pub m sig : List Byte) : Bool :=
  match c.decode pub, c.decode (sig.take c.len) with
  | some a, some r =>
    let s := leNat (sig.drop c.len)
    let k := leNat (c.hash (sig.take c.len ++ pub ++ m)) % c.order
    decide (s < c.order) && c.same (c.mul 8 (c.mul s c.base)) (c.add (c.mul 8 r) (c.mul 8 (c.mul k a)))
  | _, _ => false

end Sys2Proof.Machine
end

