-- ==== Sys2Proof/Machine/Bne.lean ====
section
/-! DEFINITION. The big-number engine: slots, jobs, validation, internal requests and self-tests (13_bignum_engine.md). -/

namespace Sys2Proof.Machine

/-! ### Descriptors (R263, R264) -/

/-- A descriptor's fields. -/
structure BneDesc where
  op : Nat
  curve : Nat
  flags : Nat
  slot : Nat
  n : Nat
  e : Nat
  mlen : Nat
  m : Nat
  a : Nat
  b : Nat
  c : Nat
  r : Nat
  r2 : Nat
deriving DecidableEq, Repr

/-- A field of a descriptor: its byte and size. -/
def bneField (d : List Byte) (i n : Nat) : Nat := leNat ((d.drop i).take n)

/-- A descriptor parsed. -/
def bneParse (d : List Byte) : BneDesc :=
  { op := bneField d 0 1, curve := bneField d 1 1, flags := bneField d 2 2, slot := bneField d 4 1, n := bneField d 6 2,
    e := bneField d 8 2, mlen := bneField d 10 2, m := bneField d 16 4, a := bneField d 20 4, b := bneField d 24 4,
    c := bneField d 28 4, r := bneField d 32 4, r2 := bneField d 36 4 }

/-- The size of a window. -/
def bneWindow : Nat := 0x20000

/-- Whether an opcode is a primitive (R270). -/
def bnePrimitive (op : Nat) : Bool := decide (1 ≤ op ∧ op ≤ 5)

/-- The word count of a curve (R271). -/
def bneCurveWords (c : Nat) : Nat :=
  match c with
  | 1 => 4 | 2 => 6 | 3 => 9 | 4 => 4 | 5 => 4 | 6 => 7 | 7 => 7 | _ => 0

/-- Whether a curve is one of the NIST curves. -/
def bneNist (c : Nat) : Bool := decide (1 ≤ c ∧ c ≤ 3)

/-- The NIST curve of a code. -/
def bneNistCurve (c : Nat) : NistCurve := if c = 1 then p256 else if c = 2 then p384 else p521

/-- The Montgomery curve of a code. -/
def bneMont (c : Nat) : MontCurve := if c = 4 then x25519 else x448

/-- The Edwards curve of a code. -/
def bneEd (c : Nat) : EdCurve := if c = 5 then ed25519 else ed448

/-- Whether the opcode exists and the curve suits it (R270, R272). -/
def bneKnown (d : BneDesc) : Bool :=
  match d.op with
  | 1 | 2 | 3 | 4 | 5 => d.curve == 0
  | 0x10 => decide (1 ≤ d.curve ∧ d.curve ≤ 7)
  | 0x11 => d.curve == 1 || d.curve == 2 || d.curve == 3 || d.curve == 4 || d.curve == 6
  | 0x12 | 0x13 => d.curve == 1 || d.curve == 2 || d.curve == 3 || d.curve == 5 || d.curve == 7
  | _ => false

/-- Whether N, E and MLEN lie in the ranges that the opcode allows (R263, R272). -/
def bneRanges (d : BneDesc) : Bool :=
  if bnePrimitive d.op then
    decide (1 ≤ d.n ∧ d.n ≤ 256) && d.mlen == 0 && (if d.op = 5 then decide (1 ≤ d.e ∧ d.e ≤ 256) else d.e == 0)
  else
    d.n == 0 && d.e == 0 &&
    (if d.op = 0x12 ∨ d.op = 0x13 then (if bneNist d.curve then decide (1 ≤ d.mlen ∧ d.mlen ≤ 64) else true) else d.mlen == 0)

/-- The input regions of an opcode: offsets and lengths in bytes (R270 to R272). A signature to verify lies at C, r before s. -/
def bneInputs (d : BneDesc) : List (Nat × Nat) :=
  let w := 8 * bneCurveWords d.curve
  let key := if d.curve = 7 then 57 else w
  match d.op with
  | 1 | 2 | 3 => [(d.m, 8 * d.n), (d.a, 8 * d.n), (d.b, 8 * d.n)]
  | 4 => [(d.m, 8 * d.n), (d.a, 8 * d.n)]
  | 5 => [(d.m, 8 * d.n), (d.a, 8 * d.n), (d.b, 8 * d.e)]
  | 0x11 => [(d.a, w), (d.b, if bneNist d.curve then 2 * w else w)]
  | 0x12 => [(d.a, key), (d.b, d.mlen)]
  | 0x13 => [(d.a, if bneNist d.curve then 2 * w else key), (d.b, d.mlen), (d.c, 2 * key)]
  | _ => []

/-- The result regions of an opcode. -/
def bneResults (d : BneDesc) : List (Nat × Nat) :=
  let w := 8 * bneCurveWords d.curve
  let key := if d.curve = 7 then 57 else w
  match d.op with
  | 1 | 2 | 3 | 4 | 5 => [(d.r, 8 * d.n)]
  | 0x10 => [(d.r, key), (d.r2, if bneNist d.curve then 2 * w else key)]
  | 0x11 => [(d.r, w)]
  | 0x12 => if bneNist d.curve then [(d.r, w), (d.r2, w)] else [(d.r, 2 * key)]
  | _ => []

/-- Whether two regions overlap. -/
def bneOverlap (x y : Nat × Nat) : Bool := decide (x.1 < y.1 + y.2 ∧ y.1 < x.1 + x.2)

/-- Whether every used region is aligned and lies in the window, and the two result regions do not overlap. -/
def bneRegions (d : BneDesc) : Bool :=
  (bneInputs d ++ bneResults d).all (fun x => decide (x.1 % 8 = 0 ∧ x.1 + x.2 ≤ bneWindow)) &&
  (match bneResults d with | [x, y] => !bneOverlap x y | _ => true)

/-- Whether the reserved bytes and bits are zero. A SLOT above 15 is read as a reserved bit that is not zero. -/
def bneReserved (raw : List Byte) (d : BneDesc) : Bool :=
  decide (d.flags < 8) && decide (d.slot < 16) && bneField raw 5 1 == 0 && bneField raw 40 24 == 0

/-- Whether a descriptor is valid (R264). -/
def bneValid (raw : List Byte) : Bool :=
  let d := bneParse raw
  bneKnown d && bneRanges d && bneRegions d && bneReserved raw d

/-! ### Durations (R267, R268, R270, R275) -/

/-- t_mul in core cycles (R270). -/
def bneTMul (n : Nat) : Nat := (n * n + 1) / 2 + 3 * n + 20

/-- t_inv in core cycles (R270). -/
def bneTInv (n : Nat) : Nat := (128 * n + 64) * ((n + 1) / 2 + 2)

/-- The operands that REDUCE_IN reduces (R270). -/
def bneReducedCount (op : Nat) : Nat := match op with | 1 | 2 | 3 => 2 | 4 | 5 => 1 | _ => 0

/-- t_val in core cycles (R268). -/
def bneTVal (d : BneDesc) : Nat :=
  let n := if bnePrimitive d.op then d.n else bneCurveWords d.curve
  200 + 16 * n + (if d.flags.testBit 0 then bneReducedCount d.op * 2 * bneTMul n else 0)

/-- The duration of a whole operation on an empty message in core cycles of 1.25 ns (R275). -/
def bneWhole (op curve : Nat) : Nat :=
  let row := match curve with
    | 1 => [17600, 56000, 20800, 68000]
    | 2 => [38400, 128000, 44000, 152000]
    | 3 => [76000, 264000, 84000, 312000]
    | 4 => [12800, 30640, 0, 0]
    | 5 => [14400, 0, 16000, 38400]
    | 6 => [41600, 96000, 0, 0]
    | _ => [48000, 0, 51200, 120000]
  row.getD (op - 0x10) 0

/-- The hash blocks of an EdDSA message (R275). -/
def bneBlocks (d : BneDesc) : Nat :=
  match d.curve with
  | 5 => (d.mlen + 64 + 127) / 128
  | 7 => (d.mlen + 114 + 135) / 136
  | _ => 0

/-- t_job in core cycles (R267, R270, R275). -/
def bneTJob (d : BneDesc) : Nat :=
  match d.op with
  | 1 | 2 => bneTVal d + 2 * d.n + 8
  | 3 => bneTVal d + 3 * bneTMul d.n
  | 4 => bneTVal d + bneTInv d.n
  | 5 => bneTVal d + (80 * d.e + 18) * bneTMul d.n
  | 0x12 => bneWhole d.op d.curve + 160 * bneBlocks d
  | 0x13 => bneWhole d.op d.curve + 80 * bneBlocks d
  | _ => bneWhole d.op d.curve

/-! ### What a job computes (R269 to R274) -/

/-- Bytes of a slot's window. -/
def bneRead (s : State) (j ofs n : Nat) : List Byte := memBytes bar2Zero s.bar2 (j * bneWindow + ofs) n

/-- Bytes written to a slot's window. -/
def bneWrite (j ofs : Nat) (bs : List Byte) (s : State) : State :=
  { s with bar2 := memWrite bar2Zero s.bar2 (j * bneWindow + ofs) bs }

/-- A modulus: odd, at least 3, with a non-zero top word (R270). -/
def bneModOk (n m : Nat) : Bool := decide (m % 2 = 1 ∧ 3 ≤ m ∧ 2 ^ (64 * (n - 1)) ≤ m)

/-- The operands of a primitive after REDUCE_IN: modulus, A and B; the exponent of MODEXP is not reduced (R269). -/
def bneOperands (s : State) (j : Nat) (d : BneDesc) : Nat × Nat × Nat :=
  let m := leNat (bneRead s j d.m (8 * d.n))
  let a := leNat (bneRead s j d.a (8 * d.n))
  let b := leNat (bneRead s j d.b (8 * (if d.op = 5 then d.e else d.n)))
  if d.flags.testBit 0 then (m, a % m, if d.op = 5 then b else b % m) else (m, a, b)

/-- The coordinates of a NIST point in a window. -/
def bnePoint (s : State) (j ofs n : Nat) : Nat × Nat :=
  (leNat (bneRead s j ofs (8 * n)), leNat (bneRead s j (ofs + 8 * n) (8 * n)))

/-- The status of a NIST private scalar: ERR_RANGE outside [1, q - 1] (R273). -/
def bneScalarErr (c : NistCurve) (k : Nat) : Nat := if k = 0 ∨ c.q ≤ k then 1 else 0

/-- The status of a NIST public point (R273). -/
def bnePointErr (c : NistCurve) (q : Nat × Nat) : Nat :=
  if c.p ≤ q.1 ∨ c.p ≤ q.2 then 1 else if c.has q.1 q.2 then 0 else 3

/-- The first status that is not 0. -/
def bneFirst (x y : Nat) : Nat := if x = 0 then y else x

/-- The error that the validation of a whole operation finds, 0 for none (R273, R274). -/
def bneWholeErr (s : State) (j : Nat) (d : BneDesc) : Nat :=
  let c := bneNistCurve d.curve
  let rng := if s.flag BNE_STATUS.RNG_OK then 0 else 5
  let scalar := bneScalarErr c (leNat (bneRead s j d.a (8 * c.n)))
  match d.op, bneNist d.curve with
  | 0x10, _ => rng
  | 0x11, true => bneFirst scalar (bnePointErr c (bnePoint s j d.b c.n))
  | 0x12, true => bneFirst scalar rng
  | 0x13, true => bnePointErr c (bnePoint s j d.a c.n)
  | 0x13, false => if ((bneEd d.curve).decode (bneRead s j d.a (bneEd d.curve).len)).isSome then 0 else 3
  | _, _ => 0

/-- The error that a job's validation finds, 0 for none (R268 to R274). The modulus is judged before the operands. -/
def bneValidate (s : State) (j : Nat) (d : BneDesc) : Nat :=
  if bnePrimitive d.op then
    let v := bneOperands s j d
    if !bneModOk d.n v.1 then 4
    else if v.1 ≤ v.2.1 ∨ (d.op < 4 ∧ v.1 ≤ v.2.2) then 1
    else if d.op = 4 ∧ v.2.1 = 0 then 2
    else 0
  else bneWholeErr s j d

/-- What a job gives at t_job: a status, VALID, and the results to write at R and R2. -/
structure BneResult where
  status : Nat
  valid : Bool
  r : List Byte
  r2 : List Byte
deriving DecidableEq, Repr

/-- A result without VALID. -/
def bneOk (r r2 : List Byte) : BneResult := { status := 0, valid := false, r := r, r2 := r2 }

/-- An error at t_job. -/
def bneErr (st : Nat) : BneResult := { status := st, valid := false, r := [], r2 := [] }

/-- The result of a primitive (R270). -/
def bnePrim (s : State) (j : Nat) (d : BneDesc) : BneResult :=
  let v := bneOperands s j d
  let out := fun (x : Nat) => bneOk (leBytes (8 * d.n) x) []
  match d.op with
  | 1 => out ((v.2.1 + v.2.2) % v.1)
  | 2 => out (modSub v.1 v.2.1 v.2.2)
  | 3 => out (v.2.1 * v.2.2 % v.1)
  | 4 => match modInv v.1 v.2.1 with | some x => out x | none => bneErr 2
  | _ => out (modPow v.1 v.2.1 v.2.2)

/-- A NIST private key or nonce from n + 2 words of the DRBG (R274). -/
def bneNonce (s : State) (c : NistCurve) : Nat := leNat (s.freeBytes (8 * (c.n + 2))) % (c.q - 1) + 1

/-- A point's coordinates as 2n words. -/
def bnePointBytes (n : Nat) (p : NistPoint) : List Byte :=
  match p with | some q => leBytes (8 * n) q.1 ++ leBytes (8 * n) q.2 | none => List.replicate (16 * n) 0

/-- The result of KEYGEN (R272, R274). -/
def bneKeygen (s : State) (curve : Nat) : BneResult :=
  if bneNist curve then
    let c := bneNistCurve curve
    let k := bneNonce s c
    bneOk (leBytes (8 * c.n) k) (bnePointBytes c.n (c.mul k c.base))
  else if curve = 4 ∨ curve = 6 then
    let k := s.freeBytes (bneMont curve).len
    bneOk k ((bneMont curve).public k)
  else
    let k := s.freeBytes (bneEd curve).len
    bneOk k ((bneEd curve).public k)

/-- The result of ECDH (R272, R273): an all-zero secret under CHECK_ZERO is ERR_POINT. -/
def bneEcdh (s : State) (j : Nat) (d : BneDesc) : BneResult :=
  if bneNist d.curve then
    let c := bneNistCurve d.curve
    bneOk (leBytes (8 * c.n) (nistX (c.mul (leNat (bneRead s j d.a (8 * c.n))) (some (bnePoint s j d.b c.n))))) []
  else
    let c := bneMont d.curve
    let z := c.apply (bneRead s j d.a c.len) (bneRead s j d.b c.len)
    if d.flags.testBit 2 && leNat z == 0 then bneErr 3 else bneOk z []

/-- The result of SIGN (R272, R274). -/
def bneSign (s : State) (j : Nat) (d : BneDesc) : BneResult :=
  let msg := bneRead s j d.b d.mlen
  if bneNist d.curve then
    let c := bneNistCurve d.curve
    let g := c.sign (leNat (bneRead s j d.a (8 * c.n))) (bneNonce s c) msg
    bneOk (leBytes (8 * c.n) g.1) (leBytes (8 * c.n) g.2)
  else bneOk ((bneEd d.curve).sign (bneRead s j d.a (bneEd d.curve).len) msg) []

/-- Whether VERIFY finds the signature good (R273). -/
def bneVerify (s : State) (j : Nat) (d : BneDesc) : Bool :=
  let msg := bneRead s j d.b d.mlen
  if bneNist d.curve then
    let c := bneNistCurve d.curve
    let q := bnePoint s j d.a c.n
    let g := bnePoint s j d.c c.n
    c.verify q.1 q.2 g.1 g.2 msg
  else
    let c := bneEd d.curve
    c.verify (bneRead s j d.a c.len) msg (bneRead s j d.c (2 * c.len))

/-- What a validated job gives at t_job. -/
def bneResult (s : State) (j : Nat) (d : BneDesc) : BneResult :=
  match d.op with
  | 0x10 => bneKeygen s d.curve
  | 0x11 => bneEcdh s j d
  | 0x12 => bneSign s j d
  | 0x13 => { status := 0, valid := bneVerify s j d, r := [], r2 := [] }
  | _ => bnePrim s j d

/-- Whether a job draws from the DRBG (R274). -/
def bneDraws (d : BneDesc) : Bool := d.op == 0x10 || (d.op == 0x12 && bneNist d.curve)

/-! ### Flags, slots and completions -/

/-- A flag of BNE_FLAGS set (R379). -/
def bneFlag (f : Fld) (s : State) : State := s.setFlag f 208

/-- One slot's internal state. -/
def bneSlot (s : State) (j : Nat) : BneSlot := s.bne.slots.getD j BneSlot.reset

/-- One slot's internal state changed. -/
def bneSetSlot (j : Nat) (f : BneSlot → BneSlot) (s : State) : State :=
  { s with bne := { s.bne with slots := s.bne.slots.modify j f } }

/-- The state of a slot: 0 IDLE, 1 QUEUED, 2 RUNNING, 3 zeroising. -/
def bneStateOf (s : State) (j : Nat) : Nat := s.get (BNE_SLOT_STATUS.STATE j)

/-- The completion record of a job (R265). -/
def bneRecord (desc : List Byte) (status info cycles : Nat) : List Byte :=
  (desc.drop 12).take 4 ++ leBytes 1 status ++ (desc.drop 4).take 1 ++ leBytes 1 info ++ [0] ++ leBytes 4 cycles ++ [0, 0, 0, 0]

/-- The counters of a completion (R266). -/
def bneCount (status : Nat) (s : State) : State :=
  match status with
  | 0 => s.count BNE_CNT_DONE.COUNT 1
  | 1 | 2 | 3 | 4 | 5 => s.count BNE_CNT_ERR.VALIDATION 1
  | 6 | 7 => bneFlag BNE_FLAGS.DESC_ERR (s.count BNE_CNT_ERR.NOT_RUN 1)
  | 9 => bneFlag BNE_FLAGS.NOCORE (s.count BNE_CNT_ERR.NOT_RUN 1)
  | 8 => s.count BNE_CNT_ABORT.ABORTS 1
  | _ => s.count BNE_CNT_ERR.NOT_RUN 1

/-- A completion record written, counted and notified (R265). -/
def bneComplete (desc : List Byte) (status : Nat) (record : List Byte) (s : State) : State :=
  let d := bneParse desc
  let s := bneCount status (hifComplete 10 record s)
  let s := s.onlyIf (decide (d.slot < 16)) (State.put (BNE_SLOT_STATUS.LAST_STATUS d.slot) status)
  s.onlyIf (d.flags.testBit 1 && decide (d.slot < 16)) (State.raise (192 + d.slot))

/-! ### Cores and self-tests (R262, R276 to R278) -/

/-- The count of set bits among the low 16. -/
def bits16 (v : Nat) : Nat := ((List.range 16).filter fun i => v.testBit i).length

/-- HEALTHY and INTERNAL brought up to date. -/
def bneRefresh (s : State) : State :=
  (s.put BNE_STATUS.HEALTHY (16 - bits16 (s.get BNE_CORE_STATUS.FAULT ||| s.get BNE_CORE_STATUS.TESTING))).putB
    BNE_STATUS.INTERNAL s.bne.running.isSome

/-- Whether a pass of a core waits (R277, R278). -/
def bneDue (s : State) (c : Nat) : Bool := s.bne.duePeriodic.testBit c || s.bne.dueCommand.testBit c

/-- Whether a core is free for a dispatch: healthy, not under test, not busy, and without a pass to run first (R277). -/
def bneCoreFree (s : State) (c : Nat) : Bool :=
  !bneDue s c && !(s.get BNE_CORE_STATUS.FAULT).testBit c && !(s.get BNE_CORE_STATUS.TESTING).testBit c && !(s.get BNE_CORE_BUSY.BUSY).testBit c

/-- One bit of a 16-bit field written. -/
def bnePutBit (f : Fld) (c v : Nat) (s : State) : State := s.put ⟨f.ofs, f.lo + c, 1⟩ v

/-- A number without one bit. -/
def clearBit (v c : Nat) : Nat := if v.testBit c then v - 2 ^ c else v

/-- A core's waiting pass started, once the core runs nothing: a commanded one at once, a periodic one while fewer than two
cores are TESTING (R277, R278). -/
def bneTestStart (s : State) (c : Nat) : State :=
  let idle := !(s.get BNE_CORE_BUSY.BUSY).testBit c && !(s.get BNE_CORE_STATUS.TESTING).testBit c
  let periodic := s.bne.duePeriodic.testBit c && decide (bits16 (s.get BNE_CORE_STATUS.TESTING) < 2)
  if idle && (s.bne.dueCommand.testBit c || periodic) then
    bnePutBit BNE_CORE_STATUS.TESTING c 1
      { s with bne := { s.bne with dueCommand := clearBit s.bne.dueCommand c, duePeriodic := clearBit s.bne.duePeriodic c } }
  else s

/-- Every waiting pass that may start, started. -/
def bneTests (s : State) : State := bneRefresh ((List.range 16).foldl bneTestStart s)

/-- A core freed. -/
def bneFreeCore (c : Nat) (s : State) : State := bneTests (bnePutBit BNE_CORE_BUSY.BUSY c 0 s)

/-- A slot back in IDLE; its core, when it ran, is freed. -/
def bneIdle (j : Nat) (s : State) : State :=
  let ran := bneStateOf s j == 2
  let core := s.get (BNE_SLOT_STATUS.CORE j)
  let s := { s with bne := { s.bne with queue := s.bne.queue.filter (fun x => x != j) } }
  let s := (s.put (BNE_SLOT_STATUS.STATE j) 0).put (BNE_SLOT_STATUS.CORE j) 0
  s.onlyIf ran (bneFreeCore core)

/-- Every QUEUED slot ended with ERR_NOCORE when no core is healthy (R257). -/
def bneNoCore (s : State) : State :=
  if s.get BNE_CORE_STATUS.FAULT = 0xFFFF then
    s.bne.queue.foldl (fun s j => let d := (bneSlot s j).desc; bneComplete d 9 (bneRecord d 9 0 0) (bneIdle j s)) s
  else s

/-- A window zeroised (R260). -/
def bneZero (j : Nat) (s : State) : State := { s with bar2 := memClear s.bar2 (j * bneWindow) bneWindow }

/-! ### The commands -/

/-- A fetched descriptor taken (R257, R264, R279). -/
def bneTake (raw : List Byte) (s : State) : State :=
  let d := bneParse raw
  let refuse := fun (st : Nat) => bneComplete raw st (bneRecord raw st 0 0) s
  if !s.flag BNE_CFG.EN || !s.flag BNE_STATUS.READY then refuse 10
  else if decide (d.slot < 16) && bneStateOf s d.slot != 0 then refuse 7
  else if !bneValid raw then refuse 6
  else
    let s := (s.put (BNE_SLOT_STATUS.STATE d.slot) 1).put (BNE_SLOT_STATUS.ZEROED d.slot) 0
    let s := bneSetSlot d.slot (fun _ => { desc := raw, start := 0, valid := false, ending := none }) s
    bneNoCore { s with bne := { s.bne with queue := s.bne.queue ++ [d.slot] } }

/-- JOB_DESCRIPTOR. -/
def execJobDescriptor (s : State) : Host.Outcome State Fault Refusal :=
  .next (match hifDescriptor s 28 with
    | some raw => bneTake raw (hifConsume 28 s)
    | none => s)

/-- The next internal request or queued slot dispatched to a core (R262). -/
def bneDispatch (c at_ : Nat) (s : State) : State :=
  let busy := fun (s : State) => bnePutBit BNE_CORE_BUSY.BUSY c 1 s
  match s.bne.running, s.bne.waiting, s.bne.queue with
  | none, r :: rest, _ =>
    let s := { s with bne := { s.bne with running := some (r, c), waiting := rest } }
    bneRefresh ((busy s).count BNE_CNT_INTERNAL.COUNT 1)
  | _, _, j :: rest =>
    let s := { s with bne := { s.bne with queue := rest } }
    let s := bneSetSlot j (fun (x : BneSlot) => { x with start := s.pivotAt at_, valid := false }) s
    ((busy s).put (BNE_SLOT_STATUS.STATE j) 2).put (BNE_SLOT_STATUS.CORE j) c
  | _, _, _ => s

/-- JOB_DISPATCH: to the lowest-numbered free core (R262); none while PFAIL_N is low (R280). -/
def execJobDispatch (at_ : Nat) (s : State) : Host.Outcome State Fault Refusal :=
  .next (if s.flag BNE_STATUS.READY && !s.sys.pfailLow then
    match (List.range 16).find? (bneCoreFree s) with
    | some c => bneDispatch c at_ s
    | none => bneNoCore s
  else s)

/-- The core bits of INFO (R265). -/
def bneInfo (s : State) (j : Nat) : Nat := 4 * s.get (BNE_SLOT_STATUS.CORE j)

/-- The validation of a slot's job ends (R268): an error ends the job with nothing written. -/
def bneValidated (j : Nat) (s : State) : State :=
  let raw := (bneSlot s j).desc
  let d := bneParse raw
  if bneStateOf s j == 2 && !(bneSlot s j).valid then
    match bneValidate s j d with
    | 0 => bneSetSlot j (fun (x : BneSlot) => { x with valid := true }) s
    | e => bneComplete raw e (bneRecord raw e (bneInfo s j) (bneTVal d)) (bneIdle j s)
  else s

/-- JOB_VALIDATION. -/
def execJobValidation (j : Fin 16) (s : State) : Host.Outcome State Fault Refusal := .next (bneValidated j s)

/-- A slot's job at its t_job (R261, R265 to R267): the result is written and the job ends. -/
def bneCompleted (j : Nat) (s : State) : State :=
  let raw := (bneSlot s j).desc
  let d := bneParse raw
  if bneStateOf s j == 2 && (bneSlot s j).valid then
    let g := bneResult s j d
    let record := bneRecord raw g.status (bneInfo s j + bit g.valid) (bneTJob d)
    let s := s.onlyIf (bneDraws d) State.freeNext
    let s := s.onlyIf (g.status == 0) (fun s => bneWrite j d.r2 g.r2 (bneWrite j d.r g.r s))
    bneComplete raw g.status record (bneIdle j s)
  else s

/-- JOB_COMPLETE. -/
def execJobComplete (j : Fin 16) (s : State) : Host.Outcome State Fault Refusal := .next (bneCompleted j s)

/-- The core cycles that a slot's job has run at a pivot time: a core cycle is 1.25 ns (R346). -/
def bneRan (s : State) (j at_ : Nat) : Nat :=
  if bneStateOf s j = 2 then (s.pivotAt at_ - (bneSlot s j).start) / coreUnits else 0

/-- A slot's job carried to a pivot time: an end that falls in this core cycle, or before it, stands (R259). -/
def bneCarry (j at_ : Nat) (s : State) : State :=
  let d := bneParse (bneSlot s j).desc
  let s := s.onlyIf (decide (bneTVal d ≤ bneRan s j at_)) (bneValidated j)
  s.onlyIf (decide (bneTJob d ≤ bneRan s j at_)) (bneCompleted j)

/-- An ABORT or INST reset of a slot (R257): the job stops and zeroisation begins; a slot that is zeroising goes on. -/
def bneAbort (j at_ : Nat) (s : State) : State :=
  let raw := (bneSlot s j).desc
  match bneStateOf s j with
  | 0 => (bneSetSlot j (fun (x : BneSlot) => { x with ending := none }) s).put (BNE_SLOT_STATUS.STATE j) 3
  | 3 => s
  | _ =>
    let record := bneRecord raw 8 (bneInfo s j + 2) (bneRan s j at_)
    let s := bneSetSlot j (fun (x : BneSlot) => { x with ending := some record }) s
    (bneIdle j s).put (BNE_SLOT_STATUS.STATE j) 3

/-- An ABORT of a slot at an instant: a completion of the same core cycle stands, and the ABORT acts on the slot that it leaves IDLE
(R259). -/
def bneStop (j at_ : Nat) (s : State) : State := bneAbort j at_ (bneCarry j at_ s)

/-- SLOT_ABORT. -/
def execSlotAbort (j : Fin 16) (at_ : Nat) (s : State) : Host.Outcome State Fault Refusal :=
  .next (s.hostDo .bne (some (12, j)) [] (bneStop j at_))

/-- The end of a zeroisation (R257, R260). -/
def bneZeroised (j : Nat) (s : State) : State :=
  let ending := (bneSlot s j).ending
  let raw := (bneSlot s j).desc
  let s := ((bneZero j s).put (BNE_SLOT_STATUS.STATE j) 0).put (BNE_SLOT_STATUS.ZEROED j) 1
  let s := bneSetSlot j (fun _ => BneSlot.reset) s
  match ending with
  | some record => bneComplete raw 8 record s
  | none => s.count BNE_CNT_ABORT.ZEROISES 1

/-- ZEROISE_DONE. -/
def execZeroiseDone (j : Fin 16) (s : State) : Host.Outcome State Fault Refusal :=
  .next (if bneStateOf s j = 3 then bneZeroised j s else s)

/-- CORE_SELFTEST_DUE (R277). -/
def execCoreSelftestDue (c : Fin 16) (s : State) : Host.Outcome State Fault Refusal :=
  .next (if s.flag BNE_STATUS.READY && s.get BNE_CFG.SELFTEST_INT != 0 then
    bneTests { s with bne := { s.bne with duePeriodic := s.bne.duePeriodic ||| 2 ^ c.val } }
  else s)

/-- The job or internal request of a core stopped for a forced pass: the job under R257, the request put back to wait. -/
def bneStopCore (c at_ : Nat) (s : State) : State :=
  let s := match s.bne.running with
    | some (r, k) =>
      if k = c then
        bnePutBit BNE_CORE_BUSY.BUSY c 0 { s with bne := { s.bne with running := none, waiting := r :: s.bne.waiting } }
      else s
    | none => s
  match (List.range 16).find? (fun j => bneStateOf s j == 2 && s.get (BNE_SLOT_STATUS.CORE j) == c) with
  | some j => bneAbort j at_ s
  | none => s

/-- A write of SELFTEST (R278). -/
def bneSelftest (c : Nat) (force : Bool) (at_ : Nat) (s : State) : State :=
  let out := s.get BNE_CORE_STATUS.FAULT ||| s.get BNE_CORE_STATUS.TESTING ||| 2 ^ c
  let due := fun (s : State) => bneTests { s with bne := { s.bne with dueCommand := s.bne.dueCommand ||| 2 ^ c } }
  if force then bneFlag BNE_FLAGS.FORCED_OUT (due (bneStopCore c at_ s))
  else if bits16 out = 16 then bneFlag BNE_FLAGS.BUSY_IN_SERVICE s
  else due s

/-- BNE_SELFTEST. -/
def execBneSelftest (c : Fin 16) (force : Bool) (at_ : Nat) (s : State) : Host.Outcome State Fault Refusal :=
  .next (s.hostDo .bne none [] (bneSelftest c force at_))

/-- The start of the engine (R276): every core runs its tests, and the windows are zero. -/
def bneStart (s : State) : State :=
  let s := { s with bne := { BneState.reset with starting := 0xFFFF }, bar2 := memClear s.bar2 0 (16 * bneWindow) }
  bneRefresh (s.put BNE_CORE_STATUS.TESTING 0xFFFF)

/-- The seed of the identity key (R293). -/
def identitySeed : List Byte := leBytes 32 Config.identitySeed.toNat

/-- The public key that PROV_PUBKEY returns. -/
def identityPublic : List Byte := ed25519.public identitySeed

/-- Whether the identity key's self-signature, over its public key, verifies (R293; assumption 88). -/
def identityOk : Bool := ed25519.verify identityPublic identityPublic (ed25519.sign identitySeed identityPublic)

/-- The engine is ready once its last start-up pass has ended (R276, R279); a healthy core then checks the identity key's
self-signature (R293). -/
def bneReady (s : State) : State :=
  ((s.put BNE_STATUS.READY 1).put BNE_STATUS.RNG_OK 1).onlyIf (s.get BNE_CORE_STATUS.FAULT != 0xFFFF)
    (State.putB PROV_STATUS.KEY_OK identityOk)

/-- SELFTEST_PASS_DONE (R276): the core rejoins, or is marked in FAULT. -/
def execSelftestPassDone (c : Fin 16) (ok : Bool) (s : State) : Host.Outcome State Fault Refusal :=
  .next (if (s.get BNE_CORE_STATUS.TESTING).testBit c then
    let first := s.bne.starting.testBit c
    let s := bnePutBit BNE_CORE_STATUS.TESTING c 0 { s with bne := { s.bne with starting := clearBit s.bne.starting c } }
    let s := (s.count BNE_CNT_SELFTEST.PASSES 1).onlyIf (!ok) fun s =>
      bneFlag BNE_FLAGS.CORE_FAULT ((bnePutBit BNE_CORE_STATUS.FAULT c 1 s).count BNE_CNT_SELFTEST.FAILS 1)
    let s := s.onlyIf (first && s.bne.starting == 0) bneReady
    bneNoCore (bneTests s)
  else s)

/-- An internal request submitted (R262), unless it already waits or runs. -/
def bneSubmit (r : BneRequest) (s : State) : State :=
  if s.bne.waiting.contains r || (match s.bne.running with | some (x, _) => x == r | none => false) then s
  else { s with bne := { s.bne with waiting := s.bne.waiting ++ [r] } }

/-- Whether a given internal request runs. -/
def bneRuns (s : State) (r : BneRequest) : Bool := match s.bne.running with | some (x, _) => x == r | none => false

/-- The running internal request ended; its core is freed. -/
def bneEndRequest (s : State) : State :=
  match s.bne.running with
  | some (_, c) => bneFreeCore c { s with bne := { s.bne with running := none } }
  | none => s

/-- The internal requests of one kind withdrawn. -/
def bneWithdraw (f : BneRequest → Bool) (s : State) : State :=
  let s := { s with bne := { s.bne with waiting := s.bne.waiting.filter (fun r => !f r) } }
  match s.bne.running with
  | some (r, _) => if f r then bneEndRequest s else s
  | none => s

/-- An ERR_ABORT record of a power failure, written while the ring has room (R280). -/
def bnePfailRecord (j at_ : Nat) (s : State) : State :=
  let raw := (bneSlot s j).desc
  let record := bneRecord raw 8 (bneInfo s j + 2 + 64) (bneRan s j at_)
  let s := (bneIdle j s).put (BNE_SLOT_STATUS.ZEROED j) 1
  if hifRoom s 10 then bneComplete raw 8 record s
  else bneCount 8 s

/-- PFAIL_N low (R280): every job is aborted and every window zeroised. -/
def bnePfail (at_ : Nat) (s : State) : State :=
  let s := (List.range 16).foldl (fun s j =>
    match bneStateOf s j with
    | 1 | 2 => bnePfailRecord j at_ s
    | 3 => bneZeroised j s
    | _ => s.put (BNE_SLOT_STATUS.ZEROED j) 1) s
  bneFlag BNE_FLAGS.PFAIL_ABORT { s with bar2 := memClear s.bar2 0 (16 * bneWindow) }

/-- An uncorrectable word in a slot's window (R360). -/
def bneMemoryError (j at_ : Nat) (s : State) : State := bneAbort j at_ s

end Sys2Proof.Machine
end

