-- ==== Sys2Proof/Machine/Ptp.lean ====
section
/-! DEFINITION. The PTP block (12_ptp.md): server instances, unicast negotiation, what a server announces, client instances, path
steps and requalification. The layouts of PTP messages are those of IEEE 1588-2019 (assumption 18). -/

namespace Sys2Proof.Machine

/-! ### Instances (R239 to R241) -/

/-- An instance flag with its interrupt (R379). -/
def ptpFlag (i : Nat) (f : Fld) (s : State) : State := s.setFlag f (160 + i)

/-- Whether an instance runs as a server. -/
def ptpServer (s : State) (i : Nat) : Bool := ptpOn s i && !s.flag (PTP_INST_BIND.ROLE i)

/-- Whether an instance runs as a client. -/
def ptpClient (s : State) (i : Nat) : Bool := ptpOn s i && s.flag (PTP_INST_BIND.ROLE i)

/-- PROFILE, 3 treated as 0. -/
def ptpProfile (s : State) (i : Nat) : Nat := s.get (PTP_INST_CFG.PROFILE i) % 3

/-- Whether a value of PTP_INST_CFG asks only for what R239 supports. -/
def ptpCfgOk (v : Word) : Bool :=
  let dom := fieldOf v 8 8
  let tr := fieldOf v 4 2
  let uni := v.getLsbD 7
  match fieldOf v 1 2 with
  | 1 => tr == 0 && decide (24 ≤ dom ∧ dom ≤ 43) && !uni
  | 2 => (tr == 1 || tr == 2) && decide (44 ≤ dom ∧ dom ≤ 63) && uni
  | _ => decide (tr ≤ 2 ∧ dom ≤ 127) && !(uni && tr == 0)

/-- The message interval exponents of a server's multicast Sync and Announce (R241). -/
def ptpLogSync (s : State) (i : Nat) : Int := if ptpProfile s i = 1 then -4 else s.getI (PTP_INST_RATES.LOG_SYNC i)

@[inherit_doc ptpLogSync]
def ptpLogAnn (s : State) (i : Nat) : Int :=
  if ptpProfile s i = 1 then -3 else s.getI (PTP_INST_RATES.LOG_ANN i)

/-- `k` times 2^log seconds, in 2^-60 ns. -/
def ptpTimes (k : Int) (log : Int) : Int := if 0 ≤ log then k * secUnit * 2 ^ log.toNat else k * secUnit / 2 ^ (-log).toNat

/-! ### Received messages (R201) -/

/-- Whether a waiting message is the one that a command names: of a messageType, with a header, arrived at an instant if the
command gives one, and saying what the command says. -/
def PtpRx.isFor (type : Nat) (m : PtpMsg) (at_ : Option Nat) (body : List Byte → Bool) (x : PtpRx) : Bool :=
  x.type == type && x.msg == m && (match at_ with | some a => x.arrived == a | none => true) && body x.body

/-- The first waiting message of an instance that meets a test. -/
def ptpWaiting (s : State) (i : Nat) (is : PtpRx → Bool) : Option PtpRx := (ptpInst s i).inbox.find? is

/-- A waiting message taken from the inbox. -/
def ptpTaken (i : Nat) (is : PtpRx → Bool) (s : State) : State :=
  ptpSet i (fun (x : PtpInst) => { x with inbox := dropFirst is x.inbox }) s

/-! ### Messages -/

/-- A PTP message: type, flags, correctionField in 2^-16 ns, sequence number, controlField, logMessageInterval and the rest. -/
def ptpBytes (s : State) (i type flags : Nat) (corr : Int) (seq control : Nat) (log : Int) (body : List Byte) : List Byte :=
  [BitVec.ofNat 8 type, 0x12] ++ beBytes 2 (34 + body.length) ++ [BitVec.ofNat 8 (s.get (PTP_INST_CFG.DOMAIN i)), 0] ++
  beBytes 2 flags ++ beBytes 8 (patternOf 64 corr) ++ [0, 0, 0, 0] ++ beBytes 8 (s.get64 PTP_CLOCK_ID.ofs) ++
  beBytes 2 (i + 1) ++ beBytes 2 seq ++ [BitVec.ofNat 8 control, BitVec.ofInt 8 log] ++ body

/-- A time in the PTP view: seconds and nanoseconds (R54, R241). -/
def ptpTime (t : Int) : List Byte := beBytes 6 (secOf t % 2 ^ 48) ++ beBytes 4 (nsOf t)

/-- The sub-nanosecond part of a time, in 2^-16 ns (R54). -/
def ptpSub (t : Int) : Int := fracOf t / 2 ^ 16

/-- Where a message goes: a MAC address and, over UDP, an IP address. -/
structure PtpDest where
  mac : List Byte
  ip : List Byte
deriving DecidableEq, Repr

/-- The multicast destination of an instance (R239; the addresses of Annexes C, D and E). -/
def ptpGroup (s : State) (i : Nat) : PtpDest :=
  match s.get (PTP_INST_CFG.TRANSPORT i) with
  | 1 => ⟨[0x01, 0, 0x5E, 0, 1, 0x81], [224, 0, 1, 129]⟩
  | 2 => ⟨[0x33, 0x33, 0, 0, 1, 0x81], [0xFF, 0x0E, 0, 0, 0, 0, 0, 0, 0, 0, 0, 0, 0, 0, 1, 0x81]⟩
  | _ =>
    if ptpProfile s i = 1 ∧ s.flag (PTP_INST_CFG.L2_ADDR i) then ⟨[0x01, 0x80, 0xC2, 0, 0, 0x0E], []⟩
    else ⟨[0x01, 0x1B, 0x19, 0, 0, 0], []⟩

/-- The address that an instance sends from: the first local address of its pipeline in the family, else free bytes
(assumption 18). -/
def ptpSource (s : State) (i : Nat) (v6 : Bool) : List Byte :=
  match (ansPipe s (ptpPort s i / 2)).addrs.findSome? fun e =>
    match e with | some (f, a) => if f = v6 then some a else none | none => none with
  | some a => a
  | none => s.freeBytes (if v6 then 16 else 4)

/-- A PTP message as a frame; event messages use UDP port 319, others 320. -/
def ptpFrame (s : State) (i : Nat) (d : PtpDest) (event : Bool) (msg : List Byte) : List Byte :=
  let udpPort := if event then 319 else 320
  let src := ptpSource s i (d.ip.length == 16)
  let head := d.mac ++ leBytes 6 (s.get64 (EP_MAC_ADDR.ofs (ptpPort s i)))
  let udp := udpBytes true src d.ip udpPort udpPort msg
  let tos := 4 * s.get ANS_GLB_HDR.DSCP
  match d.ip.length with
  | 0 => head ++ [0x88, 0xF7] ++ msg
  | 4 => head ++ [0x08, 0x00] ++ ip4Bytes tos (answerTtl s) src d.ip udp
  | _ => head ++ [0x86, 0xDD] ++ ip6Bytes tos (answerTtl s) src d.ip udp

/-- A PTP frame queued to leave unscheduled; the free value behind its source address is used up. -/
def ptpQueue (i : Nat) (d : PtpDest) (event : Bool) (ts : Option TsReq) (msg : List Byte) (s : State) : State :=
  let fr : EthFrame := { bytes := ptpFrame s i d event msg, cls := s.get (EP_CFG.DEP_TC (ptpPort s i)), ts := ts,
                         gated := ptpServer s i, inst := some i }
  portQueue (ptpPort s i) fr s.freeNext

/-! ### The client table (R246) -/

/-- The entry of a client: keyed by port, source IP address and sourcePortIdentity. -/
def ptpEntry (s : State) (port : Nat) (m : PtpMsg) : Option (Nat × PtpClient) :=
  s.ptp.table.find? fun e => e.2.port == port && e.2.ip == m.ip && e.2.id == m.id

/-- The lowest-numbered free entry of the table. -/
def ptpFreeEntry : Nat → Nat → List (Nat × PtpClient) → Option Nat
  | 0, _, _ => none
  | _ + 1, e, [] => some e
  | k + 1, e, (j, _) :: t => if e < j then some e else ptpFreeEntry k (e + 1) t

/-- The table changed and its fill shown. -/
def ptpPutTable (t : List (Nat × PtpClient)) (s : State) : State :=
  { s with ptp := { s.ptp with table := t } }.put PTP_STATUS.TBL_USED t.length

/-- A client's grant of a type: 0 Announce, 1 Sync, 2 Delay_Resp. -/
def PtpClient.grant (c : PtpClient) (type : Nat) : Option Grant :=
  match type with | 0 => c.ann | 1 => c.sync | _ => c.resp

/-- A client's grant of a type replaced. -/
def PtpClient.setGrant (c : PtpClient) (type : Nat) (g : Option Grant) : PtpClient :=
  match type with | 0 => { c with ann := g } | 1 => { c with sync := g } | _ => { c with resp := g }

/-- Whether a client holds any grant. -/
def PtpClient.held (c : PtpClient) : Bool := c.ann.isSome || c.sync.isSome || c.resp.isSome

/-- An entry stored, or freed when its last grant is gone. -/
def ptpStore (e : Nat) (c : PtpClient) (s : State) : State :=
  ptpPutTable (if c.held then tableSet s.ptp.table e c else tableErase s.ptp.table e) s

/-- The destination of a client. -/
def PtpClient.dest (c : PtpClient) : PtpDest := ⟨c.mac, c.ip⟩

/-- GRANT_EXPIRY (R246): the sweep ends the grants whose time has come and frees entries without any. -/
def ptpExpire (at_ : Nat) (s : State) : State :=
  let t := s.timeAt at_
  let keep := fun (g : Option Grant) => g.filter fun g => decide (t < g.ends)
  let table := s.ptp.table.map fun e =>
    (e.1, { e.2 with ann := keep e.2.ann, sync := keep e.2.sync, resp := keep e.2.resp })
  ptpPutTable (table.filter fun e => e.2.held) s

/-- GRANT_EXPIRY. -/
def execGrantExpiry (at_ : Nat) (s : State) : Host.Outcome State Fault Refusal := .next (ptpExpire at_ s)

/-- A write of PTP_TBL_IDX: the entry shown. -/
def ptpShow (idx at_ : Nat) (s : State) : State :=
  let s := s.put PTP_TBL_IDX.IDX idx
  match tableGet s.ptp.table idx with
  | none => [0, 1, 2, 3].foldl (fun s w => s.setReg (PTP_TBL_ADDR_W.ofs w) 0) (s.setReg PTP_TBL_ENTRY.ofs 0)
  | some c =>
    let ends := ([c.ann, c.sync, c.resp].filterMap id).map (·.ends)
    let left := (ends.foldl max 0 - s.timeAt at_) / secUnit
    let s := ((s.put PTP_TBL_ENTRY.VALID 1).putB PTP_TBL_ENTRY.V6 (c.ip.length == 16)).put PTP_TBL_ENTRY.INST c.inst
    let s := s.put PTP_TBL_ENTRY.GRANTS (bit c.ann.isSome + 2 * bit c.sync.isSome + 4 * bit c.resp.isSome)
    let s := s.putI PTP_TBL_ENTRY.LOG_SYNC (match c.sync with | some g => g.log | none => 0)
    let s := s.put PTP_TBL_ENTRY.EXPIRY left.toNat
    [0, 1, 2, 3].foldl (fun s w => s.setReg (PTP_TBL_ADDR_W.ofs w) (BitVec.ofNat 32 (leNat ((c.ip.drop (4 * w)).take 4)))) s

/-! ### Sync and Follow_Up (R241 to R243) -/

/-- The planned instant of a Sync (R241, R246): for a unicast client spread over the granted period. Profile 2 has no group. -/
def ptpSyncInstant (s : State) (i : Nat) (client : Option Nat) (k : Nat) : Option Int :=
  match client with
  | none => if ptpProfile s i = 2 then none else some (ptpTimes k (ptpLogSync s i) + i * 1000 * nsUnit)
  | some e =>
    match (tableGet s.ptp.table e).bind (·.sync) with
    | some g =>
      let p := ptpTimes 1 g.log
      some (k * p + (e % 1024) * p / 1024 / nsUnit * nsUnit)
    | none => none

/-- The destination of a message to a unicast client or to the group. -/
def ptpDest (s : State) (i : Nat) (client : Option Nat) : PtpDest :=
  match client.bind (tableGet s.ptp.table) with
  | some c => c.dest
  | none => ptpGroup s i

/-- The logMessageInterval of a Sync. -/
def ptpSyncLog (s : State) (i : Nat) (client : Option Nat) : Int :=
  match (client.bind (tableGet s.ptp.table)).bind (·.sync) with
  | some g => g.log
  | none => ptpLogSync s i

/-- A Sync with an origin timestamp and a correction (R242, R243). -/
def ptpSync (s : State) (i : Nat) (client : Option Nat) (twoStep : Bool) (stamp : List Byte) (corr : Int) : List Byte :=
  ptpBytes s i 0 (bit twoStep * 0x200 + bit client.isSome * 0x400) corr (ptpInst s i).seqSync 0 (ptpSyncLog s i client) stamp

/-- The next Sync takes the next sequence number. -/
def ptpNextSync (i : Nat) (s : State) : State :=
  ptpSet i (fun (x : PtpInst) => { x with seqSync := (x.seqSync + 1) % 65536 }) s

/-- A one-step Sync planned for an instant (R242): reserved, built and handed over at 400 ns before it. -/
def ptpOneStep (i : Nat) (client : Option Nat) (t : Int) (g : BlockGrid) (s : State) : State :=
  let n := ptpPort s i
  let d := ptpDest s i client
  let build := fun (t1 : Int) => ptpFrame s i d true (ptpSync s i client false (ptpTime t1) (ptpSub t1))
  let len := max 60 (build 0).length + 4
  let now := lineOf t - 400 * lineNs
  match depChoose s n len g (lineOf (t - portTxd s n)) now (s.get PTP_SLACK.SLACK * lineNs) with
  | none => (ownerDropped (.sync i) s).deadline 0 (now / 25)
  | some td =>
    if depRoom s n then
      let fr : EthFrame := { bytes := build (td / 25 + portTxd s n), cls := s.get (EP_CFG.DEP_TC n), ts := none, gated := true,
                             inst := some i }
      depReserve n (.sync i) td len g (some fr) s.freeNext
    else depRefuse n (.sync i) now s

/-- What the Follow_Up of the next two-step Sync needs (R243). -/
def ptpAwait (s : State) (i : Nat) (client : Option Nat) : PtpAwait :=
  let d := ptpDest s i client
  { seq := (ptpInst s i).seqSync, unicast := client.isSome, mac := d.mac, ip := d.ip, log := ptpSyncLog s i client }

/-- A two-step Sync (R243): not scheduled, with a request for a timestamp entry. -/
def ptpTwoStep (i : Nat) (client : Option Nat) (s : State) : State :=
  let seq := (ptpInst s i).seqSync
  let msg := ptpSync s i client true (List.replicate 10 0) 0
  ptpQueue i (ptpDest s i client) true (some (.ptp i seq)) msg
    (ptpSet i (fun (x : PtpInst) => { x with awaiting := x.awaiting ++ [ptpAwait s i client] }) s)

/-- SYNC_INSTANT (R241 to R243). -/
def ptpSyncTx (i : Nat) (client : Option Nat) (k : Nat) (g : BlockGrid) (s : State) : State :=
  match ptpServer s i, ptpSyncInstant s i client k with
  | true, some t => ptpNextSync i (if s.flag (PTP_INST_CFG.TWO_STEP i) then ptpTwoStep i client s else ptpOneStep i client t g s)
  | _, _ => s

/-- SYNC_INSTANT. -/
def execSyncInstant (i : Fin 16) (client : Option (Fin 16384)) (k : Nat) (g : BlockGrid) (s : State) :
    Host.Outcome State Fault Refusal :=
  .next (ptpSyncTx i (client.map (·.val)) k g s)

/-- A Follow_Up suppressed (R243). -/
def ptpMiss (i : Nat) (s : State) : State := ptpFlag i (PTP_INST_FLAGS.TSQ_MISS i) (s.count (PTP_INST_CNT0.TSQ_MISS i) 1)

/-- The Follow_Up of a two-step Sync whose entry has come (R243). -/
def ptpFollowUp (i : Nat) (a : PtpAwait) (e : TsEntry) (s : State) : State :=
  if e.dropped then ptpMiss i s
  else
    ptpQueue i ⟨a.mac, a.ip⟩ false none
      (ptpBytes s i 8 (bit a.unicast * 0x400) (ptpSub e.time) a.seq 2 a.log (ptpTime e.time)) s

/-- The queue entry of an instance. -/
def TsEntry.isPtp (i : Nat) (e : TsEntry) : Bool := match e.req with | .ptp j _ => j == i | .host _ => false

/-- FOLLOW_UP (R243, R194): the instance takes its oldest entry from the queue. -/
def ptpTakeEntry (i : Nat) (s : State) : State :=
  let n := ptpPort s i
  match (macPort s n).tsq.find? (TsEntry.isPtp i) with
  | none => s
  | some e =>
    let s := tsqCount n (macSet n (fun (p : MacPort) => { p with tsq := dropFirst (TsEntry.isPtp i) p.tsq }) s)
    let id := match e.req with | .ptp _ id => id | .host id => id
    match (ptpInst s i).awaiting.find? fun a => a.seq == id with
    | some a =>
      ptpFollowUp i a e
        (ptpSet i (fun (x : PtpInst) => { x with awaiting := dropFirst (fun a => a.seq == id) x.awaiting }) s)
    | none => s

/-- FOLLOW_UP. -/
def execFollowUp (i : Fin 16) (s : State) : Host.Outcome State Fault Refusal := .next (ptpTakeEntry i s)

/-- TSQ_TIMEOUT (R243): the oldest awaited entry has not come within 1 ms. -/
def execTsqTimeout (i : Fin 16) (s : State) : Host.Outcome State Fault Refusal :=
  .next (match (ptpInst s i).awaiting with
    | _ :: rest => ptpMiss i (ptpSet i (fun (x : PtpInst) => { x with awaiting := rest }) s)
    | [] => s)

/-! ### Delay_Req (R244) -/

/-- Whether a client has an unexpired grant for Delay_Resp. -/
def ptpRespGrant (s : State) (i : Nat) (m : PtpMsg) : Bool :=
  match ptpEntry s (ptpPort s i) m with | some e => e.2.resp.isSome | none => false

/-- Whether a Delay_Req is served as unicast: it came as unicast, or the profile serves by grant alone (R241). -/
def ptpAlone (s : State) (i : Nat) (m : PtpMsg) : Bool := m.unicast || ptpProfile s i == 2

/-- The Delay_Resp to a Delay_Req stamped t4 (R244). -/
def ptpDelayResp (i : Nat) (m : PtpMsg) (t4 : Int) (s : State) : State :=
  let body := ptpTime t4 ++ beBytes 8 m.id.clock.toNat ++ beBytes 2 m.id.port.toNat
  let d := if ptpAlone s i m then ⟨m.mac, m.ip⟩ else ptpGroup s i
  ptpQueue i d false none
    (ptpBytes s i 9 (bit (ptpAlone s i m) * 0x400) (m.correction.toInt - ptpSub t4) m.seq.toNat 3
      (s.getI (PTP_INST_RATES.LOG_DELAY i)) body) s

/-- A received Delay_Req (R244): answered, discarded or denied. -/
def ptpDelayReq (i : Nat) (m : PtpMsg) (x : PtpRx) (s : State) : State :=
  if x.unlocked then s.count (PTP_INST_CNT1.DISCARD i) 1
  else if ptpAlone s i m && !ptpRespGrant s i m then s.count (PTP_INST_CNT1.DENIED i) 1
  else ptpDelayResp i m x.stamp s

/-- A waiting Delay_Req. -/
def isDelayReq (m : PtpMsg) (at_ : Nat) : PtpRx → Bool := PtpRx.isFor 1 m (some at_) fun _ => true

/-- DELAY_REQ: the Delay_Req that arrived at an instant. -/
def execDelayReq (i : Fin 16) (m : PtpMsg) (at_ : Nat) (s : State) : Host.Outcome State Fault Refusal :=
  .next (match ptpServer s i, ptpWaiting s i (isDelayReq m at_) with
    | true, some x => ptpDelayReq i m x (ptpTaken i (isDelayReq m at_) s)
    | _, _ => s)

/-! ### Unicast negotiation (R245) -/

/-- The messageType nibble of a grant type. -/
def ptpTypeCode (type : Nat) : Nat := match type with | 0 => 0xB | 1 => 0 | _ => 9

/-- A Signaling message with one TLV to a port. -/
def ptpSignal (i : Nat) (d : PtpDest) (target : PtpPort) (tlv : List Byte) (s : State) : State :=
  let seq := (ptpInst s i).seqSig
  ptpQueue i d false none
    (ptpBytes s i 0xC 0x400 0 seq 5 0x7F (beBytes 8 target.clock.toNat ++ beBytes 2 target.port.toNat ++ tlv))
    (ptpSet i (fun (x : PtpInst) => { x with seqSig := (x.seqSig + 1) % 65536 }) s)

/-- A GRANT_UNICAST_TRANSMISSION TLV. -/
def ptpGrantTlv (type : Nat) (log : Byte) (dur : Nat) : List Byte :=
  beBytes 2 5 ++ beBytes 2 8 ++ [BitVec.ofNat 8 (16 * ptpTypeCode type), log] ++ beBytes 4 dur ++ [0, 1]

/-- Whether a request's interval and duration can be granted (R245). -/
def ptpGrantable (type : Nat) (log : Byte) (dur : Nat) : Bool :=
  (if type = 0 then decide (-3 ≤ log.toInt ∧ log.toInt ≤ 3) else decide (-7 ≤ log.toInt ∧ log.toInt ≤ 4)) && decide (10 ≤ dur)

/-- A denied request (R245). -/
def ptpDeny (i : Nat) (m : PtpMsg) (type : Nat) (log : Byte) (s : State) : State :=
  ptpSignal i ⟨m.mac, m.ip⟩ m.id (ptpGrantTlv type log 0)
    (ptpFlag i (PTP_INST_FLAGS.DENIED i) (s.count (PTP_INST_CNT1.DENIED i) 1))

/-- The entry that a request of a client may use: its own, or the lowest free one (R245). -/
def ptpPlace (s : State) (i : Nat) (m : PtpMsg) : Option (Nat × PtpClient) :=
  match ptpEntry s (ptpPort s i) m with
  | some e => some e
  | none => (ptpFreeEntry 16384 0 s.ptp.table).map fun e =>
      (e, { inst := i, port := ptpPort s i, mac := m.mac, ip := m.ip, id := m.id, ann := none, sync := none, resp := none })

/-- A REQUEST_UNICAST_TRANSMISSION (R245): granted or denied. -/
def ptpRequest (i : Nat) (m : PtpMsg) (type : Nat) (log : Byte) (dur : Nat) (at_ : Nat) (s : State) : State :=
  if !ptpGrantable type log dur then ptpDeny i m type log s
  else match ptpPlace s i m with
    | none => ptpDeny i m type log (s.setFlag PTP_FLAGS.TBL_FULL_EV 176)
    | some e =>
      let granted := min dur (s.get PTP_GRANT_CFG.MAX_DUR)
      let g : Grant := { log := log.toInt, ends := s.timeAt at_ + granted * secUnit }
      let c : PtpClient := { (e.2.setGrant type (some g)) with inst := i, mac := m.mac }
      ptpSignal i ⟨m.mac, m.ip⟩ m.id (ptpGrantTlv type log granted) (ptpStore e.1 c s)

/-- Whether an instance serves unicast clients (R245). -/
def ptpUnicast (s : State) (i : Nat) : Bool := ptpServer s i && s.flag (PTP_INST_CFG.UNICAST i)

/-- A waiting REQUEST_UNICAST_TRANSMISSION TLV. -/
def isRequest (m : PtpMsg) (type : Nat) (log : Byte) (dur : Nat) (at_ : Nat) : PtpRx → Bool :=
  PtpRx.isFor 0xC m (some at_) fun b =>
    b == beBytes 2 4 ++ beBytes 2 6 ++ [BitVec.ofNat 8 (16 * ptpTypeCode type), log] ++ beBytes 4 dur

/-- UNICAST_REQUEST: a request TLV that arrived at an instant. -/
def execUnicastRequest (i : Fin 16) (m : PtpMsg) (type : Fin 3) (log : BitVec 8) (dur : BitVec 32) (at_ : Nat) (s : State) :
    Host.Outcome State Fault Refusal :=
  let is := isRequest m type log dur.toNat at_
  .next (s.onlyIf (ptpUnicast s i && (ptpWaiting s i is).isSome) fun s =>
    ptpRequest i m type log dur.toNat at_ (ptpTaken i is s))

/-- A CANCEL_UNICAST_TRANSMISSION (R245): the grant ends and the cancel is acknowledged. -/
def ptpCancel (i : Nat) (m : PtpMsg) (type : Nat) (s : State) : State :=
  let s := match ptpEntry s (ptpPort s i) m with
    | some e => ptpStore e.1 (e.2.setGrant type none) s
    | none => s
  ptpSignal i ⟨m.mac, m.ip⟩ m.id (beBytes 2 7 ++ beBytes 2 2 ++ [BitVec.ofNat 8 (16 * ptpTypeCode type), 0]) s

/-- A waiting CANCEL_UNICAST_TRANSMISSION TLV. -/
def isCancel (m : PtpMsg) (type : Nat) : PtpRx → Bool :=
  PtpRx.isFor 0xC m none fun b => b.take 5 == beBytes 2 6 ++ beBytes 2 2 ++ [BitVec.ofNat 8 (16 * ptpTypeCode type)]

/-- UNICAST_CANCEL. -/
def execUnicastCancel (i : Fin 16) (m : PtpMsg) (type : Fin 3) (s : State) : Host.Outcome State Fault Refusal :=
  .next (s.onlyIf (ptpUnicast s i && (ptpWaiting s i (isCancel m type)).isSome) fun s =>
    ptpCancel i m type (ptpTaken i (isCancel m type) s))

/-! ### Announce (R247 to R249) -/

/-- clockClass (R247). The table has no row for a status loop that is OFF: a free value. -/
def ptpClass (s : State) (i : Nat) : Nat :=
  let k := loopStatus s
  let zero := ptpProfile s i == 0
  if s.flag (PTP_INST_OVR.CLASS_OVR_EN i) then s.get (PTP_INST_DS.CLASS_OVR i)
  else if ansUnverified s then 248
  else if k = 24 then (if zero then 13 else 6)
  else
    let g := s.get (LOOP_STATUS.GRADE k)
    match loopState s k with
    | 0 => s.freeVal % 256
    | 2 => if g ≤ 4 then 6 else if zero then 52 else 165
    | 3 => if g ≤ 4 then 6 else if zero then 52 else 165
    | 4 => if g ≤ 4 then 6 else if zero then 52 else 165
    | 5 =>
      if g ≤ 4 then 7 else if zero then 52
      else if g = 5 then 140 else if g = 6 then 150 else 160
    | _ => if zero then 52 else 165

/-- The clockAccuracy codes 0x17 to 0x30 with their bounds in 0.1 ps (R98, R248). -/
def ptpBounds : List (Nat × Nat) :=
  [(0x17, 10), (0x18, 25), (0x19, 100), (0x1A, 250), (0x1B, 1000), (0x1C, 2500), (0x1D, 10 ^ 4), (0x1E, 25000),
   (0x1F, 10 ^ 5), (0x20, 250000), (0x21, 10 ^ 6), (0x22, 2500000)] ++
  [(0x23, 10 ^ 7), (0x24, 25000000), (0x25, 10 ^ 8), (0x26, 250000000), (0x27, 10 ^ 9), (0x28, 2500000000), (0x29, 10 ^ 10),
   (0x2A, 25000000000), (0x2B, 10 ^ 11), (0x2C, 250000000000), (0x2D, 10 ^ 12), (0x2E, 2500000000000), (0x2F, 10 ^ 13),
   (0x30, 10 ^ 14)]

/-- clockAccuracy (R248). -/
def ptpAccuracy (s : State) : Nat :=
  if ansUnverified s then 0xFE
  else
    let u := s.get64 ENS_UNC_PH.ofs
    match ptpBounds.find? fun b => decide (u * 10000 ≤ b.2 * 65536) with
    | some b => b.1
    | none => 0x31

/-- timeSource (R248). A status loop without an incumbent has no entry: a free value. -/
def ptpTimeSource (s : State) : Nat :=
  let k := loopStatus s
  if ansUnverified s then 0xA0
  else if s.get TB_OWNER.KIND = 1 then 0x10
  else if k = 24 then 0xA0
  else match rgsIncumbent s k with
    | some n => (match rgsType s n with | 1 => 0x90 | 2 => 0x40 | 3 => 0x40 | 4 => 0x40 | 5 => 0x20 | _ => 0x90)
    | none => s.freeVal % 256

/-- The provenance TLV of an Announce (R249): a record issued in the core cycle of its transmission is not yet seen by it (R291). -/
def ptpProvTlv (s : State) (at_ : Nat) : List Byte :=
  let v := provAsOf s fun p => decide (s.pivotAt at_ / coreUnits ≤ p / coreUnits)
  if s.flag PTP_CFG.PROV_EN then
    [0, 3, 0, 34] ++ beBytes 3 (s.get PTP_PROV_ORG.ORG_ID) ++ [0, 0, 1] ++ provRecord v ++ provFlags v (ansUnverified s) ++ [0, 0]
  else []

/-- An Announce of a server instance (R247 to R249). -/
def ptpAnnounce (s : State) (i : Nat) (client : Option Nat) (at_ : Nat) : List Byte :=
  let un := ansUnverified s
  let traced := !un && !s.flag ENS_STATUS.UNTRACED
  let flags := bit client.isSome * 0x400 + bit s.tb.warn.leap61 + 2 * bit s.tb.warn.leap59 + 4 * bit (!un) + 8 +
    16 * bit traced + 32 * bit traced
  let log := match (client.bind (tableGet s.ptp.table)).bind (·.ann) with | some g => g.log | none => ptpLogAnn s i
  let body := List.replicate 10 0 ++ beBytes 2 (patternOf 16 s.tb.utcOfs) ++
    [0, BitVec.ofNat 8 (s.get (PTP_INST_DS.PRIORITY1 i)), BitVec.ofNat 8 (ptpClass s i), BitVec.ofNat 8 (ptpAccuracy s)] ++
    beBytes 2 (s.get (PTP_INST_OVR.OSLV i)) ++ [BitVec.ofNat 8 (s.get (PTP_INST_DS.PRIORITY2 i))] ++
    beBytes 8 (s.get64 PTP_CLOCK_ID.ofs) ++ [0, 0, BitVec.ofNat 8 (ptpTimeSource s)] ++ ptpProvTlv s at_
  ptpBytes s i 0xB flags 0 (ptpInst s i).seqAnn 5 log body

/-- Whether an Announce may be sent (R241): to the group, but under profile 2, or to a client that holds an Announce grant. -/
def ptpMayAnnounce (s : State) (i : Nat) (client : Option Nat) : Bool :=
  match client with | some e => ((tableGet s.ptp.table e).bind (·.ann)).isSome | none => ptpProfile s i != 2

/-- ANNOUNCE_TX (R247). -/
def ptpAnnounceTx (i : Nat) (client : Option Nat) (at_ : Nat) (s : State) : State :=
  if ptpServer s i && ptpMayAnnounce s i client then
    let msg := ptpAnnounce s i client at_
    let s := (s.put (PTP_INST_STATUS.CLASS_TX i) (ptpClass s i)).put (PTP_INST_STATUS.ACC_TX i) (ptpAccuracy s)
    ptpSet i (fun (x : PtpInst) => { x with seqAnn := (x.seqAnn + 1) % 65536 }) (ptpQueue i (ptpDest s i client) false none msg s)
  else s

/-- ANNOUNCE_TX: transmitted at an instant. -/
def execAnnounceTx (i : Fin 16) (client : Option (Fin 16384)) (at_ : Nat) (s : State) : Host.Outcome State Fault Refusal :=
  .next (ptpAnnounceTx i (client.map (·.val)) at_ s)

/-! ### Client instances: the choice of a master (R250) -/

/-- PORT_STATE of an instance. -/
def ptpState (s : State) (i : Nat) : Nat := s.get (PTP_INST_STATUS.PORT_STATE i)

/-- PORT_STATE written. -/
def ptpEnter (i st : Nat) (s : State) : State := s.put (PTP_INST_STATUS.PORT_STATE i) st

/-- The path state of an instance cleared (R250, R255). -/
def ptpClearPath (i : Nat) (s : State) : State :=
  let s := ptpSet i (fun (x : PtpInst) =>
    { x with last := none, exch := [], refs := [], run := [], nRaw := 0, nHeld := 0 }) s
  (s.put (PTP_INST_STATUS.PATH_STATE i) 0).putS (PTP_CLI_DELTA_PH.ofs i) 0

/-- The local priority of a master (R250). -/
def ptpLocalPrio (s : State) (i : Nat) (f : Foreign) : Nat :=
  if ptpProfile s i = 2 then
    match (ptpInst s i).um.findSome? fun e => e.bind fun u => if u.1 = f.msg.ip then some u.2 else none with
    | some p => p
    | none => 255
  else s.get (PTP_INST_DS.LOCAL_PRIO i)

/-- Whether one list of numbers comes before another, compared left to right. -/
def lexLess : List Nat → List Nat → Bool
  | a :: as, b :: bs => a < b || (a == b && lexLess as bs)
  | _, _ => false

/-- Whether a dataset is better than another: clause 9.3 of IEEE 1588 for profile 0, the alternate BMCA of G.8275.1 and G.8275.2
for the others (assumption 18). -/
def ptpBetter (s : State) (i : Nat) (a b : Foreign) : Bool :=
  let sender := fun (f : Foreign) => [f.data.steps.toNat, f.msg.id.clock.toNat, f.msg.id.port.toNat]
  if ptpProfile s i = 0 then
    if a.data.gm = b.data.gm then lexLess (sender a) (sender b)
    else
      let key := fun (f : Foreign) => [f.data.prio1.toNat, f.data.cls.toNat, f.data.acc.toNat, f.data.oslv.toNat,
        f.data.prio2.toNat, f.data.gm.toNat]
      lexLess (key a) (key b)
  else
    let key := fun (f : Foreign) => [f.data.cls.toNat, f.data.acc.toNat, f.data.oslv.toNat, f.data.prio2.toNat,
      ptpLocalPrio s i f]
    if key a ≠ key b then lexLess (key a) (key b)
    else if a.data.cls.toNat ≤ 127 ∨ a.data.gm = b.data.gm then lexLess (sender a) (sender b)
    else decide (a.data.gm.toNat < b.data.gm.toNat)

/-- Whether a foreign master has qualified: two Announces within four announce intervals (R250). -/
def ptpQualified (s : State) (i : Nat) (f : Foreign) : Bool :=
  match f.times with
  | t :: t' :: _ => decide (t - t' ≤ ptpTimes 4 (s.getI (PTP_INST_RATES.LOG_ANN i)))
  | _ => false

/-- The best qualified foreign master (R250). -/
def ptpBest (s : State) (i : Nat) : Option Foreign :=
  ((ptpInst s i).foreign.filter (ptpQualified s i)).foldl (fun best f =>
    match best with
    | some b => if ptpBetter s i f b then some f else best
    | none => some f) none

/-- The slots that an instance feeds (R240). -/
def ptpSlots (i : Nat) (f : Nat → State → State) (s : State) : State := rgsForSource 4 i f s

/-- The chosen master's grade posted to the slot (R98, R250). -/
def ptpPostGrade (i : Nat) (f : Foreign) (s : State) : State :=
  ptpSlots i (fun n => rgsMessage n (f.data.cls.toNat + 256 * f.data.acc.toNat)) s

/-- The choice run (R250): a first master, or another one. -/
def ptpChoose (i : Nat) (s : State) : State :=
  match ptpBest s i with
  | none => s
  | some f =>
    let old := (ptpInst s i).chosen
    let s := (ptpSet i (fun (x : PtpInst) => { x with chosen := some f.msg.id }) s).put64 (PTP_CLI_MASTER.ofs i) f.msg.id.clock.toNat
    let s :=
      if ptpState s i = 1 then ptpClearPath i (ptpEnter i 2 s)
      else if old = some f.msg.id then s
      else ptpFlag i (PTP_INST_FLAGS.MASTER_CHANGE i) (ptpClearPath i (ptpEnter i 2 s))
    ptpPostGrade i f s

/-- Whether a client takes Announces from a source: any, or under profile 2 a VALID unicast master (R250). -/
def ptpAllowed (s : State) (i : Nat) (m : PtpMsg) : Bool :=
  ptpProfile s i != 2 || (ptpInst s i).um.any fun e => match e with | some u => u.1 == m.ip | none => false

/-- ANNOUNCE_RX (R250). -/
def ptpAnnounceRx (i : Nat) (m : PtpMsg) (d : PtpData) (at_ : Nat) (s : State) : State :=
  let old := ((ptpInst s i).foreign.find? fun f => f.msg.id == m.id).map (·.times)
  let f : Foreign := { msg := m, data := d, times := (s.timeAt at_ :: old.getD []).take 2 }
  ptpChoose i (ptpSet i (fun (x : PtpInst) =>
    { x with foreign := x.foreign.filter (fun (g : Foreign) => g.msg.id != m.id) ++ [f] }) s)

/-- The grandmaster fields of an Announce, after its currentUtcOffset and a reserved byte (assumption 18). -/
def ptpDataBytes (d : PtpData) : List Byte :=
  [d.prio1, d.cls, d.acc] ++ beBytes 2 d.oslv.toNat ++ [d.prio2] ++ beBytes 8 d.gm.toNat ++ beBytes 2 d.steps.toNat

/-- A waiting Announce. -/
def isAnnounce (m : PtpMsg) (d : PtpData) (at_ : Nat) : PtpRx → Bool :=
  PtpRx.isFor 0xB m (some at_) fun b => (b.drop 13).take 16 == ptpDataBytes d

/-- ANNOUNCE_RX: the Announce that arrived at an instant. -/
def execAnnounceRx (i : Fin 16) (m : PtpMsg) (d : PtpData) (at_ : Nat) (s : State) : Host.Outcome State Fault Refusal :=
  .next (s.onlyIf (ptpClient s i && ptpAllowed s i m && (ptpWaiting s i (isAnnounce m d at_)).isSome) fun s =>
    ptpAnnounceRx i m d at_ (ptpTaken i (isAnnounce m d at_) s))

/-- ANNOUNCE_TIMEOUT (R250): the chosen master is silent. -/
def execAnnounceTimeout (i : Fin 16) (s : State) : Host.Outcome State Fault Refusal :=
  .next (s.onlyIf (ptpClient s i && (ptpState s i == 2 || ptpState s i == 3)) fun s =>
    let gone := (ptpInst s i).chosen
    let s := ptpSet i (fun (x : PtpInst) =>
      { x with chosen := none, foreign := x.foreign.filter fun (f : Foreign) => decide (some f.msg.id ≠ gone) }) s
    ptpSlots i (fun n => rgsSignal n false) (ptpEnter i 1 s))

/-- The destination of a unicast master: its MAC address as its messages have shown it, else free bytes. -/
def ptpMasterDest (s : State) (i : Nat) (ip : List Byte) : PtpDest × PtpPort :=
  match (ptpInst s i).foreign.find? fun f => f.msg.ip == ip with
  | some f => (⟨f.msg.mac, ip⟩, f.msg.id)
  | none => (⟨s.freeBytes 6, ip⟩, ⟨BitVec.allOnes 64, BitVec.allOnes 16⟩)

/-- A request TLV of a client (R250): 300 s of one message type. -/
def ptpRequestTlv (type : Nat) (log : Int) : List Byte :=
  beBytes 2 4 ++ beBytes 2 6 ++ [BitVec.ofNat 8 (16 * ptpTypeCode type), BitVec.ofInt 8 log] ++ beBytes 4 300

/-- The three grants of a unicast master requested, or cancelled (R250). -/
def ptpAsk (i : Nat) (ask : Bool) (u : Option (List Byte × Nat)) (s : State) : State :=
  match u with
  | none => s
  | some (ip, _) =>
    let d := ptpMasterDest s i ip
    let tlv := fun type log =>
      if ask then ptpRequestTlv type log else beBytes 2 6 ++ beBytes 2 2 ++ [BitVec.ofNat 8 (16 * ptpTypeCode type), 0]
    let tlvs := tlv 0 (s.getI (PTP_INST_RATES.LOG_ANN i)) ++ tlv 1 (s.getI (PTP_INST_RATES.LOG_SYNC i)) ++
      tlv 2 (s.getI (PTP_INST_RATES.LOG_DELAY i))
    ptpSignal i d.1 d.2 tlvs s

/-- GRANT_RENEW (R250): 60 s before a grant expires. -/
def execGrantRenew (i : Fin 16) (master : Fin 4) (s : State) : Host.Outcome State Fault Refusal :=
  .next (s.onlyIf (ptpClient s i && ptpProfile s i == 2) (ptpAsk i true ((ptpInst s i).um.getD master none)))

/-- A write of PTP_CLI_UM_CFG (R250): the entry is committed, and a running profile 2 client asks a new VALID entry for its grants. -/
def ptpUmWrite (i m : Nat) (v : Word) (s : State) : State :=
  let s := s.setReg (PTP_CLI_UM_CFG.ofs i m) (v &&& 0x3FF)
  let addr := ((List.range (if v.getLsbD 1 then 4 else 1)).map fun w => leBytes 4 (s.reg (PTP_CLI_UM_ADDR_W.ofs i m w)).toNat).flatten
  let e := if v.getLsbD 0 then some (addr, fieldOf v 2 8) else none
  let new := (ptpInst s i).um.getD m none != e
  let s := ptpSet i (fun (x : PtpInst) => { x with um := x.um.set m e }) s
  s.onlyIf (new && ptpClient s i && ptpProfile s i == 2) (ptpAsk i true e)

/-- EN of an instance written (R240, R250, R255). -/
def ptpEnable (i : Nat) (en : Bool) (s : State) : State :=
  let was := s.flag (PTP_INST_CFG.EN i)
  let client := s.flag (PTP_INST_BIND.ROLE i)
  let ask := fun (b : Bool) (s : State) =>
    s.onlyIf (client && ptpProfile s i == 2) fun s => (ptpInst s i).um.foldl (fun s u => ptpAsk i b u s) s
  if en && s.get64 PTP_CLOCK_ID.ofs == 0 then s.setFlag PTP_FLAGS.CFG_BAD 176
  else if en && !was then ask true (ptpEnter i (if client then 1 else 4) (s.put (PTP_INST_CFG.EN i) 1))
  else if was && !en then
    let s := ptpEnter i 0 ((ask false s).put (PTP_INST_CFG.EN i) 0)
    if client then
      ptpSlots i (fun n => rgsSignal n false)
        (ptpClearPath i (ptpSet i (fun (x : PtpInst) => { x with chosen := none, foreign := [], reqs := [], inbox := [] }) s))
    else ptpSet i (fun (x : PtpInst) => { x with inbox := [] }) s
  else s

/-- PTP_INSTANCE_ENABLE. -/
def execPtpInstanceEnable (i : Fin 16) (en : Bool) (s : State) : Host.Outcome State Fault Refusal :=
  .next (s.hostDo .ptp (some (10, i)) [PTP_INST_CFG.ofs i] (ptpEnable i en))

/-- A write of PTP_INST_CFG (R239): what R239 does not support is ignored with CFG_BAD. An instance is disabled under the fields it ran
with. -/
def ptpCfgWrite (i : Nat) (v : Word) (s : State) : State :=
  if ptpCfgOk v then
    let s := s.onlyIf (!v.getLsbD 0) (ptpEnable i false)
    ptpEnable i (v.getLsbD 0) (s.setReg (PTP_INST_CFG.ofs i) ((v &&& 0xFFFE) ||| (s.reg (PTP_INST_CFG.ofs i) &&& 1)))
  else s.setFlag PTP_FLAGS.CFG_BAD 176

/-! ### Exchanges (R251, R252) -/

/-- A timestamp field: seconds and nanoseconds. -/
def ptpStamp (sec : BitVec 48) (ns : BitVec 32) : List Byte := beBytes 6 sec.toNat ++ beBytes 4 ns.toNat

/-- A waiting Sync: a one-step Sync carries t1 itself. -/
def isSync (m : PtpMsg) (sec : BitVec 48) (ns : BitVec 32) (at_ : Nat) (x : PtpRx) : Bool :=
  PtpRx.isFor 0 m (some at_) (fun b => x.twoStep || b.take 10 == ptpStamp sec ns) x

/-- The waiting Follow_Up of a two-step Sync: the same master, domain and sequence number, with t1 and a correction of its own. -/
def isFollowUp (m : PtpMsg) (sec : BitVec 48) (ns : BitVec 32) (fu : BitVec 64) (x : PtpRx) : Bool :=
  x.type == 8 && x.msg.id == m.id && x.msg.domain == m.domain && x.msg.seq == m.seq && x.msg.correction == fu &&
  x.body.take 10 == ptpStamp sec ns

/-- SYNC_RX (R251): a Sync of the chosen master, with its Follow_Up's correction; t2 is its ingress stamp. -/
def ptpSyncRx (i : Nat) (m : PtpMsg) (t1 fu : Int) (x : PtpRx) (s : State) : State :=
  let y : SyncRec := { id := m.id, t1 := t1, t2 := x.stamp, corr := (m.correction.toInt + fu) * phUnit,
                       unlocked := x.unlocked, epoch := s.ptp.epoch }
  let pair := fun (r : ReqRec) =>
    if r.epoch = y.epoch ∧ y.t2 < r.t3 then { r with sync := some y } else r
  ptpSet i (fun (x : PtpInst) => { x with last := some y, reqs := x.reqs.map pair }) s

/-- SYNC_RX: the Sync that arrived at an instant, and with a two-step Sync its Follow_Up; a one-step Sync has no further correction. -/
def execSyncRx (i : Fin 16) (m : PtpMsg) (sec : BitVec 48) (ns : BitVec 32) (fu : BitVec 64) (at_ : Nat) (s : State) :
    Host.Outcome State Fault Refusal :=
  let t1 := timeOf sec.toNat ns.toNat 0
  .next (s.onlyIf (ptpClient s i && (ptpInst s i).chosen == some m.id) fun s =>
    match ptpWaiting s i (isSync m sec ns at_) with
    | none => s
    | some x =>
      if x.twoStep then
        s.onlyIf (ptpWaiting s i (isFollowUp m sec ns fu)).isSome fun s =>
          ptpSyncRx i m t1 fu.toInt x (ptpTaken i (isFollowUp m sec ns fu) (ptpTaken i (isSync m sec ns at_) s))
      else ptpSyncRx i m t1 0 x (ptpTaken i (isSync m sec ns at_) s))

/-- The destination of a client's Delay_Req: its master, or the group. -/
def ptpReqDest (s : State) (i : Nat) : PtpDest :=
  match (ptpInst s i).foreign.find? fun f => some f.msg.id == (ptpInst s i).chosen with
  | some f => if s.flag (PTP_INST_CFG.UNICAST i) then ⟨f.msg.mac, f.msg.ip⟩ else ptpGroup s i
  | none => ptpGroup s i

/-- DELAY_REQ_INSTANT (R251): at 400 ns before the planned instant t_d and t3 are fixed and the Delay_Req handed over. -/
def ptpReqTx (i k : Nat) (g : BlockGrid) (s : State) : State :=
  if !ptpClient s i || (ptpState s i != 2 && ptpState s i != 3) then s
  else
    let n := ptpPort s i
    let t := ptpTimes k (s.getI (PTP_INST_RATES.LOG_DELAY i)) + i * 1000 * nsUnit
    let seq := (ptpInst s i).seqDelay
    let s := ptpSet i (fun (x : PtpInst) => { x with seqDelay := (x.seqDelay + 1) % 65536 }) s
    let build := fun (t3 : Int) => ptpFrame s i (ptpReqDest s i) true
      (ptpBytes s i 1 (bit (s.flag (PTP_INST_CFG.UNICAST i)) * 0x400) 0 seq 1 0x7F (ptpTime t3))
    let len := max 60 (build 0).length + 4
    let now := lineOf t - 400 * lineNs
    match depChoose s n len g (lineOf (t - portTxd s n)) now (s.get PTP_SLACK.SLACK * lineNs) with
    | none => (ownerDropped (.delayReq i seq) s).deadline 0 (now / 25)
    | some td =>
      if depRoom s n then
        let t3 := td / 25 + portTxd s n
        let fr : EthFrame := { bytes := build t3, cls := s.get (EP_CFG.DEP_TC n), ts := none, gated := false,
                               inst := some i }
        let r : ReqRec := { seq := seq, t3 := t3, epoch := s.ptp.epoch, sync := (ptpInst s i).last }
        let s := ptpSet i (fun (x : PtpInst) => { x with reqs := x.reqs.filter (fun (q : ReqRec) => q.seq != seq) ++ [r] }) s
        depReserve n (.delayReq i seq) td len g (some fr) s.freeNext
      else depRefuse n (.delayReq i seq) now s

/-- DELAY_REQ_INSTANT. -/
def execDelayReqInstant (i : Fin 16) (k : Nat) (g : BlockGrid) (s : State) : Host.Outcome State Fault Refusal :=
  .next (ptpReqTx i k g s)

/-- DELAY_RESP_RX (R251, R252): the exchange formed, or discarded. -/
def ptpRespRx (i : Nat) (m : PtpMsg) (t4 : Int) (s : State) : State :=
  match (ptpInst s i).reqs.find? fun r => r.seq == m.seq.toNat with
    | none => s
    | some r =>
      let s := ptpSet i (fun (x : PtpInst) => { x with reqs := x.reqs.filter fun (q : ReqRec) => q.seq != r.seq }) s
      match r.sync with
      | none => s
      | some y =>
        if y.unlocked || y.epoch != r.epoch || y.id != m.id then s.count (PTP_INST_CNT1.DISCARD i) 1
        else
          let ms := y.t2 - y.t1 - y.corr
          let sm := t4 - r.t3 - m.correction.toInt * phUnit
          ptpSet i (fun (x : PtpInst) => { x with exch := x.exch ++ [(ms - sm, ms + sm)] }) s

/-- A waiting Delay_Resp with t4. -/
def isDelayResp (m : PtpMsg) (sec : BitVec 48) (ns : BitVec 32) : PtpRx → Bool :=
  PtpRx.isFor 9 m none fun b => b.take 10 == ptpStamp sec ns

/-- DELAY_RESP_RX. -/
def execDelayRespRx (i : Fin 16) (m : PtpMsg) (sec : BitVec 48) (ns : BitVec 32) (s : State) :
    Host.Outcome State Fault Refusal :=
  .next (s.onlyIf (ptpClient s i && (ptpWaiting s i (isDelayResp m sec ns)).isSome) fun s =>
    ptpRespRx i m (timeOf sec.toNat ns.toNat 0) (ptpTaken i (isDelayResp m sec ns) s))

/-! ### Samples, path steps and requalification (R251 to R255) -/

/-- An x delivered to the slot (R253). -/
def ptpDeliver (i : Nat) (x : Int) (s : State) : State :=
  let s := ptpSet i (fun (p : PtpInst) => { p with xLast := sat64 x }) (s.putS (PTP_CLI_X_PH.ofs i) x)
  ptpSlots i (fun n s => rgsSample n (sat64 x) (s.pivotAt 0) s) s

/-- PATH_STEP_LIM and CONFIRM_TOL in `_PH`, CONFIRM_CNT (R253, R254). -/
def ptpStepLim (s : State) (i : Nat) : Nat := 65536 * max 10 (s.get (PTP_CLI_PATH_LIM.PATH_STEP_LIM i))

@[inherit_doc ptpStepLim]
def ptpTol (s : State) (i : Nat) : Nat := 65536 * max 1 (s.get (PTP_CLI_PATH_LIM.CONFIRM_TOL i))

/-- Whether an instance is in REQUAL. -/
def ptpRequal (s : State) (i : Nat) : Bool := s.flag (PTP_INST_STATUS.PATH_STATE i)

/-- The delta of an instance, in `_PH`. -/
def ptpDelta (s : State) (i : Nat) : Int := s.getS (PTP_CLI_DELTA_PH.ofs i)

/-- Whether a round trip lies within the limit of rt_ref, the mean over the last accepted seconds (R253). -/
def ptpWithin (s : State) (i : Nat) (rt : Int) : Bool :=
  let refs := (ptpInst s i).refs
  decide (refs.length < 16) || decide ((rt * refs.length - refs.sum).natAbs ≤ ptpStepLim s i * refs.length)

/-- The third second beyond the limit (R253): the offset change goes into delta and the path must requalify. -/
def ptpPathStep (i : Nat) (run : List (Int × Int)) (s : State) : State :=
  let mean := Config.quot (run.map (·.1)).sum run.length
  let rt := Config.quot (run.map (·.2)).sum run.length
  let held := if ptpRequal s i then (ptpInst s i).xLast else (ptpInst s i).xPre
  let was := ptpRequal s i
  let s := s.putS (PTP_CLI_DELTA_PH.ofs i) (ptpDelta s i + mean - held)
  let s := ptpSet i (fun (x : PtpInst) => { x with refs := List.replicate 16 rt, run := [] }) s
  if was then s
  else
    let s := ptpSet i (fun (x : PtpInst) => { x with nRaw := 0, nHeld := 0 }) (s.put (PTP_INST_STATUS.PATH_STATE i) 1)
    ptpSlots i rgsPathStep (ptpFlag i (PTP_INST_FLAGS.PATH_STEP i) s)

/-- The sample of one second (R253): delivered, or held. -/
def ptpPath (i : Nat) (raw rt : Int) (s : State) : State :=
  if ptpWithin s i rt then
    let x := raw - ptpDelta s i
    let normal := !ptpRequal s i
    let s := ptpSet i (fun (p : PtpInst) =>
      { p with run := [], refs := (rt :: p.refs).take 16, xPre := if normal then sat64 x else p.xPre }) s
    ptpDeliver i x s
  else
    let run := (ptpInst s i).run ++ [(raw, rt)]
    if run.length = 3 then ptpPathStep i run s
    else ptpSet i (fun (p : PtpInst) => { p with run := run }) s

/-- The path reaccepted (R254). -/
def ptpReaccept (i : Nat) (s : State) : State :=
  let s := (s.putS (PTP_CLI_DELTA_PH.ofs i) 0).put (PTP_INST_STATUS.PATH_STATE i) 0
  let s := ptpSet i (fun (x : PtpInst) => { x with nRaw := 0, nHeld := 0 }) s
  ptpSlots i rgsPathOk (ptpFlag i (PTP_INST_FLAGS.REACCEPTED i) s)

/-- delta added to ASYM, within its limits (R254). -/
def ptpHold (i : Nat) (s : State) : State :=
  let lim : Int := 10 ^ 6 * 65536
  s.putS (PTP_CLI_ASYM_PH.ofs i) (clampInt (-lim) lim (s.getS (PTP_CLI_ASYM_PH.ofs i) + ptpDelta s i))

/-- Whether a slot can confirm a path (R254). -/
def ptpConfirms (s : State) (i n : Nat) : Bool :=
  (s.get64 (PTP_CLI_CONFIRM.ofs i)).testBit n && rgsStateOf s n == 4 && s.flag (RGS_SLOT_BIND.CAP n) &&
  !s.flag (RGS_SLOT_STATUS.DISPUTED n) && !(rgsType s n == 4 && s.get (RGS_SLOT_BIND.INDEX n) == i)

/-- Whether some confirming slot agrees with an offset (R254). -/
def ptpAgree (s : State) (i : Nat) (x : Int) : Bool :=
  rgsSlots.any fun n => ptpConfirms s i n && decide ((x - s.getS (RGS_SLOT_PH.ofs n)).natAbs ≤ ptpTol s i)

/-- One second of requalification (R254). -/
def ptpConfirm (i : Nat) (raw : Int) (s : State) : State :=
  let onRaw := ptpAgree s i raw
  let onHeld := !onRaw && ptpAgree s i (raw - ptpDelta s i)
  let s := ptpSet i (fun (x : PtpInst) =>
    { x with nRaw := if onRaw then x.nRaw + 1 else 0, nHeld := if onHeld then x.nHeld + 1 else 0 }) s
  let cnt := max 1 (s.get (PTP_CLI_SEL.CONFIRM_CNT i))
  if (ptpInst s i).nRaw = cnt then ptpReaccept i s
  else if (ptpInst s i).nHeld = cnt then ptpReaccept i (ptpHold i s)
  else s

/-- CLIENT_SAMPLE (R251, R253, R254): the sample of the second that ends; without a master (R250) there is none. -/
def ptpSample (i : Nat) (s : State) : State :=
  if !ptpClient s i then s
  else
    let ex := if ptpState s i = 2 ∨ ptpState s i = 3 then (ptpInst s i).exch else []
    let s := ptpSet i (fun (x : PtpInst) => { x with exch := [] }) s
    match (ex.map (·.2)).min? with
    | none => s
    | some least =>
      let win : Int := s.get (PTP_CLI_SEL.SEL_WIN i) * nsUnit
      let sel := ex.filter fun e => decide (e.2 ≤ least + win)
      let raw := Config.quot (sel.map (·.1)).sum (2 * sel.length * phUnit) - s.getS (PTP_CLI_ASYM_PH.ofs i)
      let rt := Config.quot (sel.map (·.2)).sum (sel.length * phUnit)
      let s := ((s.putS (PTP_CLI_RAW_PH.ofs i) raw).putS (PTP_CLI_RT_PH.ofs i) rt).count (PTP_INST_CNT2.EXCH i) sel.length
      let s := s.onlyIf (ptpState s i == 2) (ptpEnter i 3)
      let s := ptpSlots i (fun n => rgsSignal n true) s
      let requal := ptpRequal s i
      let s := ptpPath i raw rt s
      s.onlyIf requal (ptpConfirm i raw)

/-- CLIENT_SAMPLE. -/
def execClientSample (i : Fin 16) (s : State) : Host.Outcome State Fault Refusal := .next (ptpSample i s)

/-- EXCHANGE_TIMEOUT (R250): no selected exchange for 2 s. -/
def execExchangeTimeout (i : Fin 16) (s : State) : Host.Outcome State Fault Refusal :=
  .next (s.onlyIf (ptpClient s i && ptpState s i == 3) (ptpSlots i fun n => rgsSignal n false))

/-- A write of PTP_CLI_CMD (R255): both bits together are ignored, and so is a command outside REQUAL. -/
def ptpCommand (i : Nat) (raw held : Bool) (s : State) : State :=
  if ptpRequal s i && (raw != held) then (if raw then ptpReaccept i s else ptpReaccept i (ptpHold i s)) else s

/-- PTP_REACCEPT_RAW. -/
def execPtpReacceptRaw (i : Fin 16) (s : State) : Host.Outcome State Fault Refusal :=
  .next (s.hostDo .ptp (some (10, i)) [] (ptpCommand i true false))

/-- PTP_REACCEPT_HELD. -/
def execPtpReacceptHeld (i : Fin 16) (s : State) : Host.Outcome State Fault Refusal :=
  .next (s.hostDo .ptp (some (10, i)) [] (ptpCommand i false true))

/-! ### A step of device time (R252) -/

/-- A step of device time (R252): a Delay_Req that has not left yet will leave after it. -/
def ptpStep (s : State) : State :=
  let e := s.ptp.epoch + 1
  let waits := fun (i : Nat) (r : ReqRec) =>
    (macPort s (ptpPort s i)).resv.any fun v => decide (v.owner = .delayReq i r.seq) && !v.dead
  let s' := { s with ptp := { s.ptp with epoch := e } }
  (List.range 16).foldl (fun s' i => ptpSet i (fun (x : PtpInst) =>
    { x with reqs := x.reqs.map fun (r : ReqRec) => if waits i r then { r with epoch := e } else r }) s') s'

end Sys2Proof.Machine
end

