-- ==== Sys2Proof/Machine/Image.lean ====
section
/-! DEFINITION. The image container, what an image sets, and the checks an image must pass (R327 to R337). -/

namespace Sys2Proof.Machine

/-! ### The container (R327 to R330) -/

/-- The first byte of a bank (R327). -/
def bankBase (b : Nat) : Nat := 0x800000 * b

/-- A 16-bit field of a byte string (R7). -/
def u16 (bs : List Byte) (i : Nat) : Nat := leNat ((bs.drop i).take 2)

/-- A 32-bit field of a byte string (R7). -/
def u32 (bs : List Byte) (i : Nat) : Nat := leNat ((bs.drop i).take 4)

/-- One byte of a byte string. -/
def u8 (bs : List Byte) (i : Nat) : Nat := (bs.getD i 0).toNat

/-- The 64 bytes at a bank's start. -/
def bankHeader (nv : Memory) (b : Nat) : List Byte := memBytes nvErased nv (bankBase b) 64

/-- Whether a bank starts with MAGIC (R329). -/
def bankPresent (nv : Memory) (b : Nat) : Bool := u32 (bankHeader nv b) 0 == 0x47544357

/-- SEQ of a bank, 0 where it holds no image. -/
def bankSeq (nv : Memory) (b : Nat) : Nat := if bankPresent nv b then u32 (bankHeader nv b) 8 else 0

/-- The bytes of the image in a bank, IMAGE_LEN of them. -/
def bankImage (nv : Memory) (b : Nat) : List Byte := memBytes nvErased nv (bankBase b) (u32 (bankHeader nv b) 12)

/-- Whether an image is signed (R329). -/
def imgSigned (im : List Byte) : Bool := u16 im 18 % 2 == 1

/-- The offset of IMAGE_CRC (R328). -/
def imgCrcAt (im : List Byte) : Nat := im.length - (if imgSigned im then 68 else 4)

/-- One entry of the section table with its body (R330). -/
structure ImgSection where
  type : Nat
  ver : Nat
  ofs : Nat
  len : Nat
  crc : Nat
  body : List Byte
deriving DecidableEq, Repr

/-- The sections of an image. -/
def imgSections (im : List Byte) : List ImgSection :=
  (List.range (u16 im 16)).map fun i =>
    let e := (im.drop (64 + 16 * i)).take 16
    { type := u16 e 0, ver := u16 e 2, ofs := u32 e 4, len := u32 e 8, crc := u32 e 12, body := (im.drop (u32 e 4)).take (u32 e 8) }

/-- The body of the first section of a type, empty where there is none. -/
def imgBody (im : List Byte) (type : Nat) : List Byte :=
  match (imgSections im).find? fun x => x.type == type with
  | some x => x.body
  | none => []

/-- How many sections of a type an image holds. -/
def imgCount (im : List Byte) (type : Nat) : Nat := ((imgSections im).filter fun x => x.type == type).length

/-! ### FORMAT (R329 to R335) -/

/-- The header's fields in rule (R329), HDR_CRC apart. -/
def headerOk (h : List Byte) : Bool :=
  u16 h 4 == 1 && u16 h 6 == 64 && decide (1 ≤ u32 h 8 ∧ u32 h 8 ≤ 0xFFFFFFFE) && decide (u32 h 12 ≤ 8388608) &&
  decide (1 ≤ u16 h 16 ∧ u16 h 16 ≤ 64) && decide (u16 h 18 ≤ 1) && ((h.drop 40).take 20).all (· == 0) &&
  decide (64 + 16 * u16 h 16 + (if u16 h 18 % 2 = 1 then 68 else 4) ≤ u32 h 12)

/-- Whether two sections overlap. -/
def ImgSection.overlaps (a b : ImgSection) : Bool := decide (a.ofs < b.ofs + b.len ∧ b.ofs < a.ofs + a.len)

/-- No section of a list overlaps a later one. -/
def noOverlap : List ImgSection → Bool
  | [] => true
  | a :: t => t.all (fun b => !a.overlaps b) && noOverlap t

/-- The section table in rule (R330, R331). -/
def tableOk (im : List Byte) : Bool :=
  let ss := imgSections im
  ss.all (fun x => x.ver == 1 && x.ofs % 8 == 0 && decide (64 + 16 * ss.length ≤ x.ofs ∧ x.ofs + x.len ≤ imgCrcAt im) &&
    (decide (1 ≤ x.type ∧ x.type ≤ 4) || decide (0x8000 ≤ x.type))) &&
  noOverlap ss && imgCount im 1 == 1 && imgCount im 2 == 1 && decide (imgCount im 3 ≤ 1 ∧ imgCount im 4 ≤ 1)

/-- The section bodies in rule (R331, R332, R334). -/
def bodiesOk (im : List Byte) : Bool :=
  let d := imgBody im 1
  d.length == 32 && decide (u16 d 0 < 4096) && decide (u8 d 2 ≤ 5) && decide (u16 d 4 ≤ 3600) && u16 d 6 == 0 &&
  (imgBody im 2).length % 8 == 0 && (imgCount im 3 == 0 || (imgBody im 3).length == 8192)

/-! ### What an image sets (R332 to R335) -/

/-- One timing-matrix record (R333). -/
structure MatRec where
  kind : Nat
  a : Nat
  b : Nat
  c : Nat
  param : Nat
deriving DecidableEq, Repr

/-- The records of the timing matrix. -/
def imgMatrix (im : List Byte) : List MatRec :=
  let bs := imgBody im 2
  (List.range (bs.length / 8)).map fun i =>
    let e := bs.drop (8 * i)
    { kind := u8 e 0, a := u8 e 1, b := u8 e 2, c := u8 e 3, param := u32 e 4 }

/-- The number of sources of a slot TYPE (R92). -/
def slotSources (type : Nat) : Nat :=
  match type with
  | 1 => 128 | 2 => 128 | 3 => 8 | 4 => 16 | 5 => 4 | 6 => 8
  | _ => 0

/-- PARAM of a SLOT record inside the range of its TYPE (R333). -/
def slotParamOk (r : MatRec) : Bool :=
  match r.b with
  | 1 => decide (r.param < 4096 ∧ 1 ≤ r.param / 64 ∧ r.param / 64 ≤ 60)
  | 2 => decide (1000 ≤ r.param ∧ r.param ≤ 50000000)
  | _ => r.param == 0

/-- Whether a record names only instances that exist, with codes that R333 lists. -/
def MatRec.ok (r : MatRec) : Bool :=
  match r.kind with
  | 1 => decide (r.a < 64 ∧ r.c < slotSources r.b) && slotParamOk r
  | 2 => decide (r.a < 64 ∧ r.b < 24)
  | 3 => decide (r.a < 24 ∧ r.b ≤ 3)
  | 4 => decide (r.a ≤ 1 ∨ (r.a = 2 ∧ r.b < 24))
  | 5 => decide (r.a < 32 ∧ r.b < 128)
  | 6 => decide (r.a < 16 ∧ r.b ≤ 3 ∧ (r.b = 2 → r.c < 24) ∧ (r.b = 3 → r.c < 128))
  | 7 => decide (r.a < 8 ∧ r.b ≤ 3)
  | 8 => decide (r.a < 8 ∧ r.b < 128 ∧ r.c < 16)
  | 9 => decide (r.a < 16 ∧ r.b < 8 ∧ r.c ≤ 1)
  | 10 => decide (r.a < 8)
  | _ => false

/-- Whether two records duplicate each other (R333): one KIND for the same A; SLOT_LOOP may repeat with another B. -/
def MatRec.same (x y : MatRec) : Bool := x.kind == y.kind && x.a == y.a && (x.kind != 2 || x.b == y.b)

/-- No record of a list has a later duplicate. -/
def noDuplicate : List MatRec → Bool
  | [] => true
  | x :: t => t.all (fun y => !x.same y) && noDuplicate t

/-- A record that sets the bits of a mask at an offset. -/
def imgRec (ofs mask value : Nat) : ImgRec := ⟨ofs, BitVec.ofNat 32 mask, BitVec.ofNat 32 value⟩

/-- RGS_SLOT_BIND of a SLOT record (R92, R333): capability is time and frequency for every TYPE but 2 and 3. -/
def slotBindWord (r : MatRec) : Nat :=
  r.b + 16 * r.c + 4096 * bit (r.b != 2 && r.b != 3) +
    (if r.b = 1 then 8192 * (r.param % 64) + 2 ^ 19 * (r.param / 64 % 64) else 0)

/-- What a matrix record sets (R333). An unpowered bank holds READY of the bank and EN of its channels at 0. -/
def MatRec.recs (r : MatRec) : List ImgRec :=
  match r.kind with
  | 1 => [imgRec (RGS_SLOT_BIND.ofs r.a) 0x1FFFFFF (slotBindWord r),
          imgRec (RGS_SLOT_NOM.ofs r.a) 0x3FFFFFF (if r.b = 2 then r.param else 0)]
  | 2 => [imgRec (RGS_SLOT_LOOPS.ofs r.a) (2 ^ r.b) (2 ^ r.b)]
  | 3 => [imgRec (LOOP_INFO.ofs r.a) 7 (r.b + 4 * (r.c % 2))]
  | 4 => [imgRec TB_OWNER.ofs 0x7F (r.a + 4 * (if r.a = 2 then r.b else 0))]
  | 5 => [imgRec (MB_BIND.ofs r.a) 0xFF (r.b + 128)]
  | 6 => [imgRec (OUT_BIND.ofs r.a) 0x3FF (r.b + 4 * (r.c % 128) + 512)]
  | 7 => [imgRec (LK_BIND.ofs r.a) 0xFFFF (r.b + 4 * (r.c % 2) + 8 * (r.param % 4096) + 32768)]
  | 8 => [imgRec PAIR_BIND.ofs 0x7FFF (1 + 2 * r.a + 16 * r.b + 2048 * r.c)]
  | 9 => [imgRec (PTP_INST_BIND.ofs r.a) 0x1F (1 + 2 * r.c + 4 * r.b)]
  | 10 => if r.b % 2 = 1 then [] else [imgRec (EVT_BK_STATUS.ofs r.a) 1 0]
  | _ => []

/-- The banks an image leaves without power (R333). -/
def imgUnpowered (ms : List MatRec) : List Nat := (ms.filter fun r => r.kind == 10 && r.b % 2 == 0).map fun r => r.a

/-- What the classifier body of a pipeline sets (R334): rules, local addresses and ANS_CFG with EN taken as 0. -/
def classifierRecs (p : Nat) (bs : List Byte) : List ImgRec :=
  (List.range 64).flatMap (fun r =>
    [imgRec (ANS_RULE_K0.ofs p r) 0x3FFFFF (u32 bs (16 * r)), imgRec (ANS_RULE_K1.ofs p r) 0xFFFFFFFF (u32 bs (16 * r + 4)),
     imgRec (ANS_RULE_K2.ofs p r) 0xFFFF (u32 bs (16 * r + 8)), imgRec (ANS_RULE_ACT.ofs p r) 0x1FF (u32 bs (16 * r + 12))]) ++
  (List.range 16).flatMap (fun a =>
    (List.range 4).map (fun w => imgRec (ANS_ADDR_W.ofs p a w) 0xFFFFFFFF (u32 bs (1024 + 32 * a + 4 * w))) ++
      [imgRec (ANS_ADDR_CFG.ofs p a) 3 (u32 bs (1024 + 32 * a + 16))]) ++
  [imgRec (ANS_CFG.ofs p) 0x1FF (u32 bs 1536 / 2 * 2)]

/-- The DEFAULTS records (R335). -/
def imgDefaults (im : List Byte) : List ImgRec :=
  let bs := imgBody im 4
  (List.range (bs.length / 12)).map fun i => imgRec (u32 bs (12 * i)) (u32 bs (12 * i + 4)) (u32 bs (12 * i + 8))

/-- What the DEVICE body sets (R332): the collection address, which is 0 for a device that enables no link (R25), H and the
warm-up. -/
def deviceRecs (d : List Byte) (ms : List MatRec) : List ImgRec :=
  let linked := ms.any fun r => r.kind == 7 && r.b != 0
  [imgRec LK_GLB_STATUS.ofs (2 * 0xFFF) (2 * (if linked then u16 d 0 else 0)), imgRec LK_GLB_CFG.ofs 0xE (2 * u8 d 2),
   imgRec CAT_DEVICE.ofs 0xFFFF (u16 d 4)]

/-- Everything an image sets, in the order in which it is applied: the matrix, the device, the classifier, the defaults, and last
EN = 0 for every channel of a bank without power. -/
def imgRecs (im : List Byte) : List ImgRec :=
  let ms := (imgMatrix im).filter MatRec.ok
  let cls := imgBody im 3
  ms.flatMap MatRec.recs ++ deviceRecs (imgBody im 1) ms ++
    (if cls.length = 8192 then (List.range 4).flatMap fun p => classifierRecs p ((cls.drop (2048 * p)).take 2048) else []) ++
    imgDefaults im ++
    (imgUnpowered ms).flatMap fun b => (List.range 16).map fun m => imgRec (EVT_CH_CFG.ofs (16 * b + m)) 1 0

/-! ### The combination check (R337) -/

/-- A field under an image. -/
def imgField (img : List ImgRec) (f : Fld) : Nat := fieldOf (imageValue img f.ofs) f.lo f.width

/-- DETAIL 1: port modes and rates (R37, R178). -/
def combPorts (img : List ImgRec) : Bool :=
  let mode := fun n => imgField img (EP_CFG.MODE n)
  (List.range 8).all (fun n => portModeOk (mode n) (imgField img (EP_CFG.FEC n))) &&
  (List.range 4).all (fun p => decide (modeRate (mode (2 * p)) + modeRate (mode (2 * p + 1)) ≤ 100)) &&
  decide (((List.range 8).map fun n => modeRate (mode n)).sum ≤ 400)

/-- DETAIL 2: collection limits and link roles (R26, R299). -/
def combLinks (img : List ImgRec) : Bool :=
  let role := fun n => imgField img (LK_BIND.ROLE n)
  let ups := ((List.range 8).filter fun n => role n == 1).length
  let any := (List.range 8).any fun n => role n != 0
  decide (imgField img LK_GLB_CFG.TOPO_DEPTH ≤ 5) &&
  (List.range 8).all (fun n => imgField img (LK_BIND.PAIR n) == 0 || role n == 3) &&
  (!any || ups == bit (imgField img LK_GLB_STATUS.ADDR != 0))

/-- The slots that an image binds to a loop, with their TYPEs (R92). -/
def imgLoopTypes (img : List ImgRec) (k : Nat) : List Nat := (imgSlotsOf img k).map fun n => imgSlotType img n

/-- DETAIL 3: loop roles and capability (R94, R114). -/
def combLoops (img : List ImgRec) : Bool :=
  let role := fun k => imgField img (LOOP_INFO.ROLE k)
  let count := fun r => ((List.range 24).filter fun k => role k == r).length
  let owner := imgField img TB_OWNER.KIND
  decide (count 2 ≤ 1 ∧ count 3 ≤ 1) && (count 2 == 0 || owner == 2) && (count 3 == 0 || owner == 1) &&
  (List.range 24).all fun k =>
    imgField img (LOOP_INFO.NEEDS_TIME k) == 0 || (imgLoopTypes img k).all fun t => t != 2 && t != 3

/-- DETAIL 4: no loop with a slot of type 1, 4 or 5 has an epoch shorter than 1 s (R115). -/
def combEpochs (img : List ImgRec) : Bool :=
  (List.range 24).all fun k =>
    decide (4 ≤ imgField img (LOOP_CFG.EPOCH k)) || (imgLoopTypes img k).all fun t => t != 1 && t != 4 && t != 5

/-- DETAIL 5: the pins of ledger lines are held in GPIO input mode (R155). -/
def combPins (img : List ImgRec) : Bool :=
  (List.range 64).all fun n =>
    imgSlotType img n != 1 || imgField img (RGS_SLOT_BIND.LL_EN n) == 0 ||
      imgField img (TRG_CFG.MODE (imgField img (RGS_SLOT_BIND.LL_PIN n))) == 0

/-- DETAIL 6: the GNSS quotas (R163). -/
def combQuotas (img : List ImgRec) : Bool :=
  decide (((List.range 4).map fun n => imgField img (GNSS_PORT_CFG.TK_QUOTA n)).sum ≤ 256)

/-- DETAIL 7: a pipeline with an ANSWER_NTS rule has an enabled unit (R235). -/
def combNts (img : List ImgRec) : Bool :=
  let map := imgField img NTS_UNIT_MAP.MAP
  let en := imgField img NTS_UNIT_CFG.EN
  (List.range 4).all fun p =>
    (List.range 64).all (fun r => imgField img (ANS_RULE_K0.VALID p r) == 0 || imgField img (ANS_RULE_ACT.ACTION p r) != 4) ||
      (List.range 16).any fun u => map / 4 ^ u % 4 == p && en.testBit u

/-- DETAIL 9: the pair's link is a CROSS link with PAIR set, and its comparison output is of KIND 0 and emits 1 PPS (R314). -/
def combPair (img : List ImgRec) : Bool :=
  let out := imgField img PAIR_BIND.OUT
  imgField img PAIR_BIND.VALID == 0 ||
    (imgField img (LK_BIND.ROLE (imgField img PAIR_BIND.LINK)) == 3 &&
     imgField img (LK_BIND.PAIR (imgField img PAIR_BIND.LINK)) == 1 && imgField img (OUT_BIND.VALID out) == 1 &&
     imgField img (OUT_BIND.KIND out) == 0 && imgField img (OUT_CFG.MODE out) == 1 &&
     imgField img (OUT_PERIOD.PERIOD out) == 1000000000)

/-- DETAIL 11: a DEFAULTS record names a register and sets only bits of RW and RWS fields (R335). -/
def combDefaults (im : List Byte) : Bool :=
  (imgBody im 4).length % 12 == 0 &&
  (imgDefaults im).all fun r =>
    match regFind r.ofs with
    | some h => r.mask &&& ~~~(h.maskOf fun f => decide (f.acc = .rw ∨ f.acc = .rws ∨ f.acc = .rwsW1c)) == 0
    | none => false

/-- DETAIL 12: the PTP profiles, transports and domains (R239). -/
def combPtp (img : List ImgRec) : Bool := (List.range 16).all fun i => ptpCfgOk (imageValue img (PTP_INST_CFG.ofs i))

/-- DETAIL of the first rule of R337 that an image breaks, 0 for none. -/
def imgDetail (im : List Byte) (strap : Nat) : Nat :=
  let ms := imgMatrix im
  let img := imgRecs im
  if !combPorts img then 1
  else if !combLinks img then 2
  else if !combLoops img then 3
  else if !combEpochs img then 4
  else if !combPins img then 5
  else if !combQuotas img then 6
  else if !combNts img then 7
  else if !ms.all MatRec.ok || !noDuplicate ms then 8
  else if !combPair img then 9
  else if u8 (imgBody im 1) 3 ≠ strap then 10
  else if !combDefaults im then 11
  else if !combPtp img then 12
  else 0

/-! ### The check of a bank (R336) -/

/-- What a check of a bank gives: REASON, DETAIL. -/
def bankCheck (nv : Memory) (b : Nat) (key : Option (List Byte)) (sigReq : Bool) (strap : Nat) : Nat × Nat :=
  let h := bankHeader nv b
  if u32 h 0 ≠ 0x47544357 then (1, 0)
  else if crc32c (h.take 60) ≠ u32 h 60 then (2, 0)
  else if !headerOk h then (3, 0)
  else
    let im := bankImage nv b
    let at_ := imgCrcAt im
    if !tableOk im || !bodiesOk im then (3, 0)
    else if !(imgSections im).all (fun x => crc32c x.body == x.crc) then (4, 0)
    else if crc32c (im.take at_) ≠ u32 im at_ then (5, 0)
    else if imgSigned im && (match key with | some k => !ed25519.verify k (im.take (at_ + 4)) (im.drop (at_ + 4)) | none => false)
      then (6, 0)
    else if !imgSigned im && sigReq then (6, 0)
    else if u32 h 20 ≠ 0x9640 || !decide (u16 h 24 ≤ 1 ∧ 1 ≤ u16 h 26) then (7, 0)
    else
      let d := imgDetail im strap
      if d ≠ 0 then (8, d) else (0, 0)

end Sys2Proof.Machine
end

