-- ==== Sys2Proof/Machine/Ledger.lean ====
section
/-! DEFINITION. The provenance ledger: latching, signing, issuing and delivering records (14_provenance_ledger.md). -/

namespace Sys2Proof.Machine

/-! ### The status loop's indications (R127) -/

/-- The condition of STAT0: the status loop is LOCKED, or in a BRIDGE that it entered from LOCKED. -/
def statLocked (s : State) : Bool :=
  let k := loopStatus s
  decide (k < 24) &&
    (loopState s k == 3 || (loopState s k == 4 && (s.loops.getD k LoopState.reset).left == 3))

/-- The condition of STAT1: the status loop is in HOLDOVER. -/
def statHoldover (s : State) : Bool := decide (loopStatus s < 24) && loopState s (loopStatus s) == 5

/-! ### The record (R284 to R286) -/

/-- STATUS of a record (R285). -/
def provStatus (s : State) (newChain gap : Bool) : Nat :=
  s.get TB_STATUS.VERIFIED + 2 * bit (tbFreeMeas s) + 4 * s.get TB_STATUS.STEP_PENDING +
  8 * s.get ENS_STATUS.UNTRACED + 16 * bit (statLocked s) + 32 * bit (statHoldover s) +
  64 * s.get RGS_STATUS.ANY_DISPUTED + 128 * bit (s.get CAT_STATUS.SOURCE == 1) +
  256 * bit (s.get PAIR_STATUS.STATE == 4 || s.get PAIR_STATUS.STATE == 5) + 512 * bit newChain + 1024 * bit gap +
  2048 * s.get TB_LEAP_CFG.ARM

/-- Whether a slot has an entry in REFS (R286). -/
def provReferenced (s : State) (n : Nat) : Bool :=
  (s.get64 PROV_REF_MASK.ofs).testBit n && s.flag (RGS_SLOT_BIND.CAP n) && rgsStateOf s n != 0

/-- Milliseconds from a slot's last sample to a pivot instant, saturating; a slot with none saturates. -/
def provAge (s : State) (n piv : Nat) : Nat :=
  match (rgsSlot s n).heard with
  | some p => min ((piv - p) / tickUnits) 0xFFFFFFFF
  | none => 0xFFFFFFFF

/-- One entry of REFS (R286) at a pivot instant. -/
def provRef (s : State) (piv n : Nat) : List Byte :=
  let k := loopStatus s
  let inc := decide (k < 24) && rgsIncumbent s k == some n
  let unc := if rgsType s n == 1 && s.flag (RGS_SLOT_BIND.LL_EN n) then (s.reg (RGS_SLOT_UNC.ofs n)).toNat else 0xFFFFFFFF
  leBytes 1 n ++ leBytes 1 (rgsType s n) ++ leBytes 1 (rgsStateOf s n) ++
  leBytes 1 (s.get (RGS_SLOT_STATUS.GRADE n) + 16 * s.get (RGS_SLOT_STATUS.DISPUTED n) + 32 * bit inc) ++
  leBytes 4 unc ++ leBytes 8 (s.get64 (RGS_SLOT_PH.ofs n)) ++ leBytes 4 (provAge s n piv) ++ [0, 0, 0, 0]

/-- The bytes of CAT_HASH. -/
def catHash (s : State) : List Byte := (List.range 8).flatMap fun w => leBytes 4 (s.reg (CAT_HASH.ofs w)).toNat

/-- Bytes 56 to 135 of a record latched at a device time (R284). -/
def provBody (s : State) (t : Int) (newChain : Bool) : List Byte :=
  let k := loopStatus s
  leBytes 8 (secOf t) ++ leBytes 4 (nsOf t) ++ leBytes 2 (patternOf 16 s.tb.utcOfs) ++
  leBytes 2 (provStatus s newChain s.prov.gap) ++ leBytes 8 (s.get64 ENS_UNC_PH.ofs) ++
  leBytes 8 (patternOf 64 (sat64 (toPh s.prov.sum))) ++ leBytes 1 (s.get TB_STATUS.TIME_SRC) ++
  leBytes 1 (if k < 24 then s.get (LOOP_STATUS.GRADE k) else 15) ++ leBytes 1 (if k < 24 then loopState s k else 0xFF) ++
  leBytes 1 (s.get ENS_STATUS.ACTIVE_CNT) ++ leBytes 2 (min s.prov.steps 0xFFFF) ++ [0, 0] ++ catHash s ++
  leBytes 4 s.prov.cfgWrites ++ leBytes 4 (s.get PROV_CFG.PERIOD)

/-- QUEUED and WAITING brought up to date. -/
def provRefresh (s : State) : State :=
  (s.put PROV_STATUS.QUEUED s.prov.latched.length).put PROV_STATUS.WAITING s.prov.waiting.length

/-- PERIOD in 2^-60 ns. -/
def provPeriodOf (s : State) : Int := s.get PROV_CFG.PERIOD * secUnit

/-- The device time of a record instant: that of a PERIODIC record is the multiple of PERIOD itself (R283). -/
def provTime (s : State) (kind at_ : Nat) : Int :=
  let t := s.timeAt at_
  if kind = 0 then t - t % provPeriodOf s else t

/-- A record's content captured (R283): STEP_SUM, STEPS and GAP start anew. -/
def provCapture (kind at_ : Nat) (s : State) : State :=
  let refs := (List.range 64).filter (provReferenced s)
  let r := { kind := kind, latchedAt := s.pivotAt at_, sum := s.prov.sum, steps := s.prov.steps, gap := s.prov.gap,
             head := leBytes 4 0x4C565250 ++ [1] ++ leBytes 1 kind ++ leBytes 2 refs.length,
             body := provBody s (provTime s kind at_) (kind == 1 && s.prov.last.isNone), refs := refs.flatMap (provRef s (s.pivotAt at_)) }
  provRefresh { s with prov := { s.prov with latched := s.prov.latched ++ [r], sum := 0, steps := 0, gap := false } }

/-- The record latched in the core cycle of a pivot instant, if any (R283). -/
def provTwin (s : State) (piv : Nat) : Option ProvRecord :=
  s.prov.latched.getLast?.filter fun r => r.latchedAt / coreUnits == piv / coreUnits

/-- A record latched (R283). One that a kind has already latched in the same core cycle gives way to one record of the lower KIND, with
the STEP_SUM, STEPS and GAP of both. -/
def provLatch (kind at_ : Nat) (s : State) : State :=
  match provTwin s (s.pivotAt at_) with
  | none => provCapture kind at_ s
  | some r =>
    let at_ := if kind < r.kind then at_ else r.latchedAt - s.pivotAt 0
    provCapture (min kind r.kind) at_
      { s with prov := { s.prov with latched := s.prov.latched.dropLast, sum := r.sum + s.prov.sum, steps := r.steps + s.prov.steps,
                                     gap := r.gap || s.prov.gap } }

/-- Whether a record other than RESTART may be latched (R283). -/
def provMay (s : State) : Bool :=
  s.live .prov && s.flag PROV_CFG.EN && s.prov.restarted && !s.sys.pivotFault && !s.sys.pfailLow

/-- Whether a multiple of PERIOD falls in the core cycle before an instant, by device time (R283). -/
def provAtPeriod (s : State) (at_ : Nat) : Bool := decide (4 * (s.timeAt at_ % provPeriodOf s) < 5 * nsUnit)

/-- A PERIODIC instant (R283, R290): with no free place the record is missed. -/
def provPeriodic (at_ : Nat) (s : State) : State :=
  if !provMay s || !provAtPeriod s at_ then s
  else if decide (s.prov.latched.length < 4) || (provTwin s (s.pivotAt at_)).isSome then provLatch 0 at_ s
  else
    let s := (s.count PROV_CNT_ERR.MISSED 1).setFlag PROV_FLAGS.MISSED 209
    { s with prov := { s.prov with gap := true } }

/-- LEDGER_PERIOD. -/
def execLedgerPeriod (at_ : Nat) (s : State) : Host.Outcome State Fault Refusal := .next (provPeriodic at_ s)

/-- A STEP or HOST record, latched only while at least two places are free (R290), or together with a record of its core cycle. -/
def provExtra (kind at_ : Nat) (s : State) : State :=
  s.onlyIf (provMay s && (decide (s.prov.latched.length ≤ 2) || (provTwin s (s.pivotAt at_)).isSome)) (provLatch kind at_)

/-- ISSUE_NOW. -/
def execIssueNow (at_ : Nat) (s : State) : Host.Outcome State Fault Refusal :=
  .next (s.hostDo .prov none [] (provExtra 3 at_))

/-- A step or set of device time by `move` (R61, R283): counted in STEP_SUM and STEPS, and a STEP record latched. -/
def provStep (move : Int) (s : State) : State :=
  provExtra 2 0 { s with prov := { s.prov with sum := s.prov.sum + move, steps := s.prov.steps + 1 } }

/-! ### Signing and issue (R287 to R292) -/

/-- The internal signing request of the oldest latched record (R262, R287); none while KEY_OK is 0 (R293). -/
def provSubmit (s : State) : State := s.onlyIf (!s.prov.latched.isEmpty && s.flag PROV_STATUS.KEY_OK) (bneSubmit .ledger)

/-- A new CHAIN drawn when no earlier record is known (R289). -/
def provChain (s : State) : State :=
  if s.prov.last.isNone then ((s.put64 PROV_CHAIN.ofs s.freeVal).freeNext).setFlag PROV_FLAGS.NEW_CHAIN 210 else s

/-- The bytes of a record up to its signature, with the chain fields (R284, R289). -/
def provUnsigned (s : State) (r : ProvRecord) : List Byte :=
  let prev := s.prov.last.getD (0, List.replicate 32 0)
  r.head ++ leBytes 8 (s.prov.boot * 2 ^ 40 + s.prov.next) ++ leBytes 8 prev.1 ++ prev.2 ++ r.body ++
    leBytes 8 (s.get64 PROV_CHAIN.ofs) ++ r.refs

/-- A record placed among those that wait for the ring; beyond 32 the oldest is discarded (R292). -/
def provWait (bytes : List Byte) (s : State) : State :=
  let w := s.prov.waiting ++ [bytes]
  if w.length ≤ 32 then { s with prov := { s.prov with waiting := w } }
  else
    let s := { s with prov := { s.prov with waiting := w.drop 1 } }
    (s.count PROV_CNT_ERR.RING_DROP 1).setFlag PROV_FLAGS.RING_DROP 209

/-- PROV_LAST_HASH written. -/
def provPutHash (h : List Byte) (s : State) : State :=
  (List.range 8).foldl (fun s w => s.setReg (PROV_LAST_HASH.ofs w) (BitVec.ofNat 32 (leNat ((h.drop (4 * w)).take 4)))) s

/-- The oldest latched record signed and issued (R287, R289, R291). -/
def provIssue (r : ProvRecord) (at_ : Nat) (s : State) : State :=
  let s := provChain s
  let unsigned := provUnsigned s r
  let bytes := unsigned ++ ed25519.sign identitySeed unsigned
  let h := sha256 bytes
  let serial := s.prov.boot * 2 ^ 40 + s.prov.next
  let s := { s with prov := { s.prov with latched := s.prov.latched.drop 1, next := s.prov.next + 1, last := some (serial, h),
                                          issued := some (s.pivotAt at_, provLatest s) } }
  let s := provPutHash h ((s.put64 PROV_LAST_SERIAL.ofs serial).put PROV_STATUS.READY 1)
  let s := (s.count PROV_CNT_ISSUED.COUNT 1).put PROV_ISSUE_LAG.US (min ((s.pivotAt at_ - r.latchedAt) / 4096000) 0xFFFFFFFF)
  provRefresh (provWait bytes s)

/-- RECORD_ISSUE: the ledger's internal request completes. -/
def execRecordIssue (at_ : Nat) (s : State) : Host.Outcome State Fault Refusal :=
  .next (match s.prov.latched with
    | r :: _ => if bneRuns s .ledger then provIssue r at_ (bneEndRequest s) else s
    | [] => s)

/-- LEDGER_RING_WRITE (R292): one 2,048-byte element, padded with zeros. -/
def execLedgerRingWrite (s : State) : Host.Outcome State Fault Refusal :=
  .next (match s.prov.waiting with
    | b :: rest =>
      if hifRoom s 9 then
        provRefresh (hifPush 9 (b ++ List.replicate (2048 - b.length) 0) { s with prov := { s.prov with waiting := rest } })
      else s
    | [] => s)

/-! ### Boots (R288, R289) -/

/-- The start of a boot: BOOT, CHAIN and the latest record of the restored checkpoint, or none usable (R288, R289). -/
def provBoot (ck : Option (Nat × Nat × Option (Nat × List Byte))) (s : State) : State :=
  let boot := match ck with | some c => c.1 + 1 | none => 1
  let s := { s with prov := { s.prov with boot := boot, next := 0, last := ck.bind (fun c => c.2.2), restarted := false,
                                          booting := decide (boot < 0xFFFFFF), issued := none } }
  let s := s.put64 PROV_CHAIN.ofs (match ck with | some c => c.2.1 | none => 0)
  if boot < 0xFFFFFF then { s with con := { s.con with blockReq := true } } else s.setFlag PROV_FLAGS.BOOT_FULL 210

/-- A checkpoint that holds the new BOOT has committed (R288): the RESTART record is latched. -/
def provCommitted (at_ : Nat) (s : State) : State :=
  if s.prov.booting && s.flag PROV_CFG.EN && !s.sys.pivotFault && !s.sys.pfailLow then
    provLatch 1 at_ { s with prov := { s.prov with booting := false, restarted := true } }
  else s

/-- BOOT_TIMEOUT (R288): BOOT_FAIL is set and the checkpoint is requested again. -/
def execBootTimeout (s : State) : Host.Outcome State Fault Refusal :=
  .next (if s.prov.booting then
    { s.setFlag PROV_FLAGS.BOOT_FAIL 210 with con := { s.con with blockReq := true } }
  else s)

/-- PFAIL_N low (R294): every record not yet issued is discarded. -/
def provPfail (s : State) : State :=
  provRefresh (bneWithdraw (fun r => r == .ledger) { s with prov := { s.prov with latched := [] } })

end Sys2Proof.Machine
end

