-- ==== Sys2Proof/Machine/Outputs.lean ====
section
/-! DEFINITION. Synthesized outputs and time triggers (07_outputs_and_triggers.md), and the two events that reach them through
other blocks: a stamped edge and a loop's epoch. -/

namespace Sys2Proof.Machine

/-! ### Outputs: source, causes and waveform -/

/-- An output's internal state. -/
def outSt (s : State) (n : Nat) : OutSt := s.out.outs.getD n OutSt.reset

/-- An output's internal state changed. -/
def outSet (n : Nat) (f : OutSt → OutSt) (s : State) : State :=
  { s with out := { s.out with outs := s.out.outs.modify n f } }

/-- An output flag with its interrupt (R379). -/
def outFlag (n : Nat) (f : Fld) (s : State) : State := s.setFlag f (112 + n)

/-- Whether an output is muted. -/
def outMuted (s : State) (n : Nat) : Bool := (s.get OUT_GLB_STATUS.MUTED).testBit n

/-- Whether an output's source time is available (R148). -/
def outAvailable (s : State) (n : Nat) : Bool :=
  s.flag (OUT_BIND.VALID n) &&
  (match s.get (OUT_BIND.KIND n) with
   | 0 => s.flag TB_STATUS.READY
   | 1 => s.ens.started
   | 2 => s.flag (LOOP_STATUS.FIRST_DONE (s.get (OUT_BIND.INDEX n)))
   | _ => s.flag (OUT_STATUS.ALIGNED n))

/-- Whether a KIND 3 output is ALIGNING (R152, R154). -/
def outAligning (s : State) (n : Nat) : Bool := s.get (OUT_BIND.KIND n) == 3 && s.get (OUT_STATUS.ALIGN_STATE n) == 0

/-- A fault that takes away the clock or the steer words: a pivot fault or a die-to-die fault (R152). -/
def outFaulted (s : State) : Bool := s.sys.pivotFault || s.sys.d2dFault

/-- The causes of R152 that hold, as OUT_STATUS.CAUSE numbers them. -/
def outCauses (s : State) (n : Nat) : Nat :=
  bit (!s.flag (OUT_CFG.EN n)) + 2 * bit (s.flag (OUT_CFG.HOST_MUTE n)) +
  4 * bit ((outSt s n).change || (outSt s n).refused) + 8 * bit (outFaulted s) +
  16 * bit (!s.flag OUT_GLB_CFG.FREE_RUN_EN && !s.tb.wasVerified) + 32 * bit (!outAvailable s n || outAligning s n) +
  64 * bit (s.flag PAIR_CFG.EN && s.flag OUT_GLB_CFG.PAIR_GATE && s.sys.activeN)

/-- An output's muted bit written. -/
def outPutMuted (n : Nat) (m : Bool) (s : State) : State := s.putB ⟨OUT_GLB_STATUS.MUTED.ofs, 16 + n, 1⟩ m

/-- The waveform that the registers of an output hold. -/
def outWritten (s : State) (n : Nat) : OutCfg :=
  { mode := s.flag (OUT_CFG.MODE n), freq := s.get64 (OUT_FREQ.ofs n), period := (s.reg (OUT_PERIOD.ofs n)).toNat,
    width := (s.reg (OUT_WIDTH.ofs n)).toNat, anchor := s.get64 (OUT_ANCHOR_SEC.ofs n), drive := s.get (OUT_CFG.DRIVE n),
    pol := s.flag (OUT_CFG.POL n) }

/-- The highest frequency of a clock in OUT_FREQ units: 500 MHz (R149), and 250 MHz under DRIVE 3 (R406). -/
def OutCfg.fastest (c : OutCfg) : Nat := (if c.drive = 3 then 250000000 else 500000000) * 2 ^ 32

/-- Whether R149 refuses a waveform, in any of its four cases whatever the mode, or R406 a clock. -/
def OutCfg.bad (c : OutCfg) : Bool :=
  c.period < 20 || c.width < 2 || c.period < c.width + 2 || c.freq < 2 ^ 32 || 500000000 * 2 ^ 32 < c.freq ||
  (!c.mode && c.fastest < c.freq)

/-- The written waveform adopted; a refused one sets CFG_BAD (R149, R150). -/
def outAdopt (n : Nat) (s : State) : State :=
  let c := outWritten s n
  let s := outSet n (fun (o : OutSt) =>
    { o with cfg := c, change := false, refused := c.bad, hold := none, next := o.next.map fun x => { x with hold := none } }) s
  s.onlyIf c.bad (outFlag n (OUT_FLAGS.CFG_BAD n))

/-- A waveform register has been written (R150): a running output raises cause CFG, a muted one adopts the values at once. -/
def outChanged (n : Nat) (s : State) : State :=
  if outWritten s n = (outSt s n).cfg then s
  else if outMuted s n then outAdopt n s
  else outSet n (fun (o : OutSt) => { o with change := true }) s

/-- OUT_OFS_PH within ±1 s, in units of device time (R148). -/
def outOfs (s : State) (n : Nat) : Int :=
  clampInt (-secUnit) secUnit (s.getS (OUT_OFS_PH.ofs n) * phUnit)

/-- The offset in force at a device time: an offset written takes effect at its edge (R150). -/
def outOfsAt (s : State) (n : Nat) (t : Int) : Int :=
  match (outSt s n).next with
  | some x => if t < x.since then x.ofs else outOfs s n
  | none => outOfs s n

/-- An output as it stands at a device time: before the edge of an offset write, the edges fixed earlier. -/
def outNow (s : State) (n : Nat) (t : Int) : OutSt :=
  let o := outSt s n
  match o.next with
  | some x => { o with hold := if t < x.since then x.hold else o.hold, next := none }
  | none => o

/-- The remainder of a KIND 3 output slewed to a device time, at TB_SLEW_LIM_FF (R154). -/
def outSlewed (s : State) (n : Nat) (t : Int) : Int :=
  let o := outSt s n
  let lim := s.getS TB_SLEW_LIM_FF.ofs * (t - o.remAt) / 2 ^ 60
  clampInt (-lim) lim o.rem

/-- Output time less device time at a device time (R148). -/
def outShift (s : State) (n : Nat) (t : Int) : Int :=
  let i := s.get (OUT_BIND.INDEX n)
  outOfsAt s n t +
  (match s.get (OUT_BIND.KIND n) with
   | 1 => -(s.getS ENS_TDEV_PH.ofs * phUnit)
   | 2 => -loopPhase s i t
   | 3 => (outSt s n).align + outSlewed s n t
   | _ => 0)

/-! ### The schedule of a waveform (R149) and the edge rule (R151)

Distances from the anchor are taken in scaled units, in which the period is a whole number: 2^-60 ns for a pulse, and 2^-60 ns divided
by OUT_FREQ for a clock. -/

/-- Scaled units in one unit of 2^-60 ns. -/
def OutCfg.scale (c : OutCfg) : Int := if c.mode then 1 else c.freq

/-- The period in scaled units. -/
def OutCfg.per (c : OutCfg) : Int := if c.mode then c.period * nsUnit else 2 ^ 92 * 10 ^ 9

/-- The time high in each period, in scaled units: WIDTH of a pulse, half the period of a clock. -/
def OutCfg.high (c : OutCfg) : Int := if c.mode then c.width * nsUnit else c.per / 2

/-- An output time's distance from the anchor, in scaled units. -/
def OutCfg.at (c : OutCfg) (x : Int) : Int := c.scale * (x - c.anchor * secUnit)

/-- The first rising edge of the schedule at or after an output time (R149). -/
def OutCfg.rise (c : OutCfg) (x : Int) : Int := x + Config.quot (-c.at x % c.per) c.scale

/-- The first falling edge of the schedule at or after an output time (R149). -/
def OutCfg.fall (c : OutCfg) (x : Int) : Int := x + Config.quot ((c.high - c.at x) % c.per) c.scale

/-- Whether the output is high at an output time, the time of the half or pulse's last edge, and the time of its end: by the edges that a
move has fixed while they last, else by the schedule. -/
def OutSt.part (o : OutSt) (x : Int) : Bool × Int × Int :=
  let c := o.cfg
  let y := c.at x % c.per
  let plain := if y < c.high then (true, x - Config.quot y c.scale, x + Config.quot (c.high - y) c.scale)
    else (false, x - Config.quot (y - c.high) c.scale, x + Config.quot (c.per - y) c.scale)
  match o.hold with
  | some h => if x < h.fall then (true, x - 1, h.fall) else if x < h.rise then (false, h.fall, h.rise) else plain
  | none => plain

/-- The edges after a move of output time from `a` to `b`, and the rising edges omitted (R151). A pulse that is high completes its WIDTH,
a clock's half period lasts until the new schedule's edge that ends it and is never shortened, and the next rising edge is the new
schedule's first one unless it falls less than 2 ns after the last falling edge; the edge that opens the pulse in progress is not one to
come. DEDUCED (assumption 51). -/
def OutSt.moved (o : OutSt) (a b : Int) : OutHold × Nat :=
  let c := o.cfg
  let p := o.part a
  let last := p.2.1 + (b - a)
  let ends := p.2.2 + (b - a)
  let fall := if !p.1 then last else if c.mode then ends else c.fall (max b ends)
  let opens := p.1 && p.2.1 == a
  let first := c.rise (if c.mode then b + bit opens else if p.1 then fall else max b ends)
  let omitted := decide (first < fall + 2 * nsUnit)
  ({ fall := fall, rise := if omitted then c.rise (first + 1) else first }, bit omitted)

/-- A move of an output's schedule from output time `a` to `b`, whose edges stand as `o` has them, with the offset write that it leaves
waiting: the edges that it fixes, the ones that it omits, and STEP_EV (R151). -/
def outFix (n : Nat) (o : OutSt) (a b : Int) (next : Option OutNext) (s : State) : State :=
  let runs := !(outMuted s n || o.refused)
  let m := o.moved a b
  let s := outSet n (fun (x : OutSt) => { x with hold := if runs then some m.1 else none, next := next }) s
  let s := s.onlyIf (runs && m.2 != 0) fun s => outFlag n (OUT_FLAGS.SKIPPED n) (s.count (OUT_CNT.SKIPPED n) m.2)
  outFlag n (OUT_FLAGS.STEP_EV n) (s.count (OUT_CNT.STEPS n) 1)

/-- The schedule of an output moves at device time `t`, its output time going from `a` to `b` (R151); an offset write that waits for its
edge takes effect with it (assumption 189). -/
def outMove (n : Nat) (t a b : Int) (s : State) : State :=
  if a = b then s else outFix n (outNow s n t) a (b + (outOfs s n - outOfsAt s n t)) none s

/-! ### The pins and the synthesizer (R148, R152) -/

/-- The 0.25 ps step nearest to an output time, at which an edge due then is placed (R148); the later one of two equally near.
DEDUCED (assumption 158). -/
def outPlace (x : Int) : Int := (x * 8000 + nsUnit) / (2 * nsUnit)

/-- Whether an output is high at a 0.25 ps step of output time: the last rising edge placed at or before it has no falling edge placed at
or before it since. -/
def OutSt.levelAt (o : OutSt) (q : Int) : Bool :=
  let c := o.cfg
  let y := c.scale * ((2 * q + 1) * nsUnit - c.anchor * secUnit * 8000)
  let plain := decide (c.per * 8000 - -y % (c.per * 8000) ≤ c.high * 8000)
  match o.hold with
  | some h => decide (q < outPlace h.fall) || (decide (outPlace h.rise ≤ q) && plain)
  | none => plain

/-- A driver delay in 0.25 ps steps. -/
def calSteps (d : Int) : Int := (d * 8000 + 65536) / 131072

/-- The compensation of an output's driver in force at a device time, in 0.25 ps steps: an accepted change is applied at one step per rising
edge (R361; assumption 181). -/
def outComp (s : State) (n : Nat) (t : Int) : Int :=
  match s.con.outDelays.getD n none with
  | some d =>
    let c := (outSt s n).cfg
    let edges := c.at (t + outShift s n t) / c.per - c.at (d.since + outShift s n d.since) / c.per
    d.comp + clampInt (-edges) edges (calSteps d.delay - d.comp)
  | none => 0

/-- By how many 0.25 ps steps the edges at the ball are late of their place: the part of the measured delay not yet compensated. -/
def outLag (s : State) (n : Nat) (t : Int) : Int :=
  match s.con.outDelays.getD n none with
  | some d => calSteps d.delay - outComp s n t
  | none => 0

/-- What the pins OUT_P and OUT_N of an output drive at a device time, none being high impedance (R149, R152, R406): MUTE_LEVEL of a
muted output, else its waveform, which POL inverts; OUT_N is the complement, and high impedance under DRIVE 3. -/
def outPins (s : State) (n : Nat) (t : Int) : Option Bool × Option Bool :=
  let o := outSt s n
  let p := if outMuted s n then (if s.flag (OUT_CFG.MUTE_LEVEL n) then none else some false)
    else some ((outNow s n t).levelAt ((t + outShift s n t) * 4000 / nsUnit - outLag s n t) != o.cfg.pol)
  let drive := if outMuted s n then s.get (OUT_CFG.DRIVE n) else o.cfg.drive
  (p, if drive = 3 then none else p.map (!·))

/-- The 2^-60 frequency word by which SYNn follows its source time in rate against the pivot (R148, R346): the rate of device time, less
STEER of a KIND 2 output's loop; for T, the steer s less the slew and y_p (R139). A word is held through a retrain (R350). DEDUCED
(assumption 158). -/
def outWord (s : State) (n : Nat) : Int :=
  let dev := Config.quot (s.tb.adv - 10 ^ 6 * nsUnit) (10 ^ 6)
  (outSt s n).word.getD
    (match s.get (OUT_BIND.KIND n) with
     | 1 => s.getS ENS_S_FF.ofs - s.getS ENS_YP_FF.ofs - Config.quot (ensSlew s * 2 ^ 44) (ensTau s)
     | 2 => dev - s.getS (LOOP_STEER_FF.ofs (s.get (OUT_BIND.INDEX n)))
     | _ => dev)

/-- The outputs, in order. -/
def outAll : List Nat := List.range 16

/-- A step of device time by `move` at device time `t` (R61, R142, R151): every bound output's source moves with it. -/
def outStep (t move : Int) (s : State) : State :=
  let s := outAll.foldl (fun s n =>
    if s.flag (OUT_BIND.VALID n) then
      let a := t + outShift s n t
      outMove n t a (a + move) (outSet n (fun (o : OutSt) => { o with align := o.align + outSlewed s n t,
                                                                      rem := o.rem - outSlewed s n t, remAt := t + move }) s)
    else s) s
  s

/-- An alignment of a role 1 loop steps the outputs that follow it (R151): p grew by `moved`, so output time fell by it. -/
def outLoopMoved (k : Nat) (t : Int) (s : State) : State :=
  let moved := (loopSt s k).moved
  outAll.foldl (fun s n =>
    if s.flag (OUT_BIND.VALID n) && s.get (OUT_BIND.KIND n) == 2 && s.get (OUT_BIND.INDEX n) == k then
      let b := t + outShift s n t
      outMove n t (b + moved) b s
    else s) s

/-- The phase measurement that a link offers at a loop's epoch: its latest x, unless it withholds it (R302, R303). -/
def lnkMeasure (s : State) (n : Nat) : Option Int :=
  let l := s.lnk.links.getD n LkLink.reset
  if s.get (LK_STATUS.STATE n) = 3 ∧ l.hasX ∧ l.withheld = false then some l.x else none

/-- The slot whose x a loop reads at an epoch: the target of a commit that is due, else the incumbent (R107, R115). A switch that has
reached COMMIT with the loop in PENDING commits there only where NONE has ended PENDING since. -/
def loopSource (s : State) (k : Nat) : Option Nat :=
  if s.get (RGS_SEL_STATUS.SW_STATE k) = 3 ∧ loopState s k ≠ 0 ∧ (loopState s k ≠ 7 ∨ (loopSt s k).sawNone) then
    some (s.get (RGS_SEL_STATUS.TARGET k))
  else rgsIncumbent s k

/-- The measurement at a loop's epoch (R93, R115): a type 2 slot's x from its stamps, a type 3 slot's from the reading `meas` of its
comparator in 2^-16 cycles, a type 6 slot's from its link. -/
def loopMeasure (s : State) (k : Nat) (meas : Option Int) (at_ : Nat) : Option Int :=
  match loopSource s k with
  | some n =>
    match rgsType s n with
    | 2 => rgsFreqX s n
    | 3 => meas.bind fun v => rgsLineX s n v (s.timeAt at_ / 2 ^ 48)
    | 6 => lnkMeasure s (s.get (RGS_SLOT_BIND.INDEX n))
    | _ => none
  | none => none

/-- LOOP_EPOCH (R118), with the outputs that follow the loop (R151); a loop that is OFF does no work. -/
def execLoopEpoch (k : Fin 24) (meas : Option Int) (at_ : Nat) (s : State) : Host.Outcome State Fault Refusal :=
  .next (if !s.live .loop || loopState s k = 0 then s
    else outLoopMoved k (s.timeAt at_) (loopEpoch k (loopMeasure s k meas at_) at_ s))

/-! ### Writes (R149, R150) -/

/-- A new binding state of a KIND 3 output: ALIGNING, not aligned (R154). -/
def outRealign (n : Nat) (s : State) : State :=
  outSet n (fun (o : OutSt) => { o with rem := 0 })
    ((s.put (OUT_STATUS.ALIGN_STATE n) 0).put (OUT_STATUS.ALIGNED n) 0)

/-- A HELD output returns to ALIGNING (R154). -/
def outCmdRealign (n : Nat) (s : State) : State :=
  if s.get (OUT_STATUS.ALIGN_STATE n) = 2 then s.put (OUT_STATUS.ALIGN_STATE n) 0 else s

/-- REALIGN. -/
def execRealign (n : Fin 16) (s : State) : Host.Outcome State Fault Refusal :=
  .next (s.hostDo .out (some (4, n)) [] (outCmdRealign n))

/-- A write of OUT_CFG: each field, then the waveform rule and the REALIGN command (R150, R152, R154). -/
def outCfgWrite (n : Nat) (v : Word) (s : State) : State :=
  let s := (s.putB (OUT_CFG.EN n) (v.getLsbD 0)).putB (OUT_CFG.MODE n) (v.getLsbD 1)
  let s := (s.putB (OUT_CFG.MUTE_LEVEL n) (v.getLsbD 2)).putB (OUT_CFG.POL n) (v.getLsbD 3)
  let s := (s.putB (OUT_CFG.HOST_MUTE n) (v.getLsbD 4)).put (OUT_CFG.DRIVE n) (fieldOf v 6 2)
  let s := s.onlyIf (!v.getLsbD 0) (outRealign n)
  let s := s.onlyIf (v.getLsbD 5) (outCmdRealign n)
  outChanged n s

/-- A write to an output: from CORE to the stamper domain over the die-to-die interface, and on to the output's synthesiser
(R347, R357). -/
def outCarry (n : Nat) (s : State) : State := if xsRuns s 0 then xsWrite (32 + n) s else xsWrite 0 s

/-- A write of one of the registers of R150. -/
def outRegWrite (n : Nat) (r : OutReg) (v : BitVec 64) (s : State) : State :=
  let s := outCarry n s
  match r with
  | .cfg => outCfgWrite n (v.setWidth 32) s
  | .freq => outChanged n (s.put64 (OUT_FREQ.ofs n) v.toNat)
  | .period => outChanged n (s.setReg (OUT_PERIOD.ofs n) (v.setWidth 32))
  | .width => outChanged n (s.setReg (OUT_WIDTH.ofs n) (v.setWidth 32))
  | .anchor => outChanged n (s.put64 (OUT_ANCHOR_SEC.ofs n) v.toNat)

/-- The configuration registers of an output. -/
def outWatch (n : Nat) : List Nat :=
  [OUT_CFG.ofs n, OUT_FREQ.ofs n, OUT_FREQ.ofs n + 4, OUT_PERIOD.ofs n, OUT_WIDTH.ofs n, OUT_ANCHOR_SEC.ofs n,
   OUT_ANCHOR_SEC.ofs n + 4]

/-- OUTPUT_CONFIG_WRITE. -/
def execOutputConfigWrite (n : Fin 16) (r : OutReg) (v : BitVec 64) (s : State) : Host.Outcome State Fault Refusal :=
  .next (s.hostDo .out (some (4, n)) (outWatch n) (outRegWrite n r v))

/-- The output time of the first rising edge at least 1 µs after an output time (R150). A refused waveform has no edges: the instant
itself. -/
def OutSt.nextRise (o : OutSt) (a : Int) : Int :=
  let x := a + 1000 * nsUnit
  if o.cfg.bad then x
  else match o.hold with
    | some h => if x ≤ h.rise then h.rise else o.cfg.rise x
    | none => o.cfg.rise x

/-- A write of OUT_OFS_PH (R150): the value reads back within ±1 s; the schedule moves at the first rising edge at least 1 µs
later, under the edge rule. A write before the edge of an earlier one joins it (assumption 189). -/
def outOfsWrite (n : Nat) (v : Int) (at_ : Nat) (s : State) : State :=
  let s := outCarry n s
  let t := s.timeAt at_
  let lim : Int := 10 ^ 9 * 65536
  let x := t + outShift s n t
  let o := outNow s n t
  let old := outOfsAt s n t
  let a := o.nextRise x
  let s' := s.putS (OUT_OFS_PH.ofs n) (clampInt (-lim) lim v)
  if outOfs s' n = outOfs s n then s'
  else outFix n o a (a + (outOfs s' n - old)) (some { since := t + (a - x), ofs := old, hold := o.hold }) s'

/-- OUTPUT_OFFSET_WRITE. -/
def execOutputOffsetWrite (n : Fin 16) (v : BitVec 64) (at_ : Nat) (s : State) : Host.Outcome State Fault Refusal :=
  .next (s.hostDo .out (some (4, n)) [OUT_OFS_PH.ofs n, OUT_OFS_PH.ofs n + 4] (outOfsWrite n v.toInt at_))

/-! ### Muting (R152) -/

/-- An output muted: the edges of its last move lapse, and a waiting change is adopted (R150). -/
def outMuteNow (n : Nat) (s : State) : State :=
  let s := outSet n (fun (o : OutSt) => { o with hold := none, next := o.next.map fun x => { x with hold := none } }) (outPutMuted n true s)
  s.onlyIf (outSt s n).change (outAdopt n)

/-- OUTPUT_MUTE (R150, R152): at a falling edge with a cause in force the output mutes, and a waiting change is adopted. -/
def outMute (n : Nat) (s : State) : State :=
  if outMuted s n || outCauses s n = 0 then s
  else
    outMuteNow n s

/-- OUTPUT_MUTE. -/
def execOutputMute (n : Fin 16) (s : State) : Host.Outcome State Fault Refusal := .next (outMute n s)

/-- OUTPUT_UNMUTE (R152): no cause is left at the first rising edge at least 1 µs after the last one cleared. -/
def outUnmute (n : Nat) (s : State) : State :=
  if outMuted s n && s.live .out && outCauses s n = 0 then (outPutMuted n false s).setEvent (OUT_FLAGS.UNMUTED_EV n) (112 + n)
  else s

/-- OUTPUT_UNMUTE. -/
def execOutputUnmute (n : Fin 16) (s : State) : Host.Outcome State Fault Refusal := .next (outUnmute n s)

/-- Cause FAULT mutes every output within 100 ns and may cut a pulse short (R152). -/
def outFaultMute (s : State) : State := outAll.foldl (fun s n => outMuteNow n s) s

/-! ### Alignment to an input pulse (R154) -/

/-- The rising edge of an output nearest to a device time, less that time. -/
def outNearest (s : State) (n : Nat) (g : Int) : Int :=
  let c := (outSt s n).cfg
  let p := max 1 c.per
  Config.quot (-rgsNearest (c.at (g + outShift s n g) % p) p) (max 1 c.scale)

/-- A stamp of the channel of a KIND 3 output, at record time `t` in 2^-12 ns (R154). -/
def outStamp (n : Nat) (t : Int) (s : State) : State :=
  let g := t * 2 ^ 48 + outOfsAt s n (t * 2 ^ 48)
  let err := outNearest s n g
  let a := g + outShift s n g
  let slewed := outSlewed s n g
  let s' := s.putS (OUT_ALIGN_ERR_PH.ofs n) (toPh err)
  match s.get (OUT_STATUS.ALIGN_STATE n) with
  | 0 =>
    let s' := outSet n (fun (o : OutSt) => { o with align := o.align + slewed + err, rem := 0, remAt := g }) s'
    (outMove n g a (a + err) ((s'.put (OUT_STATUS.ALIGN_STATE n) 1))).put (OUT_STATUS.ALIGNED n) 1
  | 1 =>
    if ((toPh err).natAbs : Int) ≤ (s.reg (OUT_ALIGN_TOL.ofs n)).toNat then
      outSet n (fun (o : OutSt) => { o with align := o.align + slewed, rem := err, remAt := g }) s'
    else
      let s' := outSet n (fun (o : OutSt) => { o with align := o.align + slewed, rem := 0, remAt := g }) s'
      (s'.put (OUT_STATUS.ALIGN_STATE n) 2).setEvent (OUT_FLAGS.ALIGN_FAULT n) (112 + n)
  | _ => s'

/-- An accepted stamp passed to the KIND 3 outputs of its channel (R79, R154). -/
def outEdge (ch : Nat) (t : Int) (s : State) : State :=
  if s.live .out then
    outAll.foldl (fun s n =>
      if s.flag (OUT_BIND.VALID n) && s.get (OUT_BIND.KIND n) == 3 && s.get (OUT_BIND.INDEX n) == ch then outStamp n t s else s) s
  else s

/-- A stamp on the D-die: the record and the pairing, and the internal consumers (R73, R79): the pair comparison (R321), the Registrar,
the ensemble engine and the outputs. -/
def stampAll (x : EvtStamp) (at_ : Nat) (s : State) : State :=
  let s := evtAccept x at_ s
  let s := s.onlyIf (evtPairRouted s x.ch) fun s => { s with pair := { s.pair with stamp := some x.t } }
  outEdge x.ch x.t (ensEdge x.ch x.t x.piv (rgsEdge x.ch x.rising x.t x.piv s))

/-- An edge's word on the D-die. -/
def edgeDeliver (at_ : Nat) (x : EvtCross) (s : State) : State :=
  match x with
  | .stamp y => stampAll y at_ s
  | _ => evtLost x s

/-- An edge's word sent over the die-to-die interface: held on the T-die through a retrain, else as crossing 0 has it (R27, R350,
R355). -/
def edgeCross (at_ : Nat) (x : EvtCross) (s : State) : State :=
  if s.flag CDC_STATUS.D2D_RETRAINING then evtHold x s else s.cross false 0 1 (edgeDeliver at_ x)

/-- An edge at a channel's balls; an accepted one starts the dead time (R78). -/
def edgeAll (ch : Nat) (rising : Bool) (at_ : Nat) (s : State) : State :=
  match evtEdge s ch rising at_ with
  | none => s
  | some x =>
    let s := match x with | .stamp y => evtSetChan ch (fun c => { c with last := some y.piv }) s | _ => s
    edgeCross at_ x s

/-- What the T-die has held through a retrain crosses in order (R350). -/
def edgeRelease (s : State) : State :=
  let held := s.evt.held
  let cal := s.evt.calHeld
  evtStorePulses cal (held.foldl (fun s x => edgeDeliver 0 x s) { s with evt := { s.evt with held := [], calHeld := [] } })

/-- EDGE. -/
def execEdge (ch : Fin 128) (rising : Bool) (at_ : Nat) (s : State) : Host.Outcome State Fault Refusal :=
  .next (edgeAll ch rising at_ s)

/-! ### Triggers (R155 to R158) -/

/-- A trigger's internal state. -/
def trgSt (s : State) (j : Nat) : TrgSt := s.out.trgs.getD j TrgSt.reset

/-- A trigger's internal state changed. -/
def trgSet (j : Nat) (f : TrgSt → TrgSt) (s : State) : State :=
  { s with out := { s.out with trgs := s.out.trgs.modify j f } }

/-- A trigger flag with its interrupt (R379). -/
def trgFlag (j : Nat) (f : Fld) (s : State) : State := s.setFlag f (224 + j)

/-- The time that a trigger schedules against, at a device time (R156). -/
def trgTime (s : State) (j : Nat) (t : Int) : Int :=
  if s.flag (TRG_CFG.TSRC j) then t - s.getS ENS_TDEV_PH.ofs * phUnit else t

/-- Whether a pin receives a ledger line (R155). -/
def trgLedger (s : State) (j : Nat) : Bool :=
  rgsSlots.any fun n => rgsType s n == 1 && s.flag (RGS_SLOT_BIND.LL_EN n) && s.get (RGS_SLOT_BIND.LL_PIN n) == j

/-- A write of TRG_CFG: another mode of a ledger line's pin is ignored with CFG_BAD, and a GPIO output
drives GPIO_OUT (R155). -/
def trgCfgWrite (j : Nat) (v : Word) (s : State) : State :=
  let s := if trgLedger s j && fieldOf v 0 2 != 0 then trgFlag j (TRG_FLAGS.CFG_BAD j) s
    else s.put (TRG_CFG.MODE j) (fieldOf v 0 2)
  let s := (s.putB (TRG_CFG.TSRC j) (v.getLsbD 2)).putB (TRG_CFG.POL j) (v.getLsbD 3)
  let s := (s.putB (TRG_CFG.VERIFIED_ONLY j) (v.getLsbD 4)).putB (TRG_CFG.GPIO_OUT j) (v.getLsbD 5)
  s.onlyIf (s.get (TRG_CFG.MODE j) == 1) (State.emit (.gpio j (v.getLsbD 5)))

/-- The instant of a plan with a number. -/
def TrgPlan.instant (p : TrgPlan) (m : Nat) : Int := p.start + m * p.period

/-- Instants left, as REMAIN shows them. -/
def TrgPlan.remain (p : TrgPlan) : Nat := match p.count with | some c => min 0xFFFF (c - p.passed) | none => 0xFFFF

/-- Instants of a plan that lie before a time: those a forward step to it jumps over (R158). -/
def TrgPlan.before (p : TrgPlan) (t : Int) : Nat :=
  if t ≤ p.start then 0
  else
    let n := if p.period ≤ 0 then 1 else ((t - p.start + p.period - 1) / p.period).toNat
    match p.count with
    | some c => min c n
    | none => n

/-- The instants of a plan that have not passed and lie before a time. -/
def TrgPlan.within (p : TrgPlan) (t : Int) : List Int := (List.range (p.before t - p.passed)).map fun i => p.instant (p.passed + i)

/-- A schedule written, or its end (R156, R157). -/
def trgPlan (j : Nat) (p : TrgPlan) (s : State) : State :=
  if p.count = some p.passed then
    trgFlag j (TRG_FLAGS.DONE j) (trgSet j (fun (x : TrgSt) => { x with plan := none })
      ((s.put (TRG_STATUS.ARMED j) 0).put (TRG_STATUS.REMAIN j) 0))
  else
    trgSet j (fun (x : TrgSt) => { x with plan := some p })
      ((s.put (TRG_STATUS.ARMED j) 1).put (TRG_STATUS.REMAIN j) p.remain)

/-- Whether an arm is refused at a time of the trigger (R157). -/
def trgRefused (s : State) (j : Nat) (now : Int) : Bool :=
  let start := timeOf (s.get64 (TRG_START_SEC.ofs j)) (s.reg (TRG_START_NS.ofs j)).toNat 0
  let w := s.get (TRG_WIDTH.WIDTH j)
  decide (start < now + 2000 * nsUnit) || decide (999999999 < (s.reg (TRG_START_NS.ofs j)).toNat) ||
  (s.flag (TRG_CFG.TSRC j) && !s.ens.started) ||
  (s.get (TRG_CFG.MODE j) == 3 && decide ((s.reg (TRG_PERIOD.ofs j)).toNat < w + 10)) || decide (w < 5)

/-- ARM (R157). An arm in a GPIO mode has no schedule to arm. -/
def trgArm (j at_ : Nat) (s : State) : State :=
  let now := trgTime s j (s.timeAt at_)
  let mode := s.get (TRG_CFG.MODE j)
  if mode < 2 then s
  else if trgRefused s j now then trgFlag j (TRG_FLAGS.ARM_REFUSED j) s
  else
    let near := match (trgSt s j).plan with
      | some p => p.within (now + 2000 * nsUnit)
      | none => []
    let count := (s.reg (TRG_COUNT.ofs j)).toNat
    let p : TrgPlan :=
      { start := timeOf (s.get64 (TRG_START_SEC.ofs j)) (s.reg (TRG_START_NS.ofs j)).toNat 0,
        period := (s.reg (TRG_PERIOD.ofs j)).toNat * nsUnit,
        count := if mode = 2 then some 1 else if count = 0 then none else some count, passed := 0 }
    trgPlan j p (trgSet j (fun (x : TrgSt) => { x with old := x.old ++ near }) s)

/-- TRIGGER_ARM. -/
def execTriggerArm (j : Fin 32) (at_ : Nat) (s : State) : Host.Outcome State Fault Refusal :=
  .next (s.hostDo .out (some (5, j)) [] (trgArm j at_))

/-- DISARM (R157). -/
def trgDisarm (j : Nat) (s : State) : State :=
  trgSet j (fun (x : TrgSt) => { x with plan := none, old := [] })
    ((s.put (TRG_STATUS.ARMED j) 0).put (TRG_STATUS.REMAIN j) 0)

/-- TRIGGER_DISARM. -/
def execTriggerDisarm (j : Fin 32) (s : State) : Host.Outcome State Fault Refusal :=
  .next (s.hostDo .out (some (5, j)) [] (trgDisarm j))

/-- The device time at which a pin's edge that is due at a device time is placed (R156): the last core clock edge before it, with the
fine delay of 19.5 ps steps that comes nearest, the longer one of two equally near. DEDUCED (assumption 158). -/
def trgPlace (s : State) (t : Int) : Int :=
  let c := (t - s.tb.dev) * 800000 / max 1 s.tb.adv
  let edge := s.tb.dev + s.tb.adv * c / 800000
  edge + 195 * nsUnit * ((2 * (t - edge) * 10000 + 195 * nsUnit) / (2 * 195 * nsUnit)) / 10000

/-- The pin driven to its active level from an instant of its time for WIDTH (R156), or the instant suppressed while the time is
unverified (R158). -/
def trgFire (j : Nat) (x : Int) (s : State) : State :=
  if s.flag (TRG_CFG.VERIFIED_ONLY j) && !s.flag TB_STATUS.VERIFIED then
    trgFlag j (TRG_FLAGS.SUPPRESSED j) (s.count (TRG_CNT.SKIPPED j) 1)
  else
    let active := !s.flag (TRG_CFG.POL j)
    let t := if s.flag (TRG_CFG.TSRC j) then x + s.getS ENS_TDEV_PH.ofs * phUnit else x
    let stop := trgPlace s (t + s.get (TRG_WIDTH.WIDTH j) * nsUnit)
    let s := trgSet j (fun (y : TrgSt) => { y with until_ := some stop }) (s.count (TRG_CNT.FIRED j) 1)
    (s.emit (.trigger j active (trgPlace s t))).emit (.trigger j (!active) stop)

/-- The level of a TRG pin at a device time, none where it is an input (R155, R156). -/
def trgPin (s : State) (j : Nat) (t : Int) : Option Bool :=
  match s.get (TRG_CFG.MODE j) with
  | 0 => none
  | 1 => some (s.flag (TRG_CFG.GPIO_OUT j))
  | _ => some (((trgSt s j).until_.any fun u => decide (t < u)) != s.flag (TRG_CFG.POL j))

/-- TRIGGER_INSTANT (R156 to R158): an instant of a replaced schedule, or the next of the armed one. -/
def trgInstant (j : Nat) (s : State) : State :=
  if !s.live .out then s
  else match (trgSt s j).old with
    | x :: rest => trgFire j x (trgSet j (fun (y : TrgSt) => { y with old := rest }) s)
    | [] =>
      match (trgSt s j).plan with
      | some p => trgPlan j { p with passed := p.passed + 1 } (trgFire j (p.instant p.passed) s)
      | none => s

/-- TRIGGER_INSTANT. -/
def execTriggerInstant (j : Fin 32) (s : State) : Host.Outcome State Fault Refusal := .next (trgInstant j s)

/-- A step of device time to `t` (R158): instants jumped over are skipped; after a backward step the schedule waits. -/
def trgStep (t : Int) (s : State) : State :=
  (List.range 32).foldl (fun s j =>
    let now := trgTime s j t
    let gone := ((trgSt s j).old.filter fun x => decide (x < now)).length
    let s := trgSet j (fun (x : TrgSt) => { x with old := x.old.filter fun i => !decide (i < now) }) s
    let k := match (trgSt s j).plan with | some p => p.before now - p.passed | none => 0
    let s := s.onlyIf (k + gone != 0) fun s => trgFlag j (TRG_FLAGS.STEP_SKIP j) (s.count (TRG_CNT.SKIPPED j) (k + gone))
    match (trgSt s j).plan with
    | some p => s.onlyIf (k != 0) (trgPlan j { p with passed := p.passed + k })
    | none => s) s

/-! ### The calibration of the output drivers (R361) -/

/-- Whether a new value lies within 20 ps of the last one; both in 2^-16 ns. -/
def calNear (last new : Int) : Bool := decide (1000 * (new - last).natAbs ≤ 1310720)

/-- A rejected value. -/
def calReject (s : State) : State := s.setFlag CON_FLAGS.CAL_FAULT 28

/-- A measured delay of an output's driver: accepted within 20 ps of the last one, and applied from the compensation then in force. -/
def outputCal (n : Nat) (delay : Int) (at_ : Nat) (s : State) : State :=
  let cal : OutCal := { delay := delay, comp := outComp s n (s.timeAt at_), since := s.timeAt at_ }
  let take := { s with con := { s.con with outDelays := s.con.outDelays.set n (some cal) } }
  match s.con.outDelays.getD n none with
  | some last => if calNear last.delay delay then take else calReject s
  | none => take

/-- Whether a bank pass needs the calibration pulse generator: of a relief stamper, of the channel that it serves, of a retry, or a
forced one (R87, R90). -/
def calBusy (s : State) : Bool :=
  (List.range 8).any fun b => s.live .evt &&
    (evtRelief s b == 1 || evtRelief s b == 3 || (evtBank s b).retry || (evtBank s b).forced.isSome)

/-- The output measurements that wait are made once no bank pass needs the generator (R361). -/
def calServe (at_ : Nat) (s : State) : State :=
  if calBusy s then s
  else
    let wait := s.con.calWait
    wait.foldl (fun s m => outputCal m.1 m.2 at_ s) { s with con := { s.con with calWait := [] } }

/-- RELIEF_PASS_DONE. -/
def execReliefPassDone (bank : Fin 8) (complete : Bool) (delay : Int) (pulses : List (Bool × Nat)) (at_ : Nat) (s : State) :
    Host.Outcome State Fault Refusal := .next (calServe at_ (evtReliefDone bank complete delay pulses at_ s))

/-- CHANNEL_PASS_DONE. -/
def execChannelPassDone (bank : Fin 8) (complete : Bool) (delay : Int) (pulses : List (Bool × Nat)) (at_ : Nat) (s : State) :
    Host.Outcome State Fault Refusal := .next (calServe at_ (evtChannelDone bank complete delay pulses at_ s))

end Sys2Proof.Machine
end

