-- ==== Sys2Proof/Machine/Gnss.lean ====
section
/-! DEFINITION. The GNSS baseband (08_gnss_baseband.md): sample ports, tracking channels, observables, time solutions with
their judgement of the signals, and snapshots. -/

namespace Sys2Proof.Machine

/-! ### Ports and channels -/

/-- A tracking channel's internal state. -/
def gnssTk (s : State) (k : Nat) : TkSt := s.gnss.tks.getD k TkSt.reset

/-- A tracking channel's internal state changed. -/
def gnssSetTk (k : Nat) (f : TkSt → TkSt) (s : State) : State :=
  { s with gnss := { s.gnss with tks := s.gnss.tks.modify k f } }

/-- A port's internal state. -/
def gnssPort (s : State) (n : Nat) : GnssPort := s.gnss.ports.getD n GnssPort.reset

/-- A port's internal state changed. -/
def gnssSetPort (n : Nat) (f : GnssPort → GnssPort) (s : State) : State :=
  { s with gnss := { s.gnss with ports := s.gnss.ports.modify n f } }

/-- STATE of a channel (R164): 0 FREE, 1 ACQUIRE, 2 PULLIN, 3 TRACK, 4 REACQ. -/
def gnssState (s : State) (k : Nat) : Nat := s.get (GNSS_TK_STATUS.STATE k)

/-- The tracking channels, in order. -/
def gnssTks : List Nat := List.range 256

/-- The channels that count against a port's quota: those in use, and pinned ones in any state (R163). -/
def gnssQuota (s : State) (port : Nat) : Nat :=
  (gnssTks.filter fun k =>
    (gnssState s k != 0 || s.flag (GNSS_TK_STATUS.PINNED k)) && s.get (GNSS_TK_STATUS.PORT k) == port).length

/-- The channels of a port that are not FREE. -/
def gnssUsed (s : State) (port : Nat) : Nat :=
  (gnssTks.filter fun k => gnssState s k != 0 && s.get (GNSS_TK_STATUS.PORT k) == port).length

/-- TK_USED of the block and of every port. -/
def gnssCounts (s : State) : State :=
  let s := (List.range 4).foldl (fun s n => s.put (GNSS_PORT_STATUS.TK_USED n) (gnssUsed s n)) s
  s.put GNSS_STATUS.TK_USED (gnssTks.filter fun k => gnssState s k != 0).length

/-- STATE of a channel written. -/
def gnssEnter (k st : Nat) (s : State) : State := gnssCounts (s.put (GNSS_TK_STATUS.STATE k) st)

/-- A channel's internal state started anew, with no exclusion shown. -/
def gnssClear (k : Nat) (s : State) : State := (gnssSetTk k (fun _ => TkSt.reset) s).put (GNSS_TK_STATUS.EXCL k) 0

/-- A channel freed (R164). -/
def gnssFree (k : Nat) (s : State) : State := gnssEnter k 0 (gnssClear k s)

/-- The search ends without a signal: FREE, or ACQUIRE again for a pinned channel (R164). -/
def gnssGiveUp (k : Nat) (s : State) : State :=
  if s.flag (GNSS_TK_STATUS.PINNED k) then gnssEnter k 1 (gnssClear k s) else gnssFree k s

/-- A transition made only from a given state (R164). -/
def gnssFrom (st k : Nat) (f : State → State) (s : State) : State := if gnssState s k = st then f s else s

/-- SIGNAL_FOUND (R164). -/
def execSignalFound (k : Fin 256) (s : State) : Host.Outcome State Fault Refusal := .next (gnssFrom 1 k (gnssEnter k 2) s)

/-- ACQUISITION_TIMEOUT (R164). -/
def execAcquisitionTimeout (k : Fin 256) (s : State) : Host.Outcome State Fault Refusal :=
  .next (gnssFrom 1 k (gnssGiveUp k) s)

/-- PULLIN_LOCK (R164): the carrier phase count starts at 0. -/
def execPullinLock (k : Fin 256) (s : State) : Host.Outcome State Fault Refusal :=
  .next (gnssFrom 2 k (fun s => gnssEnter k 3 (gnssSetTk k (fun (t : TkSt) => { t with cp := 0, slip := false, lost := false }) s)) s)

/-- PULLIN_TIMEOUT (R164). -/
def execPullinTimeout (k : Fin 256) (s : State) : Host.Outcome State Fault Refusal := .next (gnssFrom 2 k (gnssEnter k 1) s)

/-- TRACK_LOSS (R164). The action LOCK_LOSS names no register, flag or counter of the spec: the state shows it. UNVERIFIED (assumption
159). -/
def execTrackLoss (k : Fin 256) (s : State) : Host.Outcome State Fault Refusal := .next (gnssFrom 3 k (gnssEnter k 4) s)

/-- REACQ_LOCK (R164): a cycle slip is flagged. -/
def execReacqLock (k : Fin 256) (s : State) : Host.Outcome State Fault Refusal :=
  .next (gnssFrom 4 k (fun s => gnssEnter k 3 (gnssSetTk k (fun (t : TkSt) => { t with slip := true }) s)) s)

/-- REACQ_TIMEOUT (R164). -/
def execReacqTimeout (k : Fin 256) (s : State) : Host.Outcome State Fault Refusal := .next (gnssFrom 4 k (gnssGiveUp k) s)

/-- SATELLITE_SET (R164): an unpinned tracked satellite is 2° below ELEV_MASK. -/
def execSatelliteSet (k : Fin 256) (s : State) : Host.Outcome State Fault Refusal :=
  .next (if s.flag (GNSS_TK_STATUS.PINNED k) then s else gnssFrom 3 k (gnssFree k) s)

/-- TRACK_RELEASE (R164): FREE and unpinned. -/
def gnssRelease (k : Nat) (s : State) : State := gnssFree k (s.put (GNSS_TK_STATUS.PINNED k) 0)

/-- TRACK_RELEASE. -/
def execTrackRelease (k : Fin 256) (s : State) : Host.Outcome State Fault Refusal :=
  .next (s.hostDo .gnss none [] (gnssRelease k))

/-- Every channel of a port freed (R161, R164). -/
def gnssFreePort (n : Nat) (s : State) : State :=
  gnssTks.foldl (fun s k => if gnssState s k != 0 && s.get (GNSS_TK_STATUS.PORT k) == n then gnssFree k s else s) s

/-! ### Allocation (R162, R163) -/

/-- The band of a signal in mHz: the lowest and the highest frequency (R162); GLONASS takes its whole FDMA span. -/
def sigBand (sig : Nat) : Nat × Nat :=
  let span := fun (c b : Nat) => (c * 10 ^ 6 - b * 10 ^ 6 / 2, c * 10 ^ 6 + b * 10 ^ 6 / 2)
  match sig with
  | 0 => span 1575420 2046 | 1 => span 1575420 4092 | 2 => span 1227600 2046 | 3 => span 1176450 20460
  | 4 => span 1575420 4092 | 5 => span 1176450 20460 | 6 => span 1207140 20460 | 7 => span 1561098 4092
  | 8 => span 1575420 4092 | 9 => span 1176450 20460 | 10 => span 1268520 20460
  | 11 => (1602 * 10 ^ 9 - 7 * 562500000 - 511000000, 1602 * 10 ^ 9 + 6 * 562500000 + 511000000)
  | 12 => (1246 * 10 ^ 9 - 7 * 437500000 - 511000000, 1246 * 10 ^ 9 + 6 * 437500000 + 511000000)
  | 13 => span 1575420 2046 | 14 => span 1176450 20460
  | _ => (0, 2 ^ 64)

/-- Whether a signal is trackable on a port: its band within the centre ± 0.4 × the nominal rate (R162). -/
def gnssTrackable (s : State) (port sig : Nat) : Bool :=
  let c := s.get64 (GNSS_PORT_CENTRE.ofs port)
  let w := s.get (GNSS_PORT_RATE.RATE port) * 400000
  let b := sigBand sig
  decide (c ≤ b.1 + w) && decide (b.2 ≤ c + w)

/-- Whether a port already tracks a pair (R163). -/
def gnssHas (s : State) (port sys sv sig : Nat) : Bool :=
  gnssTks.any fun j => gnssState s j != 0 && s.get (GNSS_TK_STATUS.PORT j) == port &&
    s.get (GNSS_TK_STATUS.SYS j) == sys && s.get (GNSS_TK_STATUS.SV j) == sv && s.get (GNSS_TK_STATUS.SIG j) == sig

/-- A pair placed on a channel, which enters ACQUIRE (R164). -/
def gnssPlace (k port sys sv sig : Nat) (s : State) : State :=
  let s := ((s.put (GNSS_TK_STATUS.SYS k) sys).put (GNSS_TK_STATUS.SV k) sv).put (GNSS_TK_STATUS.SIG k) sig
  gnssEnter k 1 (gnssClear k (s.put (GNSS_TK_STATUS.PORT k) port))

/-- ELEV_MASK in degrees, above 90 treated as 90. -/
def gnssMask (s : State) : Int := min 90 (s.get GNSS_CFG.ELEV_MASK)

/-- Whether the allocator may place a candidate (R163). -/
def gnssAllowed (s : State) (c : TrackCand) : Bool :=
  let p := c.port.val
  s.flag (GNSS_PORT_CFG.EN p) && s.flag (GNSS_PORT_STATUS.CLK_OK p) && gnssTrackable s p c.sig.toNat &&
  (s.get GNSS_CFG.SYS_EN).testBit c.sys.toNat && decide (c.sys.toNat < 5) &&
  (match c.elev with | some e => decide (gnssMask s < e) | none => true) &&
  decide (gnssQuota s p < s.get (GNSS_PORT_CFG.TK_QUOTA p)) && !gnssHas s p c.sys.toNat c.sv.toNat c.sig.toNat

/-- A candidate's satellite as a number: its system's satellites in order. -/
def candSat (c : TrackCand) : Nat := c.sys.toNat * 64 + c.sv.toNat

/-- How far a candidate's satellite lies ahead in the round-robin search of its port (R163). -/
def candTurn (s : State) (c : TrackCand) : Nat := (candSat c + 512 - (gnssPort s c.port).robin) % 512

/-- Whether a candidate comes before another: descending elevation, then ascending SIG; without a predicted elevation, the turn of the
round-robin search, then ascending SIG (R163). -/
def candBefore (s : State) (a b : TrackCand) : Bool :=
  match a.elev, b.elev with
  | some x, some y => decide (y < x) || (x == y && decide (a.sig.toNat ≤ b.sig.toNat))
  | some _, none => true
  | none, some _ => false
  | none, none => decide (candTurn s a < candTurn s b) || (candTurn s a == candTurn s b && decide (a.sig.toNat ≤ b.sig.toNat))

/-- A candidate inserted in its place. -/
def candInsert (s : State) (c : TrackCand) : List TrackCand → List TrackCand
  | [] => [c]
  | x :: xs => if candBefore s x c then x :: candInsert s c xs else c :: x :: xs

/-- The candidates in the order of R163. -/
def candSort (s : State) (cs : List TrackCand) : List TrackCand := cs.foldl (fun l c => candInsert s c l) []

/-- A candidate without a predicted elevation moves its port's round-robin search past its satellite (R163). -/
def gnssTurn (c : TrackCand) (s : State) : State :=
  s.onlyIf c.elev.isNone (gnssSetPort c.port fun (p : GnssPort) => { p with robin := (candSat c + 1) % 512 })

/-- TRACK_ALLOCATION (R163): the candidates fill FREE channels, lowest number first. DEDUCED (assumption 162). -/
def gnssAllocate (cands : List TrackCand) (s : State) : State :=
  (candSort s cands).foldl (fun s c =>
    match gnssTks.find? fun k => gnssState s k == 0 && !s.flag (GNSS_TK_STATUS.PINNED k) with
    | some k => if gnssAllowed s c then gnssTurn c (gnssPlace k c.port.val c.sys.toNat c.sv.toNat c.sig.toNat s) else s
    | none => s) s

/-- TRACK_ALLOCATION. -/
def execTrackAllocation (cands : List TrackCand) (s : State) : Host.Outcome State Fault Refusal :=
  .next (if s.live .gnss then gnssAllocate cands s else s)

/-- CFG_BAD of the block (R163). -/
def gnssCfgBad (s : State) : State := s.setFlag GNSS_FLAGS.CFG_BAD 130

/-- A PIN command (R163). -/
def gnssPin (k port sys sv sig : Nat) (s : State) : State :=
  let own := bit ((gnssState s k != 0 || s.flag (GNSS_TK_STATUS.PINNED k)) && s.get (GNSS_TK_STATUS.PORT k) == port)
  if s.get (GNSS_PORT_CFG.TK_QUOTA port) ≤ gnssQuota s port - own || gnssHas s port sys sv sig then gnssCfgBad s
  else (gnssPlace k port sys sv sig s).put (GNSS_TK_STATUS.PINNED k) 1

/-- A write of GNSS_TK_CMD: RELEASE wins over PIN. -/
def gnssTkCmd (k : Nat) (v : Word) (s : State) : State :=
  if v.getLsbD 14 then gnssRelease k s
  else if v.getLsbD 13 then gnssPin k (fieldOf v 15 2) (fieldOf v 0 3) (fieldOf v 3 6) (fieldOf v 9 4) s
  else s

/-- TRACK_PIN: a write of GNSS_TK_CMD with PIN. -/
def execTrackPin (k : Fin 256) (v : Word) (s : State) : Host.Outcome State Fault Refusal :=
  .next (s.hostDo .gnss none [] (gnssPin k (fieldOf v 15 2) (fieldOf v 0 3) (fieldOf v 3 6) (fieldOf v 9 4)))

/-- A write of GNSS_PORT_CFG: one whose quota would take the sum above 256 is ignored as a whole with CFG_BAD; a nominal rate out of
range keeps the port disabled; a disabled port frees its channels (R163, R164). -/
def gnssPortCfg (n : Nat) (v : Word) (s : State) : State :=
  let q := fieldOf v 8 9
  let others := (((List.range 4).filter (· != n)).map fun m => s.get (GNSS_PORT_CFG.TK_QUOTA m)).sum
  if 256 < others + q then gnssCfgBad s
  else
  let s := xsWrite (26 + n) s
  let s := s.put (GNSS_PORT_CFG.TK_QUOTA n) q
  let s := (s.putB (GNSS_PORT_CFG.FMT n) (v.getLsbD 1)).putB (GNSS_PORT_CFG.IQ_SWAP n) (v.getLsbD 2)
  let s := s.putB (GNSS_PORT_CFG.Q_INV n) (v.getLsbD 3)
  let rate := s.get (GNSS_PORT_RATE.RATE n)
  if !v.getLsbD 0 then gnssFreePort n (s.put (GNSS_PORT_CFG.EN n) 0)
  else if rate < 4000 || 100000 < rate then gnssCfgBad s
  else s.put (GNSS_PORT_CFG.EN n) 1

/-- A write of GNSS_PORT_RATE: out of range, the port stays disabled with CFG_BAD. -/
def gnssPortRate (n : Nat) (v : Word) (s : State) : State :=
  let r := fieldOf v 0 17
  let s := (xsWrite (26 + n) s).put (GNSS_PORT_RATE.RATE n) r
  if r < 4000 || 100000 < r then gnssFreePort n ((gnssCfgBad s).put (GNSS_PORT_CFG.EN n) 0) else s

/-! ### Samples and noise (R160, R176) -/

/-- One component negated: the sign bit of the 2-bit format, two's complement in the 4-bit one. -/
def negComponent (fmt : Nat) (q : Byte) : Byte :=
  if fmt = 0 then q ^^^ 2#8 else if q = 8#8 then Config.negatedMin.setWidth 8 else (0#8 - q) &&& 0x0F

/-- The sample that a port takes from its data lines, as R175 packs it (R160): IQ_SWAP exchanges I and Q, then Q_INV negates Q. DEDUCED
(assumption 160). -/
def gnssSample (s : State) (n : Nat) (d : Byte) : Byte :=
  let fmt := s.get (GNSS_PORT_CFG.FMT n)
  let w := if fmt = 0 then 2 else 4
  let mask : Byte := if fmt = 0 then 3 else 15
  let a := d &&& mask
  let b := (d >>> w) &&& mask
  let i := if s.flag (GNSS_PORT_CFG.IQ_SWAP n) then b else a
  let q := if s.flag (GNSS_PORT_CFG.IQ_SWAP n) then a else b
  i ||| ((if s.flag (GNSS_PORT_CFG.Q_INV n) then negComponent fmt q else q) <<< w)

/-- The power of one component of a sample. -/
def powerOf (fmt : Nat) (x : Byte) : Nat :=
  if fmt = 0 then Config.magnitude (x.getLsbD 0) ^ 2 else (x.setWidth 4).toInt.natAbs ^ 2

/-- The power of a sample: I² + Q². -/
def samplePower (fmt : Nat) (d : Byte) : Nat := if fmt = 0 then powerOf 0 (d &&& 3) + powerOf 0 (d >>> 2) else powerOf 1 d + powerOf 1 (d >>> 4)

/-- The rise of a power over a baseline in 0.25 dB, from 0 to 255: the largest step that it reaches, or the next one where it lies between
two (R176). -/
def noiseRise (power count : Nat) (b : NoiseBase) : Nat :=
  let p := (power * b.count) ^ 40
  let q := (b.power * count) ^ 40
  let k := ((List.range 256).filter fun k => decide (10 ^ k * q ≤ p)).length - 1
  if 10 ^ k * q < p ∧ k < 255 then (if Config.roundUp p (10 ^ k * q) then k + 1 else k) else k

/-- JAM of a port, once its baseline is learnt: set while the rise is at least JAM_THR (R176). -/
def gnssJam (n : Nat) (s : State) : State :=
  s.onlyIf (decide (60 * secUnit ≤ (gnssPort s n).base.time))
    (State.putB (GNSS_PORT_STATUS.JAM n) (decide (s.get (GNSS_PORT_JAM.JAM_THR n) ≤ s.get (GNSS_PORT_STATUS.NOISE n))))

/-- The noise of the samples between two comparator points (R176): it joins the baseline over the first 60 s with CLK_OK = 1, and is
compared with it afterwards. DEDUCED (assumption 161). -/
def gnssNoise (n : Nat) (samples : List Byte) (dt : Int) (s : State) : State :=
  if !s.flag (GNSS_PORT_STATUS.CLK_OK n) then s
  else
    let b := (gnssPort s n).base
    let p := (samples.map (samplePower (s.get (GNSS_PORT_CFG.FMT n)))).sum
    if b.time < 60 * secUnit then
      gnssSetPort n (fun (x : GnssPort) =>
        { x with base := { power := b.power + p, count := b.count + samples.length, time := b.time + dt } }) s
    else gnssJam n (s.put (GNSS_PORT_STATUS.NOISE n) (noiseRise p samples.length b))

/-- A write of GNSS_PORT_JAM: a new JAM_THR acts on JAM at once (R176). -/
def gnssJamWrite (n : Nat) (v : Word) (s : State) : State := gnssJam n (s.put (GNSS_PORT_JAM.JAM_THR n) (fieldOf v 0 8))

/-! ### Snapshots (R174, R175) -/

/-- BAR2 address of the capture pool (R382). -/
def poolBase : Nat := 0x1000000

/-- Bytes of the samples of a section: one byte, or one nibble per sample (R175). -/
def snapBytes (fmt count : Nat) : Nat := if fmt = 1 then count else (count + 1) / 2

/-- Samples that a port takes for DURATION at its nominal rate, part of a sample rounded up. -/
def snapWant (s : State) (n : Nat) : Nat :=
  (s.get GNSS_SNAP_CFG.DURATION * s.get (GNSS_PORT_RATE.RATE n) + 999) / 1000

/-- The ports selected for a snapshot, in ascending order. -/
def snapPorts (s : State) : List Nat := (List.range 4).filter fun n => (s.get GNSS_SNAP_CFG.PORTS).testBit n

/-- The end of the layout of R175 for sections of given byte lengths. -/
def snapEnd (lens : List Nat) : Nat := lens.foldl (fun a n => (a + 63) / 64 * 64 + 64 + n) 0

/-- The reason of a refusal, 0 for none (R174). -/
def snapReason (s : State) (start : Option Int) (now : Int) : Nat :=
  let ports := snapPorts s
  let d := s.get GNSS_SNAP_CFG.DURATION
  if s.gnss.snap.isSome then 1
  else if 8388608 < snapEnd (ports.map fun n => snapBytes (s.get (GNSS_PORT_CFG.FMT n)) (snapWant s n)) then 2
  else if (match start with
    | some t => decide (t < now + 10 ^ 6 * nsUnit) || decide (999999999 < (s.reg GNSS_SNAP_START_NS.ofs).toNat)
    | none => false) then 3
  else if ports.any fun n => !s.flag (GNSS_PORT_CFG.EN n) || !s.flag (GNSS_PORT_STATUS.CLK_OK n) then 4
  else if d = 0 || 32000 < d then 5
  else 0

/-- A snapshot requested: refused with its reason, or armed; without a START it begins at once (R174). -/
def snapGo (start : Option Int) (at_ : Nat) (s : State) : State :=
  let now := s.timeAt at_
  let r := snapReason s start now
  if r != 0 then (s.put GNSS_SNAP_STATUS.REASON r).setFlag GNSS_FLAGS.SNAP_REFUSED 129
  else
    let secs := (snapPorts s).map fun n =>
      ({ port := n, want := snapWant s n, first := none, noise := s.get (GNSS_PORT_STATUS.NOISE n), data := [],
         fault := false, closed := false } : SnapSec)
    let s := { s with gnss := { s.gnss with snap := some { start := start.getD now, running := start.isNone, secs := secs } } }
    (s.put GNSS_SNAP_STATUS.BUSY 1).countWrap GNSS_SNAP_STATUS.SEQ 1

/-- START of GO_AT. -/
def snapStart (s : State) : Int :=
  timeOf (s.get64 GNSS_SNAP_START_SEC.ofs) (s.reg GNSS_SNAP_START_NS.ofs).toNat 0

/-- GO_NOW. -/
def execGoNow (at_ : Nat) (s : State) : Host.Outcome State Fault Refusal :=
  .next (s.hostDo .gnss none [] (snapGo none at_))

/-- GO_AT. -/
def execGoAt (at_ : Nat) (s : State) : Host.Outcome State Fault Refusal :=
  .next (s.hostDo .gnss none [] (snapGo (some (snapStart s)) at_))

/-- SNAPSHOT_START (R174): device time has reached START of an armed snapshot. -/
def execSnapshotStart (at_ : Nat) (s : State) : Host.Outcome State Fault Refusal :=
  .next (match s.gnss.snap with
    | some sn =>
      if !sn.running && decide (sn.start ≤ s.timeAt at_) then
        { s with gnss := { s.gnss with snap := some { sn with running := true, secs := sn.secs.map fun (x : SnapSec) =>
          { x with noise := s.get (GNSS_PORT_STATUS.NOISE x.port) } } } }
      else s
    | none => s)

/-- Two samples of the 2-bit format in one byte, the earlier in the low nibble (R175). -/
def packNibbles : List Byte → List Byte
  | a :: b :: t => ((a &&& 0x0F) ||| ((b &&& 0x0F) <<< 4)) :: packNibbles t
  | [a] => [a &&& 0x0F]
  | [] => []

/-- The header and the packed samples of a section (R175). -/
def snapSection (s : State) (x : SnapSec) : List Byte :=
  let fmt := s.get (GNSS_PORT_CFG.FMT x.port)
  let t := x.first.getD 0
  let n := x.data.length
  let trunc := decide (n < x.want)
  let head := leBytes 4 0x50534E47 ++ [1, BitVec.ofNat 8 x.port, BitVec.ofNat 8 fmt,
      BitVec.ofNat 8 (bit trunc + 2 * bit x.fault)] ++
    leBytes 8 (secOf t) ++ leBytes 4 (nsOf t) ++ leBytes 4 (fracOf t) ++
    leBytes 8 (s.get64 (GNSS_PORT_CENTRE.ofs x.port)) ++
    leBytes 8 (gnssPort s x.port).rate ++
    leBytes 4 n ++ leBytes 4 (s.get GNSS_SNAP_STATUS.SEQ) ++ leBytes 4 x.noise ++ List.replicate 8 0
  head ++ leBytes 4 (crc32c head) ++ (if fmt = 1 then x.data.reverse else packNibbles x.data.reverse)

/-- The sections laid out from the pool base, each on a 64-byte boundary (R175). -/
def snapLayout : List (List Byte) → Nat → Memory → Memory
  | [], _, m => m
  | b :: bs, a, m =>
    let a := (a + 63) / 64 * 64
    snapLayout bs (a + b.length) (memWrite bar2Zero (memClear m (poolBase + a) b.length) (poolBase + a) b)

/-- A capture ends: the sections go to the pool, SNAP_DONE is set (R174, R175). -/
def snapEndCapture (s : State) : State :=
  match s.gnss.snap with
  | some sn =>
    let s := { s with bar2 := snapLayout (sn.secs.map (snapSection s)) 0 s.bar2, gnss := { s.gnss with snap := none } }
    (s.put GNSS_SNAP_STATUS.BUSY 0).setEvent GNSS_FLAGS.SNAP_DONE 129
  | none => s

/-- Whether every section of the running snapshot is full or closed. -/
def snapComplete (s : State) : Bool :=
  match s.gnss.snap with
  | some sn => sn.running && sn.secs.all fun x => x.closed || decide (x.want ≤ x.data.length)
  | none => false

/-- SNAPSHOT_DONE: the capture completes (R174). -/
def execSnapshotDone (s : State) : Host.Outcome State Fault Refusal := .next (if snapComplete s then snapEndCapture s else s)

/-- SNAPSHOT_ABORT (R174): the capture ends with what was taken. -/
def execSnapshotAbort (s : State) : Host.Outcome State Fault Refusal :=
  .next (s.hostDo .gnss none [] snapEndCapture)

/-- The sections of the running snapshot changed. -/
def snapMap (f : SnapSec → SnapSec) (s : State) : State :=
  match s.gnss.snap with
  | some sn => { s with gnss := { s.gnss with snap := some { sn with secs := sn.secs.map f } } }
  | none => s

/-- A write of GNSS_SNAP_CTRL: GO_NOW wins over GO_AT; ABORT ends a running capture. -/
def snapCtrl (v : Word) (at_ : Nat) (s : State) : State :=
  let s := s.onlyIf (v.getLsbD 2) snapEndCapture
  if v.getLsbD 0 then snapGo none at_ s else if v.getLsbD 1 then snapGo (some (snapStart s)) at_ s else s

/-! ### The sample clock (R161) -/

/-- A clock fault of a port (R161). -/
def gnssClockFault (n : Nat) (s : State) : State :=
  let s := ((s.put (GNSS_PORT_STATUS.CLK_OK n) 0).setFlag GNSS_FLAGS.CLK_FAULT 130).count (GNSS_PORT_JAM.CLK_LOSS n) 1
  snapMap (fun (x : SnapSec) => if x.port = n ∧ ¬ x.closed then { x with fault := true, closed := true } else x)
    (gnssFreePort n (gnssSetPort n (fun (p : GnssPort) => { p with point := none }) s))

/-- GNSS_CLOCK_FAULT. -/
def execGnssClockFault (port : Fin 4) (s : State) : Host.Outcome State Fault Refusal := .next (gnssClockFault port s)

/-- GNSS_CLOCK_OK (R161). -/
def execGnssClockOk (port : Fin 4) (s : State) : Host.Outcome State Fault Refusal :=
  .next (s.put (GNSS_PORT_STATUS.CLK_OK port) 1)

/-- The samples between two comparator points taken into a section of the running snapshot: from the first one at or after its start on,
up to the number wanted (R161, R174). -/
def snapTake (start t0 t1 : Int) (samples : List Byte) (x : SnapSec) : SnapSec :=
  if x.closed then x
  else
    let n : Int := samples.length
    let skip := if t1 - t0 ≤ 0 ∨ x.first.isSome then 0 else (((start - t0) * n + (t1 - t0) - 1) / (t1 - t0)).toNat
    let take := (samples.drop skip).take (x.want - x.data.length)
    let first := if take.isEmpty || x.first.isSome then x.first
      else some (t0 + Config.quot ((t1 - t0) * skip) (max 1 n))
    { x with data := take.reverse ++ x.data, first := first }

/-- SAMPLE_CLOCK_COMPARE (R161): one edge stamped, the samples since the last one counted and interpolated; a rate that departs
by more than 1 % is a clock fault. -/
def gnssCompare (n : Nat) (samples : List Byte) (at_ : Nat) (s : State) : State :=
  let t := s.timeAt at_
  if !s.live .gnss || !s.flag (GNSS_PORT_CFG.EN n) then s
  else s.cross false (26 + n) samples.length fun s =>
    match (gnssPort s n).point with
    | none => gnssSetPort n (fun (p : GnssPort) => { p with point := some t }) s
    | some t0 =>
      let rate := if t ≤ t0 then 0 else (Config.quot (samples.length * 10 ^ 9 * 2 ^ 92) (t - t0)).toNat
      let nominal : Int := s.get (GNSS_PORT_RATE.RATE n) * 1000 * 2 ^ 32
      let s := gnssSetPort n (fun (p : GnssPort) => { p with point := some t, rate := rate }) s
      if nominal < 100 * ((rate : Int) - nominal).natAbs then
        (if s.flag (GNSS_PORT_STATUS.CLK_OK n) then gnssClockFault n s else s)
      else
        let samples := samples.map (gnssSample s n)
        let s := gnssNoise n samples (t - t0) s
        match s.gnss.snap with
        | some sn =>
          if sn.running then snapMap (fun x => if x.port = n then snapTake sn.start t0 t samples x else x) s else s
        | none => s

/-- SAMPLE_CLOCK_COMPARE. -/
def execSampleClockCompare (port : Fin 4) (samples : List Byte) (at_ : Nat) (s : State) :
    Host.Outcome State Fault Refusal := .next (gnssCompare port samples at_ s)

/-! ### Integrations and observables (R165, R166) -/

/-- INTEGRATION (R165): the tracking update takes one integration, and the carrier phase since TRACK goes on. -/
def gnssIntegrate (k : Nat) (m : TkMeas) (s : State) : State :=
  if gnssState s k = 0 || !s.live .gnss then s
  else
    let s := gnssSetTk k (fun (t : TkSt) =>
      { t with meas := some m, cp := t.cp + m.cp, ints := (true :: t.ints).take 1000 }) s
    s.put (GNSS_TK_STATUS.CN0 k) m.cn0.toNat

/-- INTEGRATION. -/
def execIntegration (k : Fin 256) (m : TkMeas) (s : State) : Host.Outcome State Fault Refusal :=
  .next (gnssIntegrate k m s)

/-- INTEGRATION_LATE (R165): the integration is invalid, the oscillators continue at their last rate, and INT_LATE is set and counted. -/
def execIntegrationLate (k : Fin 256) (at_ : Nat) (s : State) : Host.Outcome State Fault Refusal :=
  .next (((((gnssSetTk k (fun (t : TkSt) => { t with
      lost := true, cp := t.cp + (t.meas.map (·.cp)).getD 0, ints := (false :: t.ints).take 1000 }) s)).setFlag
    GNSS_FLAGS.INT_LATE 128).count ⟨GNSS_CNT.ofs, 0, 32⟩ 1).deadline 3 (s.timeAt at_))

/-- The observable record of a channel (R166). -/
def gnssRecord (s : State) (k : Nat) (t : Int) (m : TkMeas) : List Byte :=
  let x := gnssTk s k
  let flags := bit m.codeLock + 2 * bit m.carrierLock + 4 * bit m.halfCycle + 8 * bit x.slip +
    16 * bit (s.flag (GNSS_TK_STATUS.EXCL k)) + 32 * bit x.used + 64 * bit m.ephValid +
    128 * bit (match x.excl with | some (.power, _) => true | _ => false) + 256 * bit x.lost
  let w2 := k + s.get (GNSS_TK_STATUS.SYS k) * 2 ^ 8 + s.get (GNSS_TK_STATUS.SV k) * 2 ^ 11 +
    s.get (GNSS_TK_STATUS.SIG k) * 2 ^ 17 + s.get (GNSS_TK_STATUS.PORT k) * 2 ^ 21 + flags * 2 ^ 23
  leBytes 4 (secOf t) ++ leBytes 4 (nsOf t) ++ leBytes 4 w2 ++
    leBytes 8 (m.pr.toNat % (10 ^ 9 * 65536)) ++ leBytes 8 x.cp.toNat ++
    leBytes 4 (m.dop.toNat + m.cn0.toNat * 2 ^ 20)

/-- What a channel in TRACK shows before its first integration: free values (R166; assumption 163). -/
def gnssFreeMeas (s : State) : TkMeas :=
  let v := s.freeVal
  { pr := BitVec.ofNat 64 v, cp := 0, dop := BitVec.ofNat 20 (v / 2 ^ 64), cn0 := BitVec.ofNat 8 (v / 2 ^ 84), codeLock := v.testBit 92,
    carrierLock := v.testBit 93, halfCycle := v.testBit 94, ephValid := v.testBit 95 }

/-- OBSERVABLE_EPOCH (R166): one record per TRACK channel at a whole or tenth second of device time. -/
def gnssObserve (at_ : Nat) (s : State) : State :=
  let rate := s.get GNSS_CFG.OBS_RATE
  if rate = 0 || !s.live .gnss then s
  else
    let p : Int := if rate = 1 then secUnit else secUnit / 10
    let t := (s.timeAt at_ + p / 2) / p * p
    gnssTks.foldl (fun s k =>
      if gnssState s k = 3 then
        let m := (gnssTk s k).meas.getD (gnssFreeMeas s)
        let s := s.onlyIf (gnssTk s k).meas.isNone State.freeNext
        gnssSetTk k (fun (x : TkSt) => { x with slip := false, lost := false }) (hifPushOrDrop 8 (gnssRecord s k t m) s)
      else s) s

/-- OBSERVABLE_EPOCH. -/
def execObservableEpoch (at_ : Nat) (s : State) : Host.Outcome State Fault Refusal := .next (gnssObserve at_ s)

/-! ### Positions and fits (R168, R171) -/

/-- A solution's internal state. -/
def gnssSol (s : State) (n : Nat) : GnssSol := s.gnss.sols.getD n GnssSol.reset

/-- A solution's internal state changed. -/
def gnssSetSol (n : Nat) (f : GnssSol → GnssSol) (s : State) : State :=
  { s with gnss := { s.gnss with sols := s.gnss.sols.modify n f } }

/-- A solution flag with its interrupt (R379). -/
def gnssSolFlag (n : Nat) (f : Fld) (s : State) : State := s.setFlag f (131 + n)

/-- Every fit of a solution emptied; learning begins again (R171). -/
def gnssFitReset (n : Nat) (s : State) : State :=
  gnssSetSol n (fun (x : GnssSol) => { x with fits := [[], [], [], []], rebases := s.ens.rebases }) s

/-- FIT_RESET. -/
def execFitReset (sol : Fin 4) (s : State) : Host.Outcome State Fault Refusal :=
  .next (s.hostDo .gnss (some (7, sol)) [] (gnssFitReset sol))

/-- POS_HELD cleared; the survey and the fits begin anew (R168, R171). -/
def gnssUnhold (n : Nat) (s : State) : State :=
  gnssFitReset n (gnssSetSol n (fun (x : GnssSol) => { x with survey := (0, 0, 0), fixes := 0 })
    (s.put (GNSS_SOL_STATUS.POS_HELD n) 0))

/-- RESURVEY. -/
def execResurvey (sol : Fin 4) (s : State) : Host.Outcome State Fault Refusal :=
  .next (s.hostDo .gnss (some (7, sol)) [] (gnssUnhold sol))

/-- A commit of GNSS_SOL_POS_Z holds the host's position at once (R168). -/
def gnssCommit (n : Nat) (z : Nat) (s : State) : State :=
  if s.flag (GNSS_SOL_CFG.POS_MODE n) then
    (s.put64 (GNSS_SOL_POS_Z.ofs n) z).put (GNSS_SOL_STATUS.POS_HELD n) 1
  else s

/-- POSITION_COMMIT. -/
def execPositionCommit (sol : Fin 4) (z : BitVec 64) (s : State) : Host.Outcome State Fault Refusal :=
  .next (s.hostDo .gnss (some (7, sol)) [GNSS_SOL_POS_Z.ofs sol, GNSS_SOL_POS_Z.ofs sol + 4] (gnssCommit sol z.toNat))

/-- The survey's mean becomes the held position (R168). -/
def gnssSurveyDone (n : Nat) (s : State) : State :=
  let x := gnssSol s n
  if s.flag (GNSS_SOL_CFG.POS_MODE n) || s.flag (GNSS_SOL_STATUS.POS_HELD n) || x.fixes = 0 then s
  else
    let put := fun ofs (v : Int) (s : State) => s.putS ofs (Config.quot v x.fixes)
    let s := put (GNSS_SOL_POS_X.ofs n) x.survey.1 (put (GNSS_SOL_POS_Y.ofs n) x.survey.2.1
      (put (GNSS_SOL_POS_Z.ofs n) x.survey.2.2 s))
    gnssSolFlag n (GNSS_SOL_FLAGS.SURVEY_DONE n) (s.put (GNSS_SOL_STATUS.POS_HELD n) 1)

/-- SURVEY_DONE. -/
def execSurveyDone (sol : Fin 4) (s : State) : Host.Outcome State Fault Refusal := .next (gnssSurveyDone sol s)

/-- A position fix of an epoch with four or more passing signals taken into the survey (R168). -/
def gnssSurvey (n : Nat) (fix : Int × Int × Int) (s : State) : State :=
  let s := gnssSetSol n (fun (x : GnssSol) =>
    { x with survey := (x.survey.1 + fix.1, x.survey.2.1 + fix.2.1, x.survey.2.2 + fix.2.2), fixes := x.fixes + 1 }) s
  if max 60 (s.get (GNSS_SOL_CFG.SURVEY_TIME n)) ≤ (gnssSol s n).fixes then gnssSurveyDone n s else s

/-! ### Judging the signals (R170 to R173) -/

/-- The constellation of a system code: SBAS counts with GPS (R170). -/
def sysConst (sys : Nat) : Nat := if sys = 4 then 0 else sys

/-- A signal of an epoch: its channel, constellation, b and C/N0. -/
structure Sig where
  tk : Nat
  con : Nat
  b : Int
  cn0 : Nat
deriving DecidableEq, Repr

/-- A constellation of an epoch: its number, bc, n, z, its residual where a fit gives one, and whether its check is active. -/
structure Con where
  k : Nat
  bc : Int
  n : Nat
  z : Int
  res : Option Int
  active : Bool
deriving DecidableEq, Repr

/-- Whether a channel meets the ephemeris and mask conditions of a solution (R170, R173). -/
def gnssSeen (s : State) (n : Nat) (e : SigEst) : Bool :=
  let k := e.tk.val
  gnssState s k == 3 && (s.get (GNSS_SOL_CFG.PORTS n)).testBit (s.get (GNSS_TK_STATUS.PORT k)) &&
  (match (gnssTk s k).meas with | some m => m.ephValid | none => false) && decide (gnssMask s ≤ e.elev)

/-- Whether a channel may take part in an epoch of a solution: also at most a tenth of the integrations of the second before it were
invalid (R165, R170). -/
def gnssTakesPart (s : State) (n : Nat) (e : SigEst) : Bool :=
  gnssSeen s n e && decide (10 * ((gnssTk s e.tk).ints.filter (!·)).length ≤ 1000)

/-- The position that a solution's ranges start from, in mm (R170): the held one, or the epoch's own fix while none is held. DEDUCED
(assumption 164). -/
def gnssPos (s : State) (n : Nat) (fix : Int × Int × Int) : Int × Int × Int :=
  if s.flag (GNSS_SOL_STATUS.POS_HELD n) then
    (s.getS (GNSS_SOL_POS_X.ofs n), s.getS (GNSS_SOL_POS_Y.ofs n), s.getS (GNSS_SOL_POS_Z.ofs n))
  else fix

/-- range / c in `_PH` units: the geometric range, found to 1 µm, with the Sagnac correction (R170), for c = 299,792,458 m/s and the
Earth's rate 7.2921151467e-5 rad/s. PRESUMED (assumption 164). -/
def gnssRange (pos sat : Int × Int × Int) : Int :=
  let dx := sat.1 - pos.1
  let dy := sat.2.1 - pos.2.1
  let dz := sat.2.2 - pos.2.2
  let um : Int := Config.root ((dx * dx + dy * dy + dz * dz).toNat * 10 ^ 6) 1
  Config.quot (um * (10 ^ 9 * 65536)) 299792458000000 +
    Config.quot (72921151467 * (sat.1 * pos.2.1 - sat.2.1 * pos.1) * (10 ^ 9 * 65536)) (10 ^ 15 * 299792458000 ^ 2)

/-- What is added to a time on GPS time for the reference of TREF on the scale of device time, in s (R169): 19 s for GPS time; for UTC as
broadcast, TB_UTC_OFS less the broadcast leap count. -/
def gnssRefAdd (s : State) (n : Nat) (leap : Option Int) : Int :=
  if s.flag (GNSS_SOL_CFG.TREF n) then s.tb.utcOfs - leap.getD 0 else 19

/-- A signal's clock estimate b at the epoch's second (R169, R170): device time less the transmit time on the reference, the range and
corr, the port's delay, and its constellation's bias and broadcast offset. -/
def gnssSig (s : State) (n : Nat) (e : SigEst) (sec add : Int) (pos : Int × Int × Int) (ofs : Int) : Sig :=
  let k := e.tk.val
  let c := sysConst (s.get (GNSS_TK_STATUS.SYS k))
  { tk := k, con := c, cn0 := s.get (GNSS_TK_STATUS.CN0 k),
    b := (sec - add) * (10 ^ 9 * 65536) - e.tx - gnssRange pos e.sat - e.corr -
      s.getS (GNSS_PORT_DLY_PH.ofs (s.get (GNSS_TK_STATUS.PORT k))) - s.getS (GNSS_SOL_BIAS_PH.ofs n c) - ofs }

/-- A channel's exclusion written, with EXCL. -/
def gnssTkExcl (k : Nat) (e : Option (Excl × Nat)) (s : State) : State :=
  (gnssSetTk k (fun (x : TkSt) => { x with excl := e }) s).putB (GNSS_TK_STATUS.EXCL k) e.isSome

/-- REINCL, zero treated as 1. -/
def gnssReincl (s : State) : Nat := max 1 (s.get GNSS_MISC.REINCL)

/-- A signal's test of an epoch (R170, R172): a new exclusion is flagged and counted; an excluded signal counts its passes and
rejoins at the epoch that completes REINCL of them. -/
def gnssTestSig (n : Nat) (kind : Excl) (flag : Fld) (fails : Sig → Bool) (s : State) (g : Sig) : State :=
  match (gnssTk s g.tk).excl with
  | none =>
    if fails g then
      gnssSolFlag n flag ((gnssTkExcl g.tk (some (kind, 0)) s).count (GNSS_SOL_CNT.EXCL_SIG n) 1)
    else s
  | some (e, p) =>
    if e != kind then s
    else if fails g then gnssTkExcl g.tk (some (e, 0)) s
    else if gnssReincl s ≤ p + 1 then gnssTkExcl g.tk none s
    else gnssTkExcl g.tk (some (e, p + 1)) s

/-- The signals that no test excludes. -/
def gnssKept (s : State) (gs : List Sig) : List Sig := gs.filter fun g => (gnssTk s g.tk).excl.isNone

/-- The per-constellation test (R170, R172): each signal against the median of those left of its constellation, or of all of them while
every one is excluded. DEDUCED (assumption 165). -/
def gnssMedianTest (n : Nat) (gs : List Sig) (s : State) : State :=
  let tol : Int := s.get GNSS_CHECK_CFG.SIG_TOL * 65536
  (List.range 4).foldl (fun s c =>
    let of := gs.filter fun g => g.con == c
    let left := gnssKept s of
    let m := medianOf ((if left.isEmpty then of else left).map (·.b))
    if of.isEmpty then s
    else of.foldl (gnssTestSig n .sig (GNSS_SOL_FLAGS.SIG_EXCL n) (fun g => tol < (g.b - m).natAbs)) s) s

/-- x_clk of R171 at a solution epoch. -/
def gnssXclk (s : State) (t : Int) : Int :=
  match s.ens.hist with
  | (t1, x1) :: (t0, x0) :: _ => if t1 = t0 then x1 else x1 + Config.quot ((x1 - x0) * (t - t1)) (t1 - t0)
  | [(_, x1)] => x1
  | [] => 0

/-- The fit window in s, the least span in s and the tolerance in `_PH` units for a clock reference (R171). -/
def gnssFitCfg (s : State) (dev : Bool) : Int × Int × Int :=
  if dev then (600, 60, s.get GNSS_CLK_CFG.CLK_TOL_TB * 65536)
  else
    let f : Int := max 1 (s.get GNSS_CLK_TIME.CLK_FIT) * 10
    (f, min f (s.get GNSS_CLK_TIME.CLK_MIN * 10), s.get GNSS_CLK_CFG.CLK_TOL * 65536)

/-- zhat of R171: the least-squares line through stored epochs, at a second; none without an epoch. -/
def fitAt (pts : List (Int × Int)) (sec : Int) : Option Int :=
  if pts.isEmpty then none
  else
    let n : Int := pts.length
    let sl := slopeOf pts
    let st := (pts.map (·.1)).sum
    let sx := (pts.map (·.2)).sum
    if sl.2 = 0 then some (Config.quot sx n)
    else some (Config.quot (sx * sl.2 + sl.1 * (n * sec - st)) (n * sl.2))

/-- The span of a fit in s: of its epochs, from the oldest to the newest, each standing for its own second. DEDUCED (assumption 166). -/
def fitSpan (pts : List (Int × Int)) : Int :=
  match pts.head?, pts.getLast? with
  | some a, some b => a.1 - b.1 + 1
  | _, _ => 0

/-- The constellations with signals left at an epoch (R170, R171). -/
def gnssCons (s : State) (n : Nat) (kept : List Sig) (sec xclk : Int) (dev : Bool) : List Con :=
  let cfg := gnssFitCfg s dev
  (List.range 4).filterMap fun k =>
    let l := (kept.filter fun g => g.con == k).map (·.b)
    if l.isEmpty then none
    else
      let bc := meanOf l
      let pts := ((gnssSol s n).fits.getD k []).filter fun p => decide (sec - cfg.1 ≤ p.1)
      let z := bc - xclk
      some { k := k, bc := bc, n := l.length, z := z, res := (fitAt pts sec).map (z - ·),
             active := decide (cfg.2.1 ≤ fitSpan pts) && !pts.isEmpty }

/-- Whether the constellations of a list agree pairwise within a tolerance. -/
def consAgree (tol : Int) : List Con → Bool
  | [] => true
  | c :: cs => (cs.all fun d => decide (((c.bc - d.bc).natAbs : Int) ≤ tol)) && consAgree tol cs

/-- The greatest |res| of a set. -/
def consWorst (l : List Con) : Nat := l.foldl (fun a c => max a (c.res.getD 0).natAbs) 0

/-- The subsets of a list, in its order. -/
def subsets {α : Type} : List α → List (List α)
  | [] => [[]]
  | x :: xs => (subsets xs).map (x :: ·) ++ subsets xs

/-- group of R170: the largest agreeing set; of several, the one of least worst residual where every member's check is active,
else none. -/
def consGroup (tol : Int) (cs : List Con) : Option (List Con) :=
  let sets := ((subsets cs).filter (consAgree tol)).filter fun l => !l.isEmpty
  let top := sets.foldl (fun a l => max a l.length) 0
  match sets.filter fun l => l.length == top with
  | [] => some []
  | [l] => some l
  | l :: ls =>
    if (l :: ls).all fun g => g.all (·.active) then
      some (ls.foldl (fun b g => if consWorst g < consWorst b then g else b) l)
    else none

/-- A constellation's exclusion in a solution written, with SYS_EXCL. -/
def gnssConExcl (n k : Nat) (e : Option (Excl × Nat)) (s : State) : State :=
  (gnssSetSol n (fun (x : GnssSol) => { x with excl := x.excl.modify k (fun _ => e) }) s).putB
    ⟨GNSS_SOL_STATUS.ofs n, 10 + k, 1⟩ e.isSome

/-- A constellation newly excluded: flagged and counted (R170). -/
def gnssExclude (n k : Nat) (kind : Excl) (s : State) : State :=
  let f := if kind = .clk then GNSS_SOL_FLAGS.CLK_EXCL n else GNSS_SOL_FLAGS.SYS_EXCL_EV n
  gnssSolFlag n f ((gnssConExcl n k (some (kind, 0)) s).count (GNSS_SOL_CNT.EXCL_CLK n) 1)

/-- Whether a constellation is excluded. -/
def gnssConOut (s : State) (n k : Nat) : Bool := ((gnssSol s n).excl.getD k none).isSome

/-- Whether a constellation's clock check fails at an epoch (R170). -/
def Con.fails (tol : Int) (c : Con) : Bool := c.active && (match c.res with | some r => decide (tol < r.natAbs) | none => false)

/-- The clock check of one constellation (R170, R172): a failing one that takes part is excluded; one that it has excluded counts its
passes. -/
def gnssClockTest (n : Nat) (tol : Int) (s : State) (c : Con) : State :=
  match (gnssSol s n).excl.getD c.k none with
  | none => s.onlyIf (c.fails tol) (gnssExclude n c.k .clk)
  | some (.clk, p) => gnssConExcl n c.k (some (.clk, if c.fails tol then 0 else p + 1)) s
  | some _ => s

/-- The inter-system test of a constellation that was excluded before this epoch, against those that take part (R172): one excluded by it
counts its passes and rejoins after REINCL of them, unless the clock check excludes it; one excluded by the clock check rejoins at a pass
once REINCL clock checks have passed. -/
def gnssRejoin (n : Nat) (tol sys : Int) (part : List Con) (s : State) (c : Con) : State :=
  let fits := match consGroup sys (c :: part) with | some g => g.any fun d => d.k == c.k | none => false
  match (gnssSol s n).excl.getD c.k none with
  | none => s
  | some (.clk, p) => s.onlyIf (decide (gnssReincl s ≤ p) && fits) (gnssConExcl n c.k none)
  | some (e, p) =>
    if !fits then gnssConExcl n c.k (some (e, 0)) s
    else if p + 1 < gnssReincl s then gnssConExcl n c.k (some (e, p + 1)) s
    else if c.fails tol then gnssExclude n c.k .clk s
    else gnssConExcl n c.k none s

/-- The verdict posted (R173): a change sets VERDICT_CHANGE; the slot receives the message, and x with a HOLD verdict. -/
def gnssVerdict (n v : Nat) (x : Int) (s : State) : State :=
  let s := if s.get (GNSS_SOL_STATUS.VERDICT n) = v then s
    else (s.put (GNSS_SOL_STATUS.VERDICT n) v).setEvent (GNSS_SOL_FLAGS.VERDICT_CHANGE n) (131 + n)
  let s := rgsForSource 5 n (fun m => rgsMessage m v) s
  if v = 2 ∨ v = 3 ∨ v = 4 then
    rgsForSource 5 n (fun m s => rgsSample m (sat64 x) (s.pivotAt 0) s) (s.putS (GNSS_SOL_X_PH.ofs n) x)
  else rgsForSource 5 n (fun m => rgsSignal m false) s

/-- The channels of a solution's ports marked for the next observables (R166): used in this epoch, and excluded at it. -/
def gnssMark (n : Nat) (gs kept : List Sig) (group : List Con) (s : State) : State :=
  gnssTks.foldl (fun s k =>
    if (s.get (GNSS_SOL_CFG.PORTS n)).testBit (s.get (GNSS_TK_STATUS.PORT k)) && gnssState s k != 0 then
      let con := sysConst (s.get (GNSS_TK_STATUS.SYS k))
      let used := (kept.any fun h => h.tk == k) && group.any fun c => c.k == con
      let out := (gnssTk s k).excl.isSome || ((gs.any fun g => g.tk == k) && gnssConOut s n con)
      (gnssSetTk k (fun (x : TkSt) => { x with used := used }) s).putB (GNSS_TK_STATUS.EXCL k) out
    else s) s

/-- The members of the group shown, marked in their channels, and entered into the fits (R171). -/
def gnssUse (n : Nat) (sec : Int) (gs kept : List Sig) (group : List Con) (s : State) : State :=
  let s := s.put (GNSS_SOL_STATUS.SYS_USED n) (group.foldl (fun a c => a ||| 2 ^ c.k) 0)
  let s := s.put (GNSS_SOL_STATUS.N_USED n) (group.map (·.n)).sum
  group.foldl (fun s c =>
    gnssSetSol n (fun (x : GnssSol) =>
      { x with fits := x.fits.modify c.k fun l => ((sec, c.z) :: l).filter fun p => decide (sec - 86400 * 8 ≤ p.1) }) s)
    (gnssMark n gs kept group s)

/-- A write of GNSS_SOL_CFG (R167, R168, R171): a port of another solution is ignored with CFG_BAD. -/
def gnssSolCfg (n : Nat) (v : Word) (s : State) : State :=
  let others := ((List.range 4).filter (· != n)).foldl (fun a m => a ||| s.get (GNSS_SOL_CFG.PORTS m)) 0
  let want := fieldOf v 1 4
  let s := s.onlyIf (want &&& others != 0) gnssCfgBad
  let mode := s.flag (GNSS_SOL_CFG.POS_MODE n)
  let s := (s.put (GNSS_SOL_CFG.PORTS n) (want &&& (15 - (others &&& 15)))).putB (GNSS_SOL_CFG.EN n) (v.getLsbD 0)
  let s := (s.putB (GNSS_SOL_CFG.POS_MODE n) (v.getLsbD 5)).putB (GNSS_SOL_CFG.TREF n) (v.getLsbD 6)
  let s := s.put (GNSS_SOL_CFG.SURVEY_TIME n) (fieldOf v 16 16)
  let s := s.onlyIf (v.getLsbD 7 || mode != v.getLsbD 5 || !v.getLsbD 0) (gnssUnhold n)
  let s := s.onlyIf (v.getLsbD 8) (gnssFitReset n)
  s.onlyIf (!v.getLsbD 0) fun s => gnssMark n [] [] [] (rgsForSource 5 n (fun m => rgsSignal m false) s)

/-- The clock reference of R171 chosen; a change, or a rebase of the ensemble, empties the fits. -/
def gnssClkRef (n : Nat) (s : State) : State :=
  let dev := s.get ENS_STATUS.ACTIVE_CNT == 0
  let s := if s.flag (GNSS_SOL_STATUS.CLK_REF n) == dev && (gnssSol s n).rebases == s.ens.rebases then s
    else gnssFitReset n s
  s.putB (GNSS_SOL_STATUS.CLK_REF n) dev

/-- An epoch with a held position (R170 to R173). -/
def gnssJudge (n : Nat) (sec : Int) (gs kept : List Sig) (xclk : Int) (s : State) : State :=
  let dev := s.flag (GNSS_SOL_STATUS.CLK_REF n)
  let cfg := gnssFitCfg s dev
  let sys : Int := s.get GNSS_CHECK_CFG.SYS_TOL * 65536
  let cs := gnssCons s n kept sec xclk dev
  let s := cs.foldl (fun s c => match c.res with | some r => s.putS (GNSS_SOL_RES_PH.ofs n c.k) r | none => s) s
  let s := s.putB (GNSS_SOL_STATUS.CLK_LEARNING n) (cs.any fun c => !c.active)
  let out := cs.filter fun c => gnssConOut s n c.k
  let s := cs.foldl (gnssClockTest n cfg.2.2) s
  let part := cs.filter fun c => !gnssConOut s n c.k
  let s := out.foldl (gnssRejoin n cfg.2.2 sys part) s
  let left := cs.filter fun c => !gnssConOut s n c.k
  let group := consGroup sys left
  let g := group.getD []
  let s := left.foldl (fun s c => if g.any fun d => d.k == c.k then s else gnssExclude n c.k .sys s) s
  let s := gnssUse n sec gs kept g s
  let total : Int := (g.map (·.n)).sum
  let x := if total = 0 then 0 else Config.quot (g.map fun c => (c.n : Int) * c.bc).sum total
  let v := if g.isEmpty then 5 else if total < 4 then 4 else if 2 ≤ g.length then 2 else 3
  gnssVerdict n v x s

/-- SOLUTION_EPOCH (R167 to R173). -/
def gnssSolve (n : Nat) (sigs : List SigEst) (leap : Option Int) (fix : Int × Int × Int) (at_ : Nat) (s : State) : State :=
  if !s.live .gnss || !s.flag (GNSS_SOL_CFG.EN n) then s
  else
    let t := (s.timeAt at_ + secUnit / 2) / secUnit * secUnit
    let sec := t / secUnit
    let part := sigs.filter (gnssTakesPart s n)
    let undecoded := s.flag (GNSS_SOL_CFG.TREF n) && leap.isNone
    let s := s.onlyIf (part.any fun e => undecoded || e.ofs.isNone) (gnssSolFlag n (GNSS_SOL_FLAGS.OFFSET_MISSING n))
    let s := s.onlyIf (match leap with
      | some l => s.flag (GNSS_SOL_CFG.TREF n) && l + 19 != s.tb.utcOfs
      | none => false) (gnssSolFlag n (GNSS_SOL_FLAGS.LEAP_MISMATCH n))
    let gs := if undecoded then []
      else part.filterMap fun e => e.ofs.map (gnssSig s n e sec (gnssRefAdd s n leap) (gnssPos s n fix))
    let s := gnssClkRef n s
    let max4 := 4 * s.get GNSS_MISC.CN0_MAX
    let s := gs.foldl (gnssTestSig n .power (GNSS_SOL_FLAGS.POWER_ANOM n) (fun g => max4 < g.cn0)) s
    let survive := sigs.any fun e => gnssSeen s n e && (match (gnssTk s e.tk).excl with | some (.power, _) => false | _ => true) &&
      !decide (max4 < s.get (GNSS_TK_STATUS.CN0 e.tk))
    let s := gnssMedianTest n gs s
    let kept := gnssKept s gs
    if !survive then gnssVerdict n 0 0 (gnssUse n sec gs [] [] s)
    else if !s.flag (GNSS_SOL_STATUS.POS_HELD n) then
      let s := gnssUse n sec gs [] [] s
      let s := if !s.flag (GNSS_SOL_CFG.POS_MODE n) && 4 ≤ kept.length then gnssSurvey n fix s else s
      gnssVerdict n 1 0 s
    else gnssJudge n sec gs kept (if s.flag (GNSS_SOL_STATUS.CLK_REF n) then 0 else gnssXclk s t) s

/-- SOLUTION_EPOCH: the epoch's signals, the broadcast leap count where it is decoded, and the epoch's position fix in mm. -/
def execSolutionEpoch (sol : Fin 4) (sigs : List SigEst) (leap : Option Int) (fix : Int × Int × Int) (at_ : Nat)
    (s : State) : Host.Outcome State Fault Refusal := .next (gnssSolve sol sigs leap fix at_ s)

/-- A step of device time is added to the stored z values (R171) and moves the comparator points (R161). -/
def gnssStep (move : Int) (s : State) : State :=
  let d := toPh move
  { s with gnss := { s.gnss with
      sols := s.gnss.sols.map fun (x : GnssSol) => { x with fits := x.fits.map fun l => l.map fun p => (p.1, p.2 + d) },
      ports := s.gnss.ports.map fun (p : GnssPort) => { p with point := p.point.map (· + move) } } }

/-- PFAIL_N low ends a running capture (R174). -/
def gnssPfail (s : State) : State := snapEndCapture s

end Sys2Proof.Machine
end

