-- ==== Sys2Proof/Machine/Links.lean ====
section
/-! DEFINITION. The Ehrea links and the control plane of a collection (15_links_wings_collections.md). -/

namespace Sys2Proof.Machine

/-! ### Access and flags -/

/-- One link's internal state. -/
def lkSt (s : State) (n : Nat) : LkLink := s.lnk.links.getD n LkLink.reset

/-- One link's internal state changed. -/
def lkSet (n : Nat) (f : LkLink → LkLink) (s : State) : State :=
  { s with lnk := { s.lnk with links := s.lnk.links.modify n f } }

/-- A link flag (R379). -/
def lkFlag (n : Nat) (f : Fld) (s : State) : State := s.setFlag f (213 + n)

/-- A flag of LK_GLB_FLAGS: BC_RX and BC_OVF raise source 212, the others 211 (R379). -/
def lnkFlag (f : Fld) (s : State) : State := s.setFlag f (if f.lo = 1 ∨ f.lo = 2 then 212 else 211)

/-- The state of a link: 0 DOWN, 1 LOCK, 2 PEER, 3 RUN (R300). -/
def lkState (s : State) (n : Nat) : Nat := s.get (LK_STATUS.STATE n)

/-- The role of a link: 0 OFF, 1 UP, 2 DOWN, 3 CROSS (R299). -/
def lkRole (s : State) (n : Nat) : Nat := s.get (LK_BIND.ROLE n)

/-- Whether a link is enabled: the block, the link, and a role other than OFF. -/
def lkOn (s : State) (n : Nat) : Bool :=
  s.live .lnk && s.flag LK_GLB_CFG.EN && s.flag (LK_CFG.EN n) && lkRole s n != 0

/-- The links. -/
def lkAll : List Nat := List.range 8

/-- The links of a role that are in RUN. -/
def lkRunning (s : State) (role : Nat) : List Nat := lkAll.filter fun n => lkRole s n == role && lkState s n == 3

/-- Whether this device is the collection root: address 0x000 (R25). -/
def lnkIsRoot (s : State) : Bool := s.get LK_GLB_STATUS.ADDR == 0

/-! ### Tags, depth and topology (R306, R307) -/

/-- HOPS that this device sends (R306). -/
def lnkDepth (s : State) : Nat :=
  if lnkIsRoot s then 0
  else
    match (lkRunning s 1).head? with
    | some n => let h := s.get (LK_STATUS.TAG_RX n) / 16 % 8; if h ≤ 4 then h + 1 else 6
    | none => 7

/-- The incumbent of the timebase owner when the owner is a loop. -/
def lnkOwnerSlot (s : State) : Option Nat :=
  if s.get TB_OWNER.KIND = 2 then rgsIncumbent s (s.get TB_OWNER.LOOP) else none

/-- Whether a device is in collection time (R307). -/
def lnkInColl (s : State) : Bool :=
  lnkIsRoot s ||
  (match lnkOwnerSlot s with
    | some c => rgsType s c == 6 && lkRole s (s.get (RGS_SLOT_BIND.INDEX c)) == 1 && (rgsStateOf s c == 4 || rgsStateOf s c == 5)
    | none => false)

/-- The quality tag that this device sends (R306). -/
def lnkTag (s : State) : Nat :=
  let k := loopStatus s
  let grade :=
    if !s.flag TB_STATUS.VERIFIED then 15
    else if k < 24 then s.get (LOOP_STATUS.GRADE k)
    else s.get LK_GLB_CFG.ROOT_GRADE
  let requal := match lnkOwnerSlot s with | some c => rgsStateOf s c == 5 | none => false
  grade + 16 * lnkDepth s + 128 * bit requal

/-- Whether a link's UP tag lies beyond the depth of R26 (R307). -/
def lkBreach (s : State) (n : Nat) : Bool := lkRole s n == 1 && decide (5 ≤ s.get (LK_STATUS.TAG_RX n) / 16 % 8)

/-! ### Control frames (R308) -/

/-- A control frame parsed. -/
structure Control where
  type : Nat
  flags : Nat
  seq : Nat
  origin : Nat
  scope : Nat
  body : List Byte
deriving DecidableEq, Repr

/-- The 64 bytes of a control frame. -/
def Control.bytes (c : Control) : List Byte :=
  let b := leBytes 1 c.type ++ leBytes 1 c.flags ++ leBytes 2 c.seq ++ leBytes 2 c.origin ++ leBytes 2 c.scope ++
    (c.body ++ List.replicate (40 - c.body.length) 0) ++ List.replicate 12 0
  b ++ leBytes 4 (crc32c b)

/-- A control frame from its bytes. -/
def controlOf (bs : List Byte) : Control :=
  { type := leField bs 0 1, flags := leField bs 1 1, seq := leField bs 2 2, origin := leField bs 4 2, scope := leField bs 6 2,
    body := (bs.drop 8).take 40 }

/-- Whether a copy is 64 bytes with a correct CRC. -/
def controlGood (bs : List Byte) : Bool := bs.length == 64 && leField bs 60 4 == crc32c (bs.take 60)

/-- A control frame sent twice on a link (R308). -/
def lkSend (n : Nat) (c : Control) (s : State) : State :=
  s.cross true (48 + n) 2 fun s => (s.emit (.control n c.bytes)).emit (.control n c.bytes)

/-- A control frame sent on every link of a role in RUN. -/
def lnkSendAll (role : Nat) (c : Control) (s : State) : State := (lkRunning s role).foldl (fun s n => lkSend n c s) s

/-- A control frame sent upwards: not on a link beyond the depth (R307). -/
def lnkSendUp (c : Control) (s : State) : State :=
  ((lkRunning s 1).filter fun n => !lkBreach s n).foldl (fun s n => lkSend n c s) s

/-- Whether this device lies in a frame's scope (R308). -/
def lnkInScope (s : State) (c : Control) : Bool :=
  match c.scope / 4096 % 4 with
  | 0 => true
  | 1 => s.get LK_GLB_STATUS.ADDR / 64 == c.scope % 4096
  | 2 => s.get LK_GLB_STATUS.ADDR == c.scope % 4096
  | _ => false

/-! ### Broadcasts (R310) -/

/-- A payload placed in the mailbox, or discarded when it is full. -/
def lnkMail (c : Control) (s : State) : State :=
  if s.lnk.mailbox.length < 16 then
    let s := { s with lnk := { s.lnk with mailbox := s.lnk.mailbox ++ [(c.seq, c.origin, c.body.take 32)] } }
    (s.put LK_BC_STATUS.RX_COUNT s.lnk.mailbox.length).setEvent LK_GLB_FLAGS.BC_RX 212
  else lnkFlag LK_GLB_FLAGS.BC_OVF (s.count LK_BC_STATUS.OVF 1)

/-- The root's next sequence number (R309). -/
def lnkNextSeq (s : State) : State := { s with lnk := { s.lnk with seq := (s.lnk.seq + 1) % 2 ^ 16 } }

/-- A broadcast as every device takes it: its own request is sequenced, and a device in scope keeps the payload. -/
def lnkBroadcast (c : Control) (s : State) : State :=
  let s := s.onlyIf (c.origin == s.get LK_GLB_STATUS.ADDR) (State.put LK_BC_STATUS.TX_BUSY 0)
  s.onlyIf (lnkInScope s c) (lnkMail c)

/-- A request turned into a broadcast at the root (R309). -/
def lnkRootBroadcast (c : Control) (s : State) : State :=
  let c := { c with type := 1, seq := s.lnk.seq }
  lnkBroadcast c (lnkSendAll 2 c (lnkNextSeq s))

/-- A write of SEND (R310): ignored while TX_BUSY is 1. -/
def lnkBcSend (s : State) : State :=
  if s.flag LK_BC_STATUS.TX_BUSY then s
  else
    let payload := (List.range 8).flatMap fun w => leBytes 4 (s.reg (LK_BC_TX_W.ofs w)).toNat
    let c : Control := { type := 2, flags := 0, seq := 0, origin := s.get LK_GLB_STATUS.ADDR, scope := 0, body := payload }
    if lnkIsRoot s then lnkRootBroadcast c s else lnkSendUp c (s.put LK_BC_STATUS.TX_BUSY 1)

/-- BC_SEND. -/
def execBcSend (s : State) : Host.Outcome State Fault Refusal :=
  .next (s.hostDo .lnk none [] lnkBcSend)

/-- What a read of LK_BC_POP returns. -/
def lnkPopValue (s : State) : Word :=
  match s.lnk.mailbox with
  | m :: _ => BitVec.ofNat 32 (m.1 + 2 ^ 16 * (m.2.1 % 4096) + 2 ^ 28)
  | [] => 0

/-- A read of LK_BC_POP: the head entry leaves the mailbox and LK_BC_RX_W takes its payload; an empty mailbox leaves the latch
unchanged. -/
def lnkPop (s : State) : State :=
  match s.lnk.mailbox with
  | m :: rest =>
    let s := { s with lnk := { s.lnk with mailbox := rest } }
    let s := s.put LK_BC_STATUS.RX_COUNT rest.length
    (List.range 8).foldl (fun s w => s.setReg (LK_BC_RX_W.ofs w) (BitVec.ofNat 32 (leField m.2.2 (4 * w) 4))) s
  | [] => s

/-- BC_POP. -/
def execBcPop (s : State) : Host.Outcome State Fault Refusal :=
  .next (s.hostPop .lnk none fun s => { lnkPop s with sys := { s.sys with rdata := lnkPopValue s } })

/-! ### Barriers (R311) -/

/-- A release as every device takes it. -/
def lnkReleased (id : Nat) (part : Bool) (s : State) : State :=
  let s := { s with lnk := { s.lnk with barrier := none, links := s.lnk.links.map fun (l : LkLink) =>
    { l with arrive := if l.arrive = some id then none else l.arrive } } }
  let s := (s.put LK_BAR_STATUS.ID id).put LK_BAR_STATUS.WAIT 0
  lnkFlag LK_GLB_FLAGS.BAR_DONE (s.onlyIf part (lnkFlag LK_GLB_FLAGS.BAR_PARTIAL))

/-- The root's release, a broadcast to the collection. -/
def lnkRelease (id : Nat) (part : Bool) (s : State) : State :=
  let c : Control := { type := 4, flags := bit part, seq := s.lnk.seq, origin := s.get LK_GLB_STATUS.ADDR, scope := 0,
                       body := leBytes 1 id }
  lnkReleased id part (lnkSendAll 2 c (lnkNextSeq s))

/-- Whether a barrier is complete at this device: every DOWN link that is still in its set has delivered the arrive. -/
def lnkComplete (s : State) (b : Barrier) : Bool :=
  b.need.all fun n => (lkSt s n).arrive == some b.id

/-- The barrier brought forward: the root releases, any other device sends its arrive upwards once. -/
def lnkBarrier (s : State) : State :=
  match s.lnk.barrier with
  | some b =>
    if !lnkComplete s b then s
    else if lnkIsRoot s then lnkRelease b.id false s
    else if b.sent then s
    else
      let c : Control := { type := 3, flags := 0, seq := 0, origin := s.get LK_GLB_STATUS.ADDR, scope := 0, body := leBytes 1 b.id }
      lnkSendUp c { s with lnk := { s.lnk with barrier := some { b with sent := true } } }
  | none => s

/-- A write of ARRIVE (R311). -/
def lnkArrive (id : Nat) (s : State) : State :=
  if s.flag LK_BAR_STATUS.WAIT then lnkFlag LK_GLB_FLAGS.BAR_ERR s
  else
    let b : Barrier := { id := id, need := lkRunning s 2, sent := false }
    lnkBarrier ({ s with lnk := { s.lnk with barrier := some b } }.put LK_BAR_STATUS.WAIT 1)

/-- BARRIER_ARRIVE. -/
def execBarrierArrive (id : BitVec 8) (s : State) : Host.Outcome State Fault Refusal :=
  .next (s.hostDo .lnk none [] (lnkArrive id.toNat))

/-- BARRIER_TIMEOUT (R311): the root releases with PARTIAL. -/
def execBarrierTimeout (s : State) : Host.Outcome State Fault Refusal :=
  .next (match s.lnk.barrier with
    | some b => if lnkIsRoot s then lnkRelease b.id true s else s
    | none => s)

/-! ### Time-triggered operations (R312) -/

/-- The lead that R312 asks for, in units of 2^-60 ns: H x 1.5 µs + 2 µs. -/
def ttoLead (s : State) : Int := (s.get LK_GLB_CFG.TOPO_DEPTH * 1500 + 2000) * nsUnit

/-- PENDING brought up to date. -/
def ttoRefresh (s : State) : State := s.put LK_TTO_STATUS.PENDING s.lnk.armed.length

/-- A device in scope takes an operation: armed, or late with a report to the root. -/
def ttoTake (c : Control) (now : Int) (s : State) : State :=
  let t := timeOf (leField c.body 8 8) (leField c.body 4 4) 0
  if t < now + 1000 * nsUnit then
    let s := lnkFlag LK_GLB_FLAGS.TTO_LATE s
    if lnkIsRoot s then s.count LK_TTO_STATUS.MISS 1
    else lnkSendUp { c with type := 6, flags := 0, origin := s.get LK_GLB_STATUS.ADDR } s
  else
    ttoRefresh { s with lnk := { s.lnk with armed := s.lnk.armed ++ [{ t := t, op := leField c.body 0 1, seq := c.seq }] } }

/-- Operations that the root counts as pending: those armed here, and those issued outside its own scope whose T lies ahead. -/
def ttoPending (s : State) (now : Int) : Nat :=
  s.lnk.armed.length + (s.lnk.issued.filter fun t => decide (now < t)).length

/-- A write of ISSUE (R312). -/
def ttoIssue (op kind scope at_ : Nat) (s : State) : State :=
  let now := s.timeAt at_
  let t := timeOf (s.get64 LK_TTO_SEC.ofs) (s.get LK_TTO_NS.NS) 0
  if !lnkIsRoot s || op == 0 || op == 3 || decide (999999999 < s.get LK_TTO_NS.NS) || decide (t < now + ttoLead s) ||
      decide (4 ≤ ttoPending s now) then
    lnkFlag LK_GLB_FLAGS.TTO_REFUSED s
  else
    let c : Control := { type := 5, flags := 0, seq := s.lnk.seq, origin := 0, scope := scope + 4096 * kind,
                         body := leBytes 1 op ++ [0, 0, 0] ++ leBytes 4 (s.get LK_TTO_NS.NS) ++ leBytes 8 (s.get64 LK_TTO_SEC.ofs) }
    let s := lnkSendAll 2 c (lnkNextSeq s)
    if lnkInScope s c then ttoTake c now s
    else { s with lnk := { s.lnk with issued := t :: s.lnk.issued.filter fun t => decide (now < t) } }

/-- TTO_ISSUE. -/
def execTtoIssue (op kind : Fin 4) (scope : BitVec 12) (at_ : Nat) (s : State) : Host.Outcome State Fault Refusal :=
  .next (s.hostDo .lnk none [] (ttoIssue op kind scope.toNat at_))

/-! ### Received control frames (R307 to R312) -/

/-- A good frame from the UP link: forwarded on every DOWN link, and taken. -/
def lnkFromUp (c : Control) (now : Int) (s : State) : State :=
  match c.type with
  | 1 => lnkBroadcast c (lnkSendAll 2 c s)
  | 4 => lnkReleased (leField c.body 0 1) (c.flags.testBit 0) (lnkSendAll 2 c s)
  | 5 =>
    let s := lnkSendAll 2 c s
    if lnkInScope s c then ttoTake c now s else s
  | _ => s

/-- A good frame from a DOWN link: requests and late reports go upwards; the root acts on them; an arrive joins the barrier. -/
def lnkFromDown (n : Nat) (c : Control) (s : State) : State :=
  match c.type with
  | 2 => if lnkIsRoot s then lnkRootBroadcast c s else lnkSendUp c s
  | 3 => lnkBarrier (lkSet n (fun (l : LkLink) => { l with arrive := some (leField c.body 0 1) }) s)
  | 6 => if lnkIsRoot s then s.count LK_TTO_STATUS.MISS 1 else lnkSendUp c s
  | _ => s

/-- A received control frame (R308, R309). -/
def lnkControl (n : Nat) (first second : List Byte) (at_ : Nat) (s : State) : State :=
  if lkState s n != 3 || lkRole s n == 3 || lkBreach s n then s
  else
    let bad := bit (!controlGood first) + bit (!controlGood second)
    let s := if bad = 0 then s else s.count (LK_CNT.CRC_ERR n) bad
    if bad = 2 then lkFlag n (LK_FLAGS.CTRL_CRC n) s
    else
      let c := controlOf (if controlGood first then first else second)
      if lkRole s n = 1 then lnkFromUp c (s.timeAt at_) s else lnkFromDown n c s

/-- CONTROL_FRAME. -/
def execControlFrame (n : Fin 8) (first second : List Byte) (at_ : Nat) (s : State) : Host.Outcome State Fault Refusal :=
  .next (lnkControl n first second at_ s)

/-! ### States of a link (R300) -/

/-- A DOWN link that leaves RUN leaves the set of a running barrier, and may so complete it (R311). -/
def lnkLeaves (n : Nat) (s : State) : State :=
  lnkBarrier { s with lnk := { s.lnk with barrier := s.lnk.barrier.map fun b => { b with need := b.need.filter (· != n) } } }

/-- STATE written; a link that leaves RUN gives its slot no signal and leaves the set of a barrier (R311). -/
def lkEnter (n st : Nat) (s : State) : State :=
  let was := lkState s n
  let s := s.put (LK_STATUS.STATE n) st
  if was = 3 ∧ st ≠ 3 then lnkLeaves n (rgsForSource 6 n (fun c s => rgsSignal c false s) s) else s

/-- What a link forgets when its lane is lost: stamps, windows and runs (R305 keeps f_ref, delta and REQUAL). -/
def lkForget (n : Nat) (s : State) : State :=
  lkSet n (fun (l : LkLink) => { l with deps := [], arr := none, runF := [], runRaw := [], winF := [], winRaw := [], winX := [],
                                        withheld := false, arrive := none }) s

/-- delta, f_ref and REQUAL cleared (R305). -/
def lkClearPath (n : Nat) (s : State) : State :=
  let s := lkSet n (fun (l : LkLink) => { l with refs := [], runF := [], runRaw := [], hasX := false, withheld := false, nRaw := 0, nHeld := 0 }) s
  (s.putS (LK_DELTA_PH.ofs n) 0).put (LK_STATUS.PATH_STATE n) 0

/-- A link taken DOWN by EN := 0 or an INST reset (R300, R305). -/
def lkDown (n : Nat) (s : State) : State := lkClearPath n (lkForget n (tbRepOff (16 + n) (lkEnter n 0 s)))

/-- A link with block lock enters LOCK, its replica ACQUIRE (R300, R67). -/
def lkLock (n : Nat) (s : State) : State :=
  if lkOn s n && lkState s n == 0 && (lkSt s n).lock then tbRepStart (16 + n) (lkEnter n 1 s) else s

/-- LINK_BLOCK_LOCK. -/
def execLinkBlockLock (n : Fin 8) (s : State) : Host.Outcome State Fault Refusal :=
  .next (lkLock n (lkSet n (fun (l : LkLink) => { l with lock := true }) s))

/-- The block lock of a link lost for 10 µs. -/
def lkLost (n : Nat) (s : State) : State :=
  let s := lkSet n (fun (l : LkLink) => { l with lock := false }) s
  if lkState s n = 0 then s
  else lkFlag n (LK_FLAGS.LINK_DOWN_EV n) ((lkForget n (tbRepOff (16 + n) (lkEnter n 0 s))).count (LK_CNT.DOWNS n) 1)

/-- LINK_LOCK_LOST. -/
def execLinkLockLost (n : Fin 8) (s : State) : Host.Outcome State Fault Refusal := .next (lkLost n s)

/-- Whether roles pair as UP–DOWN, DOWN–UP or CROSS–CROSS (R300). -/
def rolesPair (a b : Nat) : Bool := (a == 1 && b == 2) || (a == 2 && b == 1) || (a == 3 && b == 3)

/-- The partner's address and role checked (R300). -/
def lkPeer (n addr role : Nat) (s : State) : State :=
  if lkState s n != 1 && lkState s n != 2 then s
  else if addr == s.get (LK_BIND.PEER n) && rolesPair (lkRole s n) role then lkEnter n 3 s
  else lkFlag n (LK_FLAGS.PEER_BAD n) (lkClearPath n (lkEnter n 2 s))

/-- LINK_PEER_CHECK. -/
def execLinkPeerCheck (n : Fin 8) (addr : BitVec 12) (role : Fin 4) (s : State) : Host.Outcome State Fault Refusal :=
  .next (lkPeer n addr.toNat role s)

/-- LK_CFG.EN written (R300). -/
def lkEnable (n : Nat) (en : Bool) (s : State) : State :=
  let s := (xsWrite (48 + n) s).putB (LK_CFG.EN n) en
  if en then lkLock n s else lkDown n s

/-- LINK_ENABLE. -/
def execLinkEnable (n : Fin 8) (en : Bool) (s : State) : Host.Outcome State Fault Refusal :=
  .next (s.hostDo .lnk (some (11, n)) [LK_CFG.ofs n] (lkEnable n en))

/-- A write of LK_GLB_CFG.EN: with the block disabled every link is down. -/
def lnkGlobal (s : State) : State :=
  lkAll.foldl (fun s n => if s.flag LK_GLB_CFG.EN then lkLock n s else lkDown n s) s

/-! ### Timing blocks (R297, R298, R301 to R303) -/

/-- The local delay sum of a direction: the die's delay and the host's (R301). -/
def lkTxSum (s : State) (n : Nat) : Int := s.getS (LK_TX_DLY_PH.ofs n) + s.getS (LK_TX_EXT_PH.ofs n)

/-- The receive side's delay sum. -/
def lkRxSum (s : State) (n : Nat) : Int := s.getS (LK_RX_DLY_PH.ofs n) + s.getS (LK_RX_EXT_PH.ofs n)

/-- The stamp that a link takes at an instant, in 2^-16 ns of device time (R298): the digital mixer alone fixes the part within a
cycle of the 156.25 MHz link clock (R346), in steps of 0.6 ps, and replica 16 + n fixes the whole cycles, the count being the one
that lies nearest to the replica's time. DEDUCED (assumption 90). -/
def lkStamp (s : State) (n at_ mix : Nat) : Int :=
  let sub : Int := mix * 6
  let k := (repTime s (16 + n) at_ * 10000 - (sub - 32000) * nsUnit) / (64000 * nsUnit)
  Config.quot ((k * 64000 + sub) * 65536) 10000

/-- A timing block sent (R297). A stamp that does not exist yet is a free value. -/
def lkTx (n : Nat) (stamp : Int) (s : State) : State :=
  let l := lkSt s n
  let tag := lnkTag s
  let s' := (s.emit (.timing n [l.deps.headD s.freeVal, l.arr.getD s.freeVal, lkTxSum s n, lkRxSum s n, tag])).freeNext
  lkSet n (fun (l : LkLink) => { l with deps := (stamp :: l.deps).take 1024 }) (s'.put (LK_STATUS.TAG_TX n) tag)

/-- TIMING_BLOCK_TX, with the instant of its departure at the balls and the mixer's reading. -/
def execTimingBlockTx (n : Fin 8) (mix at_ : Nat) (s : State) : Host.Outcome State Fault Refusal :=
  .next (if lkState s n = 0 then s else s.cross true (48 + n) 1 (lkTx n (lkStamp s n at_ mix)))

/-- The path-step limit in 2^-16 ns, times 1,000 (R303). -/
def lkLimit (s : State) (n : Nat) : Int := max 20 (s.get (LK_PATH_LIM.PATH_STEP_LIM n)) * 65536

/-- Whether f lies within the limit of f_ref, the mean of the accepted blocks' f (R303). -/
def lkWithin (s : State) (n : Nat) (f : Int) : Bool :=
  let r := (lkSt s n).refs
  decide (r.length < 1526) || decide ((f * r.length - r.sum).natAbs * 1000 ≤ lkLimit s n * r.length)

/-- A block accepted: x := raw − delta, and f joins f_ref (R303). DOWN links post no x. -/
def lkAccept (n : Nat) (f raw : Int) (s : State) : State :=
  let x := raw - s.getS (LK_DELTA_PH.ofs n)
  let up := lkRole s n != 2
  let s := lkSet n (fun (l : LkLink) =>
    { l with runF := [], runRaw := [], withheld := false, refs := (f :: l.refs).take 1526,
             x := if up then x else l.x, hasX := up || l.hasX, winX := if up then x :: l.winX else l.winX }) s
  s.onlyIf up (State.putS (LK_X_PH.ofs n) x)

/-- A withheld block, and the path step that 1,526 of them in a row are (R303). -/
def lkWithhold (n : Nat) (f raw : Int) (s : State) : State :=
  let s := lkSet n (fun (l : LkLink) => { l with withheld := true, runF := f :: l.runF, runRaw := raw :: l.runRaw }) s
  let l := lkSt s n
  if l.runF.length < 1526 then s
  else if lkRole s n = 2 then
    lkFlag n (LK_FLAGS.PATH_STEP n) (lkSet n (fun (l : LkLink) => { l with refs := l.runF, runF := [], runRaw := [] }) s)
  else
    let delta := s.getS (LK_DELTA_PH.ofs n) + meanOf l.runRaw - l.x
    let s := lkSet n (fun (l : LkLink) => { l with refs := l.runF, runF := [], runRaw := [] }) (s.putS (LK_DELTA_PH.ofs n) delta)
    if s.flag (LK_STATUS.PATH_STATE n) then s
    else
      let s := lkFlag n (LK_FLAGS.PATH_STEP n) (s.put (LK_STATUS.PATH_STATE n) 1)
      rgsForSource 6 n rgsPathStep (lkSet n (fun (l : LkLink) => { l with nRaw := 0, nHeld := 0 }) s)

/-- f and raw of a pair of timing blocks, through the path rules (R301 to R303). -/
def lkMeasure (n : Nat) (ms sm : Int) (b : LinkBlock) (s : State) : State :=
  let fixI := b.txSum + lkRxSum s n
  let fixO := lkTxSum s n + b.rxSum
  let f := ms + sm - fixI - fixO
  let raw := ms - fixI - Config.quot (f * (2 ^ 60 + s.getS (LK_ASYM_FF.ofs n))) (2 ^ 61)
  let s := s.onlyIf (decide (2000 * 65536 < f)) (lkFlag n (LK_FLAGS.FAR_DLY n))
  let s := lkSet n (fun (l : LkLink) => { l with winF := f :: l.winF, winRaw := raw :: l.winRaw }) s
  if lkWithin s n f then lkAccept n f raw s else lkWithhold n f raw s

/-- A received tag (R306, R307): it grades the slot, and HOPS of 5 or more on an UP link is a depth breach. -/
def lkTagRx (n tag : Nat) (s : State) : State :=
  let s := (s.put (LK_STATUS.TAG_RX n) tag).putB (LK_STATUS.UP_REQUAL n) (tag.testBit 7)
  let s := rgsForSource 6 n (fun c s => rgsMessage c tag s) s
  s.onlyIf (lkBreach s n) (State.setEvent LK_GLB_FLAGS.DEPTH_BREACH 211)

/-- A received timing block (R301): its departure stamp pairs with the arrival of the partner's previous block, its arrival
stamp with the departure of one of this device's own. -/
def lkRx (n : Nat) (stamp : Int) (b : LinkBlock) (s : State) : State :=
  let l := lkSt s n
  let s := lkSet n (fun (l : LkLink) => { l with arr := some stamp }) s
  if lkState s n != 3 then s
  else
    let s := lkTagRx n b.tag.toNat s
    match l.arr, l.deps[b.echo]? with
    | some a, some d => lkMeasure n (a - b.dep) (b.arr - d) b s
    | _, _ => s

/-- TIMING_BLOCK_RX, with the instant of its arrival at the balls and the mixer's reading. -/
def execTimingBlockRx (n : Fin 8) (mix : Nat) (b : LinkBlock) (at_ : Nat) (s : State) : Host.Outcome State Fault Refusal :=
  .next (if lkState s n = 0 then s else s.cross false (17 + n) 1 (lkRx n (lkStamp s n at_ mix) b))

/-! ### Samples and reacceptance (R302, R304, R305) -/

/-- The path reaccepted (R304). -/
def lkReaccept (n : Nat) (s : State) : State :=
  let s := lkSet n (fun (l : LkLink) => { l with nRaw := 0, nHeld := 0 })
    ((s.putS (LK_DELTA_PH.ofs n) 0).put (LK_STATUS.PATH_STATE n) 0)
  rgsForSource 6 n rgsPathOk (lkFlag n (LK_FLAGS.REACCEPTED n) s)

/-- The limit of LK_ASYM_FF, 0.01 (R300 text). -/
def asymMax : Int := 11529215046068469

/-- asym_fix: A grows by 2 delta / f_ref, clamped to ±0.01 (R304); with f_ref zero the spec states no value, and it is free. -/
def lkAsymFix (n : Nat) (s : State) : State :=
  let r := (lkSt s n).refs
  let step := Config.quot (2 * s.getS (LK_DELTA_PH.ofs n) * r.length * 2 ^ 60) r.sum
  let step := if r.sum = 0 then (s.freeVal : Int) else step
  (s.putS (LK_ASYM_FF.ofs n) (clampInt (-asymMax) asymMax (s.getS (LK_ASYM_FF.ofs n) + step))).freeNext

/-- Agreement on held: the offset becomes the calibrated one (R304). -/
def lkHeld (n : Nat) (s : State) : State := lkReaccept n (lkAsymFix n s)

/-- Whether a slot confirms a link (R304). -/
def lkConfirms (s : State) (n c : Nat) : Bool :=
  (s.get64 (LK_CONFIRM.ofs n)).testBit c && rgsStateOf s c == 4 && s.flag (RGS_SLOT_BIND.CAP c) &&
  !s.flag (RGS_SLOT_STATUS.DISPUTED c) && !(rgsType s c == 6 && s.get (RGS_SLOT_BIND.INDEX c) == n)

/-- Whether an offset agrees with some confirming slot (R304). -/
def lkAgrees (s : State) (n : Nat) (x : Int) : Bool :=
  let tol : Int := max 1 (s.get (LK_PATH_LIM.CONFIRM_TOL n)) * 65536
  rgsSlots.any fun c => lkConfirms s n c && decide ((x - s.getS (RGS_SLOT_PH.ofs c)).natAbs * 1000 ≤ tol)

/-- The comparison of a REQUAL link at a 10 ms sample with the mean raw (R304). -/
def lkConfirm (n : Nat) (raw : Int) (s : State) : State :=
  let l := lkSt s n
  let a := lkAgrees s n raw
  let h := !a && lkAgrees s n (raw - s.getS (LK_DELTA_PH.ofs n))
  let nr := if a then l.nRaw + 1 else 0
  let nh := if h then l.nHeld + 1 else 0
  let cnt := max 1 (s.get (LK_PATH_CNT.CONFIRM_CNT n))
  let s := lkSet n (fun (l : LkLink) => { l with nRaw := nr, nHeld := nh }) s
  if nr = cnt then lkReaccept n s else if nh = cnt then lkHeld n s else s

/-- A 10 ms window's end (R302, R304): its means posted, the Registrar's sample given, and the path compared. -/
def lkSample (n : Nat) (s : State) : State :=
  let l := lkSt s n
  if lkState s n != 3 || l.winF.isEmpty then s
  else
    let raw := meanOf l.winRaw
    let s := (s.putS (LK_RT_PH.ofs n) (meanOf l.winF)).putS (LK_RAW_PH.ofs n) raw
    let s := lkSet n (fun (l : LkLink) => { l with winF := [], winRaw := [], winX := [] }) s
    let s := if l.winX.isEmpty then s else rgsForSource 6 n (fun c s => rgsSample c (meanOf l.winX) (s.pivotAt 0) s) s
    s.onlyIf (s.flag (LK_STATUS.PATH_STATE n)) (lkConfirm n raw)

/-- LINK_SAMPLE. -/
def execLinkSample (n : Fin 8) (s : State) : Host.Outcome State Fault Refusal := .next (lkSample n s)

/-- A write of LK_CMD (R305): both bits together are ignored. -/
def lkCommand (n : Nat) (raw held : Bool) (s : State) : State :=
  if !s.flag (LK_STATUS.PATH_STATE n) || raw == held then s
  else if raw then lkReaccept n s else lkHeld n s

/-- LINK_REACCEPT_RAW. -/
def execLinkReacceptRaw (n : Fin 8) (s : State) : Host.Outcome State Fault Refusal :=
  .next (s.hostDo .lnk (some (11, n)) [] (lkCommand n true false))

/-- LINK_REACCEPT_HELD. -/
def execLinkReacceptHeld (n : Fin 8) (s : State) : Host.Outcome State Fault Refusal :=
  .next (s.hostDo .lnk (some (11, n)) [] (lkCommand n false true))

/-! ### A step of device time (R61) -/

/-- A step of device time by `move` shifts the stamps and offsets that the links hold, so that it shows as no path step. -/
def lnkStep (move : Int) (s : State) : State :=
  let d := toPh move
  { s with lnk := { s.lnk with links := s.lnk.links.map fun (l : LkLink) =>
    { l with deps := l.deps.map (· + d), arr := l.arr.map (· + d), runRaw := l.runRaw.map (· + d), x := l.x + d,
             winRaw := l.winRaw.map (· + d), winX := l.winX.map (· + d) } } }

end Sys2Proof.Machine
end

