-- ==== Sys2Proof/Machine/Pair.lean ====
section
/-! DEFINITION. Active and standby pairs (16_pairs_and_failover.md). -/

namespace Sys2Proof.Machine

/-! ### Pins and link (R314, R315) -/

/-- Whether the pair link is in RUN. -/
def pairLinkUp (s : State) : Bool := s.flag PAIR_BIND.VALID && lkState s (s.get PAIR_BIND.LINK) == 3

/-- STAT3, PAIR_ACTIVE (R315, R320). -/
def pairStat3 (s : State) : Bool := pairActive s && !s.pair.gap

/-- ACTIVE_N low outside ACTIVE and ALONE sets ACTIVE_MISMATCH (R316). -/
def pairMismatch (s : State) : State :=
  s.onlyIf (s.flag PAIR_CFG.EN && !s.sys.activeN && !pairActive s) (pairFlag PAIR_FLAGS.ACTIVE_MISMATCH)

/-- A pair state entered (R318). -/
def pairGo (st : Nat) (s : State) : State := pairMismatch (s.put PAIR_STATUS.STATE st)

/-- FAILED entered (R318). -/
def pairFail (s : State) : State :=
  (pairGo 6 (pairSet (fun (p : PairState) => { p with gap := false }) s)).setEvent PAIR_FLAGS.FAILED_EV 221

/-- SYNCING entered: the unit has no copy (R318, R319). -/
def pairSyncing (s : State) : State :=
  pairGo 2 (pairSet (fun (p : PairState) => { p with gap := false, committed := none }) s)

/-- A frame whose tag fails (R317). -/
def pairBadFrame (s : State) : State := s.count PAIR_CNT0.BAD_FRAME 1

/-! ### Keying (R317) -/

/-- An exchange begun: a key pair is wanted of the engine. -/
def pairKeyBegin (s : State) : State :=
  pairSet (fun (p : PairState) => { p with kx := none, want := some .pairKey, peer := none, failed := false })
    (bneWithdraw (fun r => r != .ledger) s)

/-- KEYING entered: K is dropped and an exchange begins (R317, R318). -/
def pairKeying (s : State) : State :=
  pairGo 1 (pairKeyBegin
    (pairSet (fun (p : PairState) => { p with gap := false, key := none, nextKey := none }) (s.put PAIR_STATUS.KEYED 0)))

/-- The exchange has failed (R317): it is retried after 1 s. -/
def pairKeyBad (s : State) : State :=
  pairFlag PAIR_FLAGS.KEY_BAD
    (pairSet (fun (p : PairState) => { p with kx := none, want := none, peer := none, failed := true }) s)

/-- A keyed unit in KEYING leaves it by the partner's state (R318). -/
def pairLeaveKeying (s : State) : State :=
  if pairStateOf s = 1 && s.flag PAIR_STATUS.KEYED && s.flag PAIR_STATUS.HB_OK then
    let st := s.get PAIR_STATUS.PARTNER_STATE
    let mine := s.flag PAIR_CFG.PREFER
    let lower := decide (s.get LK_GLB_STATUS.ADDR < s.get (LK_BIND.PEER (s.get PAIR_BIND.LINK)))
    if st = 4 ∨ st = 5 then pairSyncing s
    else if st = 1 then (if mine || (!s.pair.prefer && lower) then pairGo 4 s else pairSyncing s)
    else s
  else s

/-- K derived: in force at once, or in STANDBY and ACTIVE from the next copy epoch (R317). -/
def pairKeyed (k : List Byte) (s : State) : State :=
  if (pairStateOf s = 3 || pairStateOf s = 4) && s.pair.key.isSome then
    pairSet (fun (p : PairState) => { p with nextKey := some k, kx := none, peer := none, want := none }) s
  else
    pairLeaveKeying ((pairSet (fun (p : PairState) =>
      { p with key := some k, nextKey := none, kx := none, peer := none, want := none }) s).put PAIR_STATUS.KEYED 1)

/-- The next K put into force at a copy epoch. -/
def pairAdoptKey (s : State) : State :=
  match s.pair.nextKey with
  | some k => pairSet (fun (p : PairState) => { p with key := some k, nextKey := none }) s
  | none => s

/-- The partner's identity key, as the host has set it. -/
def pairPeerKey (s : State) : List Byte := (List.range 8).flatMap fun w => leBytes 4 (s.reg (PAIR_PEER_KEY.ofs w)).toNat

/-- What a keying message signs: the public key, the nonce and CFG_HASH. -/
def pairSigned (pub nonce hash : List Byte) : List Byte := pub ++ nonce ++ hash

/-- The shared secret wanted once this unit's message is out and the partner's is verified. -/
def pairWantSecret (s : State) : State :=
  match s.pair.kx with
  | some x =>
    if x.sent && s.pair.peer.isSome && s.pair.want.isNone then
      pairSet (fun (p : PairState) => { p with want := some .pairSecret }) s
    else s
  | none => s

/-- A keying message received: a new public key is verified against PAIR_PEER_KEY and answers or begins an exchange. -/
def pairKeyMessage (pub nonce hash sig : List Byte) (s : State) : State :=
  if !s.flag PAIR_CFG.EN || pub == s.pair.seen then s
  else if !ed25519.verify (pairPeerKey s) (pairSigned pub nonce hash) sig then pairKeyBad s
  else
    let s := s.onlyIf (hash != catHash s) (pairFlag PAIR_FLAGS.CFG_MISMATCH)
    let s := s.onlyIf (s.pair.kx.isNone && s.pair.want != some .pairKey) pairKeyBegin
    pairWantSecret (pairSet (fun (p : PairState) => { p with seen := pub, peer := some (pub, nonce) }) s)

/-- KEY_MESSAGE: 32 bytes of public key, 16 of nonce, 32 of CFG_HASH and 64 of signature. -/
def execKeyMessage (bytes : List Byte) (s : State) : Host.Outcome State Fault Refusal :=
  .next (pairKeyMessage (bytes.take 32) ((bytes.drop 32).take 16) ((bytes.drop 48).take 32) ((bytes.drop 80).take 64) s)

/-- A new key agreement by command or timer; REKEY_INT = 0 disables the periodic one (R317). -/
def pairRekey (periodic : Bool) (s : State) : State :=
  s.onlyIf (pairStateOf s != 0 && !(periodic && s.get PAIR_CFG2.REKEY_INT == 0)) pairKeyBegin

/-- REKEY. -/
def execRekey (periodic : Bool) (s : State) : Host.Outcome State Fault Refusal :=
  .next (s.hostDo .pair none [] (pairRekey periodic))

/-- KEY_RETRY: 1 s after a failure the exchange is retried. -/
def execKeyRetry (s : State) : Host.Outcome State Fault Refusal :=
  .next (s.onlyIf (pairStateOf s != 0 && s.pair.failed) pairKeyBegin)

/-- INTERNAL_REQUEST (R262): the ledger or the pair block submits what it waits for. -/
def execInternalRequest (pair : Bool) (s : State) : Host.Outcome State Fault Refusal :=
  .next (if pair then
    match s.pair.want with
    | some r => bneSubmit r s
    | none => s
  else provSubmit s)

/-- The X25519 key pair of the exchange drawn, with the nonce (R317). -/
def pairDrawn (s : State) : State :=
  let priv := s.freeBytes 32
  let s := s.freeNext
  let nonce := s.freeBytes 16
  let x : PairKx := { priv := priv, pub := x25519.public priv, nonce := nonce, sent := false }
  pairSet (fun (p : PairState) => { p with kx := some x, want := some .pairSign }) s.freeNext

/-- The keying message signed under the identity key and sent (R317). -/
def pairSend (s : State) : State :=
  match s.pair.kx with
  | some x =>
    let m := pairSigned x.pub x.nonce (catHash s)
    let s := pairSet (fun (p : PairState) => { p with kx := some { x with sent := true }, want := none })
      (s.emit (.pair 0 (m ++ ed25519.sign identitySeed m)))
    pairWantSecret s
  | none => s

/-- K from the shared secret (R317): the salt starts with the nonce of the lower collection address. -/
def pairDerive (s : State) : State :=
  match s.pair.kx, s.pair.peer with
  | some x, some (pub, nonce) =>
    let z := x25519.apply x.priv pub
    if z.all (· == 0) then pairKeyBad s
    else
      let lower := decide (s.get LK_GLB_STATUS.ADDR < s.get (LK_BIND.PEER (s.get PAIR_BIND.LINK)))
      let salt := if lower then x.nonce ++ nonce else nonce ++ x.nonce
      let info := [0x53, 0x55, 0x4E, 0x44, 0x41, 0x4E, 0x45, 0x2D, 0x50, 0x41, 0x49, 0x52]
      pairKeyed (hkdf256 z salt info 96) s
  | _, _ => s

/-- INTERNAL_REQUEST_DONE: an internal request of the pair block completes (R317). -/
def execInternalRequestDone (s : State) : Host.Outcome State Fault Refusal :=
  .next (if bneRuns s .pairKey then pairDrawn (bneEndRequest s)
  else if bneRuns s .pairSign then pairSend (bneEndRequest s)
  else if bneRuns s .pairSecret then pairDerive (bneEndRequest s)
  else s)

/-! ### Enable and wait (R318) -/

/-- The pair block at the start of RUN or after its reset: KEYING when EN = 1 (R318). -/
def pairStart (s : State) : State := s.onlyIf (s.flag PAIR_CFG.EN) pairKeying

/-- EN := 0 (R318): OFF, without K. -/
def pairOff (s : State) : State :=
  let s := bneWithdraw (fun r => r != .ledger) s
  let s := pairSet (fun (p : PairState) => { PairState.reset with host := p.host, rehearsed := p.rehearsed }) s
  ((s.put PAIR_STATUS.STATE 0).put PAIR_STATUS.KEYED 0).put PAIR_STATUS.HB_OK 0

/-- PAIR_CFG.EN written (R318). -/
def pairEnable (en : Bool) (s : State) : State :=
  let was := s.flag PAIR_CFG.EN
  let s := s.putB PAIR_CFG.EN en
  if was == en then s else if en then (if s.live .pair then pairKeying s else s) else pairOff s

/-- PAIR_ENABLE. -/
def execPairEnable (en : Bool) (s : State) : Host.Outcome State Fault Refusal :=
  .next (s.hostDo .pair none [PAIR_CFG.ofs] (pairEnable en))

/-- A host write of PAIR_CFG: COPY_PERIOD is clamped. -/
def pairCfgWrite (v : Word) (s : State) : State :=
  pairEnable (v.getLsbD 0) (s.setReg PAIR_CFG.ofs (BitVec.ofNat 32
    (bit (s.flag PAIR_CFG.EN) + fieldOf v 1 7 * 2 + max 10 (min 1000 (fieldOf v 16 16)) * 65536)))

/-- PAIR_WAIT_EXPIRY: PAIR_WAIT ends unkeyed (R318). -/
def execPairWaitExpiry (s : State) : Host.Outcome State Fault Refusal :=
  .next (s.onlyIf (pairStateOf s == 1 && !s.flag PAIR_STATUS.KEYED && (!s.sys.partnerOk || s.flag PAIR_CFG.PREFER)) (pairGo 5))

/-! ### Health (R323, PAIR_HEALTH) -/

/-- Whether the committed epoch is younger than 3 × COPY_PERIOD at a device time; 1 in ACTIVE and ALONE. -/
def pairCopyOk (s : State) (now : Int) : Bool :=
  pairActive s ||
  (match s.pair.committed with
   | some e => decide (now - e.time < 3 * s.get PAIR_CFG.COPY_PERIOD * 10 ^ 6 * nsUnit)
   | none => false)

/-- Whether at most 1 in 1,000 digests of the last 10 s differed. -/
def pairRehearseOk (s : State) (now : Int) : Bool :=
  let c := s.pair.compared.filter fun c => decide (now < c.1 + 10 * secUnit)
  decide (1000 * (c.filter (·.2)).length ≤ c.length)

/-- The bits of PAIR_HEALTH at a device time. -/
def pairHealthBits (s : State) (now : Int) : Nat :=
  let k := loopStatus s
  bit (s.flag TB_STATUS.VERIFIED) + 2 * bit (decide (k < 24) && (loopState s k == 2 || loopState s k == 3)) +
  4 * bit (s.get BNE_CORE_STATUS.FAULT == 0) + 8 * bit (s.get NTS_UNIT_STATUS.FAULT == 0) +
  16 * bit ((List.range 8).all fun n => s.get (EVT_BK_STATUS.RELIEF_STATE n) < 5) + 32 * bit (pairCopyOk s now) +
  64 * bit (pairRehearseOk s now)

/-- The health verdict (R323): 0 GOOD, 1 DEGRADED, 2 BAD. -/
def pairHealth (s : State) (now : Int) : Nat :=
  if !s.flag TB_STATUS.VERIFIED || (pairStateOf s == 3 && !pairCopyOk s now) then 2
  else if pairHealthBits s now = 127 then 0
  else 1

/-! ### The copy of NTS keys (R324, R325) -/

/-- A key slot in the NTS section: present, generation, key. -/
def pairKeyBytes (k : Option NtsKey) : List Byte :=
  match k with
  | some k => 1 :: (leBytes 4 k.gen ++ k.key)
  | none => List.replicate 69 0

/-- A key slot read back. -/
def pairKeyOf (bs : List Byte) : Option NtsKey :=
  if bs.headD 0 = 1 then some { gen := leNat ((bs.drop 1).take 4), key := (bs.drop 5).take 64 } else none

/-- The NTS section: the generations, the staged key and NTS_GEN_NEXT. -/
def pairNtsPlain (s : State) : List Byte :=
  pairKeyBytes s.nts.cur ++ pairKeyBytes s.nts.old1 ++ pairKeyBytes s.nts.old2 ++ pairKeyBytes s.nts.staging ++
    leBytes 4 (s.get NTS_GEN_NEXT.NEXT)

/-- A section wrapped under K with AES-SIV-CMAC-512. -/
def pairWrap (k plain : List Byte) : List Byte := let p := sivSeal (k.take 64) [] plain; p.1 ++ p.2

/-- A wrapped section opened. -/
def pairUnwrap (k sealed_ : List Byte) : Option (List Byte) := sivOpen (k.take 64) [] (sealed_.take 16) (sealed_.drop 16)

/-- The staged key becomes CUR once its checkpoint has committed and, while the partner is STANDBY, an epoch that holds it is
acknowledged (R325). -/
def pairRotate (s : State) : State :=
  match s.nts.staging with
  | some k =>
    let needs := pairActive s && s.get PAIR_STATUS.PARTNER_STATE == 3
    if s.pair.saved = some k.gen ∧ (!needs || s.pair.acked == some k.gen) then
      ntsRotated (pairSet (fun (p : PairState) => { p with saved := none, sent := [] }) s)
    else s
  | none => s

/-- A checkpoint that holds the staged key of a generation has committed (R226, R325). -/
def pairSaved (gen : Nat) (s : State) : State :=
  pairRotate (pairSet (fun (p : PairState) => { p with saved := some gen }) s)

/-- The generations of an epoch loaded into the key store (R324). -/
def pairLoadKeys (plain : List Byte) (s : State) : State :=
  ntsRest (ntsRefresh { s with nts := { s.nts with cur := pairKeyOf (plain.take 69),
                                                   old1 := pairKeyOf ((plain.drop 69).take 69),
                                                   old2 := pairKeyOf ((plain.drop 138).take 69) } })

/-- The staged key and the next generation number of an epoch taken at promotion: a staged key waits for its checkpoint. -/
def pairLoadStaged (plain : List Byte) (s : State) : State :=
  let s := s.put NTS_GEN_NEXT.NEXT (leNat ((plain.drop 276).take 4))
  match pairKeyOf ((plain.drop 207).take 69) with
  | some k => ntsState 2 { s with nts := { s.nts with staging := some k }, con := { s.con with blockReq := true } }
  | none => s

/-- The NTS store of a unit promoted without a copy: it starts from EMPTY under R226 (R319). -/
def pairNtsEmpty (s : State) : State :=
  let s := ntsRest (ntsRefresh { s with nts := { s.nts with cur := none, old1 := none, old2 := none, staging := none } })
  s.onlyIf (s.flag NTS_CFG.EN) ntsDraw

/-! ### Promotion and hand-over (R319, R320) -/

/-- STATE_AGE of a promotion at a device time: device time less the snapshot's, in µs; a value outside the register is free. -/
def pairAge (s : State) (now : Int) (t : Int) : Nat :=
  let us := Config.quot (now - t) (1000 * nsUnit)
  if 0 ≤ us ∧ us < 0xFFFFFFFF then us.toNat else s.freeVal

/-- What a promoted unit takes from its last committed epoch; a unit in SYNCING has none (R319, R320, R324). -/
def pairTakeCopy (now : Int) (s : State) : State :=
  match pairStateOf s, s.pair.committed, s.pair.key with
  | 3, some e, some k =>
    let s := (s.put PAIR_STATE_AGE.AGE (pairAge s now e.time)).freeNext
    let s := pairSet (fun (p : PairState) => { p with host := e.host }) s
    match pairUnwrap k e.nts with
    | some plain => pairLoadStaged plain s
    | none => s
  | _, _, _ => pairNtsEmpty (s.put PAIR_STATE_AGE.AGE 0xFFFFFFFF)

/-- A promotion to ACTIVE (4) or ALONE (5) (R320): STAT3 rises after HANDOVER_GAP, or at once when PARTNER_OK is low. -/
def pairPromote (st : Nat) (now : Int) (s : State) : State :=
  let s := pairTakeCopy now s
  let s := s.onlyIf (pairLinkUp s) (State.emit (.pair 2 []))
  let gap := s.sys.partnerOk && s.get PAIR_CFG2.HANDOVER_GAP != 0
  let s := pairGo st (pairSet (fun (p : PairState) => { p with gap := gap }) s)
  pairFlag PAIR_FLAGS.PROMOTED (s.count PAIR_CNT2.PROMOTIONS 1)

/-- A promotion trigger that needs AUTO_PROMOTE (R319). -/
def pairTrigger (now : Int) (s : State) : State :=
  if pairStateOf s = 2 ∨ pairStateOf s = 3 then
    if s.flag PAIR_CFG.AUTO_PROMOTE then pairPromote 4 now s else pairFlag PAIR_FLAGS.PROMOTE_DUE s
  else s

/-- PROMOTE from the host (R319). -/
def pairHostPromote (force : Bool) (now : Int) (s : State) : State :=
  if pairStateOf s = 2 ∨ pairStateOf s = 3 then
    if !force && (pairHealth s now == 2 || s.pair.committed.isNone) then pairFlag PAIR_FLAGS.PROMOTE_REFUSED s
    else pairPromote 4 now s
  else s

/-- PROMOTE. -/
def execPromote (force : Bool) (at_ : Nat) (s : State) : Host.Outcome State Fault Refusal :=
  .next (s.hostDo .pair none [] (pairHostPromote force (s.timeAt at_)))

/-- PARTNER_PROMOTED: a former active drops STAT3 and returns to SYNCING (R318, R320). -/
def execPartnerPromoted (tagOk : Bool) (s : State) : Host.Outcome State Fault Refusal :=
  .next (if !s.flag PAIR_CFG.EN then s
  else if !tagOk then pairBadFrame s
  else s.onlyIf (pairStateOf s == 4) pairSyncing)

/-- HANDOVER_GAP_EXPIRY: the promoted unit raises STAT3 (R320). -/
def execHandoverGapExpiry (s : State) : Host.Outcome State Fault Refusal :=
  .next (pairSet (fun (p : PairState) => { p with gap := false }) s)

/-- DEMOTE: ignored outside ACTIVE (R318). -/
def pairDemote (s : State) : State := s.onlyIf (pairStateOf s == 4) pairFail

/-- DEMOTE. -/
def execDemote (s : State) : Host.Outcome State Fault Refusal :=
  .next (s.hostDo .pair none [] pairDemote)

/-- A pivot fault of this unit takes ACTIVE to FAILED (R318). -/
def pairPivotFault (s : State) : State := s.onlyIf (pairStateOf s == 4) pairFail

/-- REPAIRED: ignored outside FAILED (R318). -/
def pairRepaired (s : State) : State := s.onlyIf (pairStateOf s == 6) pairKeying

/-- REPAIRED. -/
def execRepaired (s : State) : Host.Outcome State Fault Refusal :=
  .next (s.hostDo .pair none [] pairRepaired)

/-- A write of PAIR_CTRL. -/
def pairCtrlWrite (v : Word) (now : Int) (s : State) : State :=
  let s := s.onlyIf (v.getLsbD 0) (pairHostPromote (v.getLsbD 3) now)
  ((s.onlyIf (v.getLsbD 1) pairDemote).onlyIf (v.getLsbD 2) pairRepaired).onlyIf (v.getLsbD 4) (pairRekey false)

/-- ACTIVE_N_CHANGE: a level that has held for 10 µs is taken (R315, R316). -/
def execActiveNChange (level : Bool) (s : State) : Host.Outcome State Fault Refusal :=
  .next (pairMismatch ({ s with sys := { s.sys with activeN := level } }.putB PAIR_STATUS.ACTIVE_N level))

/-- PARTNER_OK_CHANGE: low promotes a standby or a unit in SYNCING at once, discarding an epoch in arrival, and takes an ACTIVE
unit whose heartbeat is lost to ALONE (R318, R319). -/
def execPartnerOkChange (level cut : Bool) (at_ : Nat) (s : State) : Host.Outcome State Fault Refusal :=
  let s := { s with sys := { s.sys with partnerOk := level } }.putB PAIR_STATUS.PARTNER_OK level
  .next (if !s.flag PAIR_CFG.EN || level then s
  else match pairStateOf s with
    | 2 | 3 => pairPromote 5 (s.timeAt at_) (s.onlyIf cut (State.count PAIR_CNT0.COPY_ABORT 1))
    | 4 => s.onlyIf (!s.flag PAIR_STATUS.HB_OK) (pairGo 5)
    | _ => s)

/-! ### Comparison and arbitration (R321, R322) -/

/-- The slots that arbitrate. -/
def pairSlots (s : State) : List Nat := rgsSlots.filter fun n => (s.get64 PAIR_ARB_SLOTS.ofs).testBit n

/-- The members that arbitrate. -/
def pairMembers (s : State) : List Nat := (List.range 32).filter fun i => (s.get PAIR_ARB_MB.MEMBERS).testBit i

/-- X_i of a member at the last epoch: its time against E less x_dev. -/
def pairX (s : State) (i : Nat) : Int := s.getS (MB_X_PH.ofs i) - s.getS ENS_XDEV_PH.ofs

/-- A baseline at a device time. -/
def pairBaseline (s : State) (now : Int) : PairBase :=
  { t := now, slots := (pairSlots s).map fun n => (n, s.getS (RGS_SLOT_PH.ofs n)),
    members := (pairMembers s).map fun i => (i, pairX s i, s.getS (MB_Y_FF.ofs i)) }

/-- This unit's own movement m since its baseline (R322). -/
def pairMovement (s : State) (now : Int) : Option Int :=
  match s.pair.base with
  | none => none
  | some b =>
    let bySlot := (pairSlots s).filterMap fun n =>
      if rgsStateOf s n = 4 && !s.flag (RGS_SLOT_STATUS.DISPUTED n) then
        (b.slots.lookup n).map fun x => s.getS (RGS_SLOT_PH.ofs n) - x
      else none
    let byMember := (pairMembers s).filterMap fun i =>
      if s.get (MB_STATUS.STATE i) = 2 then
        (b.members.lookup i).map fun q => -(pairX s i - q.1 - Config.quot (q.2 * (now - b.t)) (2 ^ 104))
      else none
    match bySlot ++ byMember with
    | [] => none
    | vs => some (medianOf vs)

/-- An undecided arbitration (R322). -/
def pairUndecided (s : State) : State :=
  pairFlag PAIR_FLAGS.UNDECIDED (pairSet (fun (p : PairState) => { p with undecided := true }) s)

/-- The verdict of an arbitration on both movements (R322). -/
def pairVerdict (peer : Option Int) (now : Int) (s : State) : State :=
  let s := pairSet (fun (p : PairState) => { p with arb := false, undecided := false }) s
  let tol := max 1 (s.get PAIR_ARB_TOL.ARB_TOL) * 65536
  match s.pair.m, peer with
  | some m, some q =>
    if tol < m.natAbs && decide (q.natAbs ≤ tol) then
      s.onlyIf (pairStateOf s == 2 || pairStateOf s == 3 || pairStateOf s == 4) pairFail
    else if tol < q.natAbs && decide (m.natAbs ≤ tol) then pairTrigger now s
    else pairUndecided s
  | _, _ => pairUndecided s

/-- An arbitration begun or repeated: m is computed; the verdict waits for the partner's m, and without a heartbeat there is
none. -/
def pairArbitrate (now : Int) (s : State) : State :=
  let m := pairMovement s now
  let s := pairSet (fun (p : PairState) => { p with m := m, arb := true }) s
  let s := match m with | some m => s.putS PAIR_M_PH.ofs m | none => s
  if s.flag PAIR_STATUS.HB_OK then s else pairVerdict none now s

/-- d of this second, in `_PH` units (R321). -/
def pairD (s : State) : Option Int :=
  match s.pair.stamp with
  | some t => some (rgsNearest t (10 ^ 9 * 4096) * 16)
  | none =>
    let n := s.get PAIR_BIND.LINK
    if pairLinkUp s && (lkSt s n).hasX then some (-(s.getS (LK_X_PH.ofs n))) else none

/-- The second's comparison (R321, R322): while DISAGREE holds, an undecided arbitration is repeated and a decided one is not. -/
def pairCompare (now : Int) (s : State) : State :=
  let d := pairD s
  let s := pairSet (fun (p : PairState) => { p with stamp := none, d := d }) s
  let s := match d with | some d => s.putS PAIR_D_PH.ofs d | none => s
  let past := match d with | some d => decide (max 1 (s.get PAIR_THR.THR) * 65536 < d.natAbs) | none => false
  let run := if past then s.pair.run + 1 else 0
  let s := pairSet (fun (p : PairState) => { p with run := run }) s
  if d.isSome && !past then
    let b := pairBaseline s now
    pairSet (fun (p : PairState) => { p with disagree := false, undecided := false, arb := false, base := some b }) s
  else if s.pair.disagree then s.onlyIf (s.pair.undecided || s.pair.arb) (pairArbitrate now)
  else if max 1 (s.get PAIR_THR.PERSIST) ≤ run then
    pairArbitrate now (pairFlag PAIR_FLAGS.DISAGREE (pairSet (fun (p : PairState) => { p with disagree := true }) s))
  else s

/-- PAIR_COMPARE. -/
def execPairCompare (at_ : Nat) (s : State) : Host.Outcome State Fault Refusal :=
  .next (s.onlyIf (s.flag PAIR_CFG.EN) (pairCompare (s.timeAt at_)))

/-! ### Heartbeats (R318) -/

/-- The heartbeat that this unit sends at a device time. -/
def pairBeatOf (s : State) (now : Int) : PairBeat :=
  let num := if pairStateOf s = 4 then s.get PAIR_EPOCH_TX.EPOCH else s.get PAIR_EPOCH_RX.EPOCH
  { state := Fin.ofNat 8 (pairStateOf s), health := Fin.ofNat 4 (pairHealth s now), epoch := BitVec.ofNat 32 num,
    d := s.pair.d.map (BitVec.ofInt 64), m := s.pair.m.map (BitVec.ofInt 64), prefer := s.flag PAIR_CFG.PREFER }

/-- HEARTBEAT_TX: every 1 ms, tagged under K. -/
def execHeartbeatTx (at_ : Nat) (s : State) : Host.Outcome State Fault Refusal :=
  .next (s.onlyIf (s.flag PAIR_CFG.EN && s.pair.key.isSome && pairLinkUp s) (State.emit (.beat (pairBeatOf s (s.timeAt at_)))))

/-- What the partner's heartbeat makes of this unit's state (R318, R319). -/
def pairByBeat (b : PairBeat) (now : Int) (s : State) : State :=
  match pairStateOf s with
  | 1 => pairLeaveKeying s
  | 2 | 3 => s.onlyIf (b.state == 6) (pairTrigger now)
  | 5 => s.onlyIf (pairLinkUp s && b.state != 4) (pairGo 4)
  | _ => s

/-- A heartbeat received (R318). -/
def pairBeatRx (b : PairBeat) (tagOk : Bool) (now : Int) (s : State) : State :=
  if !s.flag PAIR_CFG.EN then s
  else if !tagOk || s.pair.key.isNone then pairBadFrame s
  else
    let s := ((s.put PAIR_STATUS.HB_OK 1).put PAIR_STATUS.PARTNER_STATE b.state).put PAIR_STATUS.PARTNER_HEALTH b.health
    let s := pairSet (fun (p : PairState) => { p with prefer := b.prefer, linkLost := false }) s
    let peer := b.m.map BitVec.toInt
    let s := match peer with | some m => s.putS PAIR_M_PEER_PH.ofs m | none => s
    let s := pairByBeat b now s
    pairRotate (s.onlyIf s.pair.arb (pairVerdict peer now))

/-- HEARTBEAT_RX. -/
def execHeartbeatRx (b : PairBeat) (tagOk : Bool) (at_ : Nat) (s : State) : Host.Outcome State Fault Refusal :=
  .next (pairBeatRx b tagOk (s.timeAt at_) s)

/-- HEARTBEAT_LOSS: none for 5 ms (R318). -/
def execHeartbeatLoss (s : State) : Host.Outcome State Fault Refusal :=
  .next (if s.flag PAIR_CFG.EN && s.flag PAIR_STATUS.HB_OK then
    let s := s.put PAIR_STATUS.HB_OK 0
    if s.sys.partnerOk then
      pairFlag PAIR_FLAGS.LINK_LOST (pairSet (fun (p : PairState) => { p with linkLost := true }) s)
    else s.onlyIf (pairStateOf s == 4) (pairGo 5)
  else s)

/-! ### State copy (R324, R325) -/

/-- COPY_EPOCH: the active snapshots an epoch, numbered one above the last, and sends it. -/
def execCopyEpoch (at_ : Nat) (s : State) : Host.Outcome State Fault Refusal :=
  .next (if pairStateOf s = 4 && pairLinkUp s then
    let s := pairAdoptKey s
    match s.pair.key with
    | none => s
    | some k =>
      let num := max (s.get PAIR_EPOCH_TX.EPOCH) (s.get PAIR_EPOCH_RX.EPOCH) + 1
      let e : PairEpoch :=
        { num := BitVec.ofNat 32 num, time := s.timeAt at_, nts := pairWrap k (pairNtsPlain s), host := s.pair.host }
      let sent := match s.nts.staging with | some g => [(num, g.gen)] | none => []
      (pairSet (fun (p : PairState) => { p with sent := sent ++ p.sent }) (s.put PAIR_EPOCH_TX.EPOCH num)).emit (.epoch e)
  else s)

/-- The host state area of an epoch in canonical form. -/
def pairArea (cells : List (Nat × Byte)) : List (Nat × Byte) :=
  cells.foldl (fun m c => if c.1 < 65536 then memSet 0 m c.1 c.2 else m) []

/-- An epoch committed and acknowledged; the first one makes a standby (R318, R324). -/
def pairCommit (e : PairEpoch) (plain : List Byte) (s : State) : State :=
  let s := pairSet (fun (p : PairState) => { p with committed := some { e with host := pairArea e.host } }) s
  let s := (pairLoadKeys plain (s.put PAIR_EPOCH_RX.EPOCH e.num.toNat)).emit (.pair 3 (leBytes 4 e.num.toNat))
  s.onlyIf (pairStateOf s == 2) (pairGo 3)

/-- An epoch that has arrived whole and good (R324): committed when its number exceeds the committed one. -/
def pairArrived (e : PairEpoch) (s : State) : State :=
  let s := pairAdoptKey s
  let newer := match s.pair.committed with | some c => decide (c.num < e.num) | none => true
  match newer, s.pair.key with
  | true, some k => (match pairUnwrap k e.nts with | some plain => pairCommit e plain s | none => s)
  | _, _ => s

/-- EPOCH_COMMIT: an epoch's arrival at the standby ends. -/
def execEpochCommit (e : PairEpoch) (how : EpochEnd) (s : State) : Host.Outcome State Fault Refusal :=
  .next (if s.flag PAIR_CFG.EN && (pairStateOf s == 2 || pairStateOf s == 3) then
    match how with
    | .good => pairArrived e s
    | .badCrc => s
    | .badTag => pairBadFrame s
    | .cut => s.count PAIR_CNT0.COPY_ABORT 1
  else s)

/-- EPOCH_ACK: the standby's acknowledgement of an epoch (R325). -/
def execEpochAck (num : BitVec 32) (tagOk : Bool) (s : State) : Host.Outcome State Fault Refusal :=
  .next (if !s.flag PAIR_CFG.EN then s
  else if !tagOk then pairBadFrame s
  else match s.pair.sent.lookup num.toNat with
    | some g => pairRotate (pairSet (fun (p : PairState) => { p with acked := some g }) s)
    | none => s)

/-- COPY_LATE: a pair copy deadline fault (R324, R363). -/
def execCopyLate (at_ : Nat) (s : State) : Host.Outcome State Fault Refusal :=
  .next (s.onlyIf (s.flag PAIR_CFG.EN) fun s => pairFlag PAIR_FLAGS.COPY_LATE (s.deadline 5 (s.timeAt at_)))

/-! ### Rehearsal (R323) -/

/-- REHEARSAL_DIGEST: the standby compares a digest of the partner's with its own, or keeps it until that is made. -/
def execRehearsalDigest (digest : List Byte) (tagOk : Bool) (s : State) : Host.Outcome State Fault Refusal :=
  .next (if !s.flag PAIR_CFG.EN then s
  else if !tagOk then pairBadFrame s
  else if pairStateOf s != 3 || !s.flag PAIR_CFG.REHEARSE_EN then s
  else match s.pair.own.find? fun o => o.take 8 == digest.take 8 with
    | some o => pairCompared (o != digest) (pairSet (fun (p : PairState) => { p with own := p.own.erase o }) s)
    | none => pairSet (fun (p : PairState) => { p with other := p.other ++ [digest] }) s)

/-- DIGEST_TIMEOUT: the oldest waiting digest of one side finds no partner within 10 ms. -/
def execDigestTimeout (own : Bool) (s : State) : Host.Outcome State Fault Refusal :=
  .next (if (if own then s.pair.own else s.pair.other).isEmpty then s
  else (pairSet (fun (p : PairState) =>
    if own then { p with own := p.own.drop 1 } else { p with other := p.other.drop 1 }) s).count PAIR_CNT1.UNMATCHED 1)

/-! ### The host state area (PAIR_HS_DATA) -/

/-- The word that a read of PAIR_HS_DATA returns: in STANDBY that of the committed epoch. -/
def pairHostWord (s : State) : Word :=
  let area := if pairStateOf s = 3 then (match s.pair.committed with | some e => e.host | none => []) else s.pair.host
  BitVec.ofNat 32 (leNat (memBytes 0 area (4 * s.get PAIR_HS_IDX.IDX) 4))

/-- The index moved on, modulo 16,384. -/
def pairNextIdx (s : State) : State := s.put PAIR_HS_IDX.IDX (s.get PAIR_HS_IDX.IDX + 1)

/-- An access to PAIR_HS_DATA; a write in STANDBY is dropped. -/
def pairHostAccess (write : Bool) (v : Word) (s : State) : State :=
  if write then
    let a := 4 * s.get PAIR_HS_IDX.IDX
    let s := s.onlyIf (pairStateOf s != 3) (pairSet (fun (p : PairState) =>
      { p with host := memWrite 0 p.host a (leBytes 4 v.toNat) }))
    pairNextIdx s
  else pairNextIdx { s with sys := { s.sys with rdata := pairHostWord s } }

/-- HOST_STATE_ACCESS. -/
def execHostStateAccess (write : Bool) (v : Word) (s : State) : Host.Outcome State Fault Refusal :=
  .next (if write then s.hostDo .pair none [PAIR_HS_IDX.ofs] (pairHostAccess true v)
    else s.hostPop .pair none (pairHostAccess false v))

end Sys2Proof.Machine
end

