-- ==== Sys2Proof/Machine/View.lean ====
section
/-! DEFINITION. What a host read of a register returns: the registers that follow the state of their block are computed here,
every other register is read from the register file. -/

namespace Sys2Proof.Machine

/-- Generation and lanes of the host link, 1 to 5 and 1, 2, 4 or 8 (R381; assumption 20). -/
def hifSpeed : Nat := 1 + Config.pcieLink % 5

/-- Lanes of the host link. -/
def hifWidth : Nat := 2 ^ (Config.pcieLink / 5 % 4)

/-- The 32 bits of a byte string that a register of an array of octets shows: word w, lowest-numbered octet in [7:0]. -/
def octetWord (bs : List Byte) (w : Nat) : Nat := leNat ((bs.drop (4 * w)).take 4)

/-- AGE of CON_CKPT_INFO: whole seconds since the newest latch, saturating; counted from the start where no checkpoint has been
latched since. -/
def conAge (s : State) (at_ : Nat) : Nat :=
  min 0xFFFFFF ((s.pivotAt at_ - s.con.latchedAt.getD 0) / (1000 * tickUnits))

/-- Whether STAT7 is high: a flag whose STAT7_EN is set is set (R363). -/
def conStat7 (s : State) : Bool :=
  (List.range 7).any fun d => (s.get CON_DL_FLAGS.FAULT).testBit d && s.flag (CON_DL_CFG.STAT7_EN d)

/-- Whether a crossing side is in PARTNER_RESET (R355). -/
def cdcAnyPartner (s : State) : Bool :=
  (List.range 56).any fun k => s.get (CDC_XS_STATUS.STATE_A k) == 1 || s.get (CDC_XS_STATUS.STATE_B k) == 1

/-- The word of the page buffer that CAT_NV_DATA shows (R340). -/
def catPageWord (s : State) : Word := BitVec.ofNat 32 (octetWord s.cat.page s.cat.word)

/-- The registers of CAT that show the owner key, SIG_REQ, the strap code (R336, R341) and the page buffer (R340). -/
def viewCat (ofs : Nat) (s : State) : Word :=
  if ofs = CAT_STATUS.ofs then
    fieldSet (fieldSet (fieldSet (s.reg ofs) 9 1 (bit s.sys.ownerKey.isSome)) 10 1 (bit s.sys.sigReq)) 11 3 s.sys.strap
  else if ofs = CAT_NV_DATA.ofs then catPageWord s
  else if CAT_OWNER_KEY.ofs 0 ≤ ofs ∧ ofs < CAT_OWNER_KEY.ofs 8 then
    match s.sys.ownerKey with
    | some key => BitVec.ofNat 32 (octetWord key ((ofs - CAT_OWNER_KEY.ofs 0) / 4))
    | none => s.reg ofs
  else s.reg ofs

/-- PAIR_STATUS with the pins and this unit's health (R315, R323). -/
def viewPairStatus (s : State) (at_ : Nat) : Word :=
  let v := fieldSet (s.reg PAIR_STATUS.ofs) PAIR_STATUS.ACTIVE_N.lo 1 (bit s.sys.activeN)
  fieldSet (fieldSet v PAIR_STATUS.PARTNER_OK.lo 1 (bit s.sys.partnerOk)) PAIR_STATUS.HEALTH.lo PAIR_STATUS.HEALTH.width
    (pairHealth s (s.timeAt at_))

/-- LK_GLB_STATUS with DEPTH, IS_ROOT and IN_COLL (R306). -/
def viewLinkStatus (s : State) : Word :=
  let v := fieldSet (s.reg LK_GLB_STATUS.ofs) LK_GLB_STATUS.DEPTH.lo LK_GLB_STATUS.DEPTH.width (lnkDepth s)
  fieldSet (fieldSet v LK_GLB_STATUS.IS_ROOT.lo 1 (bit (lnkIsRoot s))) LK_GLB_STATUS.IN_COLL.lo 1 (bit (lnkInColl s))

/-- CON_STATUS and CON_CKPT_INFO with STAT7 and AGE (R363). -/
def viewCon (ofs at_ : Nat) (s : State) : Word :=
  if ofs = CON_STATUS.ofs then fieldSet (s.reg ofs) CON_STATUS.STAT7.lo 1 (bit (conStat7 s))
  else if ofs = CON_CKPT_INFO.ofs then fieldSet (s.reg ofs) CON_CKPT_INFO.AGE.lo CON_CKPT_INFO.AGE.width (conAge s at_)
  else s.reg ofs

/-- A register of an output or a trigger: OUT_STATUS.CAUSE (R152) and TRG_STATUS.GPIO_IN (R155) follow the state. -/
def viewOut (h : RegHit) (ofs : Nat) (s : State) : Word :=
  if h.desc.base = OUT_STATUS.ofs 0 then
    fieldSet (s.reg ofs) (OUT_STATUS.CAUSE 0).lo (OUT_STATUS.CAUSE 0).width (outCauses s h.inst)
  else if h.desc.base = TRG_STATUS.ofs 0 then
    fieldSet (s.reg ofs) (TRG_STATUS.GPIO_IN 0).lo 1
      (bit (s.get (TRG_CFG.MODE h.inst) == 0 && s.sys.pins.testBit h.inst))
  else s.reg ofs

/-- The value that a host read of a register returns in a core cycle, before any effect of the read. -/
def viewHit (h : RegHit) (ofs at_ : Nat) (s : State) : Word :=
  match h.desc.blk with
  | .cat => viewCat ofs s
  | .tb => if ofs = TB_STATUS.ofs then (tbRefresh s).reg ofs else s.reg ofs
  | .irq => if IRQ_PEND.ofs 0 ≤ ofs && ofs < IRQ_PEND.ofs 8 then s.reg (ofs - 0x40) &&& s.reg (ofs - 0x20) else s.reg ofs
  | .cdc => if ofs = CDC_STATUS.ofs then fieldSet (s.reg ofs) CDC_STATUS.ANY_PARTNER_RESET.lo 1 (bit (cdcAnyPartner s))
            else s.reg ofs
  | .con => viewCon ofs at_ s
  | .out => viewOut h ofs s
  | .evt => if h.desc.base = EVT_CH_STATUS.ofs 0 then
              fieldSet (s.reg ofs) (EVT_CH_STATUS.CAL_AGE 0).lo (EVT_CH_STATUS.CAL_AGE 0).width (evtCalAge s h.inst at_)
            else s.reg ofs
  | .mac => if h.desc.base = EP_TSQ_POP.ofs 0 then tsqPopValue s h.inst else s.reg ofs
  | .ans => if ofs = ANS_GLB_STATUS.ofs then fieldSet (s.reg ofs) ANS_GLB_STATUS.UNVERIFIED.lo 1 (bit (ansUnverified s))
            else s.reg ofs
  | .ptp => if ofs = PTP_STATUS.ofs then fieldSet (s.reg ofs) PTP_STATUS.UNVERIFIED.lo 1 (bit (ansUnverified s))
            else s.reg ofs
  | .prov => if h.desc.base = PROV_PUBKEY.ofs 0 then BitVec.ofNat 32 (octetWord identityPublic h.inst) else s.reg ofs
  | .lnk => if ofs = LK_GLB_STATUS.ofs then viewLinkStatus s else if ofs = LK_BC_POP.ofs then lnkPopValue s else s.reg ofs
  | .pair => if ofs = PAIR_STATUS.ofs then viewPairStatus s at_
             else if ofs = PAIR_HEALTH.ofs then BitVec.ofNat 32 (pairHealthBits s (s.timeAt at_))
             else if ofs = PAIR_HS_DATA.ofs then pairHostWord s
             else s.reg ofs
  | .hif => if ofs = HIF_STATUS.ofs then
              fieldSet (fieldSet (s.reg ofs) HIF_STATUS.SPEED.lo 3 hifSpeed) HIF_STATUS.WIDTH.lo 4 hifWidth
            else s.reg ofs
  | _ => s.reg ofs

/-- The bits of a write-only field read 0 (R14). -/
def RegHit.readMask (h : RegHit) : Word := h.maskOf fun f => decide (f.acc ≠ .wo)

/-- The live value that a host read of a BAR0 offset returns; 0 where no register lies (R16). -/
def State.view (s : State) (ofs at_ : Nat) : Word :=
  match regFind ofs with
  | some h => viewHit h ofs at_ s &&& h.readMask
  | none => 0

end Sys2Proof.Machine
end

