-- ==== Sys2Proof/Machine/Vitrine.lean ====
section
/-! DEFINITION. The Vitrine (R371 to R377) and the interrupt controller's commands (R378 to R380). -/

namespace Sys2Proof.Machine

/-! ### What a snapshot holds (R371) -/

/-- The snapshot registers of the timebase, by their offset. -/
def snapTb : List Nat :=
  [TB_TIME_SEC.ofs, TB_TIME_NS.ofs, TB_TIME_FRAC.ofs, TB_NTP_ERA.ofs, TB_NTP_SEC.ofs, TB_NTP_FRAC.ofs, TB_UTC_STATE.ofs,
   TB_STATUS.ofs, TB_PM_FREQ_FF.ofs, TB_PM_TEMP.ofs, TB_REP_STATUS.ofs 0, TB_REP_ERR.ofs 0]

/-- Those of the event timer. -/
def snapEvt : List Nat :=
  [EVT_BK_STATUS.ofs 0, EVT_CH_STATUS.ofs 0, EVT_CH_QUEUE.ofs 0, EVT_CH_RECORDS.ofs 0, EVT_CH_PAIR_LAST_PH.ofs 0, EVT_CH_RAW.ofs 0,
   EVT_CH_RAW_FINE.ofs 0]

/-- Those of the Registrar and the loops. -/
def snapRgs : List Nat :=
  [RGS_SEL_STATUS.ofs 0, RGS_SLOT_STATUS.ofs 0, RGS_SLOT_PH.ofs 0, RGS_SLOT_FF.ofs 0, LOOP_STATUS.ofs 0, LOOP_E_PH.ofs 0,
   LOOP_INT_FF.ofs 0, LOOP_STEER_FF.ofs 0, LOOP_RESID_PH.ofs 0, LOOP_UNC_PH.ofs 0]

/-- Those of the ensemble engine. -/
def snapEns : List Nat :=
  [ENS_STATUS.ofs, ENS_EPOCH.ofs, ENS_XDEV_PH.ofs, ENS_C_PH.ofs, ENS_TDEV_PH.ofs, ENS_RES_PH.ofs, ENS_YP_FF.ofs, ENS_S_FF.ofs,
   ENS_UNC_PH.ofs, MB_STATUS.ofs 0, MB_WEIGHT.ofs 0, MB_X_PH.ofs 0, MB_EPS_PH.ofs 0]

/-- Those of the outputs, the triggers and the GNSS baseband. -/
def snapOut : List Nat :=
  [OUT_STATUS.ofs 0, OUT_ALIGN_ERR_PH.ofs 0, TRG_STATUS.ofs 0, TRG_CNT.ofs 0, GNSS_PORT_STATUS.ofs 0, GNSS_SOL_STATUS.ofs 0,
   GNSS_SOL_X_PH.ofs 0, GNSS_SOL_RES_PH.ofs 0 0, GNSS_TK_STATUS.ofs 0]

/-- Those of the ports, the pipelines and NTS: every ANS_CNT and NTS_CNT register among them. -/
def snapNet : List Nat :=
  [EP_STATUS.ofs 0, EP_DEP_SENT.ofs 0, EP_DEP_DROP0.ofs 0, EP_DEP_DROP1.ofs 0, EP_DEP_DROP2.ofs 0, EP_TSQ_STATUS.ofs 0,
   ANS_STATUS.ofs 0, ANS_CNT_RX.ofs 0, ANS_CNT_NTP.ofs 0, ANS_CNT_NTS.ofs 0, ANS_CNT_KOD.ofs 0, ANS_CNT_LIMITED.ofs 0,
   ANS_CNT_HOST.ofs 0, ANS_CNT_PTP.ofs 0, ANS_CNT_RULEDROP.ofs 0, ANS_CNT_ERR0.ofs 0, ANS_CNT_ERR1.ofs 0, ANS_CNT_ERR2.ofs 0,
   ANS_CNT_UNVER.ofs 0, NTS_CNT_NAK.ofs 0, NTS_CNT_ERR.ofs 0, NTS_CNT_POOL.ofs 0, NTS_CNT_COOKIES.ofs 0]

/-- Those of PTP, the links, the pair block, the ledger and the Conservator. -/
def snapRest : List Nat :=
  [PTP_INST_STATUS.ofs 0, PTP_CLI_X_PH.ofs 0, PTP_CLI_RAW_PH.ofs 0, PTP_CLI_RT_PH.ofs 0, PTP_CLI_DELTA_PH.ofs 0,
   LK_GLB_STATUS.ofs, LK_STATUS.ofs 0, LK_X_PH.ofs 0, LK_RAW_PH.ofs 0, LK_RT_PH.ofs 0, LK_DELTA_PH.ofs 0, PAIR_STATUS.ofs,
   PAIR_D_PH.ofs, PAIR_EPOCH_TX.ofs, PAIR_EPOCH_RX.ofs, PROV_LAST_SERIAL.ofs, PROV_LAST_HASH.ofs 0, CON_TEMP.ofs 0,
   CON_RAIL.ofs 0, CON_DL_CNT.ofs 0, CON_CKPT_SEQ.ofs]

/-- Whether a register entry is in the table of R371. -/
def RegHit.snapped (h : RegHit) : Bool :=
  (match h.desc.blk with
   | .tb => snapTb | .evt => snapEvt | .rgs | .loop => snapRgs | .ens => snapEns | .out | .gnss => snapOut
   | .mac | .ans | .nts => snapNet | .ptp | .lnk | .pair | .prov | .con => snapRest
   | _ => []).contains h.desc.base

/-- The snapshot registers that are not held in the register file (State.view): their offsets. -/
def snapViewed : List Nat :=
  TB_STATUS.ofs :: (List.range 128).map EVT_CH_STATUS.ofs ++ (List.range 16).map OUT_STATUS.ofs ++ (List.range 32).map TRG_STATUS.ofs ++
  [LK_GLB_STATUS.ofs, PAIR_STATUS.ofs]

/-- The register file as a snapshot latches it: the capture of R45 and every register as a host read would return it (R371). -/
def vitImage (at_ : Nat) (s : State) : RegFile :=
  snapViewed.foldl (fun r ofs => r.set ofs (s.view ofs at_)) (tbCapture (s.timeAt at_) s).rf

/-! ### Triggers (R374 to R376) -/

/-- A snapshot latched by a trigger, a bit of SRC (R376). -/
def vitLatch (src at_ : Nat) (s : State) : State :=
  let t := s.timeAt at_
  let s := { s with vit := { s.vit with held := some (vitImage at_ s), latchedAt := some (s.pivotAt at_ / coreUnits) } }
  let s := ((s.put VIT_STATUS.HELD 1).put VIT_STATUS.SRC (2 ^ src)).countWrap VIT_SEQ.SEQ 1
  let s := (s.put64 VIT_TIME_SEC.ofs (secOf t)).put VIT_TIME_NS.NS (nsOf t)
  ((s.put VIT_TIME_FRAC.FRAC (fracOf t)).count VIT_CNT.TAKEN 1).setFlag VIT_FLAGS.TAKEN 5

/-- Whether an instant lies in the latch cycle of the held snapshot (R376). -/
def vitTwin (s : State) (at_ : Nat) : Bool := s.flag VIT_STATUS.HELD && s.vit.latchedAt == some (s.pivotAt at_ / coreUnits)

/-- A trigger: it latches, or is refused under LOCK; one in the latch cycle of the held snapshot is recorded with it (R376). -/
def vitTrigger (src at_ : Nat) (s : State) : State :=
  if !s.live .vit then s
  else if vitTwin s at_ then s.put VIT_STATUS.SRC (s.get VIT_STATUS.SRC ||| 2 ^ src)
  else if s.flag VIT_STATUS.HELD && s.flag VIT_CFG.LOCK then (s.count VIT_CNT.MISSED 1).setFlag VIT_FLAGS.MISSED 6
  else vitLatch src at_ s

/-- VIT_TRIG. -/
def execVitTrig (at_ : Nat) (s : State) : Host.Outcome State Fault Refusal :=
  .next (s.hostDo .vit none [] (vitTrigger 0 at_))

/-- Whether PIN_EDGE selects an edge. -/
def vitSelects (s : State) (rising : Bool) : Bool := (s.get VIT_CFG.PIN_EDGE).testBit (if rising then 0 else 1)

/-- An edge at a TRG pin: its level, and a trigger where the Vitrine watches the pin and the pin is in mode 0 (R374). -/
def vitPinEdge (pin : Nat) (rising : Bool) (at_ : Nat) (s : State) : State :=
  let others := s.sys.pins - s.sys.pins / 2 ^ pin % 2 * 2 ^ pin
  let s := { s with sys := { s.sys with pins := others + bit rising * 2 ^ pin } }
  s.onlyIf (s.flag VIT_CFG.PIN_EN && s.get VIT_CFG.PIN == pin && s.get (TRG_CFG.MODE pin) == 0 && vitSelects s rising)
    (vitTrigger 1 at_)

/-- VIT_PIN_EDGE. -/
def execVitPinEdge (pin : Fin 32) (rising : Bool) (at_ : Nat) (s : State) : Host.Outcome State Fault Refusal :=
  .next (vitPinEdge pin rising at_ s)

/-- PIN_EN on a pin that is not in mode 0 sets CFG_BAD (R374). -/
def vitPinCheck (s : State) : State :=
  s.onlyIf (s.flag VIT_CFG.PIN_EN && s.get (TRG_CFG.MODE (s.get VIT_CFG.PIN)) != 0) (State.setFlag VIT_FLAGS.CFG_BAD 6)

/-- The armed time-of-day match set or cleared. -/
def vitArmed (t : Option Int) (s : State) : State :=
  { s.putB VIT_STATUS.TOD_ARMED t.isSome with vit := { s.vit with armed := t } }

/-- A write of ARM_TOD (R375). -/
def vitArm (at_ : Nat) (s : State) : State :=
  let t := timeOf (s.get64 VIT_TOD_SEC.ofs) (s.get VIT_TOD_NS.NS) 0
  if 999999999 < s.get VIT_TOD_NS.NS ∨ t - s.timeAt at_ < 2000 * nsUnit then s.setFlag VIT_FLAGS.ARM_REFUSED 6
  else vitArmed (some t) s

/-- ARM_TOD. -/
def execArmTod (at_ : Nat) (s : State) : Host.Outcome State Fault Refusal :=
  .next (s.hostDo .vit none [] (vitArm at_))

/-- DISARM_TOD (R375). -/
def execDisarmTod (s : State) : Host.Outcome State Fault Refusal :=
  .next (s.hostDo .vit none [] (vitArmed none))

/-- The armed match fires once device time has reached T (R375). -/
def vitMatch (at_ : Nat) (s : State) : State :=
  match s.vit.armed with
  | some t => if t ≤ s.timeAt at_ then vitTrigger 2 at_ (vitArmed none s) else s
  | none => s

/-- TOD_MATCH. -/
def execTodMatch (at_ : Nat) (s : State) : Host.Outcome State Fault Refusal := .next (vitMatch at_ s)

/-- A step of device time that carries it past T fires the match (R375). -/
def vitStep (move : Int) (s : State) : State :=
  match s.vit.armed with
  | some t =>
    if 0 < move ∧ t ≤ s.tb.dev then vitMatch 0 (s.setFlag VIT_FLAGS.TOD_STEPPED 6) else s
  | none => s

/-- A write of RELEASE (R376). -/
def vitRelease (s : State) : State := { s.put VIT_STATUS.HELD 0 with vit := { s.vit with held := none } }

/-- VIT_RELEASE. -/
def execVitRelease (s : State) : Host.Outcome State Fault Refusal :=
  .next (s.hostDo .vit none [] vitRelease)

/-- A write of VIT_CTRL: the release takes effect before the trigger, and DISARM_TOD wins over ARM_TOD (R376). -/
def vitCtrl (w : Word) (at_ : Nat) (s : State) : State :=
  let s := s.onlyIf (w.getLsbD 1) vitRelease
  let s := s.onlyIf (w.getLsbD 0) (vitTrigger 0 at_)
  if w.getLsbD 3 then vitArmed none s else s.onlyIf (w.getLsbD 2) (vitArm at_)

/-- What a read under VIEW = 1 returns: the latched value of a register of R371 while a snapshot is held (R373). -/
def vitHeld (s : State) (h : RegHit) : Option RegFile :=
  if s.flag VIT_CFG.VIEW && s.flag VIT_STATUS.HELD && h.snapped then s.vit.held else none

/-! ### The interrupt controller (R378 to R380) -/

/-- The vectors brought up to date after a host write to the interrupt controller. -/
def irqRefresh (s : State) : State :=
  { s with rf := (RegFile.irqUpdate (s.rf, [])).1, outbox := (RegFile.irqUpdate (s.rf, [])).2 ++ s.outbox }

/-- A write of IRQ_EOI (R380): the vector leaves service; a vector still asserted sends a new message. -/
def irqEoi (v : Nat) (s : State) : State :=
  let b := s.get64 IRQ_VEC_INSVC.ofs
  irqRefresh (s.put64 IRQ_VEC_INSVC.ofs (b - b / 2 ^ v % 2 * 2 ^ v))

/-- IRQ_EOI. -/
def execIrqEoi (v : BitVec 6) (s : State) : Host.Outcome State Fault Refusal :=
  .next (s.hostDo .irq none [] (irqEoi v.toNat))

/-- The reserved interrupt sources, which are never raw (R379). -/
def irqReserved (src : Nat) : Bool :=
  src == 31 || (43 ≤ src && src ≤ 47) || (105 ≤ src && src ≤ 111) || (135 ≤ src && src ≤ 143) || src == 158 || src == 159 ||
  (177 ≤ src && src ≤ 191) || src == 223

/-- IRQ_TEST with SET: the raw bit of a source that is not reserved. -/
def irqTest (src : Nat) (s : State) : State := if irqReserved src then s else s.raise src

/-- IRQ_TEST. -/
def execIrqTest (src : BitVec 8) (s : State) : Host.Outcome State Fault Refusal :=
  .next (s.hostDo .irq none [] (irqTest src.toNat))

/-- A vector unmasked: a message that waits in the pending-bit array goes out (R380). -/
def irqUnmask (v : Nat) (s : State) : State :=
  let s := s.put (MSIX_CTRL.MASK v) 0
  if s.get (MSIX_PBA.PEND v) = 1 then
    (s.put (MSIX_PBA.PEND v) 0).emit (.msix v ((s.reg (MSIX_ADDR_LO.ofs v)).toNat + 2 ^ 32 * (s.reg (MSIX_ADDR_HI.ofs v)).toNat)
      (s.reg (MSIX_DATA.ofs v)))
  else s

/-- VECTOR_UNMASK. -/
def execVectorUnmask (v : Fin 64) (s : State) : Host.Outcome State Fault Refusal :=
  .next (s.hostDo .irq none [] (irqUnmask v))

end Sys2Proof.Machine
end

