-- ==== Sys2Proof/Machine/Resets.lean ====
section
/-! DEFINITION. The kinds of reset (R17, R18, R352, R395): what each does to the registers and to the state of the blocks, and
how a block starts again. The resets of the crossings follow R355. -/

namespace Sys2Proof.Machine

/-! ### Registers (R12, R13, R17, R18) -/

/-- The bits of the RWS fields of a register, which only a PWR reset resets (R18). -/
def RegHit.sticky (h : RegHit) : Word := h.maskOf fun f => decide (f.acc = .rws ∨ f.acc = .rwsW1c)

/-- Whether a test picks the register at an offset. -/
def regPicked (sel : RegHit → Bool) (ofs : Nat) : Bool :=
  match regFind ofs with
  | some h => sel h
  | none => false

/-- One listed register at a reset: a picked one takes its reset value, its RWS fields apart. -/
def regReset (sel : RegHit → Bool) (base : Nat → Word) (e : Nat × Word) : Option (Nat × Word) :=
  match regFind e.1 with
  | some h =>
    if sel h then
      if h.sticky = 0 then none else some (e.1, (base e.1 &&& ~~~h.sticky) ||| (e.2 &&& h.sticky))
    else some e
  | none => some e

/-- The registers that a test picks reset, with their latches and staging registers (R12, R13). -/
def RegFile.resetBy (sel : RegHit → Bool) (r : RegFile) : RegFile :=
  { r with vals := r.vals.filterMap (regReset sel r.base), latch := r.latch.filter fun l => !regPicked sel l.ofs,
           staged := r.staged.filter fun e => !regPicked sel e.1 }

/-- The registers with RWS fields. -/
def stickyRegs : List Nat := [CAT_CFG.ofs, CDC_FLAGS.ofs, CON_FLAGS.ofs]

/-- The register file after a DEV reset: every register but those of the PWR domain at its hard value, until an image is applied
(R17); the RWS fields keep their values. -/
def RegFile.resetDev (r : RegFile) : RegFile :=
  let r := stickyRegs.foldl (fun r ofs => r.set ofs (r.reg ofs)) r
  RegFile.resetBy (fun h => decide (h.desc.dom ≠ .pwr)) { r with img := [], imgOn := false }

/-- Whether a register belongs to a block and is reset with it. -/
def RegHit.ofBlock (b : Blk) (h : RegHit) : Bool := h.desc.blk == b && (h.desc.dom == .blk || h.desc.dom == .inst)

/-- Whether a register belongs to one instance and is reset with it. -/
def RegHit.ofInst (k : InstKind) (i : Nat) (h : RegHit) : Bool := h.desc.kind == some k && h.desc.dom == .inst && h.inst == i

/-- The registers that a test picks reset. -/
def resetRegs (sel : RegHit → Bool) (s : State) : State := { s with rf := s.rf.resetBy sel }

/-! ### Crossings (R352, R355) -/

/-- The states of the two sides of a crossing written, CORE side first. -/
def cdcSides (a b k : Nat) (s : State) : State := (s.put (CDC_XS_STATUS.STATE_A k) a).put (CDC_XS_STATUS.STATE_B k) b

/-- The crossings of a port, a link, a sample port or an output (R357). -/
def cdcOf (kind : InstKind) (n : Nat) : List Nat :=
  match kind with
  | .port => [1 + n, 9 + n]
  | .link => [17 + n, 48 + n]
  | .gnssPort => [26 + n]
  | .output => [32 + n]
  | _ => []

/-- A crossing whose far side, and for ports and links also whose near side, is reset with its instance: a SYN domain's partner
is the STMP domain, which sees its partner in reset. -/
def cdcHold (k : Nat) (s : State) : State := cdcSides (if 32 ≤ k ∧ k < 48 then 1 else 2) 2 k s

/-- A crossing whose resets are released: RESYNC where the far clock runs; else its near side sees the partner in reset. -/
def cdcRelease (k : Nat) (s : State) : State :=
  if s.flag (CDC_XS_STATUS.CLK_ABSENT k) then cdcSides 1 2 k s else cdcSides 3 3 k s

/-- The state of one side of a crossing once its own reset and its partner's are known (R355): the handshake is asked for when both have
ended. -/
def cdcSide (own partner : Bool) (a b : Nat) : Nat := if own then 2 else if partner then 1 else if a = 0 ∧ b = 0 then 0 else 3

/-- Both sides of a crossing brought to what the resets of its near and its far domain make of them. -/
def cdcSettle (near far : Bool) (k : Nat) (s : State) : State :=
  let a := s.get (CDC_XS_STATUS.STATE_A k)
  let b := s.get (CDC_XS_STATUS.STATE_B k)
  cdcSides (cdcSide near far a b) (cdcSide far near b a) k s

/-! ### What the reset of an instance does (R395) -/

/-- The kind of instance that GLB_INST_RST.BLOCK names, with the number of instances; codes 13 to 15 name none. -/
def instOf (block : Nat) : Option (InstKind × Nat) :=
  match block with
  | 0 => some (.channel, 128) | 1 => some (.slot, 64) | 2 => some (.loop, 24) | 3 => some (.member, 32)
  | 4 => some (.output, 16) | 5 => some (.trigger, 32) | 6 => some (.gnssPort, 4) | 7 => some (.solution, 4)
  | 8 => some (.port, 8) | 9 => some (.pipeline, 4) | 10 => some (.ptpInst, 16) | 11 => some (.link, 8)
  | 12 => some (.bneSlot, 16)
  | _ => none

/-- What other blocks see when an instance is reset: its signals go. -/
def instLeave (kind : InstKind) (n at_ : Nat) (s : State) : State :=
  match kind with
  | .slot => rgsLeaveDisputes n s
  | .loop => loopAdvance n (s.timeAt at_) s
  | .solution => rgsForSource 5 n (fun m => rgsSignal m false) s
  | .gnssPort => gnssFreePort n s
  | .port => tbRepOff n (tbRepOff (8 + n) (s.onlyIf (s.flag (EP_STATUS.LINK n)) (portLinkDown n)))
  | .ptpInst => ptpSlots n (fun m => rgsSignal m false) s
  | .link => lkDown n s
  | .bneSlot => bneStop n at_ s
  | _ => s

/-- The registers of an instance: with a port or a link go its replicas, and a big-number slot keeps its status, in which the
zeroisation that the reset starts shows. The switch of a loop keeps its state, as R107 has it STEADY when the loop is reset, and the
loop keeps i, and its steer, which it holds in FREERUN (R120; assumption 157). -/
def instRegs (kind : InstKind) (n : Nat) (h : RegHit) : Bool :=
  (h.ofInst kind n && !([BNE_SLOT_STATUS.ofs 0, RGS_SEL_STATUS.ofs 0, LOOP_INT_FF.ofs 0, LOOP_STEER_FF.ofs 0].contains h.desc.base)) ||
  (kind == .port && (h.ofInst .replica n || h.ofInst .replica (8 + n))) || (kind == .link && h.ofInst .replica (16 + n))

/-- What EVT_CH_STATUS tells of the bank after an INST reset of a channel: its calibration since the last PWR or DEV reset (R76), and,
where the relief stamper stands in for it, that it does so and why (R87). -/
def evtKeepStatus (n : Nat) (old s : State) : State :=
  let b := n / 16
  let served := old.get (EVT_BK_STATUS.RELIEF_POS b) == n % 16 && [3, 4, 5].contains (old.get (EVT_BK_STATUS.RELIEF_STATE b))
  let s := s.put (EVT_CH_STATUS.CAL_STATE n) (old.get (EVT_CH_STATUS.CAL_STATE n))
  s.onlyIf served fun s => (s.put (EVT_CH_STATUS.SERVED_BY_RELIEF n) (old.get (EVT_CH_STATUS.SERVED_BY_RELIEF n))).put
    (EVT_CH_STATUS.STAMPER_FAULT n) (old.get (EVT_CH_STATUS.STAMPER_FAULT n))

/-- The registers and the state of an instance reset. -/
def instReset (kind : InstKind) (n at_ : Nat) (s : State) : State :=
  let old := s
  let s := resetRegs (instRegs kind n) (instLeave kind n at_ s)
  let s := (cdcOf kind n).foldl (fun s k => cdcHold k s) s
  match kind with
  | .channel => evtFill n (evtResetChan (evtKeepStatus n old s) n)
  | .slot => rgsRefresh (rgsSetSlot n (fun _ => RgsSlot.reset) s)
  | .loop => loopSet n LoopState.kept s
  | .member => ensSet n (fun _ => EnsMember.reset) s
  | .output => outPutMuted n true (outSet n (fun _ => OutSt.reset) s)
  | .trigger => trgSet n (fun _ => TrgSt.reset) s
  | .gnssPort => gnssSetPort n (fun _ => GnssPort.reset) s
  | .solution => gnssSetSol n (fun _ => GnssSol.reset) s
  | .port => macSet n (fun _ => MacPort.reset) s
  | .pipeline => ansAbort n s
  | .ptpInst => ptpSet n (fun _ => PtpInst.reset) s
  | .link => lkSet n (fun _ => LkLink.reset) s
  | _ => s

/-- The unicast masters of an instance taken from its registers (R250). -/
def ptpLoadUm (i : Nat) (s : State) : State :=
  [0, 1, 2, 3].foldl (fun s m => ptpUmWrite i m (s.reg (PTP_CLI_UM_CFG.ofs i m)) s) s

/-- An instance that starts with its image values: EN of the image acts as a write of EN (R17). -/
def instStart (kind : InstKind) (n : Nat) (s : State) : State :=
  let s := (cdcOf kind n).foldl (fun s k => cdcRelease k s) s
  match kind with
  | .slot => s.onlyIf (s.flag (RGS_SLOT_CFG.EN n)) (rgsEnable n true)
  | .loop => loopInstReset n s
  | .member => ensInstReset n s
  | .output => outAdopt n s
  | .trigger => vitPinCheck s
  | .pipeline => s.put (ANS_STATUS.READY n) 1
  | .ptpInst =>
    let s := ptpLoadUm n s
    if s.flag (PTP_INST_CFG.EN n) then ptpEnable n true (s.put (PTP_INST_CFG.EN n) 0) else s
  | .link => lkLock n s
  | _ => s

/-! ### What the reset of a block does (R395) -/

/-- The blocks of GLB_BLK_RST, in the order of its bits. -/
def resetBlocks : List Blk := [.evt, .rgs, .loop, .ens, .out, .gnss, .mac, .ans, .ptp, .bne, .lnk, .pair, .vit]

/-- The crossings of a block (R357). -/
def cdcOfBlock (b : Blk) : List Nat :=
  match b with
  | .mac => (List.range 16).map (· + 1)
  | .lnk => (List.range 8).map (· + 17) ++ (List.range 8).map (· + 48)
  | .gnss => [26, 27, 28, 29]
  | .out => (List.range 16).map (· + 32)
  | _ => []

/-- The kind of instance of a block whose reset other blocks see, and its number. -/
def blkInsts (b : Blk) : List (InstKind × Nat) :=
  match b with
  | .gnss => (List.range 4).map fun n => (.solution, n)
  | .mac => (List.range 8).map fun n => (.port, n)
  | .ptp => (List.range 16).map fun n => (.ptpInst, n)
  | .lnk => (List.range 8).map fun n => (.link, n)
  | _ => []

/-- The registers of a block: with the ports and the links go their replicas. -/
def blkRegs (b : Blk) (h : RegHit) : Bool :=
  h.ofBlock b || (h.desc.kind == some .replica && h.desc.dom == .inst && ((b == .mac && h.inst < 16) || (b == .lnk && 16 ≤ h.inst)))

/-- The event timer's channels reset (R75), their calibrations kept (R76). -/
def evtReset (cals : List Nat) (s : State) : State :=
  let s := (List.range 128).foldl (fun s n =>
    evtFill n (evtResetChan (s.put (EVT_CH_STATUS.CAL_STATE n) (cals.getD n 0)) n)) s
  { s with evt := { s.evt with banks := s.evt.banks.map fun (b : EvtBank) =>
      { b with tsw := none, request := none, retry := false, forced := none } } }

/-- The state of a block at its reset. -/
def blkState (b : Blk) (cals : List Nat) (s : State) : State :=
  match b with
  | .evt => evtReset cals s
  | .rgs => { s with rgs := { RgsState.reset with now := s.rgs.now } }
  | .loop => { s with loops := s.loops.map LoopState.kept }
  | .ens => { s with ens := { EnsState.reset with moved := s.ens.moved, rebases := s.ens.rebases, rebase := true } }
  | .out => { s with out := OutState.reset }
  | .gnss => { s with gnss := GnssState.reset }
  | .mac => { s with mac := List.replicate 8 MacPort.reset }
  | .ans => (List.range 4).foldl (fun s p => ansAbort p s) s
  | .ptp => { s with ptp := { PtpState.reset with epoch := s.ptp.epoch } }
  | .bne => { s with bne := BneState.reset }
  | .lnk => { s with lnk := LnkState.reset }
  | .pair => { s with pair := PairState.reset }
  | .vit => { s with vit := VitState.reset }
  | _ => s

/-- The registers and the state of a block reset. -/
def blkReset (at_ : Nat) (b : Blk) (s : State) : State :=
  let cals := if b = .evt then (List.range 128).map fun n => s.get (EVT_CH_STATUS.CAL_STATE n) else []
  let s := (blkInsts b).foldl (fun s i => instLeave i.1 i.2 at_ s) s
  let s := s.onlyIf (b == .pair) (bneWithdraw fun r => r != .ledger)
  let s := s.onlyIf (b == .loop) fun s => (List.range 24).foldl (fun s k => loopAdvance k (s.timeAt at_) s) s
  let s := blkState b cals (resetRegs (blkRegs b) s)
  (cdcOfBlock b).foldl (fun s k => cdcHold k s) s

/-- READY of a block. -/
def blkReady (b : Blk) (s : State) : State :=
  match b with
  | .tb => s.put TB_STATUS.READY 1
  | .evt => (List.range 8).foldl (fun s n =>
      -- An image that leaves a bank without power holds its READY at 0 (R333).
      s.putB (EVT_BK_STATUS.READY n) (!s.rf.img.any fun r => r.ofs == EVT_BK_STATUS.ofs n && r.mask == 1)) (s.put EVT_STATUS.READY 1)
  | .rgs => s.put RGS_STATUS.READY 1
  | .loop => s.put LOOP_GLB_STATUS.READY 1
  | .ens => s.put ENS_STATUS.READY 1
  | .out => s.put OUT_GLB_STATUS.READY 1
  | .gnss => s.put GNSS_STATUS.READY 1
  | .ans => s.put ANS_GLB_STATUS.READY 1
  -- Every unit is reseeded (R234) and runs its known-answer tests before READY (R237).
  | .nts => (ntsUnits.foldl (fun s u => ntsReseed u s) s).put NTS_UNIT_STATUS.TESTING 0xFFFF
  | .ptp => s.put PTP_STATUS.READY 1
  | .lnk => s.put LK_GLB_STATUS.READY 1
  | .vit => s.put VIT_STATUS.READY 1
  | .con => s.put CON_STATUS.READY 1
  | .cdc => s.put CDC_STATUS.READY 1
  | .hif => s.put HIF_STATUS.READY 1
  | _ => s

/-- Every instance of a kind started. -/
def startAll (kind : InstKind) (n : Nat) (s : State) : State := (List.range n).foldl (fun s i => instStart kind i s) s

/-- A block that starts with its image values (R343, R395). -/
def blkStart (b : Blk) (s : State) : State :=
  let s := blkReady b ((cdcOfBlock b).foldl (fun s k => cdcRelease k s) s)
  match b with
  | .evt => s.onlyIf s.sys.pfailLow (State.put EVT_STATUS.PFAIL_HOLD 1)
  | .rgs => rgsRefresh (startAll .slot 64 s)
  | .loop => startAll .loop 24 s
  | .ens => startAll .member 32 s
  | .out => vitPinCheck (startAll .output 16 s)
  | .ans => (List.range 4).foldl (fun s p => (ansLoad p s).put (ANS_STATUS.READY p) 1) s
  | .ptp => startAll .ptpInst 16 s
  | .bne => bneStart s
  | .lnk => lnkGlobal s
  | .pair => pairStart s
  | .vit => vitPinCheck s
  | _ => s

/-! ### BLK and INST resets by register (R395) -/

/-- The blocks that a set of GLB_BLK_RST bits names. -/
def blocksOf (bits : Nat) : List Blk := resetBlocks.filter fun b => match b.resetBit with | some i => bits.testBit i | none => false

/-- RST_BAD: a request while BUSY is 1, or for an instance that does not exist. -/
def resetBad (s : State) : State := s.put GLB_RST_STATUS.RST_BAD 1

/-- A write of GLB_BLK_RST. -/
def blkRequest (bits at_ : Nat) (s : State) : State :=
  if s.flag GLB_RST_STATUS.BUSY then resetBad s
  else if bits % 2 ^ 13 = 0 then s
  else
    let s := (blocksOf bits).foldl (fun s b => blkReset at_ b s) s
    { s.put GLB_RST_STATUS.BUSY 1 with sys := { s.sys with blkHeld := bits % 2 ^ 13 } }

/-- BLK_RESET. -/
def execBlkReset (blocks : BitVec 13) (at_ : Nat) (s : State) : Host.Outcome State Fault Refusal :=
  .next (s.hostDo .glb none [] (blkRequest blocks.toNat at_))

/-- A write of GLB_INST_RST with GO. -/
def instRequest (block index at_ : Nat) (s : State) : State :=
  match instOf block with
  | some (kind, count) =>
    if s.flag GLB_RST_STATUS.BUSY ∨ count ≤ index then resetBad s
    else
      let s := instReset kind index at_ s
      { s.put GLB_RST_STATUS.BUSY 1 with sys := { s.sys with instHeld := some (block, index) } }
  | none => resetBad s

/-- INST_RESET. -/
def execInstReset (block : Fin 16) (index : Fin 256) (at_ : Nat) (s : State) : Host.Outcome State Fault Refusal :=
  .next (s.hostDo .glb none [] (instRequest block index at_))

/-- The held reset ends: BUSY clears and the blocks or the instance start with their image values. -/
def resetDone (s : State) : State :=
  let blocks := blocksOf s.sys.blkHeld
  let inst := s.sys.instHeld
  let s := { s.put GLB_RST_STATUS.BUSY 0 with sys := { s.sys with blkHeld := 0, instHeld := none } }
  let s := blocks.foldl (fun s b => blkStart b s) s
  match inst with
  | some (block, index) => (match instOf block with | some (kind, _) => instStart kind index s | none => s)
  | none => s

/-- BLK_RESET_DONE. -/
def execBlkResetDone (s : State) : Host.Outcome State Fault Refusal :=
  .next (if s.flag GLB_RST_STATUS.BUSY then resetDone s else s)

/-! ### Start-up phases (R342) -/

/-- A phase entered; UART_TX sends it (R397). -/
def enterPhase (p : Nat) (s : State) : State := (s.put CAT_STATUS.PHASE p).emit (.uartPhase p)

/-! ### DEV and PWR resets (R17, R352, R366, R391) -/

/-- What a running NV program or erase that is cut off leaves: bytes that the spec does not state. -/
def catTear (s : State) : State :=
  match s.cat.op with
  | some (.program a page) => { s with nv := memWrite nvErased s.nv a (s.freeBytes page.length), free := s.free + 1 }
  | some (.erase a) => { s with nv := memWrite nvErased s.nv a (s.freeBytes 65536), free := s.free + 1 }
  | _ => s

/-- Whether a DEV reset keeps the far domain of a crossing: the PCIE link and the AUX ring (R352). -/
def cdcKept (k : Nat) : Bool := k == 25 || k == 31

/-- The crossings at a PWR or DEV reset (R352): both sides of each are reset, but at a DEV reset the PCIE and the AUX side see their
partner in reset, the PCIE one unless PERST_N holds it. -/
def cdcDevReset (kept : Bool) (s : State) : State :=
  (List.range 56).foldl (fun s k => cdcSides 2 (if kept && cdcKept k && !(k == 25 && s.sys.perst) then 1 else 2) k s) s

/-- The state of every block as it is after a PWR or DEV reset; memories outside the device, pins and one-time-programmable
words stay. -/
def clearBlocks (s : State) : State :=
  { State.reset with
    pending := s.pending, rf := s.rf, nv := s.nv, slots := s.slots, bar2 := memClear s.bar2 0 (16 * bneWindow), sys := s.sys,
    free := s.free, outbox := s.outbox }

/-- The cause of a reset recorded (R394). -/
def resetCause (c : ResetCause) (s : State) : State := s.put GLB_RESET_CAUSE.CAUSE c.code

/-- A DEV reset (R17, R352): the registers take their hard values, the blocks are held, and start-up enters FACTORY, or PLL_LOCK
after a pivot fault (R342). -/
def devReset (c : ResetCause) (s : State) : State :=
  let fault := decide (c = .pivotFault)
  let s := clearBlocks (catTear s)
  let s := { s with rf := s.rf.resetDev,
                    sys := { s.sys with pivotFault := false, d2dFault := false, afterPivotFault := fault, warming := fault,
                                        blkHeld := 0, instHeld := none, flitFails := 0 } }
  let s := (resetCause c s).count GLB_RESET_CAUSE.DEV_RESETS 1
  enterPhase (if fault then 1 else 2) (cdcDevReset true s)

/-- A write of GLB_RESET (R394). -/
def softReset (soft : Bool) (confirm : Nat) (s : State) : State := s.onlyIf (soft && confirm == 0xA5) (devReset .soft)

/-- SOFT_RESET. -/
def execSoftReset (confirm : BitVec 8) (s : State) : Host.Outcome State Fault Refusal :=
  .next (s.hostDo .glb none [] (softReset true confirm.toNat))

/-- POR (R341, R352, R404): a PWR reset resets every domain; PVS is sampled. -/
def porReset (powerUp : Bool) (strap : Nat) (pfailLow : Bool) (s : State) : State :=
  let s := clearBlocks (catTear s)
  let s := { s with rf := State.reset.rf,
                    sys := { SysState.reset with pfailLow := pfailLow, pfailHold := pfailLow, ownerKey := s.sys.ownerKey,
                                                 sigReq := s.sys.sigReq, perst := s.sys.perst, activeN := s.sys.activeN,
                                                 partnerOk := s.sys.partnerOk, pins := s.sys.pins, strap := strap } }
  enterPhase 0 (resetCause (if powerUp then .powerUp else .porN) (cdcDevReset false s))

/-- POR. -/
def execPor (powerUp : Bool) (strap : Fin 8) (pfailLow : Bool) (s : State) : Host.Outcome State Fault Refusal :=
  .next (porReset powerUp strap pfailLow s)

end Sys2Proof.Machine
end

