-- ==== Sys2Proof/Machine/Catalogue.lean ====
section
/-! DEFINITION. The Catalogue interface: NV commands, bank checks, the one-time-programmable words, the selection among the
images, and how an image's values reach the registers (17_catalogue_and_startup.md). -/

namespace Sys2Proof.Machine

/-! ### NV commands (R340) -/

/-- A CAT flag with its interrupt (R379). -/
def catFlag (f : Fld) (s : State) : State :=
  s.setFlag f (if f = CAT_FLAGS.CHECK_DONE then 1 else 2)

/-- The bank in use, if any: SOURCE 2 is bank A, 3 bank B. -/
def catInUse (s : State) : Option Nat :=
  match s.get CAT_STATUS.SOURCE with
  | 2 => some 0
  | 3 => some 1
  | _ => none

/-- Whether bytes of the Catalogue region may be reached by a command: none of the bank in use, none outside the region. -/
def catReach (a n : Nat) (s : State) : Bool :=
  decide (a + n ≤ 0x1000000) &&
  (match catInUse s with
   | some b => decide (a + n ≤ bankBase b ∨ bankBase b + 0x800000 ≤ a)
   | none => true)

/-- The bytes a command acts on: READ takes 256 from its address, PROGRAM the page and ERASE the sector that hold it. -/
def CatOp.range : CatOp → Nat × Nat
  | .read a => (a, 256)
  | .program a _ => (a, 256)
  | .erase a => (a, 65536)
  | .check b => (bankBase b, 0)

/-- A command started: refused with CFG_BAD while BUSY is 1, with NV_PROTECT where it reaches the bank in use or leaves the
region. -/
def catStart (op : CatOp) (s : State) : State :=
  if !hostMay .cat s then s
  else if s.flag CAT_NV_STATUS.BUSY then catFlag CAT_FLAGS.CFG_BAD s
  else if !catReach op.range.1 op.range.2 s then catFlag CAT_FLAGS.NV_PROTECT s
  else s.cross true 30 1 fun s => { s.put CAT_NV_STATUS.BUSY 1 with cat := { s.cat with op := some op } }

/-- NV_READ. -/
def catRead (s : State) : State := catStart (.read (s.get CAT_NV_ADDR.ADDR)) s

@[inherit_doc catRead]
def execNvRead (s : State) : Host.Outcome State Fault Refusal := .next (catRead s)

/-- NV_PROGRAM: the page that holds CAT_NV_ADDR. -/
def catProgram (s : State) : State := catStart (.program (s.get CAT_NV_ADDR.ADDR / 256 * 256) s.cat.page) s

@[inherit_doc catProgram]
def execNvProgram (s : State) : Host.Outcome State Fault Refusal := .next (catProgram s)

/-- NV_ERASE: the 64 KiB sector that holds CAT_NV_ADDR. -/
def catErase (s : State) : State := catStart (.erase (s.get CAT_NV_ADDR.ADDR / 65536 * 65536)) s

@[inherit_doc catErase]
def execNvErase (s : State) : Host.Outcome State Fault Refusal := .next (catErase s)

/-- The command ends: BUSY clears, and the page buffer is at its first word. -/
def catEnd (s : State) : State := { s.put CAT_NV_STATUS.BUSY 0 with cat := { s.cat with op := none, word := 0 } }

/-- What a completed command does: READ fills the page buffer, PROGRAM writes it, ERASE sets the sector to ones. -/
def catEffect (op : CatOp) (s : State) : State :=
  match op with
  | .read a => { s with cat := { s.cat with page := memBytes nvErased s.nv a 256 } }
  | .program a page => { s with nv := memWrite nvErased s.nv a page }
  | .erase a => { s with nv := memClear s.nv a 65536 }
  | .check _ => s

/-- Whether PFAIL_N low suspends a command: an erase, which does not go on before PFAIL_N is high (R368). -/
def catSuspended (op : CatOp) (s : State) : Bool := s.sys.pfailLow && (match op with | .erase _ => true | _ => false)

/-- NV_COMMAND_DONE: the command completes, or the NV memory does not answer: NV_ERR, and what a program or an erase leaves is
open. -/
def catDone (ok : Bool) (s : State) : State :=
  match s.cat.op with
  | some (.check _) => s
  | some op => if catSuspended op s then s else catEnd (if ok then catEffect op s else catFlag CAT_FLAGS.NV_ERR (catTear s))
  | none => s

@[inherit_doc catDone]
def execNvCommandDone (ok : Bool) (s : State) : Host.Outcome State Fault Refusal := .next (catDone ok s)

/-- An access to CAT_NV_DATA: a write fills the word, a read returns it, and either advances one word modulo 64. -/
def catData (write : Bool) (v : Word) (s : State) : State :=
  let next := fun (c : CatState) => (c.word + 1) % 64
  if write then
    let page := s.cat.page.take (4 * s.cat.word) ++ leBytes 4 v.toNat ++ s.cat.page.drop (4 * s.cat.word + 4)
    { s with cat := { s.cat with page := page, word := next s.cat } }
  else { s with sys := { s.sys with rdata := catPageWord s }, cat := { s.cat with word := next s.cat } }

/-- NV_DATA_ACCESS. -/
def execNvDataAccess (write : Bool) (v : Word) (s : State) : Host.Outcome State Fault Refusal :=
  .next (if write then s.hostDo .cat none [] (catData true v) else s.hostPop .cat none (catData false v))

/-! ### Checks (R336, R340) -/

/-- The check of a bank with the device's key, SIG_REQ and strap code; a bank that does not answer fails with NV_ERROR. -/
def catCheck (b : Nat) (answers : Bool) (s : State) : Nat × Nat :=
  if answers then bankCheck s.nv b s.sys.ownerKey s.sys.sigReq s.sys.strap else (9, 0)

/-- PRESENT and SEQ of a bank posted, with the result of its check where it was checked; a result also goes out on UART_TX
(R397). -/
def catPostBank (b : Nat) (r : Option (Nat × Nat)) (s : State) : State :=
  let s := (s.putB (CAT_BANK_STATUS.PRESENT b) (bankPresent s.nv b)).put (CAT_BANK_SEQ.SEQ b) (bankSeq s.nv b)
  match r with
  | some (reason, detail) =>
    let s := ((s.put (CAT_BANK_STATUS.CHECKED b) 1).put (CAT_BANK_STATUS.REASON b) reason).put (CAT_BANK_STATUS.DETAIL b) detail
    (s.emit (.uartBank b (s.reg (CAT_BANK_STATUS.ofs b)))).onlyIf (reason == 9) (catFlag CAT_FLAGS.NV_ERR)
  | none => ((s.put (CAT_BANK_STATUS.CHECKED b) 0).put (CAT_BANK_STATUS.REASON b) 0).put (CAT_BANK_STATUS.DETAIL b) 0

/-- A write of CHECK (R340). -/
def catCheckStart (bank : Nat) (s : State) : State :=
  if !hostMay .cat s then s
  else if s.flag CAT_NV_STATUS.BUSY then catFlag CAT_FLAGS.CFG_BAD s
  else { s.put CAT_NV_STATUS.BUSY 1 with cat := { s.cat with op := some (.check bank) } }

/-- CHECK. -/
def execCheck (bank : Fin 2) (s : State) : Host.Outcome State Fault Refusal := .next (catCheckStart bank s)

/-- CHECK_DONE: the result is posted and CHECK_DONE set. -/
def execCheckDone (ok : Bool) (s : State) : Host.Outcome State Fault Refusal :=
  .next (match s.cat.op with
    | some (.check b) => catFlag CAT_FLAGS.CHECK_DONE (catPostBank b (some (catCheck b ok s)) (catEnd s))
    | _ => s)

/-! ### One-time-programmable words (CAT_OTP_CMD, R336) -/

/-- The staged owner key. -/
def catStagedKey (s : State) : List Byte := (List.range 8).flatMap fun w => leBytes 4 (s.reg (CAT_OWNER_KEY.ofs w)).toNat

/-- A write of CAT_OTP_CMD. -/
def otpWrite (key sig : Bool) (confirm : Nat) (s : State) : State :=
  let bad := catFlag CAT_FLAGS.OTP_ERR
  if !hostMay .cat s then s
  else if confirm ≠ 0x5A then bad s
  else
    let s := if !key then s
      else if s.sys.ownerKey.isSome then bad s
      else { s with sys := { s.sys with ownerKey := some (catStagedKey s) } }
    if !sig then s
    else if s.sys.ownerKey.isSome then { s with sys := { s.sys with sigReq := true } }
    else bad s

/-- PROGRAM_KEY. -/
def execProgramKey (confirm : BitVec 8) (s : State) : Host.Outcome State Fault Refusal :=
  .next (otpWrite true false confirm.toNat s)

/-- PROGRAM_SIG_REQ. -/
def execProgramSigReq (confirm : BitVec 8) (s : State) : Host.Outcome State Fault Refusal :=
  .next (otpWrite false true confirm.toNat s)

/-! ### Selection (R338) -/

/-- The outcome of a selection: SOURCE, OLDER_IMAGE, FALLBACK, SIG_UNCHECKED, what the image sets, CFG_HASH, and the check results
of the two banks. -/
structure CatLoad where
  source : Nat
  older : Bool
  fallback : Bool
  unchecked : Bool
  img : List ImgRec
  hash : List Byte
  checks : List (Option (Nat × Nat))
deriving DecidableEq, Repr

/-- The factory image as the outcome; its CFG_HASH is a fixed value of the silicon revision (R338; assumption 21). -/
def loadFactory (fallback : Bool) (checks : List (Option (Nat × Nat))) : CatLoad :=
  { source := 1, older := false, fallback := fallback, unchecked := false, img := [], hash := leBytes 32 Config.factoryHash.toNat,
    checks := checks }

/-- The image of a bank as the outcome. -/
def loadBank (b : Nat) (older : Bool) (checks : List (Option (Nat × Nat))) (s : State) : CatLoad :=
  let im := bankImage s.nv b
  { source := 2 + b, older := older, fallback := false, unchecked := imgSigned im && s.sys.ownerKey.isNone, img := imgRecs im,
    hash := sha256 im, checks := checks }

/-- The bank that is checked first: the higher SEQ, or the only one with MAGIC; bank A where the two are equal. -/
def catFirst (s : State) : Nat :=
  if bankPresent s.nv 1 && (!bankPresent s.nv 0 || decide (bankSeq s.nv 0 < bankSeq s.nv 1)) then 1 else 0

/-- The selection of R338. -/
def catSelect (answersA answersB : Bool) (s : State) : CatLoad :=
  if s.flag CAT_CFG.FACTORY_NEXT then loadFactory false [none, none]
  else
    let answers := fun b => if b = 0 then answersA else answersB
    let first := catFirst s
    let other := 1 - first
    let r := catCheck first (answers first) s
    if r.1 = 0 then loadBank first false ([none, none].set first (some r)) s
    else
      let q := catCheck other (answers other) s
      let checks := ([none, none].set first (some r)).set other (some q)
      if q.1 = 0 then loadBank other true checks s
      else loadFactory (bankPresent s.nv 0 || bankPresent s.nv 1) checks

/-- FACTORY_NEXT cleared by the load that uses it (R338), before the image's own values are applied (R335). -/
def catUsed (s : State) : State := s.onlyIf (s.flag CAT_CFG.FACTORY_NEXT) (State.put CAT_CFG.FACTORY_NEXT 0)

/-- The outcome posted (R338): CAT_STATUS, the banks, CFG_HASH and the catalogue interrupt. -/
def catPost (l : CatLoad) (s : State) : State :=
  let s := (s.put CAT_STATUS.SOURCE l.source).putB CAT_STATUS.FALLBACK l.fallback
  let s := (s.putB CAT_STATUS.OLDER_IMAGE l.older).putB CAT_STATUS.SIG_UNCHECKED l.unchecked
  let s := [0, 1].foldl (fun s b => catPostBank b (l.checks.getD b none) s) s
  let s := (List.range 8).foldl (fun s w => s.put (CAT_HASH.OCTETS w) (octetWord l.hash w)) s
  s.onlyIf l.fallback (State.setEvent CAT_FLAGS.FALLBACK_EV 0)

/-! ### An image's values in the registers (R17, R18, R19, R335) -/

/-- The bits of the fields that reflect live state (R20). -/
def RegHit.liveMask (h : RegHit) : Word := h.maskOf fun f => decide (f.fac = .live)

/-- One listed register as an image is applied: live fields and RWS fields keep their values, and a register of the PWR domain takes
only what the image sets. -/
def regApply (img : List ImgRec) (e : Nat × Word) : Nat × Word :=
  match regFind e.1 with
  | some h =>
    let fac := h.assemble fun f => f.facVal img h
    let v := if h.desc.dom = .pwr then e.2 else (fac &&& ~~~h.liveMask) ||| (e.2 &&& h.liveMask)
    (e.1, (overlay img e.1 v &&& ~~~h.sticky) ||| (e.2 &&& h.sticky))
  | none => e

/-- An image applied at start-up: every register takes its image value (R17, R19), and a latch takes the high half that its pair
then has unless a read has loaded it (R12). -/
def RegFile.apply (img : List ImgRec) (r : RegFile) : RegFile :=
  { r with vals := r.vals.map (regApply img), latch := r.latch.filter fun l => l.byRead, img := img, imgOn := true }

/-- An image applied at start-up. -/
def applyImage (img : List ImgRec) (s : State) : State := { s with rf := s.rf.apply img }

/-- The registers of the key store and of the ledger chain, which a live load keeps (R344). -/
def storeRegs : List Nat :=
  [NTS_STATUS.ofs, NTS_KEYID.ofs 0, NTS_GEN_NEXT.ofs, PROV_STATUS.ofs, PROV_CHAIN.ofs, PROV_LAST_SERIAL.ofs, PROV_LAST_HASH.ofs 0,
    PROV_PUBKEY.ofs 0]

/-- Whether a register of NTS or PROV takes the BLK reset of a live load (R344). -/
def RegHit.loadReset (h : RegHit) : Bool := (h.desc.blk == .nts || h.desc.blk == .prov) && !storeRegs.contains h.desc.base

/-- The bits of a register that a live load takes from the new image, where the register is not reset (R344): in a block that keeps its
state the read-only fields with a fixed default, which carry the timing matrix's routes; in one without a BLK domain the RW fields. -/
def RegHit.loadMask (h : RegHit) (ofs : Nat) : Word :=
  if h.desc.blk.onlyDev then h.maskOf fun f => decide (f.acc = .rw)
  else h.maskOf fun f => decide (f.acc = .ro) && (decide (f.fac ≠ .live) || decide (ofs = TB_OWNER.ofs))

/-- A register that keeps its other bits while the image under it changes (R344); what the image sets of an RWS field it takes (R18).
Its latch stays too. -/
def keepReg (img : List ImgRec) (r : RegFile) (ofs : Nat) : RegFile :=
  match regFind ofs with
  | some h =>
    if h.desc.blk.keptByLoad || h.desc.blk.onlyDev || storeRegs.contains h.desc.base then
      let m := h.loadMask ofs
      let v := (r.reg ofs &&& ~~~m) ||| (imageValue img ofs &&& m)
      let r' := r.set ofs (if h.desc.blk.onlyDev then (v &&& ~~~h.sticky) ||| (overlay img ofs v &&& h.sticky) else v)
      let low := ofs - 4
      if h.hi && !r.latch.any (fun l => l.ofs == low) then
        { r' with latch := { ofs := low, value := r.base ofs, byRead := false } :: r'.latch }
      else r'
    else r
  | none => r

/-- An image applied by a live load, the other blocks' registers being reset already (R344). -/
def loadImage (img : List ImgRec) (s : State) : State :=
  let r := ((s.rf.img ++ img).map (fun (x : ImgRec) => x.ofs) ++ s.rf.vals.map (·.1)).foldl (keepReg img) s.rf
  { s with rf := { r with img := img } }

end Sys2Proof.Machine
end

