-- ==== Sys2Proof/Machine/Checkpoint.lean ====
section
/-! DEFINITION. Checkpoints: what one holds, its latch, its write and commit, and the erase-ahead (19_conservator.md). -/

namespace Sys2Proof.Machine

/-! ### The checkpoint area (R366, R367) -/

/-- MAGIC of a checkpoint's header (R366). -/
def ckptMagic : Nat := 0x544B4350

/-- DEVICE of a checkpoint's header (R366). -/
def ckptDevice : Nat := 0x9640

/-- The COMMIT word, which a write programs last (R366). -/
def ckptCommit : Nat := 0x4D434F43

/-- A key of the store as the body holds it, wrapped. -/
def ckptKeyBytes (k : Option NtsKey) : List Byte :=
  match k with | some k => 1 :: (leBytes 8 k.gen ++ k.key) | none => [0]

/-- The body of a checkpoint. R366 leaves its layout to the device: DESIGN CHOICE (assumption 179). -/
def Ckpt.body (ck : Ckpt) : List Byte :=
  leBytes 16 (patternOf 128 ck.dev) ++ leBytes 4 (patternOf 32 ck.utcOfs) ++
  (match ck.leap with | some l => leBytes 8 l.sL ++ leBytes 1 (bit l.delete) ++ leBytes 4 (patternOf 32 l.oNew) | none => []) ++
  (ck.regs.flatMap fun r => leBytes 4 r.1 ++ leBytes 4 r.2.toNat) ++
  (ck.members.flatMap fun m => leBytes 8 m.1 ++ leBytes 4 m.2) ++
  ckptKeyBytes ck.cur ++ ckptKeyBytes ck.old1 ++ ckptKeyBytes ck.old2 ++ leBytes 8 ck.genNext ++
  (match ck.staged with | some g => leBytes 8 g | none => []) ++ leBytes 8 ck.boot ++ leBytes 8 ck.chain ++
  (match ck.last with | some l => leBytes 8 l.1 ++ l.2 | none => [])

/-- The 64-byte header of a checkpoint written to a slot (R366). -/
def Ckpt.head (ck : Ckpt) (slot : Nat) : List Byte :=
  leBytes 4 ckptMagic ++ leBytes 2 1 ++ leBytes 1 ck.kind ++ leBytes 1 slot ++ leBytes 8 ck.seq ++ leBytes 4 ck.body.length ++
  leBytes 4 ckptDevice ++ leBytes 8 ck.sec ++ (ck.hash ++ List.replicate 32 0).take 32

/-- A position as a write leaves it, whole or torn before COMMIT (R366, R367). -/
def ckptImage (slot : Nat) (ck : Ckpt) (whole : Bool) : CkptPos :=
  let head := ck.head slot
  { head := head, ck := ck, crc := crc32c (head ++ ck.body), commit := if whole then ckptCommit else 0xFFFFFFFF }

/-- Whether a position is usable: MAGIC, VER, DEVICE, CRC and COMMIT are all correct (R366). -/
def CkptPos.usable (p : CkptPos) : Bool :=
  p.commit == ckptCommit && leField p.head 0 4 == ckptMagic && leField p.head 4 2 == 1 && leField p.head 20 4 == ckptDevice &&
  p.crc == crc32c (p.head ++ p.ck.body)

/-- The usable checkpoint of the highest SEQ, with its slot and position (R366). -/
def ckptNewest (s : State) : Option (Nat × Nat × Ckpt) :=
  let all := (List.range 2).flatMap fun i =>
    ((s.slots.getD i CkptSlot.reset).stored.filter fun p => p.2.usable).map fun p => (i, p.1, p.2.ck)
  all.foldl (fun best (x : Nat × Nat × Ckpt) =>
    match best with
    | some b => if b.2.2.seq < x.2.2.seq then some x else best
    | none => some x) none

/-- The slot that the next write goes to: the one that does not hold the newest committed checkpoint. -/
def ckptTarget (s : State) : Nat :=
  match ckptNewest s with
  | some n => if n.1 = 0 then 1 else 0
  | none => 0

/-- A slot of the checkpoint area. -/
def ckptSlot (s : State) (i : Nat) : CkptSlot := s.slots.getD i CkptSlot.reset

/-- A slot changed. -/
def ckptSet (i : Nat) (f : CkptSlot → CkptSlot) (s : State) : State := { s with slots := s.slots.modify i f }

/-! ### Content (R365) -/

/-- The offsets of a pair's two halves. -/
def pairOfs (ofs : Nat) : List Nat := [ofs, ofs + 4]

/-- The registers of R65 that a restore takes whatever CFG_HASH says: f_est, the UTC offset and the leap schedule. -/
def ckptTbAlways : List Nat :=
  pairOfs TB_PM_FREQ_FF.ofs ++ [TB_UTC_OFS.ofs, TB_LEAP_CFG.ofs] ++ pairOfs TB_LEAP_TAI.ofs

/-- The registers of R65 that keep the new image's values where CFG_HASH differs: the other pivot-model terms, the jump limit
and the slew limit. -/
def ckptTbTerms : List Nat :=
  [TB_PM_DRIFT_FF.ofs, TB_PM_AGE_FF.ofs, TB_PM_TEMPCO_FF.ofs, TB_PM_ORIGIN_SEC.ofs, TB_JUMP_LIMIT_PH.ofs,
    TB_SLEW_LIM_FF.ofs].flatMap pairOfs ++ [TB_PM_AGE_TAU.ofs, TB_PM_TEMP_CFG.ofs]

/-- The registers of the ensemble engine that R143 names: y_p, s, and of each member its state and runs, y and trial_count. -/
def ckptEnsRegs : List Nat :=
  pairOfs ENS_YP_FF.ofs ++ pairOfs ENS_S_FF.ofs ++
    (List.range 32).flatMap fun i => MB_STATUS.ofs i :: MB_TRIAL.ofs i :: pairOfs (MB_Y_FF.ofs i)

/-- The registers of the held positions (R168). -/
def ckptGnssRegs : List Nat :=
  (List.range 4).flatMap fun i =>
    GNSS_SOL_STATUS.ofs i :: (pairOfs (GNSS_SOL_POS_X.ofs i) ++ pairOfs (GNSS_SOL_POS_Y.ofs i) ++ pairOfs (GNSS_SOL_POS_Z.ofs i))

/-- Every register a checkpoint holds. -/
def ckptRegs : List Nat := ckptTbAlways ++ ckptTbTerms ++ ckptEnsRegs ++ ckptGnssRegs

/-- The content latched in one core cycle (R365): the key store in its rotated form while a key is staged, wrapped under
the device key (R225), and of the ledger no
record that has not been issued. -/
def ckptLatch (kind at_ : Nat) (s : State) : Ckpt :=
  let t := s.timeAt at_
  let staged := s.nts.staging
  { kind := kind, seq := (match ckptNewest s with | some n => n.2.2.seq | none => 0) + 1, sec := secOf t, hash := catHash s,
    dev := t, regs := ckptRegs.map fun ofs => (ofs, s.reg ofs), utcOfs := s.tb.utcOfs, leap := s.tb.leap,
    members := s.ens.members.map fun (m : EnsMember) => (m.var, m.holdRun),
    cur := (if staged.isSome then staged else s.nts.cur).map ntsWrap,
    old1 := (if staged.isSome then s.nts.cur else s.nts.old1).map ntsWrap,
    old2 := (if staged.isSome then s.nts.old1 else s.nts.old2).map ntsWrap,
    genNext := s.get NTS_GEN_NEXT.NEXT, staged := staged.map fun (k : NtsKey) => k.gen,
    boot := s.prov.boot, chain := s.get64 PROV_CHAIN.ofs, last := s.prov.last }

/-! ### Writes (R365, R366) -/

/-- A write that failed or was abandoned: its position stays without COMMIT. -/
def ckptFail (s : State) : State :=
  let s := match s.con.writing with
    | some w => ckptSet w.slot (fun (c : CkptSlot) => { c with stored := tableSet c.stored w.pos (ckptImage w.slot w.ck false) }) s
    | none => s
  let s := { s.put CON_STATUS.CKPT_BUSY 0 with con := { s.con with writing := none } }
  (s.count CON_CKPT_CNT.FAILS 1).setFlag CON_FLAGS.CKPT_FAIL 24

/-- Whether a write may begin in the slot it would go to: two erased positions stay ahead of the write point, which only the power-fail
checkpoint may use (R367; assumption 180). -/
def ckptRoom (kind : Nat) (s : State) : Bool := kind == 3 || decide (3 ≤ (ckptSlot s (ckptTarget s)).erased)

/-- A checkpoint latched and its write begun at the next position of its slot; every request made so far is served by it. A slot
without an erased position takes no write. -/
def ckptBegin (kind at_ : Nat) (s : State) : State :=
  let i := ckptTarget s
  let slot := ckptSlot s i
  let ck := ckptLatch kind at_ s
  let s := { s with con := { s.con with blockReq := false, hostReq := false, perReq := false,
                                        latchedAt := some (s.pivotAt at_) } }
  if slot.erased = 0 then ckptFail s
  else
    let s := ckptSet i (fun (c : CkptSlot) => { c with next := (c.next + 1) % 1024, erased := c.erased - 1 }) s
    { s.put CON_STATUS.CKPT_BUSY 1 with con := { s.con with writing := some { slot := i, pos := slot.next, ck := ck } } }

/-- The waiting requests served where a checkpoint may be latched: no write is in progress, the slot has room (R367), PFAIL_N is high
(R368), and no pivot fault is in force (R32). KIND is the first that applies of a block's, the host's and a periodic instant's request. -/
def ckptServe (at_ : Nat) (s : State) : State :=
  if !s.live .con || s.con.writing.isSome || s.sys.pfailLow || s.sys.pivotFault || !ckptRoom 0 s then s
  else if s.con.blockReq then ckptBegin 1 at_ s
  else if s.con.hostReq then ckptBegin 2 at_ s
  else if s.con.perReq then ckptBegin 0 at_ s
  else s

/-- CHECKPOINT_PERIODIC (R365): a periodic instant with CKPT_EN = 1; skipped while PFAIL_N is low (R368). -/
def execCheckpointPeriodic (at_ : Nat) (s : State) : Host.Outcome State Fault Refusal :=
  .next (s.onlyIf (s.live .con && s.flag CON_CFG.CKPT_EN && !s.sys.pfailLow) fun s =>
    ckptServe at_ { s with con := { s.con with perReq := true } })

/-- A host request for a checkpoint (R365). -/
def ckptNow (at_ : Nat) (s : State) : State :=
  s.onlyIf (s.live .con) fun s => ckptServe at_ { s with con := { s.con with hostReq := true } }

/-- CKPT_NOW. -/
def execCkptNow (at_ : Nat) (s : State) : Host.Outcome State Fault Refusal := .next (ckptNow at_ s)

/-- CHECKPOINT_REQUEST (R365): the request that a block has made takes its latch. -/
def execCheckpointRequest (at_ : Nat) (s : State) : Host.Outcome State Fault Refusal := .next (ckptServe at_ s)

/-- A field of a register taken from a word and clamped. -/
def clampField (f : Fld) (lo hi : Nat) (w : Word) : Word := fieldSet w f.lo f.width (min hi (max lo (fieldOf w f.lo f.width)))

/-- A write of CON_CFG (R365): PERIOD is clamped to 1 to 3,600. -/
def conCfgWrite (v : Word) (s : State) : State := s.setReg CON_CFG.ofs (clampField CON_CFG.PERIOD 1 3600 (v &&& 0xFFFF0003))

/-- CHECKPOINT_CONFIG_WRITE. -/
def execCheckpointConfigWrite (v : Word) (s : State) : Host.Outcome State Fault Refusal :=
  .next (s.hostDo .con none [CON_CFG.ofs] (conCfgWrite v))

/-- A checkpoint stored: SEQ, KIND and NEWEST_SLOT show it. -/
def ckptStored (w : CkptWrite) (s : State) : State :=
  let s := ckptSet w.slot (fun (c : CkptSlot) => { c with stored := tableSet c.stored w.pos (ckptImage w.slot w.ck true) }) s
  let s := { s.put CON_STATUS.CKPT_BUSY 0 with con := { s.con with writing := none } }
  let s := ((s.put64 CON_CKPT_SEQ.ofs w.ck.seq).put CON_CKPT_INFO.KIND w.ck.kind).put CON_STATUS.NEWEST_SLOT w.slot
  (s.count CON_CKPT_CNT.WRITES 1).setFlag CON_FLAGS.CKPT_DONE 23

/-- What a commit lets go on: the rotation whose staged key the checkpoint holds (R226, R325) and the boot it holds (R288). -/
def ckptEffects (ck : Ckpt) (at_ : Nat) (s : State) : State :=
  let s := match s.nts.staging, ck.staged with
    | some k, some gen => if k.gen = gen ∧ s.get NTS_STATUS.ROT_STATE = 2 then pairSaved gen s else s
    | _, _ => s
  if ck.boot = s.prov.boot then provCommitted at_ s else s

/-- CHECKPOINT_COMMIT (R366): the write in progress ends with COMMIT programmed and read back, or fails; the requests that came
meanwhile start a new one. -/
def execCheckpointCommit (ok : Bool) (at_ : Nat) (s : State) : Host.Outcome State Fault Refusal :=
  .next (match s.con.writing with
    | some w => ckptServe at_ (if ok then ckptEffects w.ck at_ (ckptStored w s) else ckptFail s)
    | none => s)

/-- CHECKPOINT_LATE (R363): a checkpoint is not committed DL after its request. The write runs to completion. -/
def execCheckpointLate (at_ : Nat) (s : State) : Host.Outcome State Fault Refusal :=
  .next (s.onlyIf (s.live .con && (s.con.writing.isSome || s.con.blockReq || s.con.hostReq || s.con.perReq)) (fun s => s.deadline 6 (s.timeAt at_)))

/-! ### Erase-ahead (R367) -/

/-- The sector that an erase-ahead of a slot would erase: the one behind its erased run; none while nine erased positions
remain, or where it holds the newest committed checkpoint. -/
def ckptNextErase (s : State) (i : Nat) : Option Nat :=
  let slot := ckptSlot s i
  let sector := (slot.next + slot.erased) % 1024 / 8
  if 9 ≤ slot.erased then none
  else match ckptNewest s with
    | some n => if n.1 = i ∧ n.2.1 / 8 = sector then none else some sector
    | none => some sector

/-- ERASE_AHEAD (R367): the erase of one sector begins; while PFAIL_N is low none does (R368). -/
def execEraseAhead (s : State) : Host.Outcome State Fault Refusal :=
  .next (
    if !s.live .con || s.con.erasing.isSome || s.sys.pfailLow then s
    else
      let begin_ := fun (i sector : Nat) => { s.put CON_STATUS.ERASING 1 with con := { s.con with erasing := some (i, sector) } }
      match ckptNextErase s 0, ckptNextErase s 1 with
      | some sector, _ => begin_ 0 sector
      | none, some sector => begin_ 1 sector
      | none, none => s)

/-- The erase counts of a sector over both slots (R367): the highest. -/
def ckptMaxWear (s : State) : Nat := s.slots.foldl (fun m (c : CkptSlot) => c.wear.foldl (fun m p => max m p.2) m) 0

/-- A sector erased: eight positions more, one erase more. -/
def ckptErased (i sector : Nat) (s : State) : State :=
  let s := ckptSet i (fun (c : CkptSlot) =>
    { c with erased := c.erased + 8, stored := c.stored.filter (fun p => decide (p.1 / 8 ≠ sector)),
             wear := tableSet c.wear sector ((tableGet c.wear sector).getD 0 + 1) }) s
  let s := { s.put CON_STATUS.ERASING 0 with con := { s.con with erasing := none } }
  let s := s.put CON_WEAR.MAX_ERASE (min 0xFFFFFF (ckptMaxWear s))
  s.onlyIf (decide (90000 < (tableGet (ckptSlot s i).wear sector).getD 0)) (State.setFlag CON_FLAGS.WEAR_WARN 28)

/-- ERASE_DONE (R367): the requests that waited for room are served; an erase suspended by PFAIL_N low does not complete (R368). -/
def execEraseDone (at_ : Nat) (s : State) : Host.Outcome State Fault Refusal :=
  .next (match s.con.erasing with
    | some (i, sector) => if s.sys.pfailLow then s else ckptServe at_ (ckptErased i sector s)
    | none => s)

end Sys2Proof.Machine
end

