-- ==== Sys2Proof/Machine/Startup.lean ====
section
/-! DEFINITION. Start-up, the restore of a checkpoint, the release of the blocks, the live load, and the pivot fault
(R32, R341 to R344). -/

namespace Sys2Proof.Machine

/-! ### The phases before RESTORE (R342) -/

/-- PIVOT_STABLE: PIVOT_WAIT ends, unless the strap code is the reserved one (R341) or PFAIL_N holds start-up back (R404). -/
def execPivotStable (s : State) : Host.Outcome State Fault Refusal :=
  .next (if s.phase = 0 ∧ s.sys.strap ≠ 7 ∧ s.sys.pfailHold = false then
    enterPhase 1 { s with sys := { s.sys with warming := true } }
  else s)

/-- PLL_LOCKED. -/
def execPllLocked (s : State) : Host.Outcome State Fault Refusal := .next (if s.phase = 1 then enterPhase 2 s else s)

/-- PIVOT_LOST_AT_START: before RUN start-up returns to PIVOT_WAIT and the warm-up count clears; the clocks made from the pivot stop, and
with them the crossings. -/
def execPivotLostAtStart (s : State) : Host.Outcome State Fault Refusal :=
  .next (if 1 ≤ s.phase ∧ s.phase ≤ 5 then enterPhase 0 (cdcDevReset true { s with sys := { s.sys with warming := false } }) else s)

/-- FACTORY_APPLIED: the factory image's values stand (R339) and the crossings to CORE of the domains that now run leave reset, the
PCIE one unless PERST_N holds it. -/
def startFactory (s : State) : State :=
  let s := applyImage [] s
  let s := [0, 30, 31].foldl (fun s k => cdcRelease k s) s
  enterPhase 3 (cdcSettle false (s.sys.perst || s.flag (CDC_XS_STATUS.CLK_ABSENT 25)) 25 s)

@[inherit_doc startFactory]
def execFactoryApplied (s : State) : Host.Outcome State Fault Refusal :=
  .next (if s.phase = 2 then startFactory s else s)

/-- IMAGE_SELECTED (R338): the selected image is applied, and with it the collection address, H and the UTC offset. -/
def startImage (answersA answersB : Bool) (s : State) : State :=
  let l := catSelect answersA answersB s
  let s := catPost l (applyImage l.img (catUsed s))
  -- The configuration writes are counted from here on (R284).
  enterPhase 4 { s with tb := { s.tb with utcOfs := s.getI TB_UTC_OFS.OFS }, prov := { s.prov with cfgWrites := 0 } }

@[inherit_doc startImage]
def execImageSelected (answersA answersB : Bool) (s : State) : Host.Outcome State Fault Refusal :=
  .next (if s.phase = 3 then startImage answersA answersB s else s)

/-- WARMUP_DONE. -/
def execWarmupDone (s : State) : Host.Outcome State Fault Refusal := .next (if s.phase = 4 then enterPhase 5 s else s)

/-! ### The restore (R65, R143, R168, R227, R288, R343) -/

/-- A register's value restored; the latch of a pair takes the high half (R12). -/
def restoreReg (ck : Ckpt) (s : State) (ofs : Nat) : State :=
  match tableGet ck.regs ofs with
  | some v =>
    let s := s.setReg ofs v
    match regFind ofs with
    | some h =>
      if h.hi && !s.rf.latch.any (fun l => l.ofs == ofs - 4 && l.byRead) then
        { s with rf := { s.rf with latch := { ofs := ofs - 4, value := v, byRead := false } ::
                                            s.rf.latch.filter fun l => l.ofs != ofs - 4 } }
      else s
    | none => s
  | none => s

/-- The timebase restored (R65): with another CFG_HASH the terms that R65 names keep the new image's values. -/
def restoreTb (ck : Ckpt) (whole : Bool) (s : State) : State :=
  let s := (ckptTbAlways ++ if whole then ckptTbTerms else []).foldl (restoreReg ck) s
  let s := { s with tb := { s.tb with dev := ck.dev, utcOfs := ck.utcOfs, leap := ck.leap } }
  tbWarn 0 (s.put TB_STATUS.TIME_SRC 1)

/-- The word that a checkpoint holds for a register. -/
def Ckpt.reg (ck : Ckpt) (ofs : Nat) : Word := (tableGet ck.regs ofs).getD 0

/-- One member restored (R143): a member that the checkpoint holds in OFF starts as one that it does not hold, and a member without
EN stays OFF. -/
def restoreMember (ck : Ckpt) (s : State) (i : Nat) : State :=
  let v := ck.reg (MB_STATUS.ofs i)
  if !s.flag (MB_CFG.EN i) || fieldOf v 0 2 == 0 then s
  else
    let s := ((s.put (MB_STATUS.STATE i) (fieldOf v 0 2)).put (MB_STATUS.REJ_RUN i) (fieldOf v 8 8)).put (MB_STATUS.MISS_RUN i)
      (fieldOf v 16 8)
    let s := ([MB_TRIAL.ofs i, MB_Y_FF.ofs i, MB_Y_FF.ofs i + 4]).foldl (restoreReg ck) s
    let m := ck.members.getD i (0, 0)
    ensPutVar i m.1 (ensSet i (fun (x : EnsMember) => { x with holdRun := m.2 }) s)

/-- The ensemble engine restored (R143): the next epoch with a stamp rebases. -/
def restoreEns (ck : Ckpt) (s : State) : State :=
  let s := (pairOfs ENS_YP_FF.ofs ++ pairOfs ENS_S_FF.ofs).foldl (restoreReg ck) s
  let s := (List.range 32).foldl (restoreMember ck) s
  ensRefresh { s with ens := { s.ens with rebase := true } }

/-- The held positions restored (R168). -/
def restoreGnss (ck : Ckpt) (s : State) : State :=
  (List.range 4).foldl (fun s i =>
    let s := (pairOfs (GNSS_SOL_POS_X.ofs i) ++ pairOfs (GNSS_SOL_POS_Y.ofs i) ++ pairOfs (GNSS_SOL_POS_Z.ofs i)).foldl
      (restoreReg ck) s
    s.put (GNSS_SOL_STATUS.POS_HELD i) (fieldOf (ck.reg (GNSS_SOL_STATUS.ofs i)) (GNSS_SOL_STATUS.POS_HELD i).lo 1)) s

/-- The key store restored (R227). -/
def restoreNts (ck : Ckpt) (s : State) : State :=
  let open_ := fun (k : Option NtsKey) => k.bind ntsUnwrap
  let s := { s with nts := { s.nts with cur := open_ ck.cur, old1 := open_ ck.old1, old2 := open_ ck.old2 } }
  ntsRefresh (s.put NTS_GEN_NEXT.NEXT ck.genNext)

/-- What the Conservator shows of the checkpoint used. -/
def restoreCon (slot : Nat) (ck : Ckpt) (s : State) : State :=
  let s := ((s.put64 CON_CKPT_SEQ.ofs ck.seq).put CON_CKPT_INFO.KIND ck.kind).put CON_CKPT_INFO.RESTORED_KIND ck.kind
  (s.put CON_CKPT_INFO.RESTORED 1).put CON_STATUS.NEWEST_SLOT slot

/-- The order in which the blocks leave reset (R343); those that R343 does not name follow. -/
def releaseOrder : List Blk :=
  [.tb, .evt, .rgs, .loop, .ens, .out, .gnss, .lnk, .mac, .ptp, .ans, .nts, .pair, .prov, .bne, .vit, .con, .cdc, .hif]

/-- The blocks released (R343), with what each restores. -/
def startRelease (ck : Option (Nat × Nat × Ckpt)) (whole : Bool) (s : State) : State :=
  let s := releaseOrder.foldl (fun s b => blkStart b s) s
  let s := match ck with
    | some c =>
      let s := restoreCon c.1 c.2.2 (restoreNts c.2.2 s)
      s.onlyIf whole fun s => restoreGnss c.2.2 (restoreEns c.2.2 s)
    | none => s
  let s := ntsRest s
  let s := ntsFirst s
  vbRenew (provBoot (ck.map fun c => (c.2.2.boot, c.2.2.chain, c.2.2.last)) s)

/-- RESTORE_DONE (R343): the newest usable checkpoint is restored, in part where its CFG_HASH differs; RUN begins and the blocks are
released. Sources 3 and 30 are raised where their sticky flags stand (R378). -/
def startRun (startMs : Nat) (s : State) : State :=
  let ck := ckptNewest s
  let whole := match ck with | some c => c.2.2.hash == catHash s | none => true
  let s := s.putB CAT_STATUS.CKPT_PARTIAL (!whole)
  let s := match ck with | some c => restoreTb c.2.2 whole s | none => s
  let s := enterPhase 6 (s.put CAT_DEVICE.START_MS (min startMs 0xFFFF))
  let s := s.put TB_STATUS.PREAUTH (s.get TB_CFG.PREAUTH_AT_START)
  let s := s.put CON_WEAR.MAX_ERASE (min 0xFFFFFF (ckptMaxWear s))
  let s := (startRelease ck whole s).onlyIf (s.flag CDC_FLAGS.D2D_FAULT) (State.raise 3)
  s.onlyIf (s.flag CON_FLAGS.WD_EXPIRED) (State.raise 30)

/-- RESTORE_DONE. -/
def execRestoreDone (startMs : Nat) (s : State) : Host.Outcome State Fault Refusal :=
  .next (if s.phase = 5 then startRun startMs s else s)

/-! ### The live load (R344) -/

/-- A write of RELOAD: refused with CFG_BAD while the NV interface is busy or a live load runs; before RUN there is nothing to
reload. -/
def reload (s : State) : State :=
  if !hostMay .cat s then s
  else if s.flag CAT_NV_STATUS.BUSY || s.phase != 6 then catFlag CAT_FLAGS.CFG_BAD s
  else enterPhase 7 s

/-- RELOAD. -/
def execReload (s : State) : Host.Outcome State Fault Refusal := .next (reload s)

/-- The BLK reset of the AES units and the mint service in a live load (R344): the key store stays. -/
def ntsHalt (s : State) : State := { s with nts := { s.nts with done := [] } }.put NTS_STATUS.READY 0

/-- The live load ends: selection and checks, the BLK reset of every block that does not keep its state, the image's values, and the
blocks' start. -/
def liveLoad (answersA answersB : Bool) (s : State) : State :=
  let l := catSelect answersA answersB s
  let s := resetBlocks.foldl (fun s b => blkReset 0 b s) s
  let s := { s.put GLB_RST_STATUS.BUSY 0 with
    sys := { s.sys with blkHeld := 0, instHeld := none }, prov := { s.prov with cfgWrites := 0 },
    tb := { s.tb with reports := [] } }
  let s := ntsHalt (resetRegs RegHit.loadReset s)
  let s := tbRefresh (catPost l (loadImage l.img (catUsed s)))
  enterPhase 6 ((releaseOrder.filter fun b => resetBlocks.contains b || b == .nts).foldl (fun s b => blkStart b s) s)

/-- LIVE_LOAD_DONE. -/
def execLiveLoadDone (answersA answersB : Bool) (s : State) : Host.Outcome State Fault Refusal :=
  .next (if s.phase = 7 then liveLoad answersA answersB s else s)

/-! ### The pivot fault (R32) -/

/-- PIVOT_FAULT: outputs mute, the time becomes UNVERIFIED with any pending step discarded (R64), no stamp is taken and no
checkpoint written until the reset. -/
def pivotFault (s : State) : State :=
  let s := { s.put TB_STATUS.PIVOT_FAULT 1 with sys := { s.sys with pivotFault := true } }
  let s := (outFaultMute (tbRefresh (tbDiscard (s.put TB_STATUS.VERIFIED 0)))).onlyIf s.con.writing.isSome ckptFail
  (pairPivotFault s).raise 7

/-- PIVOT_FAULT: before RUN the loss of the pivot acts as PIVOT_LOST_AT_START does. -/
def execPivotFault (s : State) : Host.Outcome State Fault Refusal :=
  .next (if 6 ≤ s.phase ∧ s.sys.pivotFault = false then pivotFault s else s)

/-- PIVOT_RECOVERED: a device soft reset after the pivot has stayed within tolerance for 1 s. -/
def execPivotRecovered (s : State) : Host.Outcome State Fault Refusal :=
  .next (if s.sys.pivotFault then devReset .pivotFault s else s)

end Sys2Proof.Machine
end

