-- ==== Sys2Proof/Machine/Cdc.lean ====
section
/-! DEFINITION. The clock-domain crossings, the die-to-die interface and PERST_N (18_clock_domains_and_resets.md, R410). -/

namespace Sys2Proof.Machine

/-! ### Clocks and crossings (R353 to R356) -/

/-- Whether a crossing lies inside the T-die, CORE being none of its sides (R357). -/
def cdcInner (k : Nat) : Bool := decide (32 ≤ k ∧ k < 48)

/-- Whether a BLK or INST reset holds the far side of a crossing. -/
def cdcHeld (s : State) (k : Nat) : Bool :=
  (resetBlocks.any fun b => (blocksOf s.sys.blkHeld).contains b && (cdcOfBlock b).contains k) ||
  (match s.sys.instHeld with
   | some (block, index) => (match instOf block with | some (kind, _) => (cdcOf kind index).contains k | none => false)
   | none => false)

/-- Whether a PWR or DEV reset still holds a crossing: the device's own four until FACTORY is applied, those of the blocks until RUN
(R342). -/
def cdcBoot (s : State) (k : Nat) : Bool := decide (s.phase < (if [0, 25, 30, 31].contains k then 3 else 6))

/-- Whether the near domain of a crossing, CORE or within the T-die STMP, is in reset. -/
def cdcNear (s : State) (k : Nat) : Bool :=
  cdcBoot s k || (!cdcInner k && (s.sys.coreAbsent || cdcHeld s k))

/-- Whether the far domain of a crossing is in reset; of a DEV reset the PCIE and the AUX domain see nothing (R352). -/
def cdcFar (s : State) (k : Nat) : Bool :=
  s.flag (CDC_XS_STATUS.CLK_ABSENT k) || cdcHeld s k || (k == 25 && s.sys.perst) ||
  (cdcBoot s k && (!cdcKept k || decide (s.get GLB_RESET_CAUSE.CAUSE ≤ ResetCause.porN.code)))

/-- A crossing after a clock or a reset of one of its domains has come or gone (R355); the die-to-die interface is down while one side
is in reset. -/
def cdcTurn (k : Nat) (s : State) : State :=
  let s := cdcSettle (cdcNear s k) (cdcFar s k) k s
  s.onlyIf (k == 0 && (cdcNear s 0 || cdcFar s 0)) (State.put CDC_STATUS.D2D_UP 0)

/-- The replica of a crossing's domain (R66, R357): crossings 1 to 24 carry replicas 0 to 23. -/
def cdcReplica (k : Nat) : Option Nat := if 1 ≤ k ∧ k ≤ 24 then some (k - 1) else none

/-- A loss of a clock counted at the crossing that sees it (R353). -/
def clockLoss (k : Nat) (s : State) : State := cdcFlag CDC_FLAGS.CLK_LOSS_EV (s.count (CDC_XS_RESYNC.CLK_LOSS k) 1)

/-- The clock of a crossing's far domain is absent: the domain is held in reset, its partner sees that, and its replica goes OFF
(R67). -/
def clockAbsent (k : Nat) (s : State) : State :=
  let s := cdcTurn k (clockLoss k (s.put (CDC_XS_STATUS.CLK_ABSENT k) 1))
  match cdcReplica k with
  | some r => tbRepOff r s
  | none => s

/-- The crossings one side of which is CORE. -/
def cdcCore : List Nat := (List.range 56).filter fun k => !cdcInner k

/-- The CORE clock is absent, as AUX judges it: the loss counts at the crossing between the two, CORE stands still as in reset, and every
partner sees that (assumption 178). -/
def coreClockAbsent (s : State) : State :=
  let s := clockLoss 31 s
  cdcCore.foldl (fun s k => cdcTurn k s) { s with sys := { s.sys with coreAbsent := true } }

/-- CLOCK_ABSENT (R353, R355): of the far domain of a crossing, or, with no number, of CORE. -/
def execClockAbsent (k : Option (Fin 56)) (s : State) : Host.Outcome State Fault Refusal :=
  .next (s.onlyIf (coreRuns s) fun s =>
    match k with
    | some k => s.onlyIf (!s.flag (CDC_XS_STATUS.CLK_ABSENT k)) (clockAbsent k)
    | none => coreClockAbsent s)

/-- CLOCK_RETURN (R353): after 16 edges the domain leaves reset and asks for RESYNC, unless another reset holds it. -/
def execClockReturn (k : Option (Fin 56)) (s : State) : Host.Outcome State Fault Refusal :=
  .next (match k with
    | some k => s.onlyIf (coreRuns s && s.flag (CDC_XS_STATUS.CLK_ABSENT k)) fun s =>
        cdcTurn k (s.put (CDC_XS_STATUS.CLK_ABSENT k) 0)
    | none => s.onlyIf s.sys.coreAbsent fun s =>
        cdcCore.foldl (fun s k => cdcTurn k s) { s with sys := { s.sys with coreAbsent := false } })

/-- The replica of a domain that runs again restarts from OFF (R356) where its port or link is enabled (R67). -/
def cdcRestart (k : Nat) (s : State) : State :=
  match cdcReplica k with
  | some r =>
    let on := if r < 8 then s.flag (EP_CFG.EN r) else if r < 16 then s.flag (EP_CFG.EN (r - 8)) else s.flag (LK_CFG.EN (r - 16))
    (tbRepOff r s).onlyIf (on && (if r < 16 then s.live .mac else s.live .lnk)) (tbRepStart r)
  | none => s

/-- RESYNC_COMPLETE (R356): every entry written before the handshake is discarded and counted, those that the model's commands wrote and,
as operands, those of traffic that has no command of its own (assumption 113); both sides run. -/
def resync (k dropped flushed : Nat) (s : State) : State :=
  let flushed := flushed + (tableGet s.sys.xsHeld k).getD 0
  let s := { s with sys := { s.sys with xsHeld := tableErase s.sys.xsHeld k } }
  let s := xsDrop k dropped ((cdcSides 0 0 k s).count (CDC_XS_RESYNC.RESYNCS k) 1)
  let s := (s.count (CDC_XS_CNT.FLUSHED k) flushed).onlyIf (flushed != 0) (cdcFlag CDC_FLAGS.FLUSH_EV)
  cdcRestart k (s.onlyIf (k == 0) (State.put CDC_STATUS.D2D_UP 1))

/-- RESYNC_COMPLETE: the handshake completes once both sides have asked for it. -/
def execResyncComplete (k : Fin 56) (dropped flushed : Nat) (s : State) : Host.Outcome State Fault Refusal :=
  .next (if s.get (CDC_XS_STATUS.STATE_A k) = 3 ∧ s.get (CDC_XS_STATUS.STATE_B k) = 3 then resync k dropped flushed s else s)

/-! ### The die-to-die interface (R350, R351) -/

/-- Each output's synthesiser holds its last steer word (R350). -/
def outHoldWords (s : State) : State :=
  { s with out := { s.out with outs := s.out.outs.mapIdx fun n (o : OutSt) => { o with word := some (outWord s n) } } }

/-- The interface retrains: nothing crosses it, and each output's synthesiser holds its last steer word (R350). -/
def d2dRetrain (s : State) : State :=
  let s := outHoldWords s
  cdcFlag CDC_FLAGS.RETRAIN_EV
    { ((s.count CDC_D2D_CNT.RETRAINS 1).put CDC_STATUS.D2D_RETRAINING 1).put CDC_STATUS.D2D_UP 0 with
      sys := { s.sys with flitFails := 0 } }

/-- FLIT_CRC_ERROR (R350): the flit is replayed, and one that fails four times in succession makes the interface retrain. `again` says that
it is the flit that failed last. -/
def execFlitCrcError (again : Bool) (s : State) : Host.Outcome State Fault Refusal :=
  .next (s.onlyIf (s.flag CDC_STATUS.D2D_UP) fun s =>
    let n := if again then s.sys.flitFails + 1 else 1
    let s := (s.count CDC_D2D_CRC.COUNT 1).count CDC_D2D_CNT.REPLAYS 1
    if 4 ≤ n then d2dRetrain s else { s with sys := { s.sys with flitFails := n } })

/-- RETRAIN (R350). -/
def execRetrain (s : State) : Host.Outcome State Fault Refusal := .next (s.onlyIf (s.flag CDC_STATUS.D2D_UP) d2dRetrain)

/-- RETRAIN_DONE (R350): flits pass again, the held stamps first; the outputs take their steer words again. -/
def execRetrainDone (s : State) : Host.Outcome State Fault Refusal :=
  .next (s.onlyIf (s.flag CDC_STATUS.D2D_RETRAINING) fun s =>
    let s := (s.put CDC_STATUS.D2D_RETRAINING 0).put CDC_STATUS.D2D_UP 1
    edgeRelease { s with out := { s.out with outs := s.out.outs.map fun (o : OutSt) => { o with word := none } } })

/-- D2D_FAULT (R351): the sticky flag and its interrupt, the outputs muted, and a device soft reset. -/
def execD2dFault (s : State) : Host.Outcome State Fault Refusal :=
  .next (if s.flag CDC_STATUS.D2D_RETRAINING then
    devReset .d2dFault (outFaultMute { s.setEvent CDC_FLAGS.D2D_FAULT 3 with sys := { s.sys with d2dFault := true } })
  else s)

/-! ### PERST_N (R391, R410) -/

/-- Whether a register belongs to the PCIe endpoint: the queues (R391) and the MSI-X table with its pending-bit array. -/
def perstPick (h : RegHit) : Bool := (h.desc.blk == .hif && decide (0x781000 ≤ h.desc.base)) || decide (h.desc.base / 0x1000 = 0x38)
  || decide (h.desc.base / 0x1000 = 0x39)

/-- PERST_N: low resets the PCIe endpoint alone, with the DMA queues as a DEV reset leaves them, and crossing 25 sees one side in
reset; high releases it. -/
def perst (low : Bool) (s : State) : State :=
  let s := s.onlyIf low fun s => { resetRegs perstPick s with hif := HifState.reset }
  cdcTurn 25 { s with sys := { s.sys with perst := low } }

@[inherit_doc perst]
def execPerst (low : Bool) (s : State) : Host.Outcome State Fault Refusal :=
  .next (if low = s.sys.perst then s else perst low s)

end Sys2Proof.Machine
end

