-- ==== Sys2Proof/Machine/Conservator.lean ====
section
/-! DEFINITION. The Conservator's scrubbing, calibrations, telemetry, watchdogs and self-tests (19_conservator.md). -/

namespace Sys2Proof.Machine

/-! ### Scrubbing and ECC (R359, R360) -/

/-- The row of R38 that a place lies in. -/
def eccRegion : EccPlace → Nat
  | .book _ => 0
  | .record _ _ => 1
  | .pool => 2
  | .client _ => 3
  | .window _ => 4
  | .checkpoint => 5
  | .frame _ _ | .reserved _ _ | .received _ | .descriptor _ | .request _ _ => 6

/-- The count of a frame that its owner loses without the MAC (R360; assumption 182): of a PTP instance a Sync or another frame, of the
host its queue's drop; no register counts ESMC PDUs lost. -/
def eccCount (n : Nat) (fr : EthFrame) (s : State) : State :=
  match fr.inst with
  | some i => if fr.ts.isSome then ownerDropped (.sync i) s else s.count (PTP_INST_CNT2.DEP_DROP i) 1
  | none => s.onlyIf (decide (beNat ((fr.bytes.drop 12).take 2) ≠ 0x8809)) (hifDrop (20 + n))

/-- A waiting transmit frame lost to an uncorrectable word: dropped as its owner drops frames. -/
def eccFrame (n i : Nat) (s : State) : State :=
  match (macPort s n).waiting[i]? with
  | some fr =>
    let s := macSet n (fun (p : MacPort) => { p with waiting := p.waiting.eraseIdx i }) s
    tsqAppend n fr.ts true 0 (eccCount n fr s)
  | none => s

/-- A frame that waits in its reservation lost to an uncorrectable word: its slot stays idle, and its owner counts the drop. -/
def eccReserved (n i : Nat) (s : State) : State :=
  match (macPort s n).resv[i]? with
  | some r =>
    let s := macSet n (fun (m : MacPort) => { m with resv := m.resv.modify i (fun (r : Resv) => { r with frame := none }) }) s
    s.onlyIf r.frame.isSome fun s =>
      match r.owner with
      | .ans p _ => s.count (ANS_CNT_ERR2.ABORT p) 1
      | o => ownerDropped o s
  | none => s

/-- A request of a pipeline lost to an uncorrectable word of its buffered frame: dropped and counted in ABORT (assumption 182). -/
def eccRequest (p i : Nat) (s : State) : State :=
  match (ansPipe s p).reqs[i]? with
  | some r => pairDropped r 15 (ansDrop p r (s.count (ANS_CNT_ERR2.ABORT p) 1))
  | none => s

/-- What an uncorrectable word does to the block that owns it (R360). -/
def eccEffect (p : EccPlace) (at_ : Nat) (s : State) : State :=
  match p with
  | .book b => { s with ans := { s.ans with book := s.ans.book.filter fun e => decide (e.1 / 4 ≠ b.val) } }
  | .record n i => evtDestroy n i s
  | .pool => s
  | .client e => ptpPutTable (tableErase s.ptp.table e) s
  | .window j => bneMemoryError j at_ s
  | .checkpoint => s.onlyIf s.con.writing.isSome fun s => ckptServe at_ (ckptFail s)
  | .frame n i => eccFrame n i s
  | .reserved n i => eccReserved n i s
  | .received n => hifDrop (12 + n) s
  | .descriptor q => if (hifDescriptor s q).isSome then hifDrop q (hifConsume q s) else s
  | .request p i => eccRequest p i s

/-- One error that a scrub pass or an owner's read finds: counted, recorded as the last, and flagged (R359). -/
def eccError (at_ : Nat) (s : State) (e : EccError) : State :=
  let s := (s.put CON_ECC_LAST.WORD e.word.toNat).put CON_ECC_LAST.REGION (eccRegion e.place)
  let s := s.putB CON_ECC_LAST.UE e.ue
  if e.ue then eccEffect e.place at_ ((s.count CON_ECC_CNT.UE 1).setEvent CON_FLAGS.ECC_UE 25)
  else (s.count CON_ECC_CNT.CE 1).setFlag CON_FLAGS.ECC_CE 26

/-- SCRUB_PASS: a pass ends, with the errors that it found; or, as `read` says, those that the owning blocks' reads met, which correct
and report the same way (R359; assumption 183). -/
def execScrubPass (read : Bool) (errors : List EccError) (at_ : Nat) (s : State) : Host.Outcome State Fault Refusal :=
  .next (s.onlyIf (s.live .con) fun s =>
    errors.foldl (eccError at_) (s.onlyIf (!read) fun s => { s with con := { s.con with scrub := false } }))

/-- A pass started at once (R360). -/
def scrubNow (s : State) : State := s.onlyIf (s.live .con) fun s => { s with con := { s.con with scrub := true } }

/-- SCRUB_NOW. -/
def execScrubNow (s : State) : Host.Outcome State Fault Refusal := .next (scrubNow s)

/-! ### Calibration (R361) -/

/-- OUTPUT_CAL: the measured delay of an enabled output's driver; the measurement waits for a bank pass. -/
def execOutputCal (out : Fin 16) (delay : Int) (at_ : Nat) (s : State) : Host.Outcome State Fault Refusal :=
  .next (s.onlyIf (s.live .con && s.live .out && s.flag (OUT_CFG.EN out)) fun s =>
    calServe at_ { s with con := { s.con with calWait := s.con.calWait ++ [(out.val, delay)] } })

/-- LINK_CAL: the delays of a link's two directions, each posted unless it is rejected (R301). -/
def linkCal (n : Nat) (tx rx : Int) (s : State) : State :=
  match s.con.linkDelays.getD n none with
  | none =>
    { (s.putS (LK_TX_DLY_PH.ofs n) tx).putS (LK_RX_DLY_PH.ofs n) rx with
      con := { s.con with linkDelays := s.con.linkDelays.set n (some (tx, rx)) } }
  | some (tx0, rx0) =>
    let txOk := calNear tx0 tx
    let rxOk := calNear rx0 rx
    let kept : Int × Int := (if txOk then tx else tx0, if rxOk then rx else rx0)
    let s := { s with con := { s.con with linkDelays := s.con.linkDelays.set n (some kept) } }
    let s := s.onlyIf txOk (State.putS (LK_TX_DLY_PH.ofs n) tx)
    let s := s.onlyIf rxOk (State.putS (LK_RX_DLY_PH.ofs n) rx)
    s.onlyIf (!(txOk && rxOk)) calReject

@[inherit_doc linkCal]
def execLinkCal (link : Fin 8) (tx rx : Int) (s : State) : Host.Outcome State Fault Refusal :=
  .next (s.onlyIf (s.live .con && s.live .lnk) (linkCal link tx rx))

/-! ### Telemetry (R362, R402) -/

/-- The nominal voltage of a rail in mV and its limit in per cent (R402). -/
def railNominal (r : Nat) : Nat × Nat :=
  match r with
  | 0 => (750, 3) | 1 => (850, 3) | 2 => (1200, 3) | 3 => (900, 2) | 4 => (1500, 2) | 5 => (3300, 5) | 6 => (1800, 5)
  | _ => (900, 2)

/-- Whether any sensor reads at or above TEMP_WARN. -/
def conTempHi (s : State) : Bool := (List.range 16).any fun i => decide (s.getI CON_TEMP_LIM.TEMP_WARN ≤ s.getI (CON_TEMP.TEMP i))

/-- Whether any rail lies outside its limits. -/
def conRailBad (s : State) : Bool := (List.range 8).any fun r => s.flag (CON_RAIL.LOW r) || s.flag (CON_RAIL.HIGH r)

/-- TEMP_HI and RAIL_BAD stand while a sensor or a rail calls for them, whatever the host clears. -/
def conLevels (s : State) : State :=
  let s := s.onlyIf (conTempHi s) (State.setFlag CON_FLAGS.TEMP_HI 27)
  s.onlyIf (conRailBad s) (State.setFlag CON_FLAGS.RAIL_BAD 27)

/-- One rail read. -/
def railRead (s : State) (p : Nat × BitVec 16) : State :=
  let (v, limit) := railNominal p.1
  let mv := p.2.toNat
  let s := (s.put (CON_RAIL.MV p.1) mv).putB (CON_RAIL.LOW p.1) (decide (100 * mv < v * (100 - limit)))
  s.putB (CON_RAIL.HIGH p.1) (decide (v * (100 + limit) < 100 * mv))

/-- TELEMETRY_READ: the sensors and the rail monitors, in their order. -/
def telemetry (temps rails : List (BitVec 16)) (s : State) : State :=
  let s := ((List.range 16).zip temps).foldl (fun s p => s.put (CON_TEMP.TEMP p.1) p.2.toNat) s
  let s := ((List.range 8).zip rails).foldl railRead s
  conLevels s

@[inherit_doc telemetry]
def execTelemetryRead (temps rails : List (BitVec 16)) (s : State) : Host.Outcome State Fault Refusal :=
  .next (s.onlyIf (s.live .con) (telemetry temps rails))

/-! ### Watchdogs (R364) -/

/-- WATCHDOG_EXPIRY: WD_EXPIRED is set and survives the DEV reset that follows. -/
def execWatchdogExpiry (s : State) : Host.Outcome State Fault Refusal :=
  .next (if 2 ≤ s.phase then devReset .watchdog (s.put CON_FLAGS.WD_EXPIRED 1) else s)

/-- Whether WD_KICK has been left unwritten for HOST_WD_TIMEOUT, 0 counting as 1 ms. -/
def hostLate (s : State) (at_ : Nat) : Bool :=
  match s.con.kickAt with
  | some t => s.sys.pivotFault || decide (t + max 1 (s.get CON_HOST_WD.HOST_WD_TIMEOUT) * tickUnits ≤ s.pivotAt at_)
  | none => true

/-- HOST_WATCHDOG_EXPIRY. -/
def execHostWatchdogExpiry (at_ : Nat) (s : State) : Host.Outcome State Fault Refusal :=
  .next (if s.live .con && s.flag CON_CFG.HOST_WD_EN && hostLate s at_ then
    devReset .hostWatchdog (s.put CON_FLAGS.WD_EXPIRED 1)
  else s)

/-- A write of WD_KICK. -/
def wdKick (at_ : Nat) (s : State) : State :=
  s.onlyIf (s.live .con) fun s => { s with con := { s.con with kickAt := some (s.pivotAt at_) } }

/-- WD_KICK. -/
def execWdKick (at_ : Nat) (s : State) : Host.Outcome State Fault Refusal := .next (wdKick at_ s)

/-! ### Self-tests (R370) -/

/-- A flag of the self-tests with its interrupt (R379). -/
def testFlag (f : Fld) (s : State) : State := s.setFlag f 29

/-- EN of the port or link that a TARGET names. -/
def testEn (s : State) (t : Nat) : Bool := if t ≤ 8 then s.flag (EP_CFG.EN (t - 1)) else s.flag (LK_CFG.EN (t - 9))

/-- EN of the port or link that a TARGET names cleared. -/
def testOut (t : Nat) (s : State) : State :=
  if t ≤ 8 then portCfgWrite (t - 1) (fieldSet (s.reg (EP_CFG.ofs (t - 1))) 0 1 0) s else lkEnable (t - 9) false s

/-- A write of CON_SELFTEST with GO: no effect for a TARGET that names nothing, or while a test runs. -/
def conSelftest (t : Nat) (force : Bool) (s : State) : State :=
  let run := fun (s : State) => { s with con := { s.con with test := some t, scrub := s.con.scrub || t == 0 } }
  if !s.live .con || decide (16 < t) || s.con.test.isSome then s
  else if t = 0 ∨ testEn s t = false then run s
  else if force then run (testFlag CON_FLAGS.FORCED_OUT (testOut t s))
  else testFlag CON_FLAGS.BUSY_IN_SERVICE s

/-- CON_SELFTEST. -/
def execConSelftest (target : BitVec 5) (force : Bool) (s : State) : Host.Outcome State Fault Refusal :=
  .next (conSelftest target.toNat force s)

/-- CON_SELFTEST_DONE: the result is posted. -/
def execConSelftestDone (errors : Nat) (s : State) : Host.Outcome State Fault Refusal :=
  .next (match s.con.test with
    | some t =>
      let s := (s.put CON_SELFTEST_RES.TARGET t).putB CON_SELFTEST_RES.PASS (errors == 0)
      let s := s.put CON_SELFTEST_RES.ERRORS (min errors (2 ^ 26 - 1))
      testFlag CON_FLAGS.SELFTEST_DONE { s with con := { s.con with test := none } }
    | none => s)

end Sys2Proof.Machine
end

