-- ==== Sys2Proof/Machine/Late.lean ====
section
/-! DEFINITION. The commands that reach every block: a step of device time, a time-triggered strobe, and PFAIL_N (R61, R312,
R368). -/

namespace Sys2Proof.Machine

/-! ### Time-triggered operations (R312) -/

/-- An operation inserted in the order of T, and of SEQ at equal T. -/
def ttoInsert (o : TtoOp) : List TtoOp → List TtoOp
  | [] => [o]
  | x :: xs => if x.t ≤ o.t then x :: ttoInsert o xs else o :: x :: xs

/-- One operation executed: TTO_DONE, TTO_UNSYNC outside collection time, and a snapshot where OP asks for one. -/
def ttoRun (at_ : Nat) (s : State) (o : TtoOp) : State :=
  let s := (lnkFlag LK_GLB_FLAGS.TTO_DONE s).onlyIf (!lnkInColl s) (lnkFlag LK_GLB_FLAGS.TTO_UNSYNC)
  s.onlyIf (o.op == 1 && s.flag VIT_CFG.TTO_EN) (vitTrigger 3 at_)

/-- The armed operations whose T has come execute, in the order of T and SEQ with snapshots before resets, and leave the list; a
step that jumped over T sets TTO_STEPPED. -/
def ttoFire (stepped : Bool) (at_ : Nat) (s : State) : State :=
  let now := s.timeAt at_
  let due := (s.lnk.armed.filter fun (o : TtoOp) => decide (o.t ≤ now)).foldl (fun l o => ttoInsert o l) []
  if due.isEmpty then s
  else
    let s := ttoRefresh { s with lnk := { s.lnk with armed := s.lnk.armed.filter fun (o : TtoOp) => decide (now < o.t) } }
    let s := s.onlyIf stepped (lnkFlag LK_GLB_FLAGS.TTO_STEPPED)
    let s := ((due.filter fun (o : TtoOp) => o.op == 1) ++ due.filter fun (o : TtoOp) => o.op != 1).foldl (ttoRun at_) s
    s.onlyIf (due.any fun (o : TtoOp) => o.op == 2) (devReset .collection)

/-- TTO_STROBE. -/
def execTtoStrobe (at_ : Nat) (s : State) : Host.Outcome State Fault Refusal :=
  .next (s.onlyIf (s.live .lnk) (ttoFire false at_))

/-! ### A step of device time (R55, R61) -/

/-- The change applied, and carried in the same core cycle to every consumer of device time. -/
def stepApply (c : Change) (s : State) : State :=
  let t := s.tb.dev
  let s := tbWarn 0 (tbApply c s)
  let new := s.tb.dev
  let move := new - t
  let s := ensStep (s.pivotAt 0) move (loopStep move (rgsStep move s))
  let s := gnssStep move (trgStep new (outStep t move s))
  let s := (List.range 4).foldl (fun s p => ansStep p s) (ptpStep s)
  let s := (List.range 8).foldl (fun s n => portStep new n s) s
  let s := vitStep move (provStep move (lnkStep move s))
  s.onlyIf (decide (0 < move)) (ttoFire true 0)

/-- STEP_APPLY (R61): at the tick that the authorisation or the set waits for. -/
def execStepApply (s : State) : Host.Outcome State Fault Refusal :=
  .next (match s.tb.commit with
    | some c => if s.live .tb && c.wait == 0 then stepApply c.change s else s
    | none => s)

/-! ### Power failure (R82, R174, R280, R294, R368) -/

/-- Whether a power-fail checkpoint is written: PFAIL_N has been high for 10 ms since it was last low (R368). -/
def pfailMayLatch (at_ : Nat) (s : State) : Bool :=
  match s.con.pfailHighAt with
  | some t => decide (t + 10 * tickUnits ≤ s.pivotAt at_)
  | none => true

/-- PFAIL_LOW: the power-fail checkpoint is latched, a write in progress, its own or the host's, aborted and every erase suspended, and
every block takes its power-fail action. -/
def pfailLow (at_ : Nat) (s : State) : State :=
  let latch := s.live .con && !s.sys.pivotFault && pfailMayLatch at_ s
  let s := { s with sys := { s.sys with pfailLow := true } }
  let s := s.onlyIf (match s.cat.op with | some (.program _ _) => true | _ => false) fun s => catEnd (catTear s)
  let s := s.onlyIf (s.live .con && s.con.writing.isSome) ckptFail
  let s := s.onlyIf latch (ckptBegin 3 at_)
  let s := s.onlyIf (s.live .evt) evtPfailLow
  let s := s.onlyIf (s.live .bne) (bnePfail at_)
  let s := s.onlyIf (s.live .gnss) gnssPfail
  s.onlyIf (s.live .prov) provPfail

/-- PFAIL_LOW: no effect while PFAIL_N is low already. -/
def execPfailLow (at_ : Nat) (s : State) : Host.Outcome State Fault Refusal :=
  .next (if s.sys.pfailLow then s else pfailLow at_ s)

/-- PFAIL_HIGH: storing resumes, the power-up hold ends (R404), and the requests that waited take their checkpoint. -/
def pfailHigh (at_ : Nat) (s : State) : State :=
  let s := { s with sys := { s.sys with pfailLow := false, pfailHold := false },
                    con := { s.con with pfailHighAt := some (s.pivotAt at_) } }
  ckptServe at_ (s.onlyIf (s.live .evt) evtPfailHigh)

@[inherit_doc pfailHigh]
def execPfailHigh (at_ : Nat) (s : State) : Host.Outcome State Fault Refusal :=
  .next (if s.sys.pfailLow then pfailHigh at_ s else s)

end Sys2Proof.Machine
end

