-- ==== Sys2Proof/Machine/HostAccess.lean ====
section
/-! DEFINITION. Host accesses to BAR0 and BAR2: the latches and staging registers of 64-bit pairs (R12, R13), the access codes (R14),
unmapped and malformed accesses (R16, R382), the big-number windows (R258) and the capture copies (R387). -/

namespace Sys2Proof.Machine

/-! ### Writes by access code (R14, R15) -/

/-- The word that a register takes from a host write by the access codes of its fields: RW and RWS fields take the written bits, a 1
clears a W1C bit and sets a W1S bit, and every other bit keeps what it holds. -/
def RegHit.written (h : RegHit) (old v : Word) : Word :=
  let set := h.maskOf fun f => decide (f.acc = .rw ∨ f.acc = .rws)
  let clear := h.maskOf fun f => decide (f.acc = .w1c ∨ f.acc = .rwsW1c)
  let raise := h.maskOf fun f => decide (f.acc = .w1s)
  ((old &&& ~~~set &&& ~~~(v &&& clear)) ||| (v &&& set)) ||| (v &&& raise)

/-- A 32-bit register stored from a host write, its clamped fields clamped. -/
def RegHit.store (h : RegHit) (ofs : Nat) (v : Word) (s : State) : State :=
  s.setReg ofs (BitVec.ofNat 32 (h.desc.clampVal (h.written (s.reg ofs) v).toNat))

/-- A pair whose NAME_LO lies at `k` stored from a commit (R13), clamped as one value. -/
def RegHit.storePair (h : RegHit) (k : Nat) (lo hi : Word) (s : State) : State :=
  let a := ({ h with hi := false } : RegHit).written (s.reg k) lo
  let b := ({ h with hi := true } : RegHit).written (s.reg (k + 4)) hi
  s.put64 k (h.desc.clampVal (a.toNat + 2 ^ 32 * b.toNat))

/-- The number of a GLB_INST_RST block code for an instance kind (R395). -/
def InstKind.code : InstKind → Option Nat
  | .channel => some 0 | .slot => some 1 | .loop => some 2 | .member => some 3 | .output => some 4 | .trigger => some 5
  | .gnssPort => some 6 | .solution => some 7 | .port => some 8 | .pipeline => some 9 | .ptpInst => some 10
  | .link => some 11 | .bneSlot => some 12 | .track => none | .replica => none

/-- The instance that a register belongs to, as GLB_INST_RST names it. -/
def RegHit.owner (h : RegHit) : Option (Nat × Nat) :=
  match h.desc.kind with
  | some k => k.code.map fun c => (c, h.inst)
  | none => none

/-! ### Writes that act (the registers' own texts) -/

/-- A write of a register of GLB or CAT (R340, R344, R394, R395). -/
def writeCat (h : RegHit) (ofs : Nat) (v : Word) (at_ : Nat) (s : State) : State :=
  if ofs = GLB_RESET.ofs then softReset (v.getLsbD 0) (fieldOf v 8 8) s
  else if ofs = GLB_BLK_RST.ofs then blkRequest v.toNat at_ s
  else if ofs = GLB_INST_RST.ofs then s.onlyIf (v.getLsbD 12) (instRequest (fieldOf v 0 4) (fieldOf v 4 8) at_)
  else if ofs = CAT_CTRL.ofs then
    (s.onlyIf (v.getLsbD 1) (catCheckStart (fieldOf v 2 1))).onlyIf (v.getLsbD 0) reload
  else if ofs = CAT_NV_CMD.ofs then
    if v.getLsbD 2 then
      match fieldOf v 0 2 with
      | 0 => catRead s
      | 1 => catProgram s
      | 2 => catErase s
      | _ => s
    else s
  else if ofs = CAT_NV_DATA.ofs then catData true v s
  else if ofs = CAT_OTP_CMD.ofs then otpWrite (v.getLsbD 0) (v.getLsbD 1) (fieldOf v 8 8) s
  else if h.desc.base = CAT_OWNER_KEY.ofs 0 ∧ s.sys.ownerKey.isSome then s
  else h.store ofs v s

/-- A write of a register of IRQ or of the MSI-X table (R378 to R380). -/
def writeIrq (h : RegHit) (ofs : Nat) (v : Word) (s : State) : State :=
  if ofs = IRQ_EOI.ofs then irqEoi (fieldOf v 0 6) s
  else if ofs = IRQ_TEST.ofs then s.onlyIf (v.getLsbD 8) (irqTest (fieldOf v 0 8))
  else if h.desc.base = (MSIX_CTRL.MASK 0).ofs ∧ v.getLsbD 0 = false then irqUnmask h.inst s
  else irqRefresh (h.store ofs v s)

/-- A write of a register of VIT (R374 to R376). -/
def writeVit (h : RegHit) (ofs : Nat) (v : Word) (at_ : Nat) (s : State) : State :=
  if ofs = VIT_CTRL.ofs then vitCtrl v at_ s
  else if ofs = VIT_CFG.ofs then vitPinCheck (h.store ofs v s)
  else h.store ofs v s

/-- A write of a register of CON (R360, R363 to R365, R370). -/
def writeCon (h : RegHit) (ofs : Nat) (v : Word) (at_ : Nat) (s : State) : State :=
  if ofs = CON_CTRL.ofs then
    ((s.onlyIf (v.getLsbD 2) (wdKick at_)).onlyIf (v.getLsbD 1) scrubNow).onlyIf (v.getLsbD 0) (ckptNow at_)
  else if ofs = CON_SELFTEST.ofs then s.onlyIf (v.getLsbD 5) (conSelftest (fieldOf v 0 5) (v.getLsbD 6))
  else if ofs = CON_DL_FLAGS.ofs then
    let s := h.store ofs v s
    { s with con := { s.con with escalated := s.con.escalated &&& (127 - fieldOf v 0 7) } }
  else if ofs = CON_CFG.ofs then conCfgWrite v s
  else conLevels (h.store ofs v s)

/-- A write of a register of TB (R48, R51, R59, R60 to R64). -/
def writeTb (h : RegHit) (ofs : Nat) (v : Word) (at_ : Nat) (s : State) : State :=
  if ofs = TB_CTRL.ofs then tbCtrl v at_ s
  else if ofs = TB_STEP_AUTH.ofs then tbStepAuth (fieldOf v 0 16) (v.getLsbD 16) (v.getLsbD 17) at_ s
  else if ofs = TB_LEAP_CFG.ofs then tbLeapCfg v at_ s
  else if ofs = TB_PM_TEMP_EXT.ofs then tbTempExt (fieldOf v 0 16) s
  else if ofs = TB_VERIFY_MASK.ofs then
    (List.range 24).foldl (fun t k => t.onlyIf ((s.reg ofs).getLsbD k && !v.getLsbD k) (tbLapse (some k))) (h.store ofs v s)
  else h.store ofs v s

/-- A write of a register of RGS (R103, R112). -/
def writeRgs (h : RegHit) (ofs : Nat) (v : Word) (s : State) : State :=
  let n := h.inst
  if h.desc.base = RGS_SLOT_CFG.ofs 0 then
    rgsEnable n (v.getLsbD 0) ((h.store ofs v s).putB (RGS_SLOT_CFG.EN n) (s.flag (RGS_SLOT_CFG.EN n)))
  else if h.desc.base = RGS_SLOT_CMD.ofs 0 then
    (s.onlyIf (v.getLsbD 0) (rgsWtrEnd n)).onlyIf (v.getLsbD 1) (rgsHostClear n)
  else h.store ofs v s

/-- A write of a register of LOOP (R120, R122, R123, R127). -/
def writeLoop (h : RegHit) (ofs : Nat) (v : Word) (at_ : Nat) (s : State) : State :=
  let k := h.inst
  if h.desc.base = LOOP_CFG.ofs 0 then
    let was := s.flag (LOOP_CFG.EN k)
    let t := (h.store ofs v s).putB (LOOP_CFG.EN k) was
    let t := loopOpen k (v.getLsbD 1) (t.putB (LOOP_CFG.OPEN k) (s.flag (LOOP_CFG.OPEN k)))
    if v.getLsbD 0 == was then t else loopEnable k (v.getLsbD 0) t
  else if h.desc.base = LOOP_STEP_AUTH.ofs 0 then loopAuthWrite k v at_ s
  else loopRefresh (h.store ofs v s)

/-- A write of a register of ENS (R137). -/
def writeEns (h : RegHit) (ofs : Nat) (v : Word) (s : State) : State :=
  let i := h.inst
  if h.desc.base = MB_CFG.ofs 0 then
    let was := s.flag (MB_CFG.EN i)
    let t := (h.store ofs v s).putB (MB_CFG.EN i) was
    if v.getLsbD 0 == was then t else ensEnable i (v.getLsbD 0) t
  else if h.desc.base = MB_CMD.ofs 0 then (s.onlyIf (v.getLsbD 0) (ensRetry i)).onlyIf (v.getLsbD 1) (ensCmdSuspend i)
  else h.store ofs v s

/-- A write of a register of OUT (R150, R154, R157); DISARM wins over ARM. -/
def writeOut (h : RegHit) (ofs : Nat) (v : Word) (at_ : Nat) (s : State) : State :=
  let n := h.inst
  if h.desc.base = OUT_CFG.ofs 0 then outCfgWrite n v s
  else if h.desc.base = OUT_PERIOD.ofs 0 then outRegWrite n .period (v.setWidth 64) s
  else if h.desc.base = OUT_WIDTH.ofs 0 then outRegWrite n .width (v.setWidth 64) s
  else if h.desc.base = TRG_CFG.ofs 0 then vitPinCheck (trgCfgWrite n v s)
  else if h.desc.base = TRG_CTRL.ofs 0 then
    if v.getLsbD 1 then trgDisarm n s else s.onlyIf (v.getLsbD 0) (trgArm n at_)
  else h.store ofs v s

/-- A write of a register of EVT (R72, R83, R87, R90). -/
def writeEvt (h : RegHit) (ofs : Nat) (v : Word) (s : State) : State :=
  let n := h.inst
  if h.desc.base = EVT_CH_CFG.ofs 0 then evtFrontWrite n false v s
  else if h.desc.base = EVT_CH_THRESH.ofs 0 then evtFrontWrite n true v s
  else if h.desc.base = EVT_CH_PAIR.ofs 0 then evtPairWrite n false v s
  else if h.desc.base = EVT_CH_PAIR_WIN.ofs 0 then evtPairWrite n true v s
  else if h.desc.base = EVT_BK_CAL_CMD.ofs 0 then evtCalCmd n v s
  else h.store ofs v s

/-- A write of a register of GNSS (R163, R164, R168, R171, R174). -/
def writeGnss (h : RegHit) (ofs : Nat) (v : Word) (at_ : Nat) (s : State) : State :=
  let n := h.inst
  if h.desc.base = GNSS_PORT_CFG.ofs 0 then gnssPortCfg n v s
  else if h.desc.base = GNSS_PORT_RATE.ofs 0 then gnssPortRate n v s
  else if h.desc.base = GNSS_PORT_JAM.ofs 0 then gnssJamWrite n v s
  else if h.desc.base = GNSS_SOL_CFG.ofs 0 then gnssSolCfg n v s
  else if h.desc.base = GNSS_TK_CMD.ofs 0 then gnssTkCmd n v s
  else if ofs = GNSS_SNAP_CTRL.ofs then snapCtrl v at_ s
  else h.store ofs v s

/-- A write of a register of MAC (R178, R189). -/
def writeMac (h : RegHit) (ofs : Nat) (v : Word) (at_ : Nat) (s : State) : State :=
  let n := h.inst
  if h.desc.base = EP_CFG.ofs 0 then portCfgWrite n v s
  else if h.desc.base = EP_GATE_CFG.ofs 0 then gateCfgWrite n v at_ s
  else if h.desc.base = EP_GATE_ENT.ofs 0 0 then gateEntWrite n (h.idx.getD 1 0) v s
  else h.store ofs v s

/-- A write of a register of ANS (R197, R202, R203, R218). -/
def writeAns (h : RegHit) (ofs : Nat) (v : Word) (s : State) : State :=
  let p := h.inst
  if h.desc.base = ANS_CFG.ofs 0 then ansCfgWrite p v s
  else if h.desc.base = ANS_ADDR_CFG.ofs 0 0 then ansAddrCommit p (h.idx.getD 1 0) v s
  else if h.desc.base = ANS_RULE_CTRL.ofs 0 then s.onlyIf (v.getLsbD 0) (ansCommit p)
  else if [ANS_RULE_K0.ofs 0 0, ANS_RULE_K1.ofs 0 0, ANS_RULE_K2.ofs 0 0, ANS_RULE_ACT.ofs 0 0].contains h.desc.base then
    ansRuleWrite p ofs (h.written (s.reg ofs) v) s
  else if ofs = ANS_VB_CTRL.ofs then s.onlyIf (v.getLsbD 0) vbClear
  else h.store ofs v s

/-- A write of a register of NTS (R226, R228, R237). -/
def writeNts (h : RegHit) (ofs : Nat) (v : Word) (s : State) : State :=
  if ofs = NTS_CTRL.ofs then
    let s := s.onlyIf (v.getLsbD 0) ntsDue
    let s := s.onlyIf (v.getLsbD 1) (ntsZeroise (fieldOf v 8 8))
    s.onlyIf (v.getLsbD 2) (ntsSelftest (fieldOf v 4 4) (v.getLsbD 3))
  else if ofs = NTS_CFG.ofs then
    let s := h.store ofs v s
    ntsFirst s
  -- A write of the map or of the units in use takes effect at once for each unit without work (R235).
  else if ofs = NTS_UNIT_MAP.ofs ∨ ofs = NTS_UNIT_CFG.ofs then ntsServe (h.store ofs v s)
  else h.store ofs v s

/-- A write of a register of PTP (R239, R250, R255). -/
def writePtp (h : RegHit) (ofs : Nat) (v : Word) (at_ : Nat) (s : State) : State :=
  let i := h.inst
  if h.desc.base = PTP_INST_CFG.ofs 0 then ptpCfgWrite i v s
  else if h.desc.base = PTP_CLI_CMD.ofs 0 then ptpCommand i (v.getLsbD 0) (v.getLsbD 1) s
  else if h.desc.base = PTP_CLI_UM_CFG.ofs 0 0 then ptpUmWrite i (h.idx.getD 1 0) v s
  else if ofs = PTP_TBL_IDX.ofs then ptpShow (fieldOf v 0 14) at_ s
  else h.store ofs v s

/-- A write of a register of BNE or PROV (R257, R278, R283). -/
def writeBne (h : RegHit) (ofs : Nat) (v : Word) (at_ : Nat) (s : State) : State :=
  if ofs = BNE_CTRL.ofs then s.onlyIf (v.getLsbD 0) (bneSelftest (fieldOf v 2 4) (v.getLsbD 1) at_)
  else if h.desc.base = BNE_SLOT_CTRL.ofs 0 then s.onlyIf (v.getLsbD 0) (bneStop h.inst at_)
  else if ofs = PROV_CTRL.ofs then s.onlyIf (v.getLsbD 0) (provExtra 3 at_)
  else h.store ofs v s

/-- A write of a register of LNK (R300, R305, R310 to R312). -/
def writeLnk (h : RegHit) (ofs : Nat) (v : Word) (at_ : Nat) (s : State) : State :=
  let n := h.inst
  if ofs = LK_GLB_CFG.ofs then
    let was := s.flag LK_GLB_CFG.EN
    let t := h.store ofs v s
    if v.getLsbD 0 == was then t else lnkGlobal t
  else if h.desc.base = LK_CFG.ofs 0 then
    if v.getLsbD 0 == s.flag (LK_CFG.EN n) then s else lkEnable n (v.getLsbD 0) s
  else if h.desc.base = LK_CMD.ofs 0 then lkCommand n (v.getLsbD 0) (v.getLsbD 1) s
  else if ofs = LK_BC_CTRL.ofs then s.onlyIf (v.getLsbD 0) lnkBcSend
  else if ofs = LK_BAR_CTRL.ofs then s.onlyIf (v.getLsbD 8) (lnkArrive (fieldOf v 0 8))
  else if ofs = LK_TTO_CTRL.ofs then s.onlyIf (v.getLsbD 16) (ttoIssue (fieldOf v 0 2) (fieldOf v 2 2) (fieldOf v 4 12) at_)
  else h.store ofs v s

/-- A write of a register of PAIR (R317 to R319, R324). -/
def writePair (h : RegHit) (ofs : Nat) (v : Word) (at_ : Nat) (s : State) : State :=
  if ofs = PAIR_CFG.ofs then pairCfgWrite v s
  else if ofs = PAIR_CTRL.ofs then pairCtrlWrite v (s.timeAt at_) s
  else if ofs = PAIR_HS_DATA.ofs then pairHostAccess true v s
  else h.store ofs v s

/-- A write of a register of HIF (R385, R390, R393). -/
def writeHif (h : RegHit) (ofs : Nat) (v : Word) (s : State) : State :=
  if h.desc.base = HIF_Q_CFG.ofs 0 then hifCfgWrite h.inst v s
  else if h.desc.base = HIF_Q_TAIL.ofs 0 then hifTailWrite h.inst v.toNat s
  else if ofs = HIF_VB_CMD.ofs then
    if v.getLsbD 24 then vbCommand (v.getLsbD 23) (v.getLsbD 22) (fieldOf v 0 22) s else h.store ofs v s
  else h.store ofs v s

/-- A host write of a 32-bit register. -/
def writeReg (h : RegHit) (ofs : Nat) (v : Word) (at_ : Nat) (s : State) : State :=
  match h.desc.blk with
  | .glb | .cat => writeCat h ofs v at_ s
  | .cdc => h.store ofs v s
  | .irq => writeIrq h ofs v s
  | .vit => writeVit h ofs v at_ s
  | .con => writeCon h ofs v at_ s
  | .tb => writeTb h ofs v at_ s
  | .rgs => writeRgs h ofs v s
  | .loop => writeLoop h ofs v at_ s
  | .ens => writeEns h ofs v s
  | .out => writeOut h ofs v at_ s
  | .evt => writeEvt h ofs v s
  | .gnss => writeGnss h ofs v at_ s
  | .mac => writeMac h ofs v at_ s
  | .ans => writeAns h ofs v s
  | .nts => writeNts h ofs v s
  | .ptp => writePtp h ofs v at_ s
  | .bne | .prov => writeBne h ofs v at_ s
  | .lnk => writeLnk h ofs v at_ s
  | .pair => writePair h ofs v at_ s
  | .hif => writeHif h ofs v s

/-! ### 64-bit pairs (R12, R13) -/

/-- A commit of the pair whose NAME_LO lies at `k`: the registers that act on a commit, and every other pair by its access code. -/
def commitPair (h : RegHit) (k : Nat) (lo hi : Word) (at_ : Nat) (s : State) : State :=
  let n := h.inst
  let v : BitVec 64 := hi ++ lo
  let b := h.desc.base
  if b = TB_LEAP_TAI.ofs then (if s.flag TB_LEAP_CFG.ARM then s else h.storePair k lo hi s)
  else if b = LOOP_NUM_FF.ofs 0 then loopNumFF n (s.getS k) v.toInt at_ (h.storePair k lo hi s)
  else if b = LOOP_NUM_PH.ofs 0 then loopNumPh n v.toInt at_ s
  else if b = ENS_MAN_PH.ofs then ensManPh v.toInt s
  else if b = OUT_FREQ.ofs 0 then outRegWrite n .freq v s
  else if b = OUT_ANCHOR_SEC.ofs 0 then outRegWrite n .anchor v s
  else if b = OUT_OFS_PH.ofs 0 then outOfsWrite n v.toInt at_ s
  else if b = GNSS_SOL_POS_X.ofs 0 ∨ b = GNSS_SOL_POS_Y.ofs 0 then
    (if s.flag (GNSS_SOL_CFG.POS_MODE n) then h.storePair k lo hi s else s)
  else if b = GNSS_SOL_POS_Z.ofs 0 then gnssCommit n v.toNat s
  else h.storePair k lo hi s

/-- A write of NAME_LO: into the staging register, the last one winning (R13); of TB_LEAP_TAI it is ignored while ARM is 1 (R51). -/
def stageLow (k : Nat) (v : Word) (s : State) : State :=
  if k = TB_LEAP_TAI.ofs ∧ s.flag TB_LEAP_CFG.ARM then s
  else { s with rf := { s.rf with staged := tableSet s.rf.staged k v } }

/-- A write of NAME_HI: it commits the staged low half, or the live one where nothing is staged (R13). -/
def commitHigh (h : RegHit) (k : Nat) (v : Word) (at_ : Nat) (s : State) : State :=
  let lo := (tableGet s.rf.staged k).getD (s.reg k)
  commitPair h k lo v at_ { s with rf := { s.rf with staged := tableErase s.rf.staged k } }

/-- What the latch of the pair at `k` returns: what it was last loaded with, or the high half of the value that the pair took at its
last reset (R12); GLB_SERIAL takes the serial number there. -/
def RegFile.latched (r : RegFile) (k : Nat) : Word :=
  match r.latch.find? fun l => l.ofs == k with
  | some l => l.value
  | none => if k = GLB_SERIAL.ofs then r.reg (k + 4) else r.base (k + 4)

/-- A latch loaded by a host read (R12). -/
def RegFile.latchSet (r : RegFile) (k : Nat) (v : Word) : RegFile :=
  { r with latch := { ofs := k, value := v, byRead := true } :: r.latch.filter fun l => l.ofs != k }

/-! ### Unmapped and malformed accesses (R16, R382) -/

/-- What the host read returned. -/
def State.answer (v : Word) (s : State) : State := { s with sys := { s.sys with rdata := v } }

/-- A write where no register lies: dropped and counted, except before the factory image stands (R16, R342, R354). -/
def unmappedWrite (s : State) : State :=
  s.onlyIf (coreRuns s) fun s => (s.count HIF_UNMAPPED.WRITES 1).setFlag HIF_FLAGS.UNMAPPED 15

/-- A BAR0 access of a wrong size or alignment: it reads zero or is dropped, and is counted (R382). -/
def accessBad (write : Bool) (s : State) : State :=
  (s.onlyIf (!write) (State.answer 0)).onlyIf (coreRuns s) fun s =>
    (s.count HIF_UNMAPPED.ACCESS_BAD 1).setFlag HIF_FLAGS.ACCESS_BAD 15

/-! ### Writes -/

/-- Whether a host write changed an RW field (R284): of the register written, of the pair committed, of the page buffer behind
CAT_NV_DATA, or of the index that an access to PAIR_HS_DATA moves. -/
def rwChanged (h : RegHit) (ofs : Nat) (s t : State) : Bool :=
  let m := h.maskOf fun f => decide (f.acc = .rw)
  let lowMask := ({ h with hi := false } : RegHit).maskOf fun f => decide (f.acc = .rw)
  (t.reg ofs &&& m) != (s.reg ofs &&& m) || (h.hi && (t.reg (ofs - 4) &&& lowMask) != (s.reg (ofs - 4) &&& lowMask)) ||
  (decide (ofs = CAT_NV_DATA.ofs) && t.cat.page != s.cat.page) ||
  (decide (ofs = PAIR_HS_DATA.ofs) && t.get PAIR_HS_IDX.IDX != s.get PAIR_HS_IDX.IDX)

/-- A 4-byte host write at a BAR0 offset. -/
def hostWrite (ofs : Nat) (v : Word) (at_ : Nat) (s : State) : State :=
  if ofs % 4 ≠ 0 then accessBad true s
  else match regFind ofs with
  | none => unmappedWrite s
  | some h =>
    if s.hostReach h.desc.blk h.owner then
      let t := if !h.desc.pair then writeReg h ofs v at_ s
        else if h.hi then commitHigh h (ofs - 4) v at_ s
        else stageLow ofs v s
      hostCount (h.desc.blk.counted && rwChanged h ofs s t) t
    else s

/-! ### Reads -/

/-- The halves of the hash that a read of PROV_LAST_SERIAL_LO latches (14_provenance_ledger.md, "PROV register map"). -/
def latchHash (r : RegFile) : RegFile :=
  (List.range 8).foldl (fun r w => r.latchSet (PROV_LAST_HASH.ofs w) (r.reg (PROV_LAST_HASH.ofs w))) r

/-- A read of NAME_LO: the live low half, with the live high half latched (R12). -/
def readLow (h : RegHit) (k at_ : Nat) (s : State) : State :=
  let s := s.onlyIf (decide (k = TB_TIME_SEC.ofs) && s.live .tb) fun s => tbCapture (s.timeAt at_) s
  let hi : RegHit := { h with hi := true }
  let r := s.rf.latchSet k (viewHit hi (k + 4) at_ s &&& hi.readMask)
  let r := if k = PROV_LAST_SERIAL.ofs then latchHash r else r
  { s with rf := r }.answer (viewHit h k at_ s &&& h.readMask)

/-- A read of a 32-bit register: its value, after which its RC fields are clear (R14). -/
def readPlain (h : RegHit) (ofs at_ : Nat) (s : State) : State :=
  let rc := h.maskOf fun f => decide (f.acc = .rc)
  let t := s.answer (viewHit h ofs at_ s &&& h.readMask)
  if rc = 0 then t else t.setReg ofs (s.reg ofs &&& ~~~rc)

/-- A live host read of the register at an offset, with the reads that act (R194, R310, R324, R340). -/
def readReg (h : RegHit) (ofs at_ : Nat) (s : State) : State :=
  if h.desc.pair then
    if h.hi then s.answer (s.rf.latched (ofs - 4)) else readLow h ofs at_ s
  else if h.desc.base = EP_TSQ_POP.ofs 0 then s.hostPop .mac h.owner (tsqPop h.inst)
  else if ofs = LK_BC_POP.ofs then s.hostPop .lnk none fun s => (lnkPop s).answer (lnkPopValue s)
  else if ofs = PAIR_HS_DATA.ofs then s.hostPop .pair none (pairHostAccess false 0)
  else if ofs = CAT_NV_DATA.ofs then s.hostPop .cat none (catData false 0)
  else if h.desc.base = PROV_LAST_HASH.ofs 0 then
    s.answer (match s.rf.latch.find? fun l => l.ofs == ofs with | some l => l.value | none => s.rf.base ofs)
  else readPlain h ofs at_ s

/-- Whether a host read of a register is answered: before the factory image stands only CAT_STATUS and CAT_FLAGS are (R342). -/
def mayRead (s : State) (ofs : Nat) : Bool :=
  coreRuns s || decide (ofs = CAT_STATUS.ofs) || decide (ofs = CAT_FLAGS.ofs)

/-- A 4-byte host read at a BAR0 offset: under VIEW a register of the snapshot returns its latched value and nothing else happens
(R373). -/
def hostRead (ofs at_ : Nat) (s : State) : State :=
  if ofs % 4 ≠ 0 then accessBad false s
  else match regFind ofs with
  | none => s.answer 0
  | some h =>
    if !mayRead s ofs then s.answer 0
    else match vitHeld s h with
      | some r => s.answer (r.reg ofs &&& h.readMask)
      | none => readReg h ofs at_ s

/-! ### The commands -/

/-- READ_LO: a host read of NAME_LO (R12), as every 4-byte host read. -/
def execReadLo (ofs at_ : Nat) (s : State) : Host.Outcome State Fault Refusal := .next (hostRead ofs at_ s)

/-- RC_READ: a host read of a register with RC fields (R14), as every 4-byte host read. -/
def execRcRead (ofs at_ : Nat) (s : State) : Host.Outcome State Fault Refusal := .next (hostRead ofs at_ s)

/-- TIME_CAPTURE: a host read of TB_TIME_SEC_LO (R45). -/
def execTimeCapture (at_ : Nat) (s : State) : Host.Outcome State Fault Refusal := .next (hostRead TB_TIME_SEC.ofs at_ s)

/-- Whether an offset is that of a pair's low half, or of its high half (R11). -/
def isHalf (hi : Bool) (ofs : Nat) : Bool :=
  match regFind ofs with
  | some h => h.desc.pair && h.hi == hi
  | none => false

/-- WRITE_LO (R13): only the low half of a pair is written with this command. -/
def execWriteLo (ofs : Nat) (v : Word) (s : State) : Host.Outcome State Fault Refusal :=
  .next (s.onlyIf (isHalf false ofs) (hostWrite ofs v 0))

/-- WRITE_HI (R13): only the high half of a pair is written with this command. -/
def execWriteHi (ofs : Nat) (v : Word) (at_ : Nat) (s : State) : Host.Outcome State Fault Refusal :=
  .next (s.onlyIf (isHalf true ofs) (hostWrite ofs v at_))

/-- REGISTER_WRITE (R14): every 4-byte host write. -/
def execRegisterWrite (ofs : Nat) (v : Word) (at_ : Nat) (s : State) : Host.Outcome State Fault Refusal :=
  .next (hostWrite ofs v at_ s)

/-- UNMAPPED_ACCESS (R16): an access to an offset that no register occupies. -/
def execUnmappedAccess (ofs : Nat) (write : Bool) (s : State) : Host.Outcome State Fault Refusal :=
  .next (s.onlyIf (regFind ofs).isNone fun s => if write then unmappedWrite s else s.answer 0)

/-- ACCESS_BAD (R382). -/
def execAccessBad (write : Bool) (s : State) : Host.Outcome State Fault Refusal := .next (accessBad write s)

/-! ### BAR2 (R258, R382) -/

/-- A host access to a big-number window: blocked while its slot is not IDLE, with the write counted (R258). -/
def windowAccess (write : Bool) (a : Nat) (v : Word) (s : State) : State :=
  if !hostMay .bne s then s.onlyIf (!write) (State.answer 0)
  else if bneStateOf s (a / bneWindow) ≠ 0 then
    (if write then s.count BNE_WIN_BLOCKED.COUNT 1 else s.answer 0)
  else if write then { s with bar2 := memWrite bar2Zero s.bar2 a (leBytes 4 v.toNat) }
  else s.answer (BitVec.ofNat 32 (leNat (memBytes bar2Zero s.bar2 a 4)))

/-- A 4-byte host access to BAR2: the windows, the capture pool, which is read only, and offsets that read zero (R382). -/
def bar2Access (write : Bool) (ofs : Nat) (v : Word) (s : State) : State :=
  let a := 4 * (ofs / 4)
  if a < 16 * bneWindow then windowAccess write a v s
  else if write then s
  else if poolBase ≤ a ∧ a < poolBase + 0x800000 then
    s.answer (BitVec.ofNat 32 (leNat (memBytes bar2Zero s.bar2 a 4)))
  else s.answer 0

/-- WINDOW_ACCESS. -/
def execWindowAccess (write : Bool) (ofs : Nat) (v : Word) (s : State) : Host.Outcome State Fault Refusal :=
  .next (bar2Access write ofs v s)

/-! ### Capture copies (R387) -/

/-- A number of a descriptor: `n` bytes at offset `a`, little-endian. -/
def descField (d : List Byte) (a n : Nat) : Nat := leNat ((d.drop a).take n)

/-- Whether a capture-copy descriptor keeps the rules of R387, its bytes inside the capture pool. -/
def copyOk (d : List Byte) : Bool :=
  let a := descField d 0 4
  let n := descField d 4 4
  decide (a % 64 = 0) && decide (n % 64 = 0) && decide (64 ≤ n) && decide (a + n ≤ 0x800000) && decide (descField d 8 8 % 64 = 0) &&
  decide (descField d 16 16 = 0)

/-- The oldest fetched capture-copy descriptor served: its bytes are written and it is consumed (R385, R387). -/
def captureCopy (s : State) : State :=
  match hifDescriptor s 30 with
  | none => s
  | some d =>
    if copyOk d then
      hifConsume 30 (hifWrite (descField d 8 8) (memBytes bar2Zero s.bar2 (poolBase + descField d 0 4) (descField d 4 4)) s)
    else hifBadDesc 30 s

/-- CAPTURE_COPY. -/
def execCaptureCopy (s : State) : Host.Outcome State Fault Refusal := .next (captureCopy s)

end Sys2Proof.Machine
end

