-- ==== Sys2Proof/Machine/Dispatch.lean ====
section
/-! DEFINITION. The dispatch of a command to its meaning, one arm per constructor. -/

namespace Sys2Proof.Machine

def exec (i : Instr) (s : State) : Host.Outcome State Fault Refusal :=
  match i with
  | .readLo ofs at_ => Sys2Proof.Machine.execReadLo ofs at_ s
  | .writeLo ofs v => Sys2Proof.Machine.execWriteLo ofs v s
  | .writeHi ofs v at_ => Sys2Proof.Machine.execWriteHi ofs v at_ s
  | .rcRead ofs at_ => Sys2Proof.Machine.execRcRead ofs at_ s
  | .registerWrite ofs v at_ => Sys2Proof.Machine.execRegisterWrite ofs v at_ s
  | .unmappedAccess ofs write => Sys2Proof.Machine.execUnmappedAccess ofs write s
  | .accessBad write => Sys2Proof.Machine.execAccessBad write s
  | .por powerUp strap pfailLow => Sys2Proof.Machine.execPor powerUp strap pfailLow s
  | .perst low => Sys2Proof.Machine.execPerst low s
  | .softReset confirm => Sys2Proof.Machine.execSoftReset confirm s
  | .blkReset blocks at_ => Sys2Proof.Machine.execBlkReset blocks at_ s
  | .instReset block index at_ => Sys2Proof.Machine.execInstReset block index at_ s
  | .blkResetDone => Sys2Proof.Machine.execBlkResetDone s
  | .pivotFault => Sys2Proof.Machine.execPivotFault s
  | .pivotRecovered => Sys2Proof.Machine.execPivotRecovered s
  | .pivotStable => Sys2Proof.Machine.execPivotStable s
  | .pivotLostAtStart => Sys2Proof.Machine.execPivotLostAtStart s
  | .pllLocked => Sys2Proof.Machine.execPllLocked s
  | .factoryApplied => Sys2Proof.Machine.execFactoryApplied s
  | .imageSelected answersA answersB => Sys2Proof.Machine.execImageSelected answersA answersB s
  | .warmupDone => Sys2Proof.Machine.execWarmupDone s
  | .restoreDone startMs => Sys2Proof.Machine.execRestoreDone startMs s
  | .timeCapture at_ => Sys2Proof.Machine.execTimeCapture at_ s
  | .modelTick => Sys2Proof.Machine.execModelTick s
  | .tempExtWrite v => Sys2Proof.Machine.execTempExtWrite v s
  | .tempStale => Sys2Proof.Machine.execTempStale s
  | .utcOfsWrite v => Sys2Proof.Machine.execUtcOfsWrite v s
  | .utcOfsInForce => Sys2Proof.Machine.execUtcOfsInForce s
  | .leapArm delete at_ => Sys2Proof.Machine.execLeapArm delete at_ s
  | .leapDisarm at_ => Sys2Proof.Machine.execLeapDisarm at_ s
  | .leapWarning at_ => Sys2Proof.Machine.execLeapWarning at_ s
  | .leapInsertedSecond at_ => Sys2Proof.Machine.execLeapInsertedSecond at_ s
  | .leapDone at_ => Sys2Proof.Machine.execLeapDone at_ s
  | .ownerUpdate x y => Sys2Proof.Machine.execOwnerUpdate x y s
  | .verifyReport k x => Sys2Proof.Machine.execVerifyReport k x s
  | .standingReportLapse loop => Sys2Proof.Machine.execStandingReportLapse loop s
  | .stepAuth seq at_ => Sys2Proof.Machine.execStepAuth seq at_ s
  | .stepReject seq => Sys2Proof.Machine.execStepReject seq s
  | .preauthArm => Sys2Proof.Machine.execPreauthArm s
  | .preauthCancel => Sys2Proof.Machine.execPreauthCancel s
  | .setGo at_ => Sys2Proof.Machine.execSetGo at_ s
  | .stepApply => Sys2Proof.Machine.execStepApply s
  | .declareVerified => Sys2Proof.Machine.execDeclareVerified s
  | .withdrawVerified => Sys2Proof.Machine.execWithdrawVerified s
  | .replicaCompare k err => Sys2Proof.Machine.execReplicaCompare k err s
  | .replicaStep k => Sys2Proof.Machine.execReplicaStep k s
  | .edge ch rising at_ => Sys2Proof.Machine.execEdge ch rising at_ s
  | .pairExpiry ch at_ => Sys2Proof.Machine.execPairExpiry ch at_ s
  | .pairConfigWrite ch window v => Sys2Proof.Machine.execPairConfigWrite ch window v s
  | .frontEndWrite ch thresh v => Sys2Proof.Machine.execFrontEndWrite ch thresh v s
  | .settlingDone ch => Sys2Proof.Machine.execSettlingDone ch s
  | .recordCommit ch => Sys2Proof.Machine.execRecordCommit ch s
  | .commitLate ch at_ => Sys2Proof.Machine.execCommitLate ch at_ s
  | .slotInstant bank => Sys2Proof.Machine.execSlotInstant bank s
  | .reliefPassDone bank complete delay pulses at_ => Sys2Proof.Machine.execReliefPassDone bank complete delay pulses at_ s
  | .handoverSwitch bank => Sys2Proof.Machine.execHandoverSwitch bank s
  | .channelPassDone bank complete delay pulses at_ => Sys2Proof.Machine.execChannelPassDone bank complete delay pulses at_ s
  | .calRequest bank pos force => Sys2Proof.Machine.execCalRequest bank pos force s
  | .calRetry bank => Sys2Proof.Machine.execCalRetry bank s
  | .calAgeExpiry bank pos => Sys2Proof.Machine.execCalAgeExpiry bank pos s
  | .pfailLow at_ => Sys2Proof.Machine.execPfailLow at_ s
  | .pfailHigh at_ => Sys2Proof.Machine.execPfailHigh at_ s
  | .evaluationCycle => Sys2Proof.Machine.execEvaluationCycle s
  | .referenceSample slot v at_ => Sys2Proof.Machine.execReferenceSample slot v at_ s
  | .ledgerLine slot bytes dur at_ => Sys2Proof.Machine.execLedgerLine slot bytes dur at_ s
  | .ledgerLineTimeout slot => Sys2Proof.Machine.execLedgerLineTimeout slot s
  | .pulseAbsent slot => Sys2Proof.Machine.execPulseAbsent slot s
  | .holdoffExpiry slot => Sys2Proof.Machine.execHoldoffExpiry slot s
  | .qualTimerDone slot => Sys2Proof.Machine.execQualTimerDone slot s
  | .wtrExpiry slot => Sys2Proof.Machine.execWtrExpiry slot s
  | .slotEnable slot en => Sys2Proof.Machine.execSlotEnable slot en s
  | .wtrClear slot => Sys2Proof.Machine.execWtrClear slot s
  | .disputeClear slot => Sys2Proof.Machine.execDisputeClear slot s
  | .alignTimer k => Sys2Proof.Machine.execAlignTimer k s
  | .disputeCheck => Sys2Proof.Machine.execDisputeCheck s
  | .loopEpoch k meas at_ => Sys2Proof.Machine.execLoopEpoch k meas at_ s
  | .loopDeadlineMiss k at_ => Sys2Proof.Machine.execLoopDeadlineMiss k at_ s
  | .loopAuth k seq at_ => Sys2Proof.Machine.execLoopAuth k seq at_ s
  | .loopAlign k seq at_ => Sys2Proof.Machine.execLoopAlign k seq at_ s
  | .loopReject k seq at_ => Sys2Proof.Machine.execLoopReject k seq at_ s
  | .loopEnable k en => Sys2Proof.Machine.execLoopEnable k en s
  | .openChange k open_ => Sys2Proof.Machine.execOpenChange k open_ s
  | .numPhWrite k v at_ => Sys2Proof.Machine.execNumPhWrite k v at_ s
  | .ensembleEpoch at_ => Sys2Proof.Machine.execEnsembleEpoch at_ s
  | .epochLate at_ => Sys2Proof.Machine.execEpochLate at_ s
  | .memberEnable ix en => Sys2Proof.Machine.execMemberEnable ix en s
  | .memberRetry ix => Sys2Proof.Machine.execMemberRetry ix s
  | .memberSuspend ix => Sys2Proof.Machine.execMemberSuspend ix s
  | .manPhWrite v => Sys2Proof.Machine.execManPhWrite v s
  | .outputConfigWrite n r v => Sys2Proof.Machine.execOutputConfigWrite n r v s
  | .outputOffsetWrite n v at_ => Sys2Proof.Machine.execOutputOffsetWrite n v at_ s
  | .outputMute n => Sys2Proof.Machine.execOutputMute n s
  | .outputUnmute n => Sys2Proof.Machine.execOutputUnmute n s
  | .realign n => Sys2Proof.Machine.execRealign n s
  | .triggerArm j at_ => Sys2Proof.Machine.execTriggerArm j at_ s
  | .triggerDisarm j => Sys2Proof.Machine.execTriggerDisarm j s
  | .triggerInstant j => Sys2Proof.Machine.execTriggerInstant j s
  | .sampleClockCompare port samples at_ => Sys2Proof.Machine.execSampleClockCompare port samples at_ s
  | .gnssClockFault port => Sys2Proof.Machine.execGnssClockFault port s
  | .gnssClockOk port => Sys2Proof.Machine.execGnssClockOk port s
  | .trackAllocation cands => Sys2Proof.Machine.execTrackAllocation cands s
  | .trackPin k v => Sys2Proof.Machine.execTrackPin k v s
  | .trackRelease k => Sys2Proof.Machine.execTrackRelease k s
  | .signalFound k => Sys2Proof.Machine.execSignalFound k s
  | .acquisitionTimeout k => Sys2Proof.Machine.execAcquisitionTimeout k s
  | .pullinLock k => Sys2Proof.Machine.execPullinLock k s
  | .pullinTimeout k => Sys2Proof.Machine.execPullinTimeout k s
  | .trackLoss k => Sys2Proof.Machine.execTrackLoss k s
  | .reacqLock k => Sys2Proof.Machine.execReacqLock k s
  | .reacqTimeout k => Sys2Proof.Machine.execReacqTimeout k s
  | .satelliteSet k => Sys2Proof.Machine.execSatelliteSet k s
  | .integration k m => Sys2Proof.Machine.execIntegration k m s
  | .integrationLate k at_ => Sys2Proof.Machine.execIntegrationLate k at_ s
  | .observableEpoch at_ => Sys2Proof.Machine.execObservableEpoch at_ s
  | .solutionEpoch sol sigs leap fix at_ => Sys2Proof.Machine.execSolutionEpoch sol sigs leap fix at_ s
  | .surveyDone sol => Sys2Proof.Machine.execSurveyDone sol s
  | .positionCommit sol z => Sys2Proof.Machine.execPositionCommit sol z s
  | .resurvey sol => Sys2Proof.Machine.execResurvey sol s
  | .fitReset sol => Sys2Proof.Machine.execFitReset sol s
  | .goNow at_ => Sys2Proof.Machine.execGoNow at_ s
  | .goAt at_ => Sys2Proof.Machine.execGoAt at_ s
  | .snapshotStart at_ => Sys2Proof.Machine.execSnapshotStart at_ s
  | .snapshotAbort => Sys2Proof.Machine.execSnapshotAbort s
  | .snapshotDone => Sys2Proof.Machine.execSnapshotDone s
  | .ethLinkUp n txDly rxDly => Sys2Proof.Machine.execEthLinkUp n txDly rxDly s
  | .ethLinkDown n => Sys2Proof.Machine.execEthLinkDown n s
  | .frameRx n bytes at_ => Sys2Proof.Machine.execFrameRx n bytes at_ s
  | .esmcPduRx n p => Sys2Proof.Machine.execEsmcPduRx n p s
  | .esmcTimeout n => Sys2Proof.Machine.execEsmcTimeout n s
  | .esmcInfoTx n => Sys2Proof.Machine.execEsmcInfoTx n s
  | .esmcEventTx n => Sys2Proof.Machine.execEsmcEventTx n s
  | .pauseRx n opcode quanta at_ => Sys2Proof.Machine.execPauseRx n opcode quanta at_ s
  | .pauseEnd n at_ => Sys2Proof.Machine.execPauseEnd n at_ s
  | .reserve p g => Sys2Proof.Machine.execReserve p g s
  | .answerBuilt p id at_ => Sys2Proof.Machine.execAnswerBuilt p id at_ s
  | .departure n => Sys2Proof.Machine.execDeparture n s
  | .unscheduledTx n ix at_ => Sys2Proof.Machine.execUnscheduledTx n ix at_ s
  | .tsqPop n => Sys2Proof.Machine.execTsqPop n s
  | .gateEntry n at_ => Sys2Proof.Machine.execGateEntry n at_ s
  | .gateEnable n en at_ => Sys2Proof.Machine.execGateEnable n en at_ s
  | .gateChange n at_ => Sys2Proof.Machine.execGateChange n at_ s
  | .gateChangeTime n => Sys2Proof.Machine.execGateChangeTime n s
  | .ruleCommit p => Sys2Proof.Machine.execRuleCommit p s
  | .bankSwap p => Sys2Proof.Machine.execBankSwap p s
  | .bankCopyDone p => Sys2Proof.Machine.execBankCopyDone p s
  | .addressCommit p a v => Sys2Proof.Machine.execAddressCommit p a v s
  | .pipelineDisable p => Sys2Proof.Machine.execPipelineDisable p s
  | .vbSweep at_ => Sys2Proof.Machine.execVbSweep at_ s
  | .vbClear => Sys2Proof.Machine.execVbClear s
  | .vbClearDone => Sys2Proof.Machine.execVbClearDone s
  | .ntsPhase1 u => Sys2Proof.Machine.execNtsPhase1 u s
  | .ntsPhase2 u at_ => Sys2Proof.Machine.execNtsPhase2 u at_ s
  | .ntsEnable => Sys2Proof.Machine.execNtsEnable s
  | .rotationDue => Sys2Proof.Machine.execRotationDue s
  | .rotate => Sys2Proof.Machine.execRotate s
  | .rotationTimeout => Sys2Proof.Machine.execRotationTimeout s
  | .zeroise confirm => Sys2Proof.Machine.execZeroise confirm s
  | .ntsSelftest u force => Sys2Proof.Machine.execNtsSelftest u force s
  | .ntsSelftestDone u ok => Sys2Proof.Machine.execNtsSelftestDone u ok s
  | .mintJob => Sys2Proof.Machine.execMintJob s
  | .mintCompletion => Sys2Proof.Machine.execMintCompletion s
  | .syncInstant ix client k g => Sys2Proof.Machine.execSyncInstant ix client k g s
  | .followUp ix => Sys2Proof.Machine.execFollowUp ix s
  | .tsqTimeout ix => Sys2Proof.Machine.execTsqTimeout ix s
  | .announceTx ix client at_ => Sys2Proof.Machine.execAnnounceTx ix client at_ s
  | .delayReq ix m at_ => Sys2Proof.Machine.execDelayReq ix m at_ s
  | .unicastRequest ix m type log dur at_ => Sys2Proof.Machine.execUnicastRequest ix m type log dur at_ s
  | .unicastCancel ix m type => Sys2Proof.Machine.execUnicastCancel ix m type s
  | .grantExpiry at_ => Sys2Proof.Machine.execGrantExpiry at_ s
  | .announceRx ix m d at_ => Sys2Proof.Machine.execAnnounceRx ix m d at_ s
  | .announceTimeout ix => Sys2Proof.Machine.execAnnounceTimeout ix s
  | .grantRenew ix master => Sys2Proof.Machine.execGrantRenew ix master s
  | .syncRx ix m sec ns fu at_ => Sys2Proof.Machine.execSyncRx ix m sec ns fu at_ s
  | .delayReqInstant ix k g => Sys2Proof.Machine.execDelayReqInstant ix k g s
  | .delayRespRx ix m sec ns => Sys2Proof.Machine.execDelayRespRx ix m sec ns s
  | .clientSample ix => Sys2Proof.Machine.execClientSample ix s
  | .exchangeTimeout ix => Sys2Proof.Machine.execExchangeTimeout ix s
  | .ptpReacceptRaw ix => Sys2Proof.Machine.execPtpReacceptRaw ix s
  | .ptpReacceptHeld ix => Sys2Proof.Machine.execPtpReacceptHeld ix s
  | .ptpInstanceEnable ix en => Sys2Proof.Machine.execPtpInstanceEnable ix en s
  | .jobDescriptor => Sys2Proof.Machine.execJobDescriptor s
  | .jobDispatch at_ => Sys2Proof.Machine.execJobDispatch at_ s
  | .jobValidation j => Sys2Proof.Machine.execJobValidation j s
  | .jobComplete j => Sys2Proof.Machine.execJobComplete j s
  | .internalRequest pair => Sys2Proof.Machine.execInternalRequest pair s
  | .slotAbort j at_ => Sys2Proof.Machine.execSlotAbort j at_ s
  | .zeroiseDone j => Sys2Proof.Machine.execZeroiseDone j s
  | .coreSelftestDue c => Sys2Proof.Machine.execCoreSelftestDue c s
  | .bneSelftest c force at_ => Sys2Proof.Machine.execBneSelftest c force at_ s
  | .selftestPassDone c ok => Sys2Proof.Machine.execSelftestPassDone c ok s
  | .ledgerPeriod at_ => Sys2Proof.Machine.execLedgerPeriod at_ s
  | .issueNow at_ => Sys2Proof.Machine.execIssueNow at_ s
  | .recordIssue at_ => Sys2Proof.Machine.execRecordIssue at_ s
  | .bootTimeout => Sys2Proof.Machine.execBootTimeout s
  | .ledgerRingWrite => Sys2Proof.Machine.execLedgerRingWrite s
  | .linkBlockLock n => Sys2Proof.Machine.execLinkBlockLock n s
  | .linkPeerCheck n addr role => Sys2Proof.Machine.execLinkPeerCheck n addr role s
  | .linkLockLost n => Sys2Proof.Machine.execLinkLockLost n s
  | .linkEnable n en => Sys2Proof.Machine.execLinkEnable n en s
  | .timingBlockTx n mix at_ => Sys2Proof.Machine.execTimingBlockTx n mix at_ s
  | .timingBlockRx n mix b at_ => Sys2Proof.Machine.execTimingBlockRx n mix b at_ s
  | .linkSample n => Sys2Proof.Machine.execLinkSample n s
  | .linkReacceptRaw n => Sys2Proof.Machine.execLinkReacceptRaw n s
  | .linkReacceptHeld n => Sys2Proof.Machine.execLinkReacceptHeld n s
  | .controlFrame n first second at_ => Sys2Proof.Machine.execControlFrame n first second at_ s
  | .bcSend => Sys2Proof.Machine.execBcSend s
  | .bcPop => Sys2Proof.Machine.execBcPop s
  | .barrierArrive id => Sys2Proof.Machine.execBarrierArrive id s
  | .barrierTimeout => Sys2Proof.Machine.execBarrierTimeout s
  | .ttoIssue op kind scope at_ => Sys2Proof.Machine.execTtoIssue op kind scope at_ s
  | .ttoStrobe at_ => Sys2Proof.Machine.execTtoStrobe at_ s
  | .pairEnable en => Sys2Proof.Machine.execPairEnable en s
  | .keyMessage bytes => Sys2Proof.Machine.execKeyMessage bytes s
  | .rekey periodic => Sys2Proof.Machine.execRekey periodic s
  | .pairWaitExpiry => Sys2Proof.Machine.execPairWaitExpiry s
  | .heartbeatTx at_ => Sys2Proof.Machine.execHeartbeatTx at_ s
  | .heartbeatRx b tagOk at_ => Sys2Proof.Machine.execHeartbeatRx b tagOk at_ s
  | .heartbeatLoss => Sys2Proof.Machine.execHeartbeatLoss s
  | .partnerOkChange level cut at_ => Sys2Proof.Machine.execPartnerOkChange level cut at_ s
  | .activeNChange level => Sys2Proof.Machine.execActiveNChange level s
  | .promote force at_ => Sys2Proof.Machine.execPromote force at_ s
  | .partnerPromoted tagOk => Sys2Proof.Machine.execPartnerPromoted tagOk s
  | .handoverGapExpiry => Sys2Proof.Machine.execHandoverGapExpiry s
  | .demote => Sys2Proof.Machine.execDemote s
  | .repaired => Sys2Proof.Machine.execRepaired s
  | .pairCompare at_ => Sys2Proof.Machine.execPairCompare at_ s
  | .copyEpoch at_ => Sys2Proof.Machine.execCopyEpoch at_ s
  | .epochCommit e how => Sys2Proof.Machine.execEpochCommit e how s
  | .copyLate at_ => Sys2Proof.Machine.execCopyLate at_ s
  | .rehearsalDigest digest tagOk => Sys2Proof.Machine.execRehearsalDigest digest tagOk s
  | .digestTimeout own => Sys2Proof.Machine.execDigestTimeout own s
  | .hostStateAccess write v => Sys2Proof.Machine.execHostStateAccess write v s
  | .nvRead => Sys2Proof.Machine.execNvRead s
  | .nvProgram => Sys2Proof.Machine.execNvProgram s
  | .nvErase => Sys2Proof.Machine.execNvErase s
  | .nvCommandDone ok => Sys2Proof.Machine.execNvCommandDone ok s
  | .nvDataAccess write v => Sys2Proof.Machine.execNvDataAccess write v s
  | .check bank => Sys2Proof.Machine.execCheck bank s
  | .checkDone ok => Sys2Proof.Machine.execCheckDone ok s
  | .reload => Sys2Proof.Machine.execReload s
  | .programKey confirm => Sys2Proof.Machine.execProgramKey confirm s
  | .programSigReq confirm => Sys2Proof.Machine.execProgramSigReq confirm s
  | .clockAbsent k => Sys2Proof.Machine.execClockAbsent k s
  | .clockReturn k => Sys2Proof.Machine.execClockReturn k s
  | .resyncComplete k dropped flushed => Sys2Proof.Machine.execResyncComplete k dropped flushed s
  | .flitCrcError again => Sys2Proof.Machine.execFlitCrcError again s
  | .retrain => Sys2Proof.Machine.execRetrain s
  | .retrainDone => Sys2Proof.Machine.execRetrainDone s
  | .d2dFault => Sys2Proof.Machine.execD2dFault s
  | .scrubPass read errors at_ => Sys2Proof.Machine.execScrubPass read errors at_ s
  | .scrubNow => Sys2Proof.Machine.execScrubNow s
  | .outputCal out delay at_ => Sys2Proof.Machine.execOutputCal out delay at_ s
  | .linkCal link tx rx => Sys2Proof.Machine.execLinkCal link tx rx s
  | .telemetryRead temps rails => Sys2Proof.Machine.execTelemetryRead temps rails s
  | .watchdogExpiry => Sys2Proof.Machine.execWatchdogExpiry s
  | .hostWatchdogExpiry at_ => Sys2Proof.Machine.execHostWatchdogExpiry at_ s
  | .wdKick at_ => Sys2Proof.Machine.execWdKick at_ s
  | .checkpointPeriodic at_ => Sys2Proof.Machine.execCheckpointPeriodic at_ s
  | .ckptNow at_ => Sys2Proof.Machine.execCkptNow at_ s
  | .checkpointRequest at_ => Sys2Proof.Machine.execCheckpointRequest at_ s
  | .checkpointConfigWrite v => Sys2Proof.Machine.execCheckpointConfigWrite v s
  | .checkpointCommit ok at_ => Sys2Proof.Machine.execCheckpointCommit ok at_ s
  | .checkpointLate at_ => Sys2Proof.Machine.execCheckpointLate at_ s
  | .eraseAhead => Sys2Proof.Machine.execEraseAhead s
  | .conSelftest target force => Sys2Proof.Machine.execConSelftest target force s
  | .conSelftestDone errors => Sys2Proof.Machine.execConSelftestDone errors s
  | .vitTrig at_ => Sys2Proof.Machine.execVitTrig at_ s
  | .vitPinEdge pin rising at_ => Sys2Proof.Machine.execVitPinEdge pin rising at_ s
  | .armTod at_ => Sys2Proof.Machine.execArmTod at_ s
  | .disarmTod => Sys2Proof.Machine.execDisarmTod s
  | .todMatch at_ => Sys2Proof.Machine.execTodMatch at_ s
  | .vitRelease => Sys2Proof.Machine.execVitRelease s
  | .irqEoi v => Sys2Proof.Machine.execIrqEoi v s
  | .irqTest src => Sys2Proof.Machine.execIrqTest src s
  | .qTailWrite q v => Sys2Proof.Machine.execQTailWrite q v s
  | .queueEnable q en => Sys2Proof.Machine.execQueueEnable q en s
  | .descriptorFetch q bytes => Sys2Proof.Machine.execDescriptorFetch q bytes s
  | .txDescriptor port frame => Sys2Proof.Machine.execTxDescriptor port frame s
  | .captureCopy => Sys2Proof.Machine.execCaptureCopy s
  | .writeBack q => Sys2Proof.Machine.execWriteBack q s
  | .queueTimer q => Sys2Proof.Machine.execQueueTimer q s
  | .dmaError q => Sys2Proof.Machine.execDmaError q s
  | .vbReadIndex ix => Sys2Proof.Machine.execVbReadIndex ix s
  | .vbLookup v6 => Sys2Proof.Machine.execVbLookup v6 s
  | .internalRequestDone => Sys2Proof.Machine.execInternalRequestDone s
  | .keyRetry => Sys2Proof.Machine.execKeyRetry s
  | .epochAck num tagOk => Sys2Proof.Machine.execEpochAck num tagOk s
  | .liveLoadDone answersA answersB => Sys2Proof.Machine.execLiveLoadDone answersA answersB s
  | .eraseDone at_ => Sys2Proof.Machine.execEraseDone at_ s
  | .windowAccess write ofs v => Sys2Proof.Machine.execWindowAccess write ofs v s
  | .vectorUnmask v => Sys2Proof.Machine.execVectorUnmask v s

end Sys2Proof.Machine
end

