-- ==== Sys2Proof/Safety.lean ====
section
/-! DEFINITION. What every state of the machine keeps, and what a command that changes only some parts of the state leaves. -/

namespace Sys2Proof.Machine

/-- The parts of the state beside the register file, the queue and the model's own two fields. -/
inductive Part where
  | nv | slots | bar2 | sys | tb | evt | rgs | loops | ens | out | gnss | mac | ans | nts | ptp | bne | prov | lnk | pair | hif | con | cat | vit
deriving DecidableEq, Repr

/-- A part holds the same in two states. -/
def Part.same (s t : State) : Part → Prop
  | .nv => t.nv = s.nv
  | .slots => t.slots = s.slots
  | .bar2 => t.bar2 = s.bar2
  | .sys => t.sys = s.sys
  | .tb => t.tb = s.tb
  | .evt => t.evt = s.evt
  | .rgs => t.rgs = s.rgs
  | .loops => t.loops = s.loops
  | .ens => t.ens = s.ens
  | .out => t.out = s.out
  | .gnss => t.gnss = s.gnss
  | .mac => t.mac = s.mac
  | .ans => t.ans = s.ans
  | .nts => t.nts = s.nts
  | .ptp => t.ptp = s.ptp
  | .bne => t.bne = s.bne
  | .prov => t.prov = s.prov
  | .lnk => t.lnk = s.lnk
  | .pair => t.pair = s.pair
  | .hif => t.hif = s.hif
  | .con => t.con = s.con
  | .cat => t.cat = s.cat
  | .vit => t.vit = s.vit

/-- The queue and every part outside a list hold the same in two states. -/
def OnlyParts (ps : List Part) (s t : State) : Prop := t.pending = s.pending ∧ ∀ p, p ∉ ps → p.same s t

/-- A register outside the IRQ block and its MSI-X table (R378, R380, R383). -/
def offIrq (o : Nat) : Prop := o < 0x30000 ∨ 0x40000 ≤ o

/-- Two fields that share no bit. -/
def Fld.apart (f g : Fld) : Prop := f.ofs ≠ g.ofs ∨ f.lo + f.width ≤ g.lo ∨ g.lo + g.width ≤ f.lo

/-- Every field that shares no bit with the listed ones, a whole register among them, holds the same in two states. -/
def SameFields (fs : List Fld) (s t : State) : Prop := ∀ g : Fld, (∀ f ∈ fs, g.apart f) → t.get g = s.get g

/-- The same, apart from the IRQ block's own registers, for a command that may raise an interrupt. -/
def SameOffIrq (fs : List Fld) (s t : State) : Prop :=
  ∀ g : Fld, offIrq g.ofs → (∀ f ∈ fs, g.apart f) → t.get g = s.get g

/-- The same, apart from a range of offsets, a block's register page, too. -/
def SameOffRange (lo hi : Nat) (fs : List Fld) (s t : State) : Prop :=
  ∀ g : Fld, offIrq g.ofs → (g.ofs < lo ∨ hi ≤ g.ofs) → (∀ f ∈ fs, g.apart f) → t.get g = s.get g

/-- The raw bit of an interrupt source is set (R378). -/
def Raised (src : Nat) (t : State) : Prop := t.get ⟨IRQ_RAW.ofs (src / 32), src % 32, 1⟩ = 1

/-- A whole register as a field. -/
def whole (ofs : Nat) : Fld := ⟨ofs, 0, 32⟩

/-- The two registers of a pair whose NAME_LO lies at an offset (R11). -/
def pairOf (ofs : Nat) : List Fld := [whole ofs, whole (ofs + 4)]

/-- Of the ledger only CFG_WRITES may have moved, by one, saturating (R284). -/
def CfgWrites (s t : State) : Prop :=
  t.prov = s.prov ∨ t.prov = { s.prov with cfgWrites := min (s.prov.cfgWrites + 1) (2 ^ 32 - 1) }

/-- The 24 replicas of the timebase are all there (R66). -/
def TbState.Full (x : TbState) : Prop := x.replicas.length = 24

/-- The 128 channels (R80) and 8 banks (R24) of the event timer are all there. -/
def EvtState.Full (x : EvtState) : Prop := x.chans.length = 128 ∧ x.banks.length = 8

/-- The 64 slots of the Registrar (R92) are all there, and the alignment timers of the 24 loops (R114). -/
def RgsState.Full (x : RgsState) : Prop := x.slots.length = 64 ∧ x.alignEnd.length = 24

/-- The 32 members of the ensemble are all there (R129). -/
def EnsState.Full (x : EnsState) : Prop := x.members.length = 32

/-- The 16 outputs and 32 triggers are all there (R40). -/
def OutState.Full (x : OutState) : Prop := x.outs.length = 16 ∧ x.trgs.length = 32

/-- The 256 tracking channels (R163), 4 sample ports and 4 solutions are all there (R40). -/
def GnssState.Full (x : GnssState) : Prop := x.tks.length = 256 ∧ x.ports.length = 4 ∧ x.sols.length = 4

/-- The 4 answer pipelines are all there (R40). -/
def AnsState.Full (x : AnsState) : Prop := x.pipes.length = 4

/-- The 16 PTP instances are all there (R239). -/
def PtpState.Full (x : PtpState) : Prop := x.insts.length = 16

/-- The 16 slots of the big-number engine are all there (R257). -/
def BneState.Full (x : BneState) : Prop := x.slots.length = 16

/-- The 8 Ehrea links are all there (R40). -/
def LnkState.Full (x : LnkState) : Prop := x.links.length = 8

/-- The 32 queues of the host interface are all there (R384). -/
def HifState.Full (x : HifState) : Prop := x.queues.length = 32

/-- The Conservator holds a delay for each of the 16 outputs and 8 links (R361). -/
def ConState.Full (x : ConState) : Prop := x.outDelays.length = 16 ∧ x.linkDelays.length = 8

/-- The form that every state keeps: the register file's tables and the four memories are canonical, and the blocks that come
in a fixed number are all there. -/
structure State.Wf (s : State) : Prop where
  /-- The register file lists each register once, in rising order. -/
  vals : keysAbove none s.rf.vals = true
  /-- So does the staging of the low halves (R13). -/
  staged : keysAbove none s.rf.staged = true
  /-- The NV memory is canonical (R327). -/
  nv : Memory.wf nvErased s.nv = true
  /-- BAR2 memory is canonical (R279, R382). -/
  bar2 : Memory.wf bar2Zero s.bar2 = true
  /-- The host state area of the pair is canonical (R324). -/
  host : Memory.wf 0 s.pair.host = true
  /-- So is that of the last committed epoch (R324). -/
  copy : ∀ e, s.pair.committed = some e → Memory.wf 0 e.host = true
  /-- There are 24 loops (R114). -/
  loops : s.loops.length = 24
  /-- There are 8 ports (R40). -/
  mac : s.mac.length = 8
  /-- There are two checkpoint slots (R366). -/
  slots : s.slots.length = 2
  /-- The instances of the timebase are all there. -/
  tb : s.tb.Full
  /-- The instances of the event timer are all there. -/
  evt : s.evt.Full
  /-- The instances of the Registrar are all there. -/
  rgs : s.rgs.Full
  /-- The instances of the ensemble are all there. -/
  ens : s.ens.Full
  /-- The instances of the outputs are all there. -/
  out : s.out.Full
  /-- The instances of the GNSS baseband are all there. -/
  gnss : s.gnss.Full
  /-- The instances of the answer pipelines are all there. -/
  ans : s.ans.Full
  /-- The instances of the PTP block are all there. -/
  ptp : s.ptp.Full
  /-- The instances of the big-number engine are all there. -/
  bne : s.bne.Full
  /-- The instances of the links are all there. -/
  lnk : s.lnk.Full
  /-- The instances of the host interface are all there. -/
  hif : s.hif.Full
  /-- The instances of the Conservator are all there. -/
  con : s.con.Full

/-- Every part. -/
def Part.all : List Part :=
  [.nv, .slots, .bar2, .sys, .tb, .evt, .rgs, .loops, .ens, .out, .gnss, .mac, .ans, .nts, .ptp, .bne, .prov, .lnk, .pair, .hif, .con, .cat, .vit]

end Sys2Proof.Machine

namespace Sys2Proof

open Machine (Part)

/-- The parts of the state that a command may change beside the registers: the blocks its rules name, and those that what it
raises reaches (a frame, an answer, a ledger record, an interrupt, a compared pair state). -/
def Instr.parts : Instr → List Part
  | .readLo _ _ => [.sys, .mac, .lnk, .pair, .cat]
  | .writeLo _ _ => Part.all
  | .writeHi _ _ _ => Part.all
  | .rcRead _ _ => [.sys, .mac, .lnk, .pair, .cat]
  | .registerWrite _ _ _ => Part.all
  | .unmappedAccess _ _ => [.sys]
  | .accessBad _ => [.sys]
  | .por _ _ _ => [.nv, .bar2, .sys, .tb, .evt, .rgs, .loops, .ens, .out, .gnss, .mac, .ans, .nts, .ptp, .bne, .prov, .lnk, .pair, .hif, .con, .cat, .vit]
  | .perst _ => [.sys, .hif]
  | .softReset _ => [.nv, .bar2, .sys, .tb, .evt, .rgs, .loops, .ens, .out, .gnss, .mac, .ans, .nts, .ptp, .bne, .prov, .lnk, .pair, .hif, .con, .cat, .vit]
  | .blkReset _ _ => [.bar2, .sys, .tb, .evt, .rgs, .loops, .ens, .out, .gnss, .mac, .ans, .ptp, .bne, .prov, .lnk, .pair, .hif, .vit]
  | .instReset _ _ _ => [.bar2, .sys, .tb, .evt, .rgs, .loops, .ens, .out, .gnss, .mac, .ans, .ptp, .bne, .prov, .lnk, .pair, .hif]
  | .blkResetDone => [.bar2, .sys, .tb, .rgs, .loops, .ens, .out, .mac, .ans, .ptp, .bne, .lnk, .pair]
  | .pivotFault => [.slots, .sys, .tb, .out, .pair, .con]
  | .pivotRecovered => [.nv, .bar2, .sys, .tb, .evt, .rgs, .loops, .ens, .out, .gnss, .mac, .ans, .nts, .ptp, .bne, .prov, .lnk, .pair, .hif, .con, .cat, .vit]
  | .pivotStable => [.sys]
  | .pivotLostAtStart => [.sys]
  | .pllLocked => []
  | .factoryApplied => []
  | .imageSelected _ _ => [.tb, .prov]
  | .warmupDone => []
  | .restoreDone _ => [.bar2, .sys, .tb, .rgs, .loops, .ens, .out, .mac, .ans, .nts, .ptp, .bne, .prov, .lnk, .pair, .con]
  | .timeCapture _ => [.sys, .mac, .lnk, .pair, .cat]
  | .modelTick => [.tb, .mac]
  | .tempExtWrite _ => [.prov]
  | .tempStale => []
  | .utcOfsWrite _ => [.prov]
  | .utcOfsInForce => [.tb]
  | .leapArm _ _ => [.tb, .prov]
  | .leapDisarm _ => [.tb, .prov]
  | .leapWarning _ => [.tb]
  | .leapInsertedSecond _ => [.tb]
  | .leapDone _ => [.tb]
  | .ownerUpdate _ _ => [.tb]
  | .verifyReport _ _ => [.tb]
  | .standingReportLapse _ => [.tb]
  | .stepAuth _ _ => [.tb, .prov]
  | .stepReject _ => [.tb, .prov]
  | .preauthArm => [.prov]
  | .preauthCancel => [.prov]
  | .setGo _ => [.tb, .prov]
  | .stepApply => [.nv, .bar2, .sys, .tb, .evt, .rgs, .loops, .ens, .out, .gnss, .mac, .ans, .nts, .ptp, .bne, .prov, .lnk, .pair, .hif, .con, .cat, .vit]
  | .declareVerified => [.tb, .prov]
  | .withdrawVerified => [.prov]
  | .replicaCompare _ _ => [.tb]
  | .replicaStep _ => [.tb]
  | .edge _ _ _ => [.sys, .evt, .rgs, .ens, .out, .pair]
  | .pairExpiry _ _ => [.evt]
  | .pairConfigWrite _ _ _ => [.evt, .prov]
  | .frontEndWrite _ _ _ => [.sys, .prov]
  | .settlingDone _ => []
  | .recordCommit _ => [.sys, .evt, .hif]
  | .commitLate _ _ => [.con]
  | .slotInstant _ => []
  | .reliefPassDone _ _ _ _ _ => [.sys, .evt, .con]
  | .handoverSwitch _ => [.evt]
  | .channelPassDone _ _ _ _ _ => [.sys, .evt, .con]
  | .calRequest _ _ _ => [.sys, .evt, .prov]
  | .calRetry _ => [.sys, .evt, .prov]
  | .calAgeExpiry _ _ => [.evt]
  | .pfailLow _ => [.nv, .slots, .bar2, .sys, .evt, .gnss, .bne, .prov, .hif, .con, .cat]
  | .pfailHigh _ => [.slots, .sys, .evt, .con]
  | .evaluationCycle => [.tb, .rgs, .loops]
  | .referenceSample _ _ _ => [.rgs]
  | .ledgerLine _ _ _ _ => [.rgs]
  | .ledgerLineTimeout _ => [.rgs]
  | .pulseAbsent _ => [.rgs]
  | .holdoffExpiry _ => [.tb, .rgs]
  | .qualTimerDone _ => [.tb, .rgs]
  | .wtrExpiry _ => [.tb, .rgs]
  | .slotEnable _ _ => [.tb, .rgs, .prov]
  | .wtrClear _ => [.tb, .rgs, .prov]
  | .disputeClear _ => [.tb, .rgs, .prov]
  | .alignTimer _ => []
  | .disputeCheck => [.tb, .rgs, .loops]
  | .loopEpoch _ _ _ => [.tb, .loops, .ens, .out]
  | .loopDeadlineMiss _ _ => [.con]
  | .loopAuth _ _ _ => [.loops, .prov]
  | .loopAlign _ _ _ => [.loops, .prov]
  | .loopReject _ _ _ => [.loops, .prov]
  | .loopEnable _ _ => [.loops, .prov]
  | .openChange _ _ => [.loops, .prov]
  | .numPhWrite _ _ _ => [.loops, .prov]
  | .ensembleEpoch _ => [.tb, .loops, .ens]
  | .epochLate _ => [.ens, .con]
  | .memberEnable _ _ => [.ens, .prov]
  | .memberRetry _ => [.ens, .prov]
  | .memberSuspend _ => [.ens, .prov]
  | .manPhWrite _ => [.ens, .prov]
  | .outputConfigWrite _ _ _ => [.sys, .out, .prov]
  | .outputOffsetWrite _ _ _ => [.sys, .out, .prov]
  | .outputMute _ => [.out]
  | .outputUnmute _ => []
  | .realign _ => [.prov]
  | .triggerArm _ _ => [.out, .prov]
  | .triggerDisarm _ => [.out, .prov]
  | .triggerInstant _ => [.out]
  | .sampleClockCompare _ _ _ => [.sys, .gnss]
  | .gnssClockFault _ => [.gnss]
  | .gnssClockOk _ => []
  | .trackAllocation _ => [.gnss]
  | .trackPin _ _ => [.gnss, .prov]
  | .trackRelease _ => [.gnss, .prov]
  | .signalFound _ => []
  | .acquisitionTimeout _ => [.gnss]
  | .pullinLock _ => [.gnss]
  | .pullinTimeout _ => []
  | .trackLoss _ => []
  | .reacqLock _ => [.gnss]
  | .reacqTimeout _ => [.gnss]
  | .satelliteSet _ => [.gnss]
  | .integration _ _ => [.gnss]
  | .integrationLate _ _ => [.gnss, .con]
  | .observableEpoch _ => [.sys, .gnss, .hif]
  | .solutionEpoch _ _ _ _ _ => [.rgs, .gnss]
  | .surveyDone _ => []
  | .positionCommit _ _ => [.prov]
  | .resurvey _ => [.gnss, .prov]
  | .fitReset _ => [.gnss, .prov]
  | .goNow _ => [.gnss, .prov]
  | .goAt _ => [.gnss, .prov]
  | .snapshotStart _ => [.gnss]
  | .snapshotAbort => [.bar2, .gnss, .prov]
  | .snapshotDone => [.bar2, .gnss]
  | .ethLinkUp _ _ _ => [.tb]
  | .ethLinkDown _ => [.tb, .mac]
  | .frameRx _ _ _ => [.sys, .ans, .ptp, .pair, .hif]
  | .esmcPduRx _ _ => []
  | .esmcTimeout _ => []
  | .esmcInfoTx _ => [.mac]
  | .esmcEventTx _ => [.mac]
  | .pauseRx _ _ _ _ => [.mac]
  | .pauseEnd _ _ => []
  | .reserve _ _ => [.mac, .ans, .ptp, .pair, .con]
  | .answerBuilt _ _ _ => [.mac, .ans, .ptp, .con]
  | .departure _ => [.sys, .mac, .ptp, .pair, .con]
  | .unscheduledTx _ _ _ => [.sys, .mac, .pair]
  | .tsqPop _ => [.sys, .mac]
  | .gateEntry _ _ => []
  | .gateEnable _ _ _ => [.mac, .prov]
  | .gateChange _ _ => [.mac, .prov]
  | .gateChangeTime _ => [.mac]
  | .ruleCommit _ => [.ans, .prov]
  | .bankSwap _ => [.ans]
  | .bankCopyDone _ => []
  | .addressCommit _ _ _ => [.ans, .prov]
  | .pipelineDisable _ => [.mac, .ans, .prov, .pair]
  | .vbSweep _ => [.ans]
  | .vbClear => [.ans, .prov]
  | .vbClearDone => []
  | .ntsPhase1 _ => [.mac, .ans, .pair]
  | .ntsPhase2 _ _ => [.mac, .ans, .ptp, .pair, .con]
  | .ntsEnable => [.nts, .con]
  | .rotationDue => [.nts, .con]
  | .rotate => [.nts, .prov, .con]
  | .rotationTimeout => [.nts]
  | .zeroise _ => [.nts, .prov, .con]
  | .ntsSelftest _ _ => [.prov]
  | .ntsSelftestDone _ _ => [.ans]
  | .mintJob => [.sys, .ans, .nts, .hif]
  | .mintCompletion => [.sys, .nts, .hif]
  | .syncInstant _ _ _ _ => [.mac, .ptp, .con]
  | .followUp _ => [.mac, .ptp]
  | .tsqTimeout _ => [.ptp]
  | .announceTx _ _ _ => [.mac, .ptp]
  | .delayReq _ _ _ => [.mac, .ptp]
  | .unicastRequest _ _ _ _ _ _ => [.mac, .ptp]
  | .unicastCancel _ _ _ => [.mac, .ptp]
  | .grantExpiry _ => [.ptp]
  | .announceRx _ _ _ _ => [.ptp]
  | .announceTimeout _ => [.rgs, .ptp]
  | .grantRenew _ _ => [.mac, .ptp]
  | .syncRx _ _ _ _ _ _ => [.ptp]
  | .delayReqInstant _ _ _ => [.mac, .ptp, .con]
  | .delayRespRx _ _ _ _ => [.ptp]
  | .clientSample _ => [.tb, .rgs, .ptp]
  | .exchangeTimeout _ => [.rgs]
  | .ptpReacceptRaw _ => [.tb, .rgs, .ptp, .prov]
  | .ptpReacceptHeld _ => [.tb, .rgs, .ptp, .prov]
  | .ptpInstanceEnable _ _ => [.rgs, .mac, .ptp, .prov]
  | .jobDescriptor => [.sys, .bne, .hif]
  | .jobDispatch _ => [.sys, .bne, .hif]
  | .jobValidation _ => [.sys, .bne, .hif]
  | .jobComplete _ => [.bar2, .sys, .bne, .hif]
  | .internalRequest _ => [.bne]
  | .slotAbort _ _ => [.bar2, .sys, .bne, .prov, .hif]
  | .zeroiseDone _ => [.bar2, .sys, .bne, .hif]
  | .coreSelftestDue _ => [.bne]
  | .bneSelftest _ _ _ => [.bne, .prov]
  | .selftestPassDone _ _ => [.sys, .bne, .hif]
  | .ledgerPeriod _ => [.prov]
  | .issueNow _ => [.prov]
  | .recordIssue _ => [.bne, .prov]
  | .bootTimeout => [.con]
  | .ledgerRingWrite => [.sys, .prov, .hif]
  | .linkBlockLock _ => [.sys, .tb, .rgs, .lnk]
  | .linkPeerCheck _ _ _ => [.sys, .rgs, .lnk]
  | .linkLockLost _ => [.sys, .tb, .rgs, .lnk]
  | .linkEnable _ _ => [.sys, .tb, .rgs, .prov, .lnk]
  | .timingBlockTx _ _ _ => [.sys, .lnk]
  | .timingBlockRx _ _ _ _ => [.sys, .tb, .rgs, .lnk]
  | .linkSample _ => [.tb, .rgs, .lnk]
  | .linkReacceptRaw _ => [.tb, .rgs, .prov, .lnk]
  | .linkReacceptHeld _ => [.tb, .rgs, .prov, .lnk]
  | .controlFrame _ _ _ _ => [.sys, .lnk]
  | .bcSend => [.sys, .prov, .lnk]
  | .bcPop => [.sys, .lnk]
  | .barrierArrive _ => [.sys, .prov, .lnk]
  | .barrierTimeout => [.sys, .lnk]
  | .ttoIssue _ _ _ _ => [.sys, .prov, .lnk]
  | .ttoStrobe _ => [.nv, .bar2, .sys, .tb, .evt, .rgs, .loops, .ens, .out, .gnss, .mac, .ans, .nts, .ptp, .bne, .prov, .lnk, .pair, .hif, .con, .cat, .vit]
  | .pairEnable _ => [.bne, .prov, .pair]
  | .keyMessage _ => [.bne, .pair]
  | .rekey _ => [.bne, .prov, .pair]
  | .pairWaitExpiry => []
  | .heartbeatTx _ => []
  | .heartbeatRx _ _ _ => [.nts, .pair, .con]
  | .heartbeatLoss => [.pair]
  | .partnerOkChange _ _ _ => [.sys, .nts, .pair, .con]
  | .activeNChange _ => [.sys]
  | .promote _ _ => [.nts, .prov, .pair, .con]
  | .partnerPromoted _ => [.pair]
  | .handoverGapExpiry => [.pair]
  | .demote => [.prov, .pair]
  | .repaired => [.bne, .prov, .pair]
  | .pairCompare _ => [.nts, .pair, .con]
  | .copyEpoch _ => [.pair]
  | .epochCommit _ _ => [.nts, .pair]
  | .copyLate _ => [.con]
  | .rehearsalDigest _ _ => [.pair]
  | .digestTimeout _ => [.pair]
  | .hostStateAccess _ _ => [.sys, .prov, .pair]
  | .nvRead => [.sys, .cat]
  | .nvProgram => [.sys, .cat]
  | .nvErase => [.sys, .cat]
  | .nvCommandDone _ => [.nv, .cat]
  | .nvDataAccess _ _ => [.sys, .prov, .cat]
  | .check _ => [.cat]
  | .checkDone _ => [.cat]
  | .reload => []
  | .programKey _ => [.sys]
  | .programSigReq _ => [.sys]
  | .clockAbsent _ => [.sys, .tb]
  | .clockReturn _ => [.sys]
  | .resyncComplete _ _ _ => [.sys, .tb]
  | .flitCrcError _ => [.sys, .out]
  | .retrain => [.sys, .out]
  | .retrainDone => [.evt, .rgs, .ens, .out, .pair]
  | .d2dFault => [.nv, .bar2, .sys, .tb, .evt, .rgs, .loops, .ens, .out, .gnss, .mac, .ans, .nts, .ptp, .bne, .prov, .lnk, .pair, .hif, .con, .cat, .vit]
  | .scrubPass _ _ _ => [.slots, .evt, .mac, .ans, .ptp, .bne, .pair, .hif, .con]
  | .scrubNow => [.con]
  | .outputCal _ _ _ => [.con]
  | .linkCal _ _ _ => [.con]
  | .telemetryRead _ _ => []
  | .watchdogExpiry => [.nv, .bar2, .sys, .tb, .evt, .rgs, .loops, .ens, .out, .gnss, .mac, .ans, .nts, .ptp, .bne, .prov, .lnk, .pair, .hif, .con, .cat, .vit]
  | .hostWatchdogExpiry _ => [.nv, .bar2, .sys, .tb, .evt, .rgs, .loops, .ens, .out, .gnss, .mac, .ans, .nts, .ptp, .bne, .prov, .lnk, .pair, .hif, .con, .cat, .vit]
  | .wdKick _ => [.con]
  | .checkpointPeriodic _ => [.slots, .con]
  | .ckptNow _ => [.slots, .con]
  | .checkpointRequest _ => [.slots, .con]
  | .checkpointConfigWrite _ => [.prov]
  | .checkpointCommit _ _ => [.slots, .nts, .prov, .pair, .con]
  | .checkpointLate _ => [.con]
  | .eraseAhead => [.con]
  | .conSelftest _ _ => [.sys, .tb, .rgs, .mac, .lnk, .con]
  | .conSelftestDone _ => [.con]
  | .vitTrig _ => [.prov, .vit]
  | .vitPinEdge _ _ _ => [.sys, .vit]
  | .armTod _ => [.prov, .vit]
  | .disarmTod => [.prov, .vit]
  | .todMatch _ => [.vit]
  | .vitRelease => [.prov, .vit]
  | .irqEoi _ => [.prov]
  | .irqTest _ => [.prov]
  | .qTailWrite _ _ => [.prov]
  | .queueEnable _ _ => [.prov]
  | .descriptorFetch _ _ => [.hif]
  | .txDescriptor _ _ => [.mac, .hif]
  | .captureCopy => [.sys, .hif]
  | .writeBack _ => [.sys]
  | .queueTimer _ => [.hif]
  | .dmaError _ => [.hif]
  | .vbReadIndex _ => [.prov]
  | .vbLookup _ => [.prov]
  | .internalRequestDone => [.bne, .pair]
  | .keyRetry => [.bne, .pair]
  | .epochAck _ _ => [.nts, .pair]
  | .liveLoadDone _ _ => [.bar2, .sys, .tb, .evt, .rgs, .loops, .ens, .out, .gnss, .mac, .ans, .nts, .ptp, .bne, .prov, .lnk, .pair, .hif, .vit]
  | .eraseDone _ => [.slots, .con]
  | .windowAccess _ _ _ => [.bar2, .sys]
  | .vectorUnmask _ => [.prov]

end Sys2Proof
end

