-- ==== Sys2Proof/WellFormed.lean ====
section
/-! DEFINITION. Which commands are well formed: the operands that an access, a frame or a reading of the sensors can carry. -/

namespace Sys2Proof

open Sys2Proof.Machine

/-- A register's offset: word-aligned and inside the 64 MiB of BAR0 (00_scope.md; 21_host_interface.md, "The PCIe function"). -/
def bar0Ok (ofs : Nat) : Bool := decide (ofs < 2 ^ 26) && ofs % 4 == 0

/-- A word of BAR2: word-aligned and inside its 32 MiB (21_host_interface.md, "The PCIe function"). -/
def bar2Ok (ofs : Nat) : Bool := decide (ofs < 2 ^ 25) && ofs % 4 == 0

/-- A reading of a link's mixer lies inside one cycle of 6.4 ns, in steps of 0.6 ps (R298, R346). -/
def mixerOk (mix : Nat) : Bool := decide (6 * mix < 64000)

/-- An instant of a command lies inside one model tick (R46; assumption 2). -/
def momentOk (at_ : Nat) : Bool := decide (at_ < tickUnits)

/-- An Ethernet frame without its FCS holds its two addresses and its EtherType. -/
def frameOk (bytes : List Byte) : Bool := decide (14 ≤ bytes.length)

/-- The size of a descriptor of a down queue: 64 bytes for a job, 96 for a mint job, 32 for the others (R384). -/
def descOk (q : Fin 32) (bytes : List Byte) : Bool := bytes.length == (if q.val = 28 then 64 else if q.val = 29 then 96 else 32)

/-- A PTP message's addresses: a MAC address, and an IPv4 or IPv6 address or none. -/
def PtpMsg.wf (m : PtpMsg) : Bool := m.mac.length == 6 && (m.ip.length == 0 || m.ip.length == 4 || m.ip.length == 16)

/-- Whether a command is well formed. -/
def Instr.wf : Instr → Bool
  | .readLo ofs at_ => bar0Ok ofs && momentOk at_
  | .writeLo ofs _ => bar0Ok ofs
  | .writeHi ofs _ at_ => bar0Ok ofs && momentOk at_
  | .rcRead ofs at_ => bar0Ok ofs && momentOk at_
  | .registerWrite ofs _ at_ => bar0Ok ofs && momentOk at_
  | .unmappedAccess ofs _ => bar0Ok ofs
  | .accessBad _ => true
  | .por _ _ _ => true
  | .perst _ => true
  | .softReset _ => true
  | .blkReset _ at_ => momentOk at_
  | .instReset _ _ at_ => momentOk at_
  | .blkResetDone => true
  | .pivotFault => true
  | .pivotRecovered => true
  | .pivotStable => true
  | .pivotLostAtStart => true
  | .pllLocked => true
  | .factoryApplied => true
  | .imageSelected _ _ => true
  | .warmupDone => true
  | .restoreDone _ => true
  | .timeCapture at_ => momentOk at_
  | .modelTick => true
  | .tempExtWrite _ => true
  | .tempStale => true
  | .utcOfsWrite _ => true
  | .utcOfsInForce => true
  | .leapArm _ at_ => momentOk at_
  | .leapDisarm at_ => momentOk at_
  | .leapWarning at_ => momentOk at_
  | .leapInsertedSecond at_ => momentOk at_
  | .leapDone at_ => momentOk at_
  | .ownerUpdate _ _ => true
  | .verifyReport _ _ => true
  | .standingReportLapse _ => true
  | .stepAuth _ at_ => momentOk at_
  | .stepReject _ => true
  | .preauthArm => true
  | .preauthCancel => true
  | .setGo at_ => momentOk at_
  | .stepApply => true
  | .declareVerified => true
  | .withdrawVerified => true
  | .replicaCompare _ _ => true
  | .replicaStep _ => true
  | .edge _ _ at_ => momentOk at_
  | .pairExpiry _ at_ => momentOk at_
  | .pairConfigWrite _ _ _ => true
  | .frontEndWrite _ _ _ => true
  | .settlingDone _ => true
  | .recordCommit _ => true
  | .commitLate _ at_ => momentOk at_
  | .slotInstant _ => true
  | .reliefPassDone _ _ _ _ at_ => momentOk at_
  | .handoverSwitch _ => true
  | .channelPassDone _ _ _ _ at_ => momentOk at_
  | .calRequest _ _ _ => true
  | .calRetry _ => true
  | .calAgeExpiry _ _ => true
  | .pfailLow at_ => momentOk at_
  | .pfailHigh at_ => momentOk at_
  | .evaluationCycle => true
  | .referenceSample _ _ at_ => momentOk at_
  | .ledgerLine _ _ _ at_ => momentOk at_
  | .ledgerLineTimeout _ => true
  | .pulseAbsent _ => true
  | .holdoffExpiry _ => true
  | .qualTimerDone _ => true
  | .wtrExpiry _ => true
  | .slotEnable _ _ => true
  | .wtrClear _ => true
  | .disputeClear _ => true
  | .alignTimer _ => true
  | .disputeCheck => true
  | .loopEpoch _ _ at_ => momentOk at_
  | .loopDeadlineMiss _ at_ => momentOk at_
  | .loopAuth _ _ at_ => momentOk at_
  | .loopAlign _ _ at_ => momentOk at_
  | .loopReject _ _ at_ => momentOk at_
  | .loopEnable _ _ => true
  | .openChange _ _ => true
  | .numPhWrite _ _ at_ => momentOk at_
  | .ensembleEpoch at_ => momentOk at_
  | .epochLate at_ => momentOk at_
  | .memberEnable _ _ => true
  | .memberRetry _ => true
  | .memberSuspend _ => true
  | .manPhWrite _ => true
  | .outputConfigWrite _ _ _ => true
  | .outputOffsetWrite _ _ at_ => momentOk at_
  | .outputMute _ => true
  | .outputUnmute _ => true
  | .realign _ => true
  | .triggerArm _ at_ => momentOk at_
  | .triggerDisarm _ => true
  | .triggerInstant _ => true
  | .sampleClockCompare _ _ at_ => momentOk at_
  | .gnssClockFault _ => true
  | .gnssClockOk _ => true
  | .trackAllocation _ => true
  | .trackPin _ _ => true
  | .trackRelease _ => true
  | .signalFound _ => true
  | .acquisitionTimeout _ => true
  | .pullinLock _ => true
  | .pullinTimeout _ => true
  | .trackLoss _ => true
  | .reacqLock _ => true
  | .reacqTimeout _ => true
  | .satelliteSet _ => true
  | .integration _ _ => true
  | .integrationLate _ at_ => momentOk at_
  | .observableEpoch at_ => momentOk at_
  | .solutionEpoch _ _ _ _ at_ => momentOk at_
  | .surveyDone _ => true
  | .positionCommit _ _ => true
  | .resurvey _ => true
  | .fitReset _ => true
  | .goNow at_ => momentOk at_
  | .goAt at_ => momentOk at_
  | .snapshotStart at_ => momentOk at_
  | .snapshotAbort => true
  | .snapshotDone => true
  | .ethLinkUp _ _ _ => true
  | .ethLinkDown _ => true
  | .frameRx _ bytes at_ => frameOk bytes && momentOk at_
  | .esmcPduRx _ _ => true
  | .esmcTimeout _ => true
  | .esmcInfoTx _ => true
  | .esmcEventTx _ => true
  | .pauseRx _ _ _ at_ => momentOk at_
  | .pauseEnd _ at_ => momentOk at_
  | .reserve _ _ => true
  | .answerBuilt _ _ at_ => momentOk at_
  | .departure _ => true
  | .unscheduledTx _ _ at_ => momentOk at_
  | .tsqPop _ => true
  | .gateEntry _ at_ => momentOk at_
  | .gateEnable _ _ at_ => momentOk at_
  | .gateChange _ at_ => momentOk at_
  | .gateChangeTime _ => true
  | .ruleCommit _ => true
  | .bankSwap _ => true
  | .bankCopyDone _ => true
  | .addressCommit _ _ _ => true
  | .pipelineDisable _ => true
  | .vbSweep at_ => momentOk at_
  | .vbClear => true
  | .vbClearDone => true
  | .ntsPhase1 _ => true
  | .ntsPhase2 _ at_ => momentOk at_
  | .ntsEnable => true
  | .rotationDue => true
  | .rotate => true
  | .rotationTimeout => true
  | .zeroise _ => true
  | .ntsSelftest _ _ => true
  | .ntsSelftestDone _ _ => true
  | .mintJob => true
  | .mintCompletion => true
  | .syncInstant _ _ _ _ => true
  | .followUp _ => true
  | .tsqTimeout _ => true
  | .announceTx _ _ at_ => momentOk at_
  | .delayReq _ m at_ => m.wf && momentOk at_
  | .unicastRequest _ m _ _ _ at_ => m.wf && momentOk at_
  | .unicastCancel _ m _ => m.wf
  | .grantExpiry at_ => momentOk at_
  | .announceRx _ m _ at_ => m.wf && momentOk at_
  | .announceTimeout _ => true
  | .grantRenew _ _ => true
  | .syncRx _ m _ _ _ at_ => m.wf && momentOk at_
  | .delayReqInstant _ _ _ => true
  | .delayRespRx _ m _ _ => m.wf
  | .clientSample _ => true
  | .exchangeTimeout _ => true
  | .ptpReacceptRaw _ => true
  | .ptpReacceptHeld _ => true
  | .ptpInstanceEnable _ _ => true
  | .jobDescriptor => true
  | .jobDispatch at_ => momentOk at_
  | .jobValidation _ => true
  | .jobComplete _ => true
  | .internalRequest _ => true
  | .slotAbort _ at_ => momentOk at_
  | .zeroiseDone _ => true
  | .coreSelftestDue _ => true
  | .bneSelftest _ _ at_ => momentOk at_
  | .selftestPassDone _ _ => true
  | .ledgerPeriod at_ => momentOk at_
  | .issueNow at_ => momentOk at_
  | .recordIssue at_ => momentOk at_
  | .bootTimeout => true
  | .ledgerRingWrite => true
  | .linkBlockLock _ => true
  | .linkPeerCheck _ _ _ => true
  | .linkLockLost _ => true
  | .linkEnable _ _ => true
  | .timingBlockTx _ mix at_ => mixerOk mix && momentOk at_
  | .timingBlockRx _ mix _ at_ => mixerOk mix && momentOk at_
  | .linkSample _ => true
  | .linkReacceptRaw _ => true
  | .linkReacceptHeld _ => true
  | .controlFrame _ first second at_ => first.length == 64 && second.length == 64 && momentOk at_
  | .bcSend => true
  | .bcPop => true
  | .barrierArrive _ => true
  | .barrierTimeout => true
  | .ttoIssue _ _ _ at_ => momentOk at_
  | .ttoStrobe at_ => momentOk at_
  | .pairEnable _ => true
  | .keyMessage _ => true
  | .rekey _ => true
  | .pairWaitExpiry => true
  | .heartbeatTx at_ => momentOk at_
  | .heartbeatRx _ _ at_ => momentOk at_
  | .heartbeatLoss => true
  | .partnerOkChange _ _ at_ => momentOk at_
  | .activeNChange _ => true
  | .promote _ at_ => momentOk at_
  | .partnerPromoted _ => true
  | .handoverGapExpiry => true
  | .demote => true
  | .repaired => true
  | .pairCompare at_ => momentOk at_
  | .copyEpoch at_ => momentOk at_
  | .epochCommit e _ => Memory.wf 0 e.host
  | .copyLate at_ => momentOk at_
  | .rehearsalDigest digest _ => digest.length == 32
  | .digestTimeout _ => true
  | .hostStateAccess _ _ => true
  | .nvRead => true
  | .nvProgram => true
  | .nvErase => true
  | .nvCommandDone _ => true
  | .nvDataAccess _ _ => true
  | .check _ => true
  | .checkDone _ => true
  | .reload => true
  | .programKey _ => true
  | .programSigReq _ => true
  | .clockAbsent _ => true
  | .clockReturn _ => true
  | .resyncComplete _ _ _ => true
  | .flitCrcError _ => true
  | .retrain => true
  | .retrainDone => true
  | .d2dFault => true
  | .scrubPass _ _ at_ => momentOk at_
  | .scrubNow => true
  | .outputCal _ _ at_ => momentOk at_
  | .linkCal _ _ _ => true
  | .telemetryRead temps rails => temps.length == 16 && rails.length == 8
  | .watchdogExpiry => true
  | .hostWatchdogExpiry at_ => momentOk at_
  | .wdKick at_ => momentOk at_
  | .checkpointPeriodic at_ => momentOk at_
  | .ckptNow at_ => momentOk at_
  | .checkpointRequest at_ => momentOk at_
  | .checkpointConfigWrite _ => true
  | .checkpointCommit _ at_ => momentOk at_
  | .checkpointLate at_ => momentOk at_
  | .eraseAhead => true
  | .conSelftest _ _ => true
  | .conSelftestDone _ => true
  | .vitTrig at_ => momentOk at_
  | .vitPinEdge _ _ at_ => momentOk at_
  | .armTod at_ => momentOk at_
  | .disarmTod => true
  | .todMatch at_ => momentOk at_
  | .vitRelease => true
  | .irqEoi _ => true
  | .irqTest _ => true
  | .qTailWrite _ _ => true
  | .queueEnable _ _ => true
  | .descriptorFetch q bytes => descOk q bytes
  | .txDescriptor _ frame => frameOk frame
  | .captureCopy => true
  | .writeBack _ => true
  | .queueTimer _ => true
  | .dmaError _ => true
  | .vbReadIndex _ => true
  | .vbLookup _ => true
  | .internalRequestDone => true
  | .keyRetry => true
  | .epochAck _ _ => true
  | .liveLoadDone _ _ => true
  | .eraseDone at_ => momentOk at_
  | .windowAccess _ ofs _ => bar2Ok ofs
  | .vectorUnmask _ => true

end Sys2Proof
end

