-- ==== Sys2Proof/Certificates/Slice0/Obligations.lean ====
section
/-! DEFINITION. The statements for the provers. `SameFields` and `SameOffIrq` say which registers hold the same, `OnlyParts` which
parts of the state may change. -/

open Sys2Proof Sys2Proof.Machine

/-- One step takes the command at the front of the queue and runs it on the state with the queue's rest. -/
def Obligations.StepRunsTheFrontCommand : Prop :=
  ∀ (c : Instr) (cs : List Instr) (s : State), step { s with pending := c :: cs } = exec c { s with pending := cs }

/-- With no command waiting a step changes nothing: the model's choice (assumption 1). -/
def Obligations.EmptyQueueIdles : Prop := ∀ s : State, s.pending = [] → step s = .next s

/-- The state after reset is in the form that every step keeps. -/
def Obligations.ResetStateIsWellFormed : Prop := State.reset.Wf ∧ State.reset.pending = []

/-- Whatever command is in front, the step answers a next state, and that state is in form again: the register file lists every
register at most once, every memory is canonical, and no instance of any block is lost or gained. -/
def Obligations.EveryStepKeepsTheForm : Prop := ∀ s : State, s.Wf → ∃ t, step s = .next t ∧ t.Wf

/-- Every command completes, leaves the queue alone, and leaves every block outside `Instr.parts` as it was. -/
def Obligations.CommandsStayWithinTheirBlocks : Prop := ∀ (c : Instr) (s : State), ∃ t, exec c s = .next t ∧ OnlyParts c.parts s t

/-- Host reads: a pair latches its high half with its low half, and RC fields clear. -/
def Obligations.PairsAreReadLowHalfFirst : Prop :=
  ∀ (s : State) (k at_ : Nat) (h : RegHit) (c : Instr), k % 4 = 0 → coreRuns s = true → vitHeld s h = none →
    (c = .readLo k at_ ∨ c = .rcRead k at_) → regFind k = some h →
    (h.desc.pair = true → h.hi = false → k ≠ TB_TIME_SEC.ofs → k ≠ PROV_LAST_SERIAL.ofs → ∃ t, exec c s = .next t ∧
      t.sys = { s.sys with rdata := viewHit h k at_ s &&& h.readMask } ∧
      t.rf.latched k = viewHit { h with hi := true } (k + 4) at_ s &&& ({ h with hi := true } : RegHit).readMask ∧
      (∀ j, j ≠ k → t.rf.latched j = s.rf.latched j) ∧ t.rf.vals = s.rf.vals ∧ t.rf.staged = s.rf.staged) ∧
    (h.desc.pair = true → h.hi = true → ∃ t, exec c s = .next t ∧ t.sys = { s.sys with rdata := s.rf.latched (k - 4) } ∧ t.rf = s.rf) ∧
    (h.desc.pair = false → h.desc.base ∉ [EP_TSQ_POP.ofs 0, LK_BC_POP.ofs, PAIR_HS_DATA.ofs, CAT_NV_DATA.ofs, PROV_LAST_HASH.ofs 0] →
      k ∉ [LK_BC_POP.ofs, PAIR_HS_DATA.ofs, CAT_NV_DATA.ofs] → ∃ t, exec c s = .next t ∧
      t.sys = { s.sys with rdata := viewHit h k at_ s &&& h.readMask } ∧
      t.reg k = s.reg k &&& ~~~(h.maskOf fun f => decide (f.acc = .rc)) ∧ (∀ o, o ≠ k → t.reg o = s.reg o) ∧
      t.rf.latch = s.rf.latch ∧ t.rf.staged = s.rf.staged)

/-- Host writes of a pair: the low half is staged and the high half commits both. -/
def Obligations.PairsAreWrittenLowHalfFirst : Prop :=
  ∀ (s : State) (k at_ : Nat) (h : RegHit) (v : Word), k % 4 = 0 → regFind k = some h → regFind (k + 4) = some { h with hi := true } →
    h.desc.pair = true → h.hi = false → let lo := (tableGet s.rf.staged k).getD (s.reg k);
    (s.hostReach h.desc.blk h.owner = false → exec (.writeLo k v) s = .next s ∧ exec (.writeHi (k + 4) v at_) s = .next s) ∧
    (s.hostReach h.desc.blk h.owner = true → ¬ (k = TB_LEAP_TAI.ofs ∧ s.flag TB_LEAP_CFG.ARM = true) → ∃ t, exec (.writeLo k v) s = .next t ∧
      tableGet t.rf.staged k = some v ∧ (∀ j, j ≠ k → tableGet t.rf.staged j = tableGet s.rf.staged j) ∧
      t = { s with rf := { s.rf with staged := t.rf.staged } }) ∧
    (s.hostReach h.desc.blk h.owner = true → k = TB_LEAP_TAI.ofs → s.flag TB_LEAP_CFG.ARM = true → exec (.writeLo k v) s = .next s ∧
      exec (.writeHi (k + 4) v at_) s = .next { s with rf := { s.rf with staged := tableErase s.rf.staged k } }) ∧
    (s.hostReach h.desc.blk h.owner = true → ∃ counts, exec (.writeHi (k + 4) v at_) s =
      .next (hostCount counts (commitPair { h with hi := true } k lo v at_ { s with rf := { s.rf with staged := tableErase s.rf.staged k } }))) ∧
    (∀ x y, s.hostReach h.desc.blk h.owner = true → h.desc.fields = [⟨0, 64, .rw, x, y⟩] → h.desc.clamps = [] →
      h.desc.base ∉ [LOOP_NUM_FF.ofs 0, LOOP_NUM_PH.ofs 0, ENS_MAN_PH.ofs, OUT_FREQ.ofs 0, OUT_ANCHOR_SEC.ofs 0, OUT_OFS_PH.ofs 0, GNSS_SOL_POS_Z.ofs 0] →
      (h.desc.base = TB_LEAP_TAI.ofs → s.flag TB_LEAP_CFG.ARM = false) →
      (h.desc.base = GNSS_SOL_POS_X.ofs 0 ∨ h.desc.base = GNSS_SOL_POS_Y.ofs 0 → s.flag (GNSS_SOL_CFG.POS_MODE h.inst) = true) →
      ∃ t, exec (.writeHi (k + 4) v at_) s = .next t ∧ t.reg k = lo ∧ t.reg (k + 4) = v ∧
      (∀ o, o ≠ k → o ≠ k + 4 → t.reg o = s.reg o) ∧ tableGet t.rf.staged k = none ∧
      (∀ j, j ≠ k → tableGet t.rf.staged j = tableGet s.rf.staged j) ∧ CfgWrites s t) ∧
    (s.hostReach h.desc.blk h.owner = true → h.desc.base = GNSS_SOL_POS_X.ofs 0 ∨ h.desc.base = GNSS_SOL_POS_Y.ofs 0 →
      s.flag (GNSS_SOL_CFG.POS_MODE h.inst) = false →
      exec (.writeHi (k + 4) v at_) s = .next { s with rf := { s.rf with staged := tableErase s.rf.staged k } })

/-- A host write follows the access code of each field. -/
def Obligations.WritesFollowTheAccessCodes : Prop :=
  ∀ h : RegHit, h.desc.pair = false → h.hi = false →
    (∀ (old v : Word) (f : FieldDesc) (i : Nat), f ∈ h.desc.fields → i < f.width → f.lo + f.width ≤ 32 →
      (∀ g ∈ h.desc.fields, g = f ∨ g.lo + g.width ≤ f.lo ∨ f.lo + f.width ≤ g.lo) →
      (h.written old v).getLsbD (f.lo + i) = match f.acc with
        | .rw | .rws => v.getLsbD (f.lo + i)
        | .w1c | .rwsW1c => old.getLsbD (f.lo + i) && !v.getLsbD (f.lo + i)
        | .w1s => old.getLsbD (f.lo + i) || v.getLsbD (f.lo + i)
        | .ro | .rc | .wo => old.getLsbD (f.lo + i)) ∧
    (∀ (old v : Word) (j : Nat), (∀ f ∈ h.desc.fields, j < f.lo ∨ f.lo + f.width ≤ j) → (h.written old v).getLsbD j = old.getLsbD j) ∧
    (∀ (s : State) (k at_ : Nat) (v : Word), k % 4 = 0 → regFind k = some h → h.desc.blk = .cdc → h.desc.clamps = [] →
      s.hostReach .cdc h.owner = true → ∃ t, exec (.registerWrite k v at_) s = .next t ∧ t.reg k = h.written (s.reg k) v ∧
      (∀ o, o ≠ k → t.reg o = s.reg o) ∧ CfgWrites s t ∧ t.rf.latch = s.rf.latch ∧ t.rf.staged = s.rf.staged)

/-- Accesses where no register lies, and accesses of a wrong size or alignment. -/
def Obligations.UnmappedAndMalformedAccesses : Prop :=
  ∀ (s : State) (k : Nat), coreRuns s = true →
    (∀ at_ c, k % 4 = 0 → regFind k = none → (c = Instr.unmappedAccess k false ∨ c = .readLo k at_ ∨ c = .rcRead k at_) →
      exec c s = .next { s with sys := { s.sys with rdata := 0 } }) ∧
    (∀ v at_ c, k % 4 = 0 → regFind k = none → (c = Instr.unmappedAccess k true ∨ c = .registerWrite k v at_) → ∃ t, exec c s = .next t ∧
      t.get HIF_UNMAPPED.WRITES = min (s.get HIF_UNMAPPED.WRITES + 1) 0xFFFF ∧ t.get HIF_FLAGS.UNMAPPED = 1 ∧
      (s.flag HIF_FLAGS.UNMAPPED = false → Raised 15 t) ∧ t.sys = s.sys ∧ SameOffIrq [HIF_UNMAPPED.WRITES, HIF_FLAGS.UNMAPPED] s t) ∧
    (∀ write, ∃ t, exec (.accessBad write) s = .next t ∧ t.get HIF_UNMAPPED.ACCESS_BAD = min (s.get HIF_UNMAPPED.ACCESS_BAD + 1) 0xFFFF ∧
      t.get HIF_FLAGS.ACCESS_BAD = 1 ∧ t.sys = (if write then s.sys else { s.sys with rdata := 0 }) ∧
      SameOffIrq [HIF_UNMAPPED.ACCESS_BAD, HIF_FLAGS.ACCESS_BAD] s t)

/-- A read of TB_TIME_SEC_LO captures device time and its views at one instant. -/
def Obligations.TimeIsCapturedInOneCycle : Prop :=
  ∀ (s : State) (at_ : Nat) (h : RegHit), s.live .tb = true → regFind TB_TIME_SEC.ofs = some h → vitHeld s h = none → ∃ t,
    exec (.timeCapture at_) s = .next t ∧
    let now := s.timeAt at_
    let n : Int := secOf now - (tbUtcAt s (secOf now)).1 + 2208988800
    let v := tbLeapView s (secOf now);
    (t.get64 TB_TIME_SEC.ofs = secOf now ∧ t.get TB_TIME_NS.NS = nsOf now ∧ t.get TB_TIME_FRAC.FRAC = fracOf now) ∧
    (t.get TB_NTP_ERA.ERA = patternOf TB_NTP_ERA.ERA.width (n / 2 ^ 32) ∧ t.get TB_NTP_SEC.SEC = (n % 2 ^ 32).toNat ∧
      t.get TB_NTP_FRAC.FRAC = (nsOf now * 2 ^ 32 + fracOf now) / 10 ^ 9) ∧
    (t.get TB_UTC_STATE.LI = v.li ∧ t.get TB_UTC_STATE.LEAP61 = bit v.leap61 ∧ t.get TB_UTC_STATE.LEAP59 = bit v.leap59 ∧
      t.get TB_UTC_STATE.IN_LEAP = bit v.inLeap) ∧
    (t.sys = { s.sys with rdata := BitVec.ofNat 32 (secOf now) } ∧ t.rf.latched TB_TIME_SEC.ofs = BitVec.ofNat 32 (secOf now / 2 ^ 32)) ∧
    (SameFields (pairOf TB_TIME_SEC.ofs ++ [whole TB_TIME_NS.ofs, whole TB_TIME_FRAC.ofs, TB_NTP_ERA.ERA, whole TB_NTP_SEC.ofs,
      whole TB_NTP_FRAC.ofs, TB_UTC_STATE.LI, TB_UTC_STATE.LEAP61, TB_UTC_STATE.LEAP59, TB_UTC_STATE.IN_LEAP]) s t ∧ t.tb = s.tb)

/-- A written UTC offset reads back at once and comes into force at the next second. -/
def Obligations.UtcOffsetComesIntoForceAtTheNextSecond : Prop :=
  ∀ s : State,
    (∀ v, s.hostReach .tb none = true → ∃ t, exec (.utcOfsWrite v) s = .next t ∧ t.get TB_UTC_OFS.OFS = v.toNat ∧ t.tb = s.tb ∧
      SameFields [TB_UTC_OFS.OFS] s t ∧ CfgWrites s t) ∧
    (∃ t, exec .utcOfsInForce s = .next t ∧ t.tb = { s.tb with utcOfs := s.getI TB_UTC_OFS.OFS } ∧ t.rf = s.rf) ∧
    (∀ l at_, s.tb.leap = some l → l.sL ≤ secOf (s.timeAt at_) → ∃ t, exec (.leapDone at_) s = .next t ∧
      t.tb = { s.tb with utcOfs := l.oNew, leap := none, warn := ⟨0, false, false, false⟩ } ∧
      t.get TB_UTC_OFS.OFS = patternOf 16 l.oNew ∧ t.get TB_LEAP_CFG.ARM = 0 ∧ t.get TB_FLAGS.LEAP_DONE = 1 ∧
      (s.flag TB_FLAGS.LEAP_DONE = false → Raised 35 t) ∧
      SameOffIrq [TB_UTC_OFS.OFS, TB_LEAP_CFG.ARM, TB_FLAGS.LEAP_DONE] s t)

/-- Host controls of the timebase: temperature, preauthorisation, declared and withdrawn verification. -/
def Obligations.TimebaseControls : Prop :=
  ∀ s : State, s.hostReach .tb none = true →
    (∀ v, ∃ t, exec (.tempExtWrite v) s = .next t ∧ t.get TB_PM_TEMP_EXT.TEMP = v.toNat ∧ t.get TB_PM_TEMP.TEMP_STALE = 0 ∧
      SameFields [TB_PM_TEMP_EXT.TEMP, TB_PM_TEMP.TEMP_STALE] s t ∧ CfgWrites s t) ∧
    (s.flag TB_PM_TEMP_CFG.TEXT = true → ∃ t, exec .tempStale s = .next t ∧ t.get TB_PM_TEMP.TEMP_STALE = 1 ∧
      SameFields [TB_PM_TEMP.TEMP_STALE] s t) ∧
    (∃ t, exec .preauthArm s = .next t ∧ t.get TB_STATUS.PREAUTH = 1 ∧ SameFields [TB_STATUS.PREAUTH] s t ∧ t.prov = s.prov) ∧
    (∃ t, exec .preauthCancel s = .next t ∧ t.get TB_STATUS.PREAUTH = 0 ∧ SameFields [TB_STATUS.PREAUTH] s t ∧ t.prov = s.prov) ∧
    (s.flag TB_CFG.HOST_VERIFY_EN = true → s.flag TB_STATUS.STEP_PENDING = false → ∃ t, exec .declareVerified s = .next t ∧
      t.get TB_STATUS.VERIFIED = 1 ∧ t.tb = { s.tb with wasVerified := true } ∧ SameFields [TB_STATUS.VERIFIED] s t) ∧
    (s.flag TB_CFG.HOST_VERIFY_EN = false → exec .declareVerified s = .next s) ∧
    (s.flag TB_STATUS.VERIFIED = true → ∃ t, exec .withdrawVerified s = .next t ∧ t.get TB_STATUS.VERIFIED = 0 ∧
      t.get TB_FLAGS.VERIFIED_LOST = 1 ∧ (s.flag TB_FLAGS.VERIFIED_LOST = false → Raised 34 t) ∧
      SameOffIrq [TB_STATUS.VERIFIED, TB_FLAGS.VERIFIED_LOST] s t)

/-- A pending step is authorised or rejected by its SEQ, and SET_GO discards it. -/
def Obligations.PendingStepIsResolvedByTheHost : Prop :=
  ∀ s : State, s.hostReach .tb none = true →
    (∀ seq at_, s.flag TB_STATUS.STEP_PENDING = true → seq.toNat = s.get TB_PEND_INFO.SEQ →
      (∀ x w, s.tb.commit ≠ some ⟨.step x, w⟩) → ∃ t, exec (.stepAuth seq at_) s = .next t ∧
      t.tb = { s.tb with commit := some ⟨.step (s.getS TB_PEND_PH.ofs), if 40960000 ≤ tickUnits - at_ then 1 else 2⟩ } ∧ t.rf = s.rf ∧
      t.prov = s.prov) ∧
    (∀ seq, s.flag TB_STATUS.STEP_PENDING = true → seq.toNat = s.get TB_PEND_INFO.SEQ → ∃ t, exec (.stepReject seq) s = .next t ∧
      t.get TB_STATUS.STEP_PENDING = 0 ∧ (∀ x w, t.tb.commit ≠ some ⟨.step x, w⟩) ∧ t.tb = { s.tb with commit := t.tb.commit } ∧
      ((∀ x w, s.tb.commit ≠ some ⟨.step x, w⟩) → t.tb.commit = s.tb.commit) ∧
      SameFields [TB_STATUS.STEP_PENDING, TB_STATUS.FREE_MEAS, TB_STATUS.SLEWING, TB_STATUS.VERIFY_DISAGREE] s t ∧ t.prov = s.prov) ∧
    (∀ seq at_, seq.toNat ≠ s.get TB_PEND_INFO.SEQ ∨ s.flag TB_STATUS.STEP_PENDING = false →
      ∀ c, c = Instr.stepAuth seq at_ ∨ c = Instr.stepReject seq → ∃ t, exec c s = .next t ∧ t.get TB_FLAGS.AUTH_MISMATCH = 1 ∧
      t.tb = { s.tb with mismatches := s.tb.mismatches + 1 } ∧ SameOffIrq [TB_FLAGS.AUTH_MISMATCH] s t ∧ t.prov = s.prov) ∧
    (∀ at_, s.get TB_SET_NS.NS ≤ 999999999 → ∃ t, exec (.setGo at_) s = .next t ∧ t.get TB_STATUS.STEP_PENDING = 0 ∧
      t.tb = { s.tb with
        commit := some ⟨.set (s.get64 TB_SET_SEC.ofs * secUnit + s.get TB_SET_NS.NS * nsUnit + s.get TB_SET_FRAC.FRAC * 2 ^ 28),
          if 40960000 ≤ tickUnits - at_ then 1 else 2⟩ } ∧
      SameFields [TB_STATUS.STEP_PENDING, TB_STATUS.FREE_MEAS, TB_STATUS.SLEWING, TB_STATUS.VERIFY_DISAGREE] s t) ∧
    (∀ at_, 999999999 < s.get TB_SET_NS.NS → ∃ t, exec (.setGo at_) s = .next t ∧ t.get TB_FLAGS.HOST_SET_BAD = 1 ∧ t.tb = s.tb ∧
      SameOffIrq [TB_FLAGS.HOST_SET_BAD] s t)

/-- Arming, disarming and showing a leap second. -/
def Obligations.LeapIsArmedCheckedAndShown : Prop :=
  ∀ s : State,
    (∀ (delete : Bool) at_, s.hostReach .tb none = true → s.tb.leap = none →
      let o : Int := s.tb.utcOfs + (if delete then -1 else 1)
      let sL := s.get64 TB_LEAP_TAI.ofs
      (((sL : Int) - o) % 86400 = 0 ∧ s.timeAt at_ + 86400 * secUnit ≤ sL * secUnit ∧
          (secOf (s.timeAt at_) = 0 → s.get TB_STATUS.TIME_SRC ≠ 0) → ∃ t, exec (.leapArm delete at_) s = .next t ∧
          t.get TB_LEAP_CFG.ARM = 1 ∧ t.get TB_LEAP_CFG.DIR = bit delete ∧ t.tb = { s.tb with leap := some ⟨sL, delete, o⟩, warn := t.tb.warn } ∧
          (∀ e ∈ t.rf.staged, e.1 ≠ TB_LEAP_TAI.ofs) ∧ SameFields [TB_LEAP_CFG.ARM, TB_LEAP_CFG.DIR] s t ∧ CfgWrites s t) ∧
      (((sL : Int) - o) % 86400 ≠ 0 ∨ sL * secUnit < s.timeAt at_ + 86400 * secUnit ∨
          (secOf (s.timeAt at_) = 0 ∧ s.get TB_STATUS.TIME_SRC = 0) → ∃ t, exec (.leapArm delete at_) s = .next t ∧
          t.get TB_FLAGS.LEAP_BAD = 1 ∧ t.tb = s.tb ∧ SameOffIrq [TB_LEAP_CFG.DIR, TB_FLAGS.LEAP_BAD] s t ∧ CfgWrites s t)) ∧
    (∀ delete at_ l, s.tb.leap = some l → exec (.leapArm delete at_) s = .next s) ∧
    (∀ at_ l, s.hostReach .tb none = true → s.tb.leap = some l → (l.delete = false → secOf (s.timeAt at_) + 1 ≠ l.sL) →
      ∃ t, exec (.leapDisarm at_) s = .next t ∧ t.get TB_LEAP_CFG.ARM = 0 ∧
      t.tb = { s.tb with leap := none, warn := ⟨0, false, false, false⟩ } ∧ SameFields [TB_LEAP_CFG.ARM] s t ∧ CfgWrites s t) ∧
    (∀ at_ l, s.tb.leap = some l → l.delete = false → secOf (s.timeAt at_) + 1 = l.sL → exec (.leapDisarm at_) s = .next s) ∧
    (∀ at_ l, s.tb.leap = some l → ∀ c, c = Instr.leapWarning at_ ∨ c = Instr.leapInsertedSecond at_ → ∃ t, exec c s = .next t ∧ t.rf = s.rf ∧
      let sec := secOf (s.timeAt at_)
      t.tb = { s.tb with warn := ⟨if l.sL ≤ sec + s.get TB_LEAP_WARN_NTP.WINDOW ∧ sec < l.sL then (if l.delete then 2 else 1) else 0,
        decide (l.sL ≤ sec + s.get TB_LEAP_WARN_PTP.WINDOW ∧ sec < l.sL ∧ l.delete = false),
        decide (l.sL ≤ sec + s.get TB_LEAP_WARN_PTP.WINDOW ∧ sec < l.sL ∧ l.delete = true),
        decide (l.delete = false ∧ sec + 1 = l.sL)⟩ })

/-- Reports of the steering owner and of the verifying loops. -/
def Obligations.OwnerAndVerifyingReports : Prop :=
  ∀ s : State, s.live .tb = true →
    (∀ x y : Int, s.get TB_OWNER.KIND ≠ 0 → s.flag TB_STATUS.STEP_PENDING = false → ((sat64 x).natAbs : Int) ≤ s.getS TB_JUMP_LIMIT_PH.ofs →
      ∃ t, exec (.ownerUpdate x y) s = .next t ∧ t.get TB_STATUS.VERIFIED = 1 ∧
      t.tb = { s.tb with reports := ⟨none, sat64 x, true, tbAgainst none s⟩ :: s.tb.reports.filter (fun r => r.loop != none),
                         update := some (sat64 x, sat64 y), wasVerified := t.tb.wasVerified } ∧
      (if s.flag TB_STATUS.VERIFIED then t.get TB_STATUS.TIME_SRC = s.get TB_STATUS.TIME_SRC ∧ t.tb.wasVerified = s.tb.wasVerified
       else t.get TB_STATUS.TIME_SRC = 3 ∧ t.tb.wasVerified = true) ∧
      SameFields [TB_STATUS.VERIFIED, TB_STATUS.TIME_SRC, TB_STATUS.FREE_MEAS, TB_STATUS.SLEWING, TB_STATUS.VERIFY_DISAGREE] s t) ∧
    (∀ x y : Int, s.get TB_OWNER.KIND ≠ 0 → (s.flag TB_STATUS.STEP_PENDING = true ∨ s.getS TB_JUMP_LIMIT_PH.ofs < (sat64 x).natAbs) →
      ∃ t, exec (.ownerUpdate x y) s = .next t ∧
      t.tb = { s.tb with reports := ⟨none, sat64 x, true, tbAgainst none s⟩ :: s.tb.reports.filter (fun r => r.loop != none) } ∧
      SameFields [TB_STATUS.FREE_MEAS, TB_STATUS.SLEWING, TB_STATUS.VERIFY_DISAGREE] s t) ∧
    (∀ (k : Fin 24) (x : Int), (s.get TB_VERIFY_MASK.LOOPS).testBit k = true → tbRefQualified s k = true → s.flag TB_STATUS.STEP_PENDING = false →
      ((sat64 x).natAbs : Int) ≤ s.getS TB_JUMP_LIMIT_PH.ofs → ∃ t, exec (.verifyReport k x) s = .next t ∧ t.get TB_STATUS.VERIFIED = 1 ∧
      t.tb = { s.tb with reports := ⟨some k.val, sat64 x, true, tbAgainst (some k.val) s⟩ :: s.tb.reports.filter (fun r => r.loop != some k.val),
                         wasVerified := t.tb.wasVerified } ∧
      SameFields [TB_STATUS.VERIFIED, TB_STATUS.TIME_SRC, TB_STATUS.FREE_MEAS, TB_STATUS.SLEWING, TB_STATUS.VERIFY_DISAGREE] s t) ∧
    (∀ (k : Fin 24) (x : Int), (s.get TB_VERIFY_MASK.LOOPS).testBit k = true → tbRefQualified s k = true →
      (s.flag TB_STATUS.STEP_PENDING = true ∨ s.getS TB_JUMP_LIMIT_PH.ofs < (sat64 x).natAbs) →
      ∃ t, exec (.verifyReport k x) s = .next t ∧
      t.tb = { s.tb with reports := ⟨some k.val, sat64 x, true, tbAgainst (some k.val) s⟩ :: s.tb.reports.filter (fun r => r.loop != some k.val) } ∧
      SameFields [TB_STATUS.FREE_MEAS, TB_STATUS.SLEWING, TB_STATUS.VERIFY_DISAGREE] s t) ∧
    (∀ (k : Fin 24) (x : Int), (s.get TB_VERIFY_MASK.LOOPS).testBit k = false ∨ tbRefQualified s k = false → exec (.verifyReport k x) s = .next s) ∧
    (∀ loop : Option (Fin 24), ∃ t, exec (.standingReportLapse loop) s = .next t ∧
      t.tb = { s.tb with reports := s.tb.reports.filter (fun r => r.loop != loop.map Fin.val) } ∧ SameFields [TB_STATUS.FREE_MEAS, TB_STATUS.SLEWING, TB_STATUS.VERIFY_DISAGREE] s t)

/-- A model tick advances device time by the rate of R46 and takes the accepted update. -/
def Obligations.ModelTickAdvancesDeviceTime : Prop :=
  ∀ s : State, s.live .tb = true → (∀ r ∈ s.tb.reports, r.fresh = false) → ∃ t, exec .modelTick s = .next t ∧
    let res : Int := match s.tb.update with | some (x, _) => x * phUnit | none => s.tb.residual
    let lim := s.getS TB_SLEW_LIM_FF.ofs * 10 ^ 6
    let slew := if s.flag TB_STATUS.STEP_PENDING then 0 else clampInt (-lim) lim res
    let age := max 0 (t.tb.dev - s.get64 TB_PM_ORIGIN_SEC.ofs * secUnit)
    let e := t.getS TB_PM_FREQ_FF.ofs +
      (if s.flag TB_CFG.DRIFT_EN then Config.quot (s.getS TB_PM_DRIFT_FF.ofs * age) (86400 * secUnit) else 0) +
      (if s.flag TB_CFG.AGEING_EN && s.getS TB_PM_AGE_FF.ofs != 0 && age != 0 then
        ageingTerm (s.getS TB_PM_AGE_FF.ofs) age (max 1 (s.get TB_PM_AGE_TAU.TAU)) else 0) +
      (if s.flag TB_CFG.TEMP_EN && !(s.flag TB_PM_TEMP_CFG.TEXT && s.flag TB_PM_TEMP.TEMP_STALE) then
        Config.quot (s.getS TB_PM_TEMPCO_FF.ofs * (tbTheta s - s.getI TB_PM_TEMP_CFG.TREF)) 256 else 0);
    (t.tb = { s.tb with
      dev := s.tb.dev + s.tb.adv, ticks := s.tb.ticks + 1, residual := res - slew, adv := t.tb.adv, slew := slew, update := none,
      commit := s.tb.commit.map fun c => { c with wait := c.wait - 1 } }) ∧
    (t.mac = s.mac.mapIdx fun n p => { p with follow := s.flag (EP_CFG.TX_FOLLOW n) }) ∧
    (0 < 2 ^ 60 + e → t.tb.adv = 10 ^ 6 * Config.quot (2 ^ 120) (2 ^ 60 + e) - slew) ∧
    (t.getS TB_PM_FREQ_FF.ofs = match s.tb.update with | some (_, y) => sat64 y | none => s.getS TB_PM_FREQ_FF.ofs) ∧
    (t.getI TB_PM_TEMP.THETA = tbTheta s) ∧
    (SameOffIrq (pairOf TB_PM_FREQ_FF.ofs ++ [TB_PM_TEMP.THETA, TB_FLAGS.SAT, TB_STATUS.FREE_MEAS, TB_STATUS.SLEWING, TB_STATUS.VERIFY_DISAGREE]) s t)

/-- At a model tick new reports beyond JUMP_LIMIT pend a step by the precedence of R59. -/
def Obligations.ReportsBeyondTheLimitPendAStep : Prop :=
  ∀ s : State, s.live .tb = true →
    (s.flag TB_STATUS.STEP_PENDING = false → (∃ r ∈ s.tb.reports, (r.x.natAbs : Int) ≤ s.getS TB_JUMP_LIMIT_PH.ofs) →
      ∃ t, exec .modelTick s = .next t ∧ (∀ r ∈ t.tb.reports, r.fresh = false) ∧
      ((∃ r ∈ s.tb.reports, r.fresh = true) → ∀ r ∈ s.tb.reports,
        ⟨r.loop, r.x, false, decide (s.getS TB_JUMP_LIMIT_PH.ofs < r.x.natAbs) || (!r.fresh && r.against)⟩ ∈ t.tb.reports) ∧
      SameOffIrq (pairOf TB_PM_FREQ_FF.ofs ++ [TB_PM_TEMP.THETA, TB_FLAGS.SAT, TB_STATUS.FREE_MEAS, TB_STATUS.SLEWING, TB_STATUS.VERIFY_DISAGREE]) s t) ∧
    (∀ r ∈ s.tb.reports, s.flag TB_STATUS.STEP_PENDING = false → (∃ q ∈ s.tb.reports, q.fresh = true) →
      (∀ q ∈ s.tb.reports, s.getS TB_JUMP_LIMIT_PH.ofs < q.x.natAbs) → (∀ k, r.loop = some k → k < 24) →
      (∀ q ∈ s.tb.reports, q = r ∨ (r.loop = none ∧ q.loop ≠ none) ∨ (∃ k l, r.loop = some k ∧ q.loop = some l ∧ k < l)) →
      ∃ t, exec .modelTick s = .next t ∧ t.get TB_STATUS.STEP_PENDING = 1 ∧ t.getS TB_PEND_PH.ofs = sat64 r.x ∧
      t.get TB_PEND_INFO.SRC = bit r.loop.isSome ∧ t.get TB_PEND_INFO.LOOP = r.loop.getD 0 ∧
      t.get TB_PEND_INFO.SEQ = (s.get TB_PEND_INFO.SEQ + 1) % 2 ^ 16 ∧ t.get TB_FLAGS.STEP_REFUSED = 1 ∧
      t.get TB_STEP_CNT.REFUSED = min (s.get TB_STEP_CNT.REFUSED + 1) (2 ^ TB_STEP_CNT.REFUSED.width - 1) ∧ Raised 32 t ∧
      t.get TB_STATUS.VERIFIED = 0 ∧ t.get TB_STATUS.PREAUTH = 0 ∧
      t.tb.commit = (if s.flag TB_STATUS.PREAUTH then some ⟨.step (sat64 r.x), 1⟩
        else s.tb.commit.map fun c => { c with wait := c.wait - 1 }) ∧
      SameOffIrq (pairOf TB_PM_FREQ_FF.ofs ++ pairOf TB_PEND_PH.ofs ++ [whole TB_PEND_INFO.ofs, whole TB_STATUS.ofs, TB_PM_TEMP.THETA,
        TB_FLAGS.SAT, TB_FLAGS.STEP_REFUSED, TB_FLAGS.VERIFIED_LOST, TB_STEP_CNT.REFUSED]) s t) ∧
    (∀ r ∈ s.tb.reports, s.flag TB_STATUS.STEP_PENDING = true → (∀ x w, s.tb.commit ≠ some ⟨.step x, w⟩) → r.loop = none → r.fresh = true →
      s.getS TB_JUMP_LIMIT_PH.ofs < r.x.natAbs → (∀ q ∈ s.tb.reports, q.loop = none → q = r) →
      ∃ t, exec .modelTick s = .next t ∧ t.getS TB_PEND_PH.ofs = sat64 r.x ∧ t.get TB_PEND_INFO.SRC = 0 ∧
      t.get TB_PEND_INFO.SEQ = (s.get TB_PEND_INFO.SEQ + 1) % 2 ^ 16 ∧ t.get TB_STATUS.STEP_PENDING = 1 ∧
      t.get TB_FLAGS.STEP_REFUSED = 1 ∧
      t.get TB_STEP_CNT.REFUSED = min (s.get TB_STEP_CNT.REFUSED + 1) (2 ^ TB_STEP_CNT.REFUSED.width - 1) ∧
      t.get TB_STATUS.PREAUTH = 0 ∧
      t.tb.commit = (if s.flag TB_STATUS.PREAUTH then some ⟨.step (sat64 r.x), 1⟩
        else s.tb.commit.map fun c => { c with wait := c.wait - 1 }) ∧
      SameOffIrq (pairOf TB_PM_FREQ_FF.ofs ++ pairOf TB_PEND_PH.ofs ++ [whole TB_PEND_INFO.ofs, TB_PM_TEMP.THETA, TB_FLAGS.SAT,
        TB_FLAGS.STEP_REFUSED, TB_STEP_CNT.REFUSED, TB_STATUS.PREAUTH, TB_STATUS.FREE_MEAS, TB_STATUS.SLEWING, TB_STATUS.VERIFY_DISAGREE]) s t)

/-- At its tick an authorised step or a set value is applied to device time and delivered to the replicas. -/
def Obligations.StepIsAppliedToDeviceTime : Prop :=
  ∀ s : State, s.live .tb = true → (∀ o ∈ s.lnk.armed, o.op ≠ 2) →
    (∀ x, s.tb.commit = some ⟨.step x, 0⟩ → 0 ≤ s.tb.dev - x * phUnit → ∃ t, exec .stepApply s = .next t ∧ t.tb.dev = s.tb.dev - x * phUnit ∧
      t.tb.residual = 0 ∧ t.tb.slew = 0 ∧ t.tb.adv = s.tb.adv + s.tb.slew ∧
      t.tb.commit = none ∧ t.tb.update = none ∧ t.tb.reports = [] ∧ t.get TB_STATUS.STEP_PENDING = 0 ∧
      t.get TB_FLAGS.STEP_APPLIED = 1 ∧ t.get TB_STATUS.VERIFIED = s.get TB_STATUS.VERIFIED ∧
      t.tb.replicas = s.tb.replicas.map (fun (r : Replica) => { r with steps := r.steps ++ [(s.tb.dev, -(x * phUnit))] }) ∧
      OnlyParts [.tb, .rgs, .loops, .ens, .out, .gnss, .mac, .ans, .ptp, .con, .prov, .lnk, .pair, .vit] s t) ∧
    (∀ v, s.tb.commit = some ⟨.set v, 0⟩ → ∃ t, exec .stepApply s = .next t ∧ t.tb.dev = v ∧ t.tb.residual = 0 ∧ t.tb.slew = 0 ∧
      t.tb.adv = s.tb.adv + s.tb.slew ∧ t.tb.commit = none ∧
      t.tb.update = none ∧ t.tb.reports = [] ∧ t.get TB_STATUS.STEP_PENDING = 0 ∧ t.get TB_FLAGS.HOST_SET = 1 ∧ t.get TB_STATUS.TIME_SRC = 2 ∧
      t.get TB_STATUS.VERIFIED = 0 ∧ (s.flag TB_STATUS.VERIFIED = true → t.get TB_FLAGS.VERIFIED_LOST = 1) ∧
      t.tb.replicas = s.tb.replicas.map (fun (r : Replica) => { r with steps := r.steps ++ [(s.tb.dev, v - s.tb.dev)] }) ∧
      OnlyParts [.tb, .rgs, .loops, .ens, .out, .gnss, .mac, .ans, .ptp, .con, .prov, .lnk, .pair, .vit] s t)

/-- The comparisons of a replica move it between ACQUIRE, TRACK and ALARM, and it applies its steps in order. -/
def Obligations.ReplicasAreCompared : Prop :=
  ∀ (s : State) (k : Fin 24),
    (∀ err : Int, s.get (TB_REP_STATUS.STATE k) = 2 → 65536 < 5 * err.natAbs → ∃ t, exec (.replicaCompare k err) s = .next t ∧
      t.get (TB_REP_STATUS.STATE k) = 3 ∧ t.get (TB_REP_STATUS.LOCKED k) = 0 ∧ t.get TB_FLAGS.REPLICA_ALARM = 1 ∧ Raised 36 t ∧
      t.getI (TB_REP_ERR.ERR k) = clampInt (-0x80000000) 0x7fffffff err ∧
      t.get (TB_REP_STATUS.ALARM_CNT k) = min (s.get (TB_REP_STATUS.ALARM_CNT k) + 1) (2 ^ (TB_REP_STATUS.ALARM_CNT k).width - 1) ∧
      SameOffIrq [TB_REP_STATUS.STATE k, TB_REP_STATUS.LOCKED k, TB_REP_STATUS.ALARM_CNT k, TB_REP_ERR.ERR k, TB_FLAGS.REPLICA_ALARM] s t ∧
      (∀ j, j ≠ k.val → t.tb.replicas[j]? = s.tb.replicas[j]?) ∧
      ∀ at_, k.val < s.tb.replicas.length →
        repTime t k at_ = s.timeAt at_ + err * phUnit - ((s.tb.replicas.getD k Replica.off).steps.map (·.2)).sum) ∧
    (∀ err : Int, (s.get (TB_REP_STATUS.STATE k) = 1 ∨ s.get (TB_REP_STATUS.STATE k) = 3) → 10 * err.natAbs ≤ 65536 →
      63 ≤ (s.tb.replicas.getD k Replica.off).run → ∃ t, exec (.replicaCompare k err) s = .next t ∧
      t.get (TB_REP_STATUS.STATE k) = 2 ∧ t.get (TB_REP_STATUS.LOCKED k) = 1 ∧
      t.getI (TB_REP_ERR.ERR k) = clampInt (-0x80000000) 0x7fffffff err ∧
      SameFields [TB_REP_STATUS.STATE k, TB_REP_STATUS.LOCKED k, TB_REP_ERR.ERR k] s t ∧
      ∀ j, j ≠ k.val → t.tb.replicas[j]? = s.tb.replicas[j]?) ∧
    (∀ err : Int, (s.get (TB_REP_STATUS.STATE k) = 1 ∨ s.get (TB_REP_STATUS.STATE k) = 3) → 65536 < err.natAbs →
      ∃ t, exec (.replicaCompare k err) s = .next t ∧ t.get (TB_REP_STATUS.STATE k) = 1 ∧ t.get (TB_REP_STATUS.LOCKED k) = 0 ∧
      t.tb = { s.tb with replicas := s.tb.replicas.modify k fun _ => Replica.off } ∧
      SameFields [TB_REP_STATUS.STATE k, TB_REP_STATUS.LOCKED k, TB_REP_ERR.ERR k] s t) ∧
    (∃ t, exec (.replicaStep k) s = .next t ∧ t.rf = s.rf ∧
      t.tb = { s.tb with replicas := s.tb.replicas.modify k fun (r : Replica) => { r with steps := r.steps.drop 1 } })

/-- A selected edge is stamped and stored as a record, or lost, by the rules of the event timer. -/
def Obligations.SelectedEdgesAreStampedAndStored : Prop :=
  ∀ (s : State) (ch : Fin 128) (rising : Bool) (at_ : Nat),
    (s.Wf → s.sys.pivotFault = false → s.live .evt = true → s.flag (EVT_CH_CFG.EN ch) = true →
      (s.get (EVT_CH_CFG.EDGE ch)).testBit (if rising then 0 else 1) = true → s.flag EVT_STATUS.PFAIL_HOLD = false →
      s.flag (EVT_CH_CFG.HOST_EN ch) = true → (∀ l, (evtChan s ch).last = some l → l + 81920 ≤ s.pivotAt at_) →
      (evtBank s (ch.val / 16)).forced ≠ some (ch.val % 16) → s.flag CDC_STATUS.D2D_RETRAINING = false →
      s.get (CDC_XS_STATUS.STATE_B 0) = 0 → evtStopsOf s ch rising = [] → evtIsStop s ch rising = false →
      let c := evtChan s ch
      let piv := s.pivotAt at_
      let relief := evtByRelief s ch piv
      let cal := evtCalState s ch relief
      let now := (s.timeAt at_ - s.getS (EVT_CH_OFS_PH.ofs ch) * phUnit + 2 ^ 47) / 2 ^ 48
      let r : EvtRec := ⟨now, rising,
        bit (c.loss || c.destroyed) + 8 * bit (cal == 1 && !s.flag (EVT_CH_STATUS.SETTLING ch)) + 16 * bit (cal == 0) + 32 * bit c.ovf +
          64 * bit (tbFreeMeas s),
        if s.flag PAIR_BIND.VALID && s.get PAIR_BIND.CH == ch then 3 else if relief then 1 else 0, c.seq, false⟩
      let raw := pairOf (EVT_CH_RAW.ofs ch) ++ [EVT_CH_RAW_FINE.FINE ch, EVT_CH_RAW_FINE.BY_RELIEF ch]
      ∃ t, exec (.edge ch rising at_) s = .next t ∧
      t.get64 (EVT_CH_RAW.ofs ch) = piv / 2560 % 2 ^ 64 ∧ t.get (EVT_CH_RAW_FINE.FINE ch) = piv % 2560 ∧
      t.get (EVT_CH_RAW_FINE.BY_RELIEF ch) = bit relief ∧
      (c.queue.length < 4096 → t.evt = { s.evt with chans := s.evt.chans.modify ch fun c =>
          { c with queue := c.queue ++ [r], seq := (c.seq + 1) % 2 ^ 16, loss := false, ovf := false, destroyed := false, last := some piv, stamp := some now } } ∧
        t.get (EVT_CH_QUEUE.FILL ch) = c.queue.length + 1 ∧
        t.get (EVT_CH_RECORDS.COUNT ch) = min (s.get (EVT_CH_RECORDS.COUNT ch) + 1) 0xFFFFFFFF ∧
        ∀ g : Fld, 0x100000 ≤ g.ofs → g.ofs < 0x190000 →
          (∀ f ∈ raw ++ [EVT_CH_QUEUE.FILL ch, EVT_CH_RECORDS.COUNT ch], g.apart f) → t.get g = s.get g) ∧
      (4096 ≤ c.queue.length → t.evt = { s.evt with chans := s.evt.chans.modify ch fun c =>
          { c with ovf := true, last := some piv, stamp := some now } } ∧
        (s.get (EVT_CH_LOST_OTHER.OVF ch) < 0xFFFF → t.get (EVT_CH_LOST_OTHER.OVF ch) = s.get (EVT_CH_LOST_OTHER.OVF ch) + 1) ∧
        ∀ g : Fld, 0x100000 ≤ g.ofs → g.ofs < 0x190000 → (∀ f ∈ raw ++ [EVT_CH_LOST_OTHER.OVF ch], g.apart f) → t.get g = s.get g)) ∧
    (s.sys.pivotFault = false → s.live .evt = true → s.flag (EVT_CH_CFG.EN ch) = true →
      (s.get (EVT_CH_CFG.EDGE ch)).testBit (if rising then 0 else 1) = true → s.flag CDC_STATUS.D2D_RETRAINING = false →
      s.get (CDC_XS_STATUS.STATE_B 0) = 0 → (evtBank s (ch.val / 16)).forced ≠ some (ch.val % 16) →
      ∀ l, (evtChan s ch).last = some l → s.pivotAt at_ < l + 81920 → ∃ t, exec (.edge ch rising at_) s = .next t ∧
      t.get (EVT_CH_LOST_DEAD.COUNT ch) = min (s.get (EVT_CH_LOST_DEAD.COUNT ch) + 1) 0xFFFFFFFF ∧
      t.evt = { s.evt with chans := s.evt.chans.modify ch fun c => { c with loss := true } } ∧
      SameFields [EVT_CH_LOST_DEAD.COUNT ch] s t ∧ OnlyParts [.evt] s t) ∧
    (s.sys.pivotFault = false → s.live .evt = true → s.flag (EVT_CH_CFG.EN ch) = true →
      (s.get (EVT_CH_CFG.EDGE ch)).testBit (if rising then 0 else 1) = true → s.flag CDC_STATUS.D2D_RETRAINING = false →
      s.get (CDC_XS_STATUS.STATE_B 0) = 0 → (evtBank s (ch.val / 16)).forced = some (ch.val % 16) → ∃ t, exec (.edge ch rising at_) s = .next t ∧
      (s.get (EVT_CH_LOST_OTHER.OTHER ch) < 0xFFFF → t.get (EVT_CH_LOST_OTHER.OTHER ch) = s.get (EVT_CH_LOST_OTHER.OTHER ch) + 1) ∧
      t.evt = { s.evt with chans := s.evt.chans.modify ch fun c => { c with loss := true } } ∧
      SameFields [EVT_CH_LOST_OTHER.OTHER ch] s t ∧ OnlyParts [.evt] s t) ∧
    (∀ x, evtEdge s ch rising at_ = some (.stamp x) → s.flag CDC_STATUS.D2D_RETRAINING = true →
      (s.evt.held.filter fun y => y.bank == some (ch.val / 16)).length < 2048 → ∃ t, exec (.edge ch rising at_) s = .next t ∧ t.rf = s.rf ∧
      t.evt = { s.evt with chans := s.evt.chans.modify ch (fun c => { c with last := some (s.pivotAt at_) }), held := s.evt.held ++ [.stamp x] } ∧
      OnlyParts [.evt] s t) ∧
    (∀ x, evtEdge s ch rising at_ = some (.stamp x) → s.flag CDC_STATUS.D2D_RETRAINING = false → s.get (CDC_XS_STATUS.STATE_B 0) = 1 → ∃ t,
      exec (.edge ch rising at_) s = .next t ∧ t.get CDC_FLAGS.DROP_EV = 1 ∧
      t.get (CDC_XS_CNT.DROPPED 0) = min (s.get (CDC_XS_CNT.DROPPED 0) + 1) (2 ^ (CDC_XS_CNT.DROPPED 0).width - 1) ∧
      t.evt = { s.evt with chans := s.evt.chans.modify ch (fun c => { c with last := some (s.pivotAt at_) }) } ∧
      SameOffIrq [CDC_FLAGS.DROP_EV, CDC_XS_CNT.DROPPED 0] s t ∧ OnlyParts [.evt] s t) ∧
    (s.sys.pivotFault = true ∨ s.flag (EVT_CH_CFG.EN ch) = false ∨
      (s.get (EVT_CH_CFG.EDGE ch)).testBit (if rising then 0 else 1) = false → exec (.edge ch rising at_) s = .next s)

/-- A stop with a held start gives the signed interval, and starts expire after the window. -/
def Obligations.IntervalsArePairedAndExpire : Prop :=
  ∀ (s : State) (ch : Fin 128) (at_ : Nat), s.Wf →
    (∀ rising s0 ss, s.sys.pivotFault = false → s.live .evt = true → s.flag (EVT_CH_CFG.EN ch) = true →
      (s.get (EVT_CH_CFG.EDGE ch)).testBit (if rising then 0 else 1) = true → s.flag EVT_STATUS.PFAIL_HOLD = false →
      s.flag (EVT_CH_CFG.HOST_EN ch) = true → (∀ l, (evtChan s ch).last = some l → l + 81920 ≤ s.pivotAt at_) →
      (evtBank s (ch.val / 16)).forced ≠ some (ch.val % 16) →
      evtStopsOf s ch rising = [] → evtIsStop s ch rising = true → (evtChan s ch).queue.length < 4096 →
      s.flag CDC_STATUS.D2D_RETRAINING = false → s.get (CDC_XS_STATUS.STATE_B 0) = 0 → (∀ x ∈ (evtChan s ch).queue, x.held = false) →
      (evtChan s ch).starts = s0 :: ss → ss.length < 15 → (evtChan s ch).waiting = [] → (evtChan s ch).ahead = [] →
      let now := (s.timeAt at_ - s.getS (EVT_CH_OFS_PH.ofs ch) * phUnit + 2 ^ 47) / 2 ^ 48
      let d := now - s0
      d ≤ max 1 (s.get (EVT_CH_PAIR_WIN.W ch) : Int) * 4096 → ∃ t, exec (.edge ch rising at_) s = .next t ∧
      if evtRecordTime s (s.get (EVT_CH_PAIR.START ch)) at_ < now then
        (evtChan t ch).starts = s0 :: ss ∧ (evtChan t ch).ahead = [(now, some true)] ∧
        t.get (EVT_CH_PAIR_CNT0.PAIRED ch) = s.get (EVT_CH_PAIR_CNT0.PAIRED ch) ∧
        ∃ r, (evtChan t ch).queue = (evtChan s ch).queue ++ [r] ∧ r.t = now ∧ r.held = true
      else (evtChan t ch).ahead = [] ∧
      t.getS (EVT_CH_PAIR_LAST_PH.ofs ch) = sat64 (d * 16) ∧ (evtChan t ch).starts = ss ∧
      (s.get (EVT_CH_PAIR_CNT0.PAIRED ch) < 0xFFFF → t.get (EVT_CH_PAIR_CNT0.PAIRED ch) = s.get (EVT_CH_PAIR_CNT0.PAIRED ch) + 1) ∧
      (0 ≤ d → t.get (EVT_CH_PAIR_CNT1.REVERSED ch) = s.get (EVT_CH_PAIR_CNT1.REVERSED ch)) ∧
      ∃ r, (evtChan t ch).queue = (evtChan s ch).queue ++ [r] ∧ r.t = now ∧ r.held = false ∧ r.flags.testBit 2 = decide (d < 0) ∧
        r.flags.testBit 1 = decide (d.natAbs ≤ 18)) ∧
    (s.flag (EVT_CH_PAIR.PAIR_EN ch) = true → (evtChan s ch).waiting = [] → (evtChan s ch).ahead = [] →
      let now := s.timeAt at_ / 2 ^ 48
      let old := (evtChan s ch).starts.takeWhile fun x => decide (max 1 (s.get (EVT_CH_PAIR_WIN.W ch) : Int) * 4096 < now - x)
      s.get (EVT_CH_PAIR_CNT1.UNP_START ch) + old.length ≤ 0xFFFF → ∃ t, exec (.pairExpiry ch at_) s = .next t ∧
      t.evt = { s.evt with chans := s.evt.chans.modify ch fun c => { c with starts := c.starts.drop old.length } } ∧
      t.get (EVT_CH_PAIR_CNT1.UNP_START ch) = s.get (EVT_CH_PAIR_CNT1.UNP_START ch) + old.length ∧
      SameFields [EVT_CH_PAIR_CNT1.UNP_START ch] s t)

/-- Writes of a channel's front end and pairing, and the commitment of its records. -/
def Obligations.ChannelsAreConfiguredAndCommitted : Prop :=
  ∀ (s : State) (ch : Fin 128),
    (∀ v : Word, s.hostReach .evt (some (0, ch)) = true →
      let th := patternOf 16 (clampInt (-1000) 2500 (signedOf 16 (fieldOf v 0 16)))
      ∃ t, exec (.frontEndWrite ch true v) s = .next t ∧ t.get (EVT_CH_THRESH.THRESH ch) = th ∧ t.get (EVT_CH_THRESH.HYST ch) = fieldOf v 16 5 ∧
      t.get (EVT_CH_STATUS.SETTLING ch) = (if th = s.get (EVT_CH_THRESH.THRESH ch) ∧ fieldOf v 16 5 = s.get (EVT_CH_THRESH.HYST ch) then
        s.get (EVT_CH_STATUS.SETTLING ch) else 1) ∧
      (s.get (CDC_XS_STATUS.STATE_A 0) ≠ 1 → SameFields [EVT_CH_THRESH.THRESH ch, EVT_CH_THRESH.HYST ch, EVT_CH_STATUS.SETTLING ch] s t) ∧
      SameOffIrq [EVT_CH_THRESH.THRESH ch, EVT_CH_THRESH.HYST ch, EVT_CH_STATUS.SETTLING ch, CDC_XS_CNT.DROPPED 0, CDC_FLAGS.DROP_EV] s t ∧
      CfgWrites s t ∧ t.evt = s.evt) ∧
    (∀ v : Word, s.hostReach .evt (some (0, ch)) = true → ∃ t, exec (.frontEndWrite ch false v) s = .next t ∧
      t.get (EVT_CH_CFG.EN ch) = (if s.flag (EVT_BK_STATUS.READY (ch.val / 16)) then fieldOf v 0 1 else s.get (EVT_CH_CFG.EN ch)) ∧
      t.get (EVT_CH_CFG.MODE ch) = fieldOf v 1 1 ∧ t.get (EVT_CH_CFG.TERM ch) = fieldOf v 2 1 ∧ t.get (EVT_CH_CFG.EDGE ch) = fieldOf v 3 2 ∧
      t.get (EVT_CH_CFG.HOST_EN ch) = fieldOf v 5 1 ∧
      t.get (EVT_CH_STATUS.SETTLING ch) = (if fieldOf v 1 1 = s.get (EVT_CH_CFG.MODE ch) ∧ fieldOf v 2 1 = s.get (EVT_CH_CFG.TERM ch) then
        s.get (EVT_CH_STATUS.SETTLING ch) else 1) ∧
      (s.get (CDC_XS_STATUS.STATE_A 0) ≠ 1 → SameFields [EVT_CH_CFG.EN ch, EVT_CH_CFG.MODE ch, EVT_CH_CFG.TERM ch, EVT_CH_CFG.EDGE ch,
        EVT_CH_CFG.HOST_EN ch, EVT_CH_STATUS.SETTLING ch] s t) ∧
      SameOffIrq [EVT_CH_CFG.EN ch, EVT_CH_CFG.MODE ch, EVT_CH_CFG.TERM ch, EVT_CH_CFG.EDGE ch, EVT_CH_CFG.HOST_EN ch,
        EVT_CH_STATUS.SETTLING ch, CDC_XS_CNT.DROPPED 0, CDC_FLAGS.DROP_EV] s t ∧ CfgWrites s t ∧ t.evt = s.evt) ∧
    (∃ t, exec (.settlingDone ch) s = .next t ∧ t.get (EVT_CH_STATUS.SETTLING ch) = 0 ∧ SameFields [EVT_CH_STATUS.SETTLING ch] s t) ∧
    (∀ v : Word, s.Wf → s.hostReach .evt (some (0, ch)) = true → ∃ t, exec (.pairConfigWrite ch false v) s = .next t ∧
      t.get (EVT_CH_PAIR.START ch) = fieldOf v 1 7 ∧ t.get (EVT_CH_PAIR.START_EDGE ch) = fieldOf v 8 1 ∧
      t.get (EVT_CH_PAIR.STOP_EDGE ch) = fieldOf v 9 1 ∧ (evtChan t ch).starts = [] ∧ (evtChan t ch).waiting = [] ∧ (evtChan t ch).ahead = [] ∧
      (∀ n, n ≠ ch.val → evtChan t n = evtChan s n) ∧
      (if fieldOf v 0 1 = 1 ∧ fieldOf v 1 7 = ch ∧ fieldOf v 8 1 = fieldOf v 9 1 then
        t.get (EVT_CH_PAIR.PAIR_EN ch) = 0 ∧ t.get (EVT_BK_FLAGS.CFG_BAD (ch.val / 16)) = 1
       else t.get (EVT_CH_PAIR.PAIR_EN ch) = fieldOf v 0 1 ∧ t.get (EVT_BK_FLAGS.CFG_BAD (ch.val / 16)) = s.get (EVT_BK_FLAGS.CFG_BAD (ch.val / 16))) ∧
      SameOffIrq [whole (EVT_CH_PAIR.ofs ch), EVT_CH_PAIR_CNT2.UNP_STOP ch, EVT_BK_FLAGS.CFG_BAD (ch.val / 16)] s t ∧ CfgWrites s t) ∧
    (∀ v : Word, s.Wf → s.hostReach .evt (some (0, ch)) = true → ∃ t, exec (.pairConfigWrite ch true v) s = .next t ∧
      t.get (EVT_CH_PAIR_WIN.W ch) = min (10 ^ 9) (fieldOf v 0 30) ∧ (evtChan t ch).starts = [] ∧ (evtChan t ch).waiting = [] ∧
      (evtChan t ch).ahead = [] ∧
      (∀ n, n ≠ ch.val → evtChan t n = evtChan s n) ∧ SameFields [EVT_CH_PAIR_WIN.W ch, EVT_CH_PAIR_CNT2.UNP_STOP ch] s t ∧ CfgWrites s t) ∧
    (∀ r rest, s.Wf → (evtChan s ch).queue = r :: rest → r.held = false → rest.length < 4096 → hifRoom s (ch.val / 16) = true →
      s.get (CDC_XS_STATUS.STATE_A 25) = 0 → ∃ t,
      exec (.recordCommit ch) s = .next t ∧
      Out.element (ch.val / 16) (s.get (HIF_Q_HEAD.HEAD (ch.val / 16)) % hifSize s (ch.val / 16))
        (evtBytes ch r) ∈ t.outbox ∧
      t.evt = { s.evt with chans := s.evt.chans.modify ch fun c => { c with queue := c.queue.drop 1 } } ∧
      t.get (EVT_CH_QUEUE.FILL ch) = rest.length ∧
      t.get (HIF_Q_HEAD.HEAD (ch.val / 16)) = (s.get (HIF_Q_HEAD.HEAD (ch.val / 16)) + 1) % 2 ^ 32 ∧
      SameOffIrq [EVT_CH_QUEUE.FILL ch, HIF_Q_HEAD.HEAD (ch.val / 16), HIF_Q_ELEM.COUNT (ch.val / 16)] s t) ∧
    (∀ r rest, s.Wf → (evtChan s ch).queue = r :: rest → r.held = false → rest.length < 4096 → hifRoom s (ch.val / 16) = true →
      s.get (CDC_XS_STATUS.STATE_A 25) = 1 → ∃ t, exec (.recordCommit ch) s = .next t ∧
      (∀ q i b, Out.element q i b ∈ t.outbox → Out.element q i b ∈ s.outbox) ∧
      t.evt = { s.evt with chans := s.evt.chans.modify ch fun c => { c with queue := c.queue.drop 1 } } ∧
      t.get (EVT_CH_QUEUE.FILL ch) = rest.length ∧ t.get CDC_FLAGS.DROP_EV = 1 ∧
      t.get (CDC_XS_CNT.DROPPED 25) = min (s.get (CDC_XS_CNT.DROPPED 25) + 1) (2 ^ (CDC_XS_CNT.DROPPED 25).width - 1) ∧
      SameOffIrq [EVT_CH_QUEUE.FILL ch, CDC_XS_CNT.DROPPED 25, CDC_FLAGS.DROP_EV] s t) ∧
    (∀ r rest at_, (evtChan s ch).queue = r :: rest → r.held = false → hifRoom s (ch.val / 16) = true → ∃ t, exec (.commitLate ch at_) s = .next t ∧
      t.get EVT_COMMIT_LATE_CNT.COUNT = min (s.get EVT_COMMIT_LATE_CNT.COUNT + 1) 0xFFFFFFFF ∧ t.get EVT_FLAGS.COMMIT_LATE = 1 ∧
      t.get ⟨CON_DL_FLAGS.FAULT.ofs, 4, 1⟩ = 1 ∧ t.get (CON_DL_CNT.COUNT 4) = min (s.get (CON_DL_CNT.COUNT 4) + 1) (2 ^ (CON_DL_CNT.COUNT 4).width - 1) ∧
      Raised 20 t ∧
      SameOffIrq [EVT_COMMIT_LATE_CNT.COUNT, EVT_FLAGS.COMMIT_LATE, CON_DL_CNT.COUNT 4, ⟨CON_DL_FLAGS.FAULT.ofs, 4, 1⟩] s t)

/-- The calibration rotation of a bank. -/
def Obligations.StampersCalibrateInTurn : Prop :=
  ∀ (s : State) (b : Fin 8),
    (s.live .evt = true → ∃ t, exec (.slotInstant b) s = .next t ∧ t.evt = s.evt ∧
      (if s.get (EVT_BK_STATUS.RELIEF_STATE b) ≠ 0 then
        t.get (EVT_BK_STATUS.SLOTS_SKIPPED b) = min (s.get (EVT_BK_STATUS.SLOTS_SKIPPED b) + 1) 255 ∧
        SameFields [EVT_BK_STATUS.SLOTS_SKIPPED b] s t
       else if s.flag (EVT_BK_CFG.CAL_EN b) then
        t.get (EVT_BK_STATUS.RELIEF_STATE b) = 1 ∧ SameFields [EVT_BK_STATUS.RELIEF_STATE b] s t
       else t = s)) ∧
    (∀ delay pulses at_, s.get (EVT_BK_STATUS.RELIEF_STATE b) = 1 →
      (∀ p, (evtBank s b).delay = some p → 100 * (delay - p).natAbs ≤ 131072) → ∃ t, exec (.reliefPassDone b true delay pulses at_) s = .next t ∧
      t.get (EVT_BK_STATUS.RELIEF_STATE b) = (if s.flag (EVT_CH_CFG.EN (16 * b.val + s.get (EVT_BK_STATUS.RELIEF_POS b))) then 2 else 3) ∧
      (b < s.evt.banks.length → (evtBank t b).reliefCal = 1 ∧ (evtBank t b).delay = some delay) ∧
      (s.flag (EVT_BK_CFG.CAL_REC_EN b) = false → t.evt.chans = s.evt.chans ∧ SameOffIrq [EVT_BK_STATUS.RELIEF_STATE b, CON_FLAGS.CAL_FAULT] s t ∧
        (s.con.calWait = [] → SameFields [EVT_BK_STATUS.RELIEF_STATE b] s t))) ∧
    (∀ delay pulses at_, s.get (EVT_BK_STATUS.RELIEF_STATE b) = 1 → ∃ t, exec (.reliefPassDone b false delay pulses at_) s = .next t ∧
      t.get (EVT_BK_STATUS.RELIEF_STATE b) = 6 ∧ t.get (EVT_BK_STATUS.CAL_HALTED b) = 1 ∧ t.get (EVT_BK_FLAGS.RELIEF_FAULT b) = 1 ∧ Raised (96 + b) t ∧
      (s.flag (EVT_BK_CFG.CAL_REC_EN b) = false →
        SameOffIrq [EVT_BK_STATUS.RELIEF_STATE b, EVT_BK_STATUS.CAL_HALTED b, EVT_BK_FLAGS.RELIEF_FAULT b, CON_FLAGS.CAL_FAULT] s t)) ∧
    (let n := 16 * b.val + s.get (EVT_BK_STATUS.RELIEF_POS b);
      s.get (EVT_BK_STATUS.RELIEF_STATE b) = 2 → ∃ t, exec (.handoverSwitch b) s = .next t ∧ t.get (EVT_BK_STATUS.RELIEF_STATE b) = 3 ∧
      t.get (EVT_CH_STATUS.SERVED_BY_RELIEF n) = 1 ∧ SameFields [EVT_BK_STATUS.RELIEF_STATE b, EVT_CH_STATUS.SERVED_BY_RELIEF n] s t ∧
      t.evt = { s.evt with banks := s.evt.banks.modify b fun x => { x with tsw := none } }) ∧
    (let n := 16 * b.val + s.get (EVT_BK_STATUS.RELIEF_POS b);
      s.Wf → s.get (EVT_BK_STATUS.RELIEF_STATE b) = 4 → ∃ t, exec (.handoverSwitch b) s = .next t ∧
      t.get (EVT_CH_STATUS.SERVED_BY_RELIEF n) = 0 ∧ t.get (EVT_BK_STATUS.RELIEF_STATE b) = bit (evtBank s b).request.isSome ∧
      t.get (EVT_BK_STATUS.RELIEF_POS b) = (match (evtBank s b).request with
        | some p => p % 16
        | none => (s.get (EVT_BK_STATUS.RELIEF_POS b) + 1) % 16) ∧
      SameFields [EVT_BK_STATUS.RELIEF_STATE b, EVT_BK_STATUS.RELIEF_POS b, EVT_CH_STATUS.SERVED_BY_RELIEF n] s t ∧ t.evt.chans = s.evt.chans) ∧
    (∀ delay pulses at_, let n := 16 * b.val + s.get (EVT_BK_STATUS.RELIEF_POS b);
      s.get (EVT_BK_STATUS.RELIEF_STATE b) = 3 → (evtBank s b).forced = none → s.flag (EVT_BK_CFG.CAL_REC_EN b) = false →
      s.flag (EVT_CH_CFG.EN n) = true → (∀ p, (evtChan s n).delay = some p → 100 * (delay - p).natAbs ≤ 131072) → ∃ t,
      exec (.channelPassDone b true delay pulses at_) s = .next t ∧ t.get (EVT_BK_STATUS.RELIEF_STATE b) = 4 ∧
      t.get (EVT_CH_STATUS.CAL_STATE n) = 1 ∧ t.getS (EVT_CH_CAL_DLY_PH.ofs n) = sat64 delay ∧
      t.evt.chans = s.evt.chans.modify n (fun c => { c with delay := some delay, calAt := some (s.pivotAt at_) }) ∧
      SameOffIrq (pairOf (EVT_CH_CAL_DLY_PH.ofs n) ++ [EVT_BK_STATUS.RELIEF_STATE b, EVT_CH_STATUS.CAL_STATE n, CON_FLAGS.CAL_FAULT]) s t) ∧
    (∀ delay pulses at_, let n := 16 * b.val + s.get (EVT_BK_STATUS.RELIEF_POS b);
      s.get (EVT_BK_STATUS.RELIEF_STATE b) = 3 → (evtBank s b).forced = none → s.flag (EVT_BK_CFG.CAL_REC_EN b) = false → ∃ t,
      exec (.channelPassDone b false delay pulses at_) s = .next t ∧ t.get (EVT_BK_STATUS.RELIEF_STATE b) = 5 ∧
      t.get (EVT_BK_STATUS.CAL_HALTED b) = 1 ∧ t.get (EVT_CH_STATUS.STAMPER_FAULT n) = 1 ∧ t.get (EVT_BK_FLAGS.CH_FAULT b) = 1 ∧ Raised (96 + b) t ∧ t.evt = s.evt ∧
      SameOffIrq [EVT_BK_STATUS.RELIEF_STATE b, EVT_BK_STATUS.CAL_HALTED b, EVT_CH_STATUS.STAMPER_FAULT n, EVT_BK_FLAGS.CH_FAULT b,
        CON_FLAGS.CAL_FAULT] s t) ∧
    (∀ (pos : Fin 16) force, s.hostReach .evt none = true → s.get (CDC_XS_STATUS.STATE_A 0) = 0 → ∃ t, exec (.calRequest b pos force) s = .next t ∧
      (s.get (EVT_BK_STATUS.RELIEF_STATE b) = 0 → t.get (EVT_BK_STATUS.RELIEF_STATE b) = 1 ∧ t.get (EVT_BK_STATUS.RELIEF_POS b) = pos ∧
        t.evt = s.evt ∧ SameFields [EVT_BK_STATUS.RELIEF_STATE b, EVT_BK_STATUS.RELIEF_POS b] s t) ∧
      (0 < s.get (EVT_BK_STATUS.RELIEF_STATE b) → s.get (EVT_BK_STATUS.RELIEF_STATE b) < 5 → t.rf = s.rf ∧
        t.evt = { s.evt with banks := s.evt.banks.modify b fun x => { x with request := some pos.val } }) ∧
      (s.get (EVT_BK_STATUS.RELIEF_STATE b) = 6 ∨ (s.get (EVT_BK_STATUS.RELIEF_STATE b) = 5 ∧ s.get (EVT_BK_STATUS.RELIEF_POS b) ≠ pos) →
        (s.flag (EVT_CH_CFG.EN (16 * b.val + pos.val)) = false → t.rf = s.rf ∧
          t.evt = if force then { s.evt with banks := s.evt.banks.modify b fun x => { x with forced := some pos.val } } else s.evt) ∧
        (s.flag (EVT_CH_CFG.EN (16 * b.val + pos.val)) = true →
        if force then t.get (EVT_BK_FLAGS.FORCED_OUT b) = 1 ∧ SameOffIrq [EVT_BK_FLAGS.FORCED_OUT b] s t ∧
          t.evt = { s.evt with banks := s.evt.banks.modify b fun x => { x with forced := some pos.val } }
        else t.get (EVT_BK_FLAGS.BUSY_IN_SERVICE b) = 1 ∧ SameOffIrq [EVT_BK_FLAGS.BUSY_IN_SERVICE b] s t ∧ t.evt = s.evt))) ∧
    (∀ (pos : Fin 16) force, s.get (CDC_XS_STATUS.STATE_A 0) ≠ 0 → ∀ c, c = Instr.calRequest b pos force ∨ c = Instr.calRetry b → ∃ t,
      exec c s = .next t ∧ t.evt = s.evt ∧ SameOffIrq [CDC_XS_CNT.DROPPED 0, CDC_FLAGS.DROP_EV] s t) ∧
    (s.hostReach .evt none = true → s.get (CDC_XS_STATUS.STATE_A 0) = 0 → s.get (EVT_BK_STATUS.RELIEF_STATE b) = 5 → ∃ t,
      exec (.calRetry b) s = .next t ∧ t.rf = s.rf ∧
      t.evt = { s.evt with banks := s.evt.banks.modify b fun x => { x with retry := true } }) ∧
    (s.hostReach .evt none = true → s.get (CDC_XS_STATUS.STATE_A 0) = 0 → s.get (EVT_BK_STATUS.RELIEF_STATE b) = 6 → ∃ t, exec (.calRetry b) s = .next t ∧
      t.get (EVT_BK_STATUS.RELIEF_STATE b) = 1 ∧ t.get (EVT_BK_STATUS.CAL_HALTED b) = 0 ∧ t.evt = s.evt ∧
      SameFields [EVT_BK_STATUS.RELIEF_STATE b, EVT_BK_STATUS.CAL_HALTED b] s t) ∧
    (∀ p : Fin 16, s.get (EVT_CH_STATUS.CAL_STATE (16 * b.val + p.val)) = 1 → ∃ t, exec (.calAgeExpiry b (some p)) s = .next t ∧
      t.get (EVT_CH_STATUS.CAL_STATE (16 * b.val + p.val)) = 2 ∧ SameFields [EVT_CH_STATUS.CAL_STATE (16 * b.val + p.val)] s t ∧ t.evt = s.evt) ∧
    ((evtBank s b).reliefCal = 1 → ∃ t, exec (.calAgeExpiry b none) s = .next t ∧ t.rf = s.rf ∧
      t.evt = { s.evt with banks := s.evt.banks.modify b fun x => { x with reliefCal := 2 } })

/-- Samples, ledger lines and the loss of pulses of a reference slot. -/
def Obligations.SlotsAreSampledAndGraded : Prop :=
  ∀ (s : State) (n : Fin 64), s.Wf →
    (∀ v at_ x, s.live .rgs = true → let i := s.get (RGS_SLOT_BIND.INDEX n)
      (s.get (RGS_SLOT_BIND.TYPE n) = 4 ∧ x = s.getS (PTP_CLI_X_PH.ofs (s.get (RGS_SLOT_BIND.INDEX n))) ∨
       s.get (RGS_SLOT_BIND.TYPE n) = 5 ∧ x = s.getS (GNSS_SOL_X_PH.ofs (s.get (RGS_SLOT_BIND.INDEX n))) ∨
       s.get (RGS_SLOT_BIND.TYPE n) = 6 ∧ s.get (LK_STATUS.STATE i) = 3 ∧ (s.lnk.links.getD i LkLink.reset).winX ≠ [] ∧
         x = meanOf (s.lnk.links.getD i LkLink.reset).winX ∨
       s.get (RGS_SLOT_BIND.TYPE n) = 2 ∧ s.get (RGS_SLOT_NOM.F_NOM n) ≠ 0 ∧ (∃ o, (rgsSlot s n).origin = some o ∧
         x = ((rgsSlot s n).last - o) * 16 - Config.quot ((rgsSlot s n).cycles * 10 ^ 9 * 65536) (s.get (RGS_SLOT_NOM.F_NOM n))) ∨
       s.get (RGS_SLOT_BIND.TYPE n) = 3 ∧ s.flag (EP_STATUS.LINK i) = true ∧ xsRuns s (9 + i) = true ∧
         ∃ o, (rgsSlot s n).origin = some o ∧
           x = (s.timeAt at_ / 2 ^ 48 - o) * 16 - Config.quot ((v - (rgsSlot s n).phase0) * 10 ^ 9) (rgsLineHz s i)) →
      ∃ t, exec (.referenceSample n v at_) s = .next t ∧ t.getS (RGS_SLOT_PH.ofs n) = sat64 x ∧ t.get (RGS_SLOT_STATUS.SIG n) = 1 ∧
      (rgsSlot t n).samples = (s.rgs.now, x) :: (rgsSlot s n).samples.filter (fun p => decide (s.rgs.now < p.1 + 1010000)) ∧
      (rgsSlot t n).sampleNo = (rgsSlot s n).sampleNo + 1 ∧ (∀ m, m ≠ n.val → rgsSlot t m = rgsSlot s m) ∧
      SameFields (pairOf (RGS_SLOT_PH.ofs n) ++ [RGS_SLOT_STATUS.SIG n]) s t ∧ OnlyParts [.rgs] s t) ∧
    (∀ bs dur at_ rec p a, s.live .rgs = true → s.get (RGS_SLOT_BIND.TYPE n) = 1 → s.flag (RGS_SLOT_BIND.LL_EN n) = true →
      (rgsSlot s n).pulse = some (rec, p, a) → p + max dur (rgsLineTicks s n bs.length) ≤ s.pivotAt at_ → s.pivotAt at_ ≤ p + 900 * 10 ^ 6 * 4096 →
      rgsLineForm bs = true → rgsLineSeq s n bs = true → (rgsSlot s n).spoiled = false → let g := gradeOfLine (leField bs 16 1) (leField bs 17 1)
      ∃ t, exec (.ledgerLine n bs dur at_) s = .next t ∧ t.getS (RGS_SLOT_PH.ofs n) = sat64 ((rec - rgsLineTime bs) * 16) ∧
      t.get (RGS_SLOT_STATUS.MSG_GRADE n) = g ∧
      t.get (RGS_SLOT_STATUS.GRADE n) = (if s.flag (RGS_SLOT_CFG.GRADE_SRC n) then s.get (RGS_SLOT_CFG.FIXED_GRADE n) else g) ∧
      t.get (RGS_SLOT_STATUS.SIG n) = 1 ∧ t.reg (RGS_SLOT_UNC.ofs n) = BitVec.ofNat 32 (leField bs 20 4) ∧
      (leField bs 18 2 ≠ patternOf 16 s.tb.utcOfs → t.get (RGS_SLOT_FLAGS.LL_UTC_MISMATCH n) = 1) ∧
      (rgsSlot t n).llRef = some (rgsLineTime bs) ∧ (rgsSlot t n).pulse = some (rec, p, true) ∧ (rgsSlot t n).llMiss = 0 ∧
      SameOffIrq (pairOf (RGS_SLOT_PH.ofs n) ++ [whole (RGS_SLOT_UNC.ofs n), RGS_SLOT_MSG.RAW n, RGS_SLOT_STATUS.MSG_GRADE n,
        RGS_SLOT_STATUS.GRADE n, RGS_SLOT_STATUS.SIG n, RGS_SLOT_FLAGS.GRADE_CHANGE n, RGS_SLOT_FLAGS.LL_UTC_MISMATCH n]) s t ∧
      OnlyParts [.rgs] s t) ∧
    (∀ bs dur at_ f, s.live .rgs = true → s.get (RGS_SLOT_BIND.TYPE n) = 1 → s.flag (RGS_SLOT_BIND.LL_EN n) = true →
      let inside := rgsInWindow s n (max dur (rgsLineTicks s n bs.length)) (s.pivotAt at_)
      (inside = false ∧ f = RGS_SLOT_FLAGS.LL_LATE n ∨
       inside = true ∧ rgsLineForm bs = false ∧ f = RGS_SLOT_FLAGS.LL_CRC n ∨
       inside = true ∧ rgsLineForm bs = true ∧ rgsLineSeq s n bs = false ∧
         f = RGS_SLOT_FLAGS.LL_SEQ n) → ∃ t, exec (.ledgerLine n bs dur at_) s = .next t ∧ t.get f = 1 ∧
      t.get (RGS_SLOT_CNT.MSG_ERR n) = min (s.get (RGS_SLOT_CNT.MSG_ERR n) + 1) (2 ^ (RGS_SLOT_CNT.MSG_ERR n).width - 1) ∧
      (s.flag f = false → Raised 40 t) ∧ SameOffIrq [RGS_SLOT_CNT.MSG_ERR n, f] s t ∧
      t.rgs = { s.rgs with slots := s.rgs.slots.modify n fun x => { x with spoiled := true } } ∧ OnlyParts [.rgs] s t) ∧
    (∀ bs dur at_, s.live .rgs = true → s.get (RGS_SLOT_BIND.TYPE n) = 1 → s.flag (RGS_SLOT_BIND.LL_EN n) = true →
      rgsInWindow s n (max dur (rgsLineTicks s n bs.length)) (s.pivotAt at_) = true → rgsLineForm bs = true → rgsLineSeq s n bs = true →
      (rgsSlot s n).spoiled = true → exec (.ledgerLine n bs dur at_) s = .next s) ∧
    (∀ rec p, (rgsSlot s n).pulse = some (rec, p, false) → let k := (rgsSlot s n).llMiss + 1
      ∃ t, exec (.ledgerLineTimeout n) s = .next t ∧ t.get (RGS_SLOT_FLAGS.LL_MISSING n) = 1 ∧ (rgsSlot t n).pulse = none ∧
      (rgsSlot t n).llMiss = k ∧ (k < 3 → t.get (RGS_SLOT_STATUS.SIG n) = s.get (RGS_SLOT_STATUS.SIG n)) ∧
      (3 ≤ k → t.get (RGS_SLOT_STATUS.SIG n) = 0 ∧ (rgsSlot t n).llRef = none) ∧
      SameOffIrq [RGS_SLOT_FLAGS.LL_MISSING n, RGS_SLOT_STATUS.SIG n] s t ∧ OnlyParts [.rgs] s t) ∧
    (s.get (RGS_SLOT_BIND.TYPE n) = 1 → s.flag (RGS_SLOT_STATUS.SIG n) = true → ∃ t, exec (.pulseAbsent n) s = .next t ∧
      t.get (RGS_SLOT_STATUS.SIG n) = 0 ∧ (rgsSlot t n).llRef = none ∧ (rgsSlot t n).pulse = none ∧
      (rgsSlot t n).absentAt = s.rgs.now + 1 ∧ SameFields [RGS_SLOT_STATUS.SIG n] s t ∧ OnlyParts [.rgs] s t)

/-- A reference slot qualifies, waits to restore, fails and is enabled by the rules of its states. -/
def Obligations.SlotsQualifyAndFail : Prop :=
  ∀ (s : State) (n : Fin 64), s.Wf →
    (s.get (RGS_SLOT_STATUS.STATE n) = 2 → ∃ t, exec (.qualTimerDone n) s = .next t ∧
      (s.flag (RGS_SLOT_STATUS.EVER_QUAL n) = false ∨ (rgsSlot s n).retAt + 100 * s.get (RGS_SLOT_WTR.WTR n) ≤ s.rgs.now →
        t.get (RGS_SLOT_STATUS.STATE n) = 4 ∧ t.get (RGS_SLOT_STATUS.EVER_QUAL n) = 1 ∧ t.get (RGS_SLOT_STATUS.TIMER n) = 0 ∧
        t.get (RGS_SLOT_FLAGS.QUALIFIED_EV n) = 1 ∧ (rgsSlot t n).qualAt = s.rgs.now) ∧
      (s.flag (RGS_SLOT_STATUS.EVER_QUAL n) = true → s.rgs.now < (rgsSlot s n).retAt + 100 * s.get (RGS_SLOT_WTR.WTR n) →
        t.get (RGS_SLOT_STATUS.STATE n) = 3 ∧ t.get (RGS_SLOT_FLAGS.QUALIFIED_EV n) = s.get (RGS_SLOT_FLAGS.QUALIFIED_EV n)) ∧
      SameOffIrq [RGS_SLOT_STATUS.STATE n, RGS_SLOT_STATUS.EVER_QUAL n, RGS_SLOT_STATUS.TIMER n, RGS_SLOT_FLAGS.QUALIFIED_EV n,
        RGS_STATUS.ANY_DISPUTED, RGS_STATUS.ANY_HOLD] s t ∧ t.tb = { s.tb with reports := t.tb.reports } ∧ OnlyParts [.tb, .rgs] s t) ∧
    (∀ c, (c = Instr.wtrExpiry n ∨ c = Instr.wtrClear n ∧ s.hostReach .rgs (some (1, n)) = true) →
      s.get (RGS_SLOT_STATUS.STATE n) = 3 → ∃ t, exec c s = .next t ∧ t.get (RGS_SLOT_STATUS.STATE n) = 4 ∧
      t.get (RGS_SLOT_STATUS.EVER_QUAL n) = 1 ∧ t.get (RGS_SLOT_FLAGS.QUALIFIED_EV n) = 1 ∧ t.get (RGS_SLOT_STATUS.TIMER n) = 0 ∧
      SameOffIrq [RGS_SLOT_STATUS.STATE n, RGS_SLOT_STATUS.EVER_QUAL n, RGS_SLOT_STATUS.TIMER n, RGS_SLOT_FLAGS.QUALIFIED_EV n,
        RGS_STATUS.ANY_DISPUTED, RGS_STATUS.ANY_HOLD] s t ∧ t.tb = { s.tb with reports := t.tb.reports } ∧ OnlyParts [.tb, .rgs] s t) ∧
    ((s.get (RGS_SLOT_STATUS.STATE n) = 4 ∨ s.get (RGS_SLOT_STATUS.STATE n) = 5) → s.flag (RGS_SLOT_STATUS.SIG n) = false →
      ∃ t, exec (.holdoffExpiry n) s = .next t ∧ t.get (RGS_SLOT_STATUS.STATE n) = 1 ∧ t.get (RGS_SLOT_FLAGS.LOST n) = 1 ∧
      t.get (RGS_SLOT_STATUS.DISPUTED n) = 0 ∧
      t.get (RGS_SLOT_CNT.LOS_CNT n) = min (s.get (RGS_SLOT_CNT.LOS_CNT n) + 1) (2 ^ (RGS_SLOT_CNT.LOS_CNT n).width - 1) ∧
      (rgsSlot t n).llRef = none ∧ (s.flag (RGS_SLOT_FLAGS.LOST n) = false ∨ s.get (RGS_SLOT_STATUS.STATE n) = 4 → Raised 39 t) ∧
      SameOffIrq ([RGS_SLOT_STATUS.STATE n, RGS_SLOT_STATUS.TIMER n, RGS_SLOT_FLAGS.LOST n, RGS_SLOT_CNT.LOS_CNT n,
        RGS_STATUS.ANY_DISPUTED, RGS_STATUS.ANY_HOLD] ++ ((List.range 64).map fun m => RGS_SLOT_STATUS.DISPUTED m) ++ (List.range 24).map fun k => RGS_SEL_STATUS.HOLD_ON_DISPUTE k) s t ∧ t.tb = { s.tb with reports := t.tb.reports } ∧ OnlyParts [.tb, .rgs] s t) ∧
    (s.hostReach .rgs (some (1, n)) = true → s.get (RGS_SLOT_STATUS.STATE n) = 0 → ∃ t, exec (.slotEnable n true) s = .next t ∧
      t.get (RGS_SLOT_CFG.EN n) = 1 ∧ t.get (RGS_SLOT_STATUS.STATE n) = 1 ∧ (rgsSlot t n).llRef = none ∧
      SameFields [RGS_SLOT_CFG.EN n, RGS_SLOT_STATUS.STATE n, RGS_SLOT_STATUS.TIMER n, RGS_STATUS.ANY_DISPUTED, RGS_STATUS.ANY_HOLD] s t ∧
      t.tb = { s.tb with reports := t.tb.reports } ∧ OnlyParts [.tb, .rgs, .prov] s t ∧ CfgWrites s t) ∧
    (s.hostReach .rgs (some (1, n)) = true → ∃ t, exec (.slotEnable n false) s = .next t ∧
      t.get (RGS_SLOT_CFG.EN n) = 0 ∧ t.get (RGS_SLOT_STATUS.STATE n) = 0 ∧ t.get (RGS_SLOT_STATUS.EVER_QUAL n) = 0 ∧
      t.get (RGS_SLOT_STATUS.DISPUTED n) = 0 ∧
      SameFields ([RGS_SLOT_CFG.EN n, RGS_SLOT_STATUS.STATE n, RGS_SLOT_STATUS.TIMER n, RGS_SLOT_STATUS.EVER_QUAL n,
        RGS_STATUS.ANY_DISPUTED, RGS_STATUS.ANY_HOLD] ++ ((List.range 64).map fun m => RGS_SLOT_STATUS.DISPUTED m) ++ (List.range 24).map fun k => RGS_SEL_STATUS.HOLD_ON_DISPUTE k) s t ∧ t.tb = { s.tb with reports := t.tb.reports } ∧ OnlyParts [.tb, .rgs, .prov] s t ∧ CfgWrites s t) ∧
    (s.live .rgs = true → ∃ t, exec .evaluationCycle s = .next t ∧ t.rgs.now = s.rgs.now + 1 ∧
      (s.get (RGS_SLOT_STATUS.STATE n) = 1 → s.flag (RGS_SLOT_STATUS.SIG n) = true → s.get (RGS_SLOT_BIND.TYPE n) = 1 →
       rgsFixed s n = true → s.get (RGS_SLOT_CFG.FIXED_GRADE n) ≤ 14 → t.get (RGS_SLOT_STATUS.STATE n) = 2 ∧
         (rgsSlot t n).since = s.rgs.now + 1 ∧ t.get (RGS_SLOT_STATUS.GRADE n) = s.get (RGS_SLOT_CFG.FIXED_GRADE n)) ∧
      (∀ g : Fld, offIrq g.ofs → g.ofs < 0x90000 ∨ 0xA0000 ≤ g.ofs → (∀ k < 24, g.apart (LOOP_STATUS.GRADE k)) →
        t.get g = s.get g) ∧ t.tb = { s.tb with reports := t.tb.reports } ∧ OnlyParts [.tb, .rgs, .loops] s t) ∧
    (s.live .rgs = false → exec .evaluationCycle s = .next s)

/-- The best reference of a loop, the end of alignment, and disputes between equal references. -/
def Obligations.ReferencesAreSelectedAndDisputed : Prop :=
  ∀ s : State, s.Wf →
    (∀ (k : Fin 24) (n : Nat), s.flag (RGS_SEL_CTRL.MANUAL_EN k) = false → rgsBest s k = some n →
      n < 64 ∧ rgsEligible s k n = true ∧ ∀ m, m < 64 → rgsEligible s k m = true → rgsRank s k n ≤ rgsRank s k m) ∧
    (∀ k : Fin 24, s.get (RGS_SEL_STATUS.SW_STATE k) = 2 → ∃ t, exec (.alignTimer k) s = .next t ∧
      t.get (RGS_SEL_STATUS.SW_STATE k) = 3 ∧ SameFields [RGS_SEL_STATUS.SW_STATE k] s t ∧ OnlyParts [] s t) ∧
    (∀ a b ya yb, s.live .rgs = true → s.flag RGS_CFG.DISPUTE_EN = true → s.rgs.disputes = [] → a < b → b < 64 →
      rgsComparable s a b = true → (∀ x y, x < y → y < 64 → (x, y) ≠ (a, b) → rgsComparable s x y = false) →
      rgsY (rgsSlot s a) (rgsTau s) = some ya → rgsY (rgsSlot s b) (rgsTau s) = some yb →
      s.getS RGS_DISPUTE_LIM_FF.ofs < (ya - yb).natAbs → let two := decide (s.get ENS_STATUS.ACTIVE_CNT < 3)
      let l := if (yb - s.getS ENS_YENS_FF.ofs).natAbs < (ya - s.getS ENS_YENS_FF.ofs).natAbs then a else b
      ∃ t, exec .disputeCheck s = .next t ∧ t.rgs = { s.rgs with disputes := [⟨a, b, two, l⟩] } ∧
      (∀ n, n < 64 → t.get (RGS_SLOT_STATUS.DISPUTED n) =
        if n = l ∨ two = true ∧ (n = a ∨ n = b) then 1 else s.get (RGS_SLOT_STATUS.DISPUTED n)) ∧
      t.get RGS_DISPUTE_INFO.SLOT_A = a ∧ t.get RGS_DISPUTE_INFO.SLOT_B = b ∧ t.get RGS_DISPUTE_INFO.BOTH = bit two ∧
      t.get RGS_FLAGS.DISPUTE_RAISED = 1 ∧ Raised 37 t ∧ t.get RGS_STATUS.ANY_DISPUTED = 1 ∧
      (two = true → ∀ k, k < 24 → rgsIncumbent s k = some a ∨ rgsIncumbent s k = some b → t.get (RGS_SEL_STATUS.HOLD_ON_DISPUTE k) = 1) ∧
      (∀ g : Fld, offIrq g.ofs → g.ofs < 0x90000 ∨ 0xA0000 ≤ g.ofs → t.get g = s.get g) ∧ OnlyParts [.tb, .rgs, .loops] s t) ∧
    (∀ d ya yb, s.live .rgs = true → s.flag RGS_CFG.DISPUTE_EN = true → s.rgs.disputes = [d] → d.a < d.b → d.b < 64 →
      (∀ x y, x < y → y < 64 → rgsComparable s x y = false) →
      rgsY (rgsSlot s d.a) (rgsTau s) = some ya → rgsY (rgsSlot s d.b) (rgsTau s) = some yb →
      (∀ n, n = d.a ∨ n = d.b → s.get (RGS_SLOT_STATUS.STATE n) = 4 ∧ (rgsSlot s n).qualAt + rgsTau s ≤ s.rgs.now) →
      2 * ((ya - yb).natAbs : Int) ≤ s.getS RGS_DISPUTE_LIM_FF.ofs → ∃ t, exec .disputeCheck s = .next t ∧ t.rgs.disputes = [] ∧
      t.get (RGS_SLOT_STATUS.DISPUTED d.a) = 0 ∧ t.get (RGS_SLOT_STATUS.DISPUTED d.b) = 0 ∧ OnlyParts [.tb, .rgs] s t) ∧
    (∀ n : Fin 64, s.hostReach .rgs (some (1, n)) = true → s.flag (RGS_SLOT_STATUS.DISPUTED n) = true →
      ∃ t, exec (.disputeClear n) s = .next t ∧ t.get (RGS_SLOT_STATUS.DISPUTED n) = 0 ∧ (rgsSlot t n).checkAt = s.rgs.now ∧
      t.rgs.disputes = s.rgs.disputes.filter (fun d => !(d.both && (d.a == n.val || d.b == n.val) || d.loser == n.val)) ∧
      SameFields ([RGS_SLOT_STATUS.DISPUTED n, RGS_STATUS.ANY_DISPUTED, RGS_STATUS.ANY_HOLD] ++
        (List.range 24).map fun k => RGS_SEL_STATUS.HOLD_ON_DISPUTE k) s t ∧ OnlyParts [.tb, .rgs] s t)

/-- The host enables, opens, steers and resolves a disciplining loop. -/
def Obligations.LoopsAreCommandedByTheHost : Prop :=
  ∀ (s : State) (k : Fin 24), s.Wf →
    (∀ (seq : BitVec 16) (at_ : Nat) (c : Instr) (w : Word), s.hostReach .loop (some (2, k)) = true →
      (c = .loopAuth k seq at_ ∧ w = seq.setWidth 32 ||| 0x10000 ∨ c = .loopAlign k seq at_ ∧ w = seq.setWidth 32 ||| 0x20000 ∨
       c = .loopReject k seq at_ ∧ w = seq.setWidth 32 ||| 0x40000) →
      (s.get (LOOP_INFO.ROLE k) < 2 → s.get (LOOP_STATUS.STATE k) = 7 → seq.toNat = s.get (LOOP_PEND_INFO.SEQ k) →
        ∃ t, exec c s = .next t ∧ t = { s with loops := s.loops.modify k fun l => { l with auth := some (w, s.pivotAt at_) } }) ∧
      (2 ≤ s.get (LOOP_INFO.ROLE k) ∨ s.get (LOOP_STATUS.STATE k) ≠ 7 ∨ seq.toNat ≠ s.get (LOOP_PEND_INFO.SEQ k) →
        ∃ t, exec c s = .next t ∧ t.get (LOOP_FLAGS.AUTH_MISMATCH k) = 1 ∧
        (s.flag (LOOP_FLAGS.AUTH_MISMATCH k) = false → Raised (49 + 2 * k) t) ∧
        SameOffIrq [LOOP_FLAGS.AUTH_MISMATCH k] s t ∧ OnlyParts [] s t)) ∧
    (s.hostReach .loop (some (2, k)) = true → ∃ t, exec (.loopEnable k false) s = .next t ∧ t.get (LOOP_CFG.EN k) = 0 ∧
      t.get (LOOP_STATUS.STATE k) = 0 ∧ SameFields [LOOP_CFG.EN k, LOOP_STATUS.STATE k, LOOP_GLB_STATUS.ANY_HOLDOVER, LOOP_GLB_STATUS.ANY_PENDING, LOOP_GLB_STATUS.STAT_LOOP_EFF, LOOP_GLB_STATUS.STAT_NONE,
        TB_STATUS.FREE_MEAS, TB_STATUS.SLEWING, TB_STATUS.VERIFY_DISAGREE] s t ∧
      OnlyParts [.prov] s t ∧ CfgWrites s t) ∧
    (s.hostReach .loop (some (2, k)) = true → s.get (LOOP_STATUS.STATE k) = 0 → ∃ t, exec (.loopEnable k true) s = .next t ∧
      t.loops = s.loops.modify k (fun l => { l with sawNone := false, sawHold := false }) ∧
      t.get (LOOP_CFG.EN k) = 1 ∧ t.get (LOOP_STATUS.STATE k) = 1 ∧ t.get (LOOP_STATUS.FIRST_DONE k) = 0 ∧
      t.get (LOOP_STATUS.GRADE k) = s.get (RGS_SEL_STATUS.GRADE k) ∧
      (∀ n, rgsIncumbent s k = some n → s.get (RGS_SEL_STATUS.SW_STATE k) = 0 → rgsEligible s k n = true →
        t.get (RGS_SEL_STATUS.SW_STATE k) = 3 ∧ t.get (RGS_SEL_STATUS.TARGET k) = n) ∧
      SameFields [LOOP_CFG.EN k, LOOP_STATUS.STATE k, LOOP_STATUS.FIRST_DONE k, LOOP_STATUS.GRADE k, RGS_SEL_STATUS.SW_STATE k, RGS_SEL_STATUS.TARGET k,
        LOOP_GLB_STATUS.ANY_HOLDOVER, LOOP_GLB_STATUS.ANY_PENDING, LOOP_GLB_STATUS.STAT_LOOP_EFF, LOOP_GLB_STATUS.STAT_NONE,
        TB_STATUS.FREE_MEAS, TB_STATUS.SLEWING, TB_STATUS.VERIFY_DISAGREE] s t ∧ OnlyParts [.loops, .prov] s t ∧ CfgWrites s t) ∧
    (s.hostReach .loop (some (2, k)) = true → s.flag (LOOP_CFG.OPEN k) = false → ∃ t, exec (.openChange k true) s = .next t ∧
      t.get (LOOP_CFG.OPEN k) = 1 ∧ t.getS (LOOP_NUM_FF.ofs k) = s.getS (LOOP_INT_FF.ofs k) ∧
      t.loops = s.loops.modify k (fun l => { l with numFF := [(0, s.getS (LOOP_INT_FF.ofs k))] }) ∧
      SameFields ([LOOP_CFG.OPEN k] ++ pairOf (LOOP_NUM_FF.ofs k)) s t ∧ OnlyParts [.loops, .prov] s t ∧ CfgWrites s t) ∧
    (s.hostReach .loop (some (2, k)) = true → s.flag (LOOP_CFG.OPEN k) = true → ∃ t, exec (.openChange k false) s = .next t ∧
      t.get (LOOP_CFG.OPEN k) = 0 ∧ t.getS (LOOP_INT_FF.ofs k) = s.getS (LOOP_NUM_FF.ofs k) ∧
      SameFields ([LOOP_CFG.OPEN k] ++ pairOf (LOOP_INT_FF.ofs k)) s t ∧ OnlyParts [.prov] s t ∧ CfgWrites s t) ∧
    (∀ (v : BitVec 64) (at_ : Nat), s.hostReach .loop (some (2, k)) = true → s.flag (LOOP_CFG.OPEN k) = true →
      ∃ t, exec (.numPhWrite k v at_) s = .next t ∧
      t = { s with loops := s.loops.modify k fun l => { l with numPh := (s.pivotAt at_, v.toInt) :: l.numPh } }) ∧
    (∀ at_, ∃ t, exec (.loopDeadlineMiss k at_) s = .next t ∧ t.get (LOOP_FLAGS.DEADLINE k) = 1 ∧ t.get ⟨CON_DL_FLAGS.FAULT.ofs, 1, 1⟩ = 1 ∧
      t.get (CON_DL_CNT.COUNT 1) = min (s.get (CON_DL_CNT.COUNT 1) + 1) (2 ^ (CON_DL_CNT.COUNT 1).width - 1) ∧ Raised 17 t ∧
      SameOffIrq [LOOP_FLAGS.DEADLINE k, CON_DL_CNT.COUNT 1, ⟨CON_DL_FLAGS.FAULT.ofs, 1, 1⟩] s t ∧ OnlyParts [.con] s t)

/-- What a loop epoch does while tracking, on a refused offset, on the loss of every reference and at a first commit. -/
def Obligations.LoopsFilterRefuseAndHoldOver : Prop :=
  ∀ (s : State) (k : Fin 24) (meas : Option Int) (at_ : Nat), s.Wf → s.live .loop = true →
    (∀ x n, s.get (LOOP_INFO.ROLE k) < 2 → s.flag (LOOP_CFG.OPEN k) = false → (s.get (LOOP_STATUS.STATE k) = 2 ∨ s.get (LOOP_STATUS.STATE k) = 3) →
      s.get (RGS_SEL_STATUS.SW_STATE k) < 3 → s.flag (RGS_SEL_STATUS.HOLD_ON_DISPUTE k) = false → (loopSt s k).auth = none →
      (loopSt s k).sawNone = false → (loopSt s k).sawHold = false →
      rgsIncumbent s k = some n → loopNewX s k (loopMeasure s k meas at_) = some x →
      let p := (loopSt s k).p + Config.quot (s.getS (LOOP_STEER_FF.ofs k) * (loopEpochTime s k at_ - (loopSt s k).pAt)) (2 ^ 60)
      let e := Config.quot (x * phUnit - p - (loopSt s k).r) phUnit
      let g := loopGains s k n
      let lim := s.getS (LOOP_FREQ_LIM_FF.ofs k)
      let i := sat64 (clampInt (-lim) lim (s.getS (LOOP_INT_FF.ofs k) +
        loopKiTauE g.1 (loopEpochNs (s.get (LOOP_CFG.EPOCH k))) e))
      let thr : Int := s.get (LOOP_LOCK.LOCK_THR k) * 65536
      ((e.natAbs : Int) ≤ s.getS TB_JUMP_LIMIT_PH.ofs → ∃ t, exec (.loopEpoch k meas at_) s = .next t ∧
        (loopSt t k).p = p ∧ (loopSt t k).r = (loopSt (loopSlew k s).2 k).r ∧
        t.getS (LOOP_E_PH.ofs k) = sat64 e ∧ t.getS (LOOP_INT_FF.ofs k) = i ∧
        t.getS (LOOP_STEER_FF.ofs k) = sat64 (i + loopKpE g.1 g.2.1 e + (loopSlew k s).1) ∧
        (s.get (LOOP_STATUS.STATE k) = 2 → (loopSt s k).r = 0 → (e.natAbs : Int) ≤ thr →
          (loopSt s k).lockRun + 1 = max 1 (s.get (LOOP_LOCK.LOCK_CNT k)) → t.get (LOOP_STATUS.STATE k) = 3 ∧
          t.get (LOOP_FLAGS.LOCK_GAINED k) = 1) ∧
        (s.get (LOOP_STATUS.STATE k) = 3 → (e.natAbs : Int) ≤ 2 * thr → t.get (LOOP_STATUS.STATE k) = 3) ∧
        (s.get (LOOP_STATUS.STATE k) = 3 → 2 * thr < e.natAbs → (loopSt s k).unlockRun = 3 → t.get (LOOP_STATUS.STATE k) = 2 ∧
          t.get (LOOP_FLAGS.LOCK_LOST k) = 1)) ∧
      (s.getS TB_JUMP_LIMIT_PH.ofs < e.natAbs → ∃ t, exec (.loopEpoch k meas at_) s = .next t ∧
        t.get (LOOP_STATUS.STATE k) = 7 ∧ t.getS (LOOP_PEND_PH.ofs k) = sat64 e ∧
        t.get (LOOP_PEND_INFO.SEQ k) = (s.get (LOOP_PEND_INFO.SEQ k) + 1) % 2 ^ 16 ∧ t.get (LOOP_FLAGS.STEP_REFUSED k) = 1 ∧
        Raised (48 + 2 * k) t ∧ t.getS (LOOP_INT_FF.ofs k) = s.getS (LOOP_INT_FF.ofs k) ∧
        t.getS (LOOP_STEER_FF.ofs k) = s.getS (LOOP_INT_FF.ofs k) ∧ (loopSt t k).r = (loopSt s k).r)) ∧
    (2 ≤ s.get (LOOP_STATUS.STATE k) → s.get (LOOP_STATUS.STATE k) ≠ 5 →
      (s.get (RGS_SEL_STATUS.SW_STATE k) = 4 ∨ (loopSt s k).sawNone = true ∧ s.get (RGS_SEL_STATUS.SW_STATE k) ≠ 3) →
      ∃ t, exec (.loopEpoch k meas at_) s = .next t ∧ t.get (LOOP_STATUS.STATE k) = 5 ∧ t.get (LOOP_FLAGS.HO_ENTERED k) = 1 ∧
      t.get (LOOP_HO_TIME.SEC k) = 0 ∧ t.get (LOOP_GLB_STATUS.ANY_HOLDOVER) = 1 ∧ (loopSt t k).hoAt = loopEpochTime s k at_ ∧
      t.get (LOOP_CNT.HO_ENTRIES k) = min (s.get (LOOP_CNT.HO_ENTRIES k) + 1) (2 ^ (LOOP_CNT.HO_ENTRIES k).width - 1)) ∧
    (s.get (LOOP_INFO.ROLE k) < 2 → s.flag (LOOP_CFG.OPEN k) = false → s.get (LOOP_STATUS.STATE k) = 1 →
      s.flag (LOOP_STATUS.FIRST_DONE k) = false → s.get (RGS_SEL_STATUS.SW_STATE k) = 3 → (loopSt s k).auth = none →
      0 ≤ s.getS TB_JUMP_LIMIT_PH.ofs →
      let n := s.get (RGS_SEL_STATUS.TARGET k)
      let x := loopTargetX s n (loopMeasure s k meas at_)
      ∃ t, exec (.loopEpoch k meas at_) s = .next t ∧ t.get (RGS_SEL_STATUS.SLOT k) = n ∧ t.get (RGS_SEL_STATUS.VALID k) = 1 ∧
      t.get (RGS_SEL_STATUS.SW_STATE k) = 0 ∧ t.get RGS_FLAGS.SWITCH_DONE = 1 ∧ t.get (LOOP_STATUS.FIRST_DONE k) = 1 ∧
      (loopSt t k).p = x * phUnit ∧ (loopSt t k).r = 0 ∧ t.getS (LOOP_STEER_FF.ofs k) = s.getS (LOOP_STEER_FF.ofs k) ∧
      t.get (RGS_SEL_CNT.COMMITS k) = min (s.get (RGS_SEL_CNT.COMMITS k) + 1) (2 ^ (RGS_SEL_CNT.COMMITS k).width - 1)) ∧
    (s.get (LOOP_STATUS.STATE k) = 0 → exec (.loopEpoch k meas at_) s = .next s) ∧
    (∃ t, exec (.loopEpoch k meas at_) s = .next t ∧ OnlyParts [.tb, .loops, .ens, .out] s t ∧
      (∀ m, m ≠ k.val → loopSt t m = loopSt s m) ∧
      (s.get (LOOP_INFO.ROLE k) < 2 → t.tb = { s.tb with reports := t.tb.reports } ∧ t.ens = s.ens) ∧
      ∀ g : Fld, offIrq g.ofs → g.ofs < LOOP_CFG.ofs k ∨ LOOP_CFG.ofs k + 0x100 ≤ g.ofs → g.ofs < 0x80000 ∨ 0x90000 ≤ g.ofs →
        (∀ f ∈ [LOOP_GLB_STATUS.ANY_HOLDOVER, LOOP_GLB_STATUS.ANY_PENDING, LOOP_GLB_STATUS.STAT_LOOP_EFF, LOOP_GLB_STATUS.STAT_NONE,
          RGS_SEL_STATUS.SLOT k, RGS_SEL_STATUS.VALID k, RGS_SEL_STATUS.SW_STATE k, RGS_SEL_STATUS.GRADE k,
          RGS_SEL_STATUS.HOLD_ON_DISPUTE k, RGS_SEL_CNT.COMMITS k, RGS_FLAGS.SWITCH_DONE, RGS_STATUS.ANY_DISPUTED, RGS_STATUS.ANY_HOLD] ++
          pairOf (RGS_SEL_STEP_PH.ofs k), g.apart f) →
        (∀ n < 16, ∀ f ∈ [OUT_FLAGS.STEP_EV n, OUT_FLAGS.SKIPPED n, OUT_CNT.STEPS n, OUT_CNT.SKIPPED n], g.apart f) → t.get g = s.get g)

/-- The host enables, retries and suspends an ensemble member; a late epoch delivers nothing. -/
def Obligations.EnsembleMembersAreCommanded : Prop :=
  ∀ (s : State) (i : Fin 32), s.Wf →
    (s.hostReach .ens (some (3, i)) = true → ∃ t, exec (.memberEnable i false) s = .next t ∧ t.get (MB_CFG.EN i) = 0 ∧
      t.get (MB_STATUS.STATE i) = 0 ∧ t.reg (MB_WEIGHT.ofs i) = 0 ∧
      t.get ENS_STATUS.TRIAL_CNT = ((List.range 32).filter fun j => t.get (MB_STATUS.STATE j) == 1).length ∧
      SameFields [MB_CFG.EN i, MB_STATUS.STATE i, whole (MB_WEIGHT.ofs i), ENS_STATUS.TRIAL_CNT] s t ∧ OnlyParts [.prov] s t ∧ CfgWrites s t) ∧
    (∀ c, (c = Instr.memberEnable i true ∧ s.get (MB_STATUS.STATE i) = 0 ∨ c = Instr.memberRetry i ∧ s.get (MB_STATUS.STATE i) = 3) →
      s.hostReach .ens (some (3, i)) = true → ∃ t, exec c s = .next t ∧ t.get (MB_STATUS.STATE i) = 1 ∧
      (c = .memberEnable i true → t.get (MB_CFG.EN i) = 1) ∧ (c = .memberRetry i → t.get (MB_CFG.EN i) = s.get (MB_CFG.EN i)) ∧
      t.get (MB_STATUS.REJ_RUN i) = 0 ∧ t.get (MB_STATUS.MISS_RUN i) = 0 ∧ t.reg (MB_TRIAL.ofs i) = 0 ∧
      t.get ENS_STATUS.TRIAL_CNT = ((List.range 32).filter fun j => t.get (MB_STATUS.STATE j) == 1).length ∧
      t.ens = { s.ens with members := s.ens.members.modify i fun m => { m with holdRun := 0 } } ∧
      SameFields [MB_CFG.EN i, MB_STATUS.STATE i, MB_STATUS.REJ_RUN i, MB_STATUS.MISS_RUN i, whole (MB_TRIAL.ofs i),
        ENS_STATUS.TRIAL_CNT] s t ∧ OnlyParts [.ens, .prov] s t ∧ CfgWrites s t) ∧
    (s.hostReach .ens (some (3, i)) = true → s.get (MB_STATUS.STATE i) = 2 → ∃ t, exec (.memberSuspend i) s = .next t ∧
      t.get (MB_STATUS.STATE i) = 3 ∧ t.reg (MB_WEIGHT.ofs i) = 0 ∧ t.get ENS_FLAGS.SUSPENDED_EV = 1 ∧
      (s.flag ENS_FLAGS.SUSPENDED_EV = false → Raised 41 t) ∧
      SameOffIrq [MB_STATUS.STATE i, whole (MB_WEIGHT.ofs i), ENS_FLAGS.SUSPENDED_EV, ENS_STATUS.TRIAL_CNT] s t ∧ OnlyParts [.ens] s t) ∧
    (s.hostReach .ens (some (3, i)) = true → (s.get (MB_STATUS.STATE i) ≠ 3 → exec (.memberRetry i) s = .next s) ∧
      (s.get (MB_STATUS.STATE i) ≠ 2 → exec (.memberSuspend i) s = .next s)) ∧
    (∀ v : BitVec 64, s.hostReach .ens none = true → ∃ t, exec (.manPhWrite v) s = .next t ∧
      ((∀ k, k < 24 → s.get (LOOP_INFO.ROLE k) ≠ 3) → t.ens = { s.ens with manPh := sat64 (s.ens.manPh + v.toInt) } ∧
        (if s.ens.manPh + v.toInt = sat64 (s.ens.manPh + v.toInt) then t.rf = s.rf else t.get ENS_FLAGS.SAT = 1) ∧
        SameOffIrq [ENS_FLAGS.SAT] s t ∧ OnlyParts [.ens] s t) ∧
      ((∃ k, k < 24 ∧ s.get (LOOP_INFO.ROLE k) = 3) → t = s)) ∧
    (∀ at_ : Nat, ∃ t, exec (.epochLate at_) s = .next t ∧
      (∀ j, j < 32 → t.getS (MB_X_PH.ofs j) = if s.get (MB_STATUS.STATE j) = 0 then s.getS (MB_X_PH.ofs j) else sat64 (ensPredict s j)) ∧
      t.get ENS_FLAGS.EPOCH_LATE = 1 ∧ t.get ENS_CNT.LATE = min (s.get ENS_CNT.LATE + 1) (2 ^ ENS_CNT.LATE.width - 1) ∧
      t.get ENS_STATUS.DELIVERING = 0 ∧ t.tb = s.tb ∧ t.ens.pair = none ∧ t.ens.manPh = 0 ∧ t.get ⟨CON_DL_FLAGS.FAULT.ofs, 2, 1⟩ = 1 ∧
      Raised 18 t ∧
      SameOffIrq ([ENS_FLAGS.EPOCH_LATE, ENS_FLAGS.SAT, ENS_CNT.LATE, ENS_STATUS.DELIVERING, TB_STATUS.FREE_MEAS, TB_STATUS.SLEWING, TB_STATUS.VERIFY_DISAGREE, CON_DL_CNT.COUNT 2,
        ⟨CON_DL_FLAGS.FAULT.ofs, 2, 1⟩] ++ (List.range 32).flatMap fun j => pairOf (MB_X_PH.ofs j)) s t ∧ OnlyParts [.ens, .con] s t)

/-- The outlier test of the ensemble and the figures that an epoch leaves. -/
def Obligations.EnsembleEpochKeepsTheTimescale : Prop :=
  ∀ s : State,
    (∀ (coast : Int) (set : List EnsRow) (fuel : Nat), set.length < fuel → let r := ensTest s coast fuel set []
      (∀ m ∈ r.set, m ∈ set) ∧ (∀ i ∈ r.rejected, ∃ m ∈ set, m.i = i) ∧
      (r.noMajority = false → ∀ m ∈ r.set, ensExceeds s r.xdev m = false) ∧ (r.noMajority = true → r.set.length ≤ 3) ∧
      (set = [] → r.xdev = coast)) ∧
    (∀ at_ : Nat, s.Wf → s.live .ens = true → let tk := ensEpochTime s at_
      let rows := ensRows s tk
      let set := rows.filter fun m => m.state == 2
      let coast := s.getS ENS_XDEV_PH.ofs +
        Config.quot ((s.getS ENS_YP_FF.ofs - ensRho s (s.pivotAt at_) (s.timeAt at_)) * ensTau s) (2 ^ 44)
      ∃ t, exec (.ensembleEpoch at_) s = .next t ∧
      t.getS ENS_XDEV_PH.ofs = (if s.ens.rebase = true ∧ rows ≠ [] then 0 else sat64 (ensTest s coast 32 set []).xdev) ∧
      t.getS ENS_TDEV_PH.ofs = sat64 (t.getS ENS_XDEV_PH.ofs - t.getS ENS_C_PH.ofs) ∧
      t.get ENS_STATUS.ACTIVE_CNT = set.length ∧ t.reg ENS_EPOCH.ofs = s.reg ENS_EPOCH.ofs + 1 ∧
      t.ens.pair = none ∧ t.ens.manPh = 0 ∧ t.ens.hist = ((tk, t.getS ENS_XDEV_PH.ofs) :: s.ens.hist).take 2 ∧
      (∀ i, i < 32 → s.get (MB_STATUS.STATE i) = 1 ∨ s.get (MB_STATUS.STATE i) = 2 → ensMeasure s i tk = none →
        t.getS (MB_X_PH.ofs i) = sat64 (ensPredict s i) ∧ t.get (MB_STATUS.MISSING i) = 1 ∧
        t.get (MB_CNT.MISSES i) = min (s.get (MB_CNT.MISSES i) + 1) (2 ^ (MB_CNT.MISSES i).width - 1)) ∧
      (∀ g : Fld, offIrq g.ofs → g.ofs < 0xB0000 ∨ 0xC0000 ≤ g.ofs → g.ofs < 0x80000 ∨ 0x90000 ≤ g.ofs → t.get g = s.get g) ∧
      OnlyParts [.tb, .loops, .ens] s t) ∧
    (∀ at_ : Nat, s.live .ens = false → exec (.ensembleEpoch at_) s = .next s)

/-- Writes of an output's waveform, offset and realignment, and its muting and unmuting. -/
def Obligations.OutputsAreConfiguredAndMuted : Prop :=
  ∀ (s : State) (n : Fin 16), s.Wf →
    (∀ (r : OutReg) (v : BitVec 64), r ≠ .cfg → s.hostReach .out (some (4, n)) = true → ∃ t, exec (.outputConfigWrite n r v) s = .next t ∧
      (r = .freq → t.get64 (OUT_FREQ.ofs n) = v.toNat) ∧ (r = .anchor → t.get64 (OUT_ANCHOR_SEC.ofs n) = v.toNat) ∧
      (r = .period → t.reg (OUT_PERIOD.ofs n) = v.setWidth 32) ∧ (r = .width → t.reg (OUT_WIDTH.ofs n) = v.setWidth 32) ∧
      (outWritten t n = (outSt s n).cfg → t.out = s.out) ∧
      (outWritten t n ≠ (outSt s n).cfg → outMuted s n = true →
        t.out = { s.out with outs := s.out.outs.modify n fun o =>
          { o with cfg := outWritten t n, change := false, refused := (outWritten t n).bad, hold := none } } ∧
        ((outWritten t n).bad = true → t.get (OUT_FLAGS.CFG_BAD n) = 1)) ∧
      (outWritten t n ≠ (outSt s n).cfg → outMuted s n = false →
        t.out = { s.out with outs := s.out.outs.modify n fun o => { o with change := true } }) ∧
      SameOffIrq (pairOf (OUT_FREQ.ofs n) ++ pairOf (OUT_ANCHOR_SEC.ofs n) ++
        [whole (OUT_PERIOD.ofs n), whole (OUT_WIDTH.ofs n), OUT_FLAGS.CFG_BAD n, CDC_XS_CNT.DROPPED 0, CDC_XS_CNT.DROPPED (32 + n.val), CDC_FLAGS.DROP_EV]) s t ∧
      OnlyParts [.sys, .out, .prov] s t ∧ CfgWrites s t) ∧
    (∀ v : BitVec 64, s.hostReach .out (some (4, n)) = true → ∃ t, exec (.outputConfigWrite n .cfg v) s = .next t ∧
      t.get (OUT_CFG.EN n) = fieldOf (v.setWidth 32) 0 1 ∧ t.get (OUT_CFG.MODE n) = fieldOf (v.setWidth 32) 1 1 ∧
      t.get (OUT_CFG.MUTE_LEVEL n) = fieldOf (v.setWidth 32) 2 1 ∧ t.get (OUT_CFG.POL n) = fieldOf (v.setWidth 32) 3 1 ∧
      t.get (OUT_CFG.HOST_MUTE n) = fieldOf (v.setWidth 32) 4 1 ∧ t.get (OUT_CFG.DRIVE n) = fieldOf (v.setWidth 32) 6 2 ∧
      (v.getLsbD 0 = false → t.get (OUT_STATUS.ALIGN_STATE n) = 0 ∧ t.get (OUT_STATUS.ALIGNED n) = 0) ∧
      (v.getLsbD 0 = true → v.getLsbD 5 = false → t.get (OUT_STATUS.ALIGN_STATE n) = s.get (OUT_STATUS.ALIGN_STATE n)) ∧
      (∀ m, m ≠ n.val → outSt t m = outSt s m) ∧ t.out.trgs = s.out.trgs ∧
      SameOffIrq [OUT_CFG.EN n, OUT_CFG.MODE n, OUT_CFG.MUTE_LEVEL n, OUT_CFG.POL n, OUT_CFG.HOST_MUTE n, OUT_CFG.DRIVE n,
        OUT_STATUS.ALIGN_STATE n, OUT_STATUS.ALIGNED n, OUT_FLAGS.CFG_BAD n, CDC_XS_CNT.DROPPED 0, CDC_XS_CNT.DROPPED (32 + n.val), CDC_FLAGS.DROP_EV] s t ∧
      OnlyParts [.sys, .out, .prov] s t ∧ CfgWrites s t) ∧
    (∀ (v : BitVec 64) (at_ : Nat), s.hostReach .out (some (4, n)) = true →
      let w := clampInt (-(10 ^ 9 * 65536)) (10 ^ 9 * 65536) v.toInt
      ∃ t, exec (.outputOffsetWrite n v at_) s = .next t ∧ t.getS (OUT_OFS_PH.ofs n) = w ∧
      ((s.getS (OUT_OFS_PH.ofs n)).natAbs ≤ 10 ^ 9 * 65536 → w ≠ s.getS (OUT_OFS_PH.ofs n) →
        t.get (OUT_FLAGS.STEP_EV n) = 1 ∧
        t.get (OUT_CNT.STEPS n) = min (s.get (OUT_CNT.STEPS n) + 1) (2 ^ (OUT_CNT.STEPS n).width - 1)) ∧
      (w = s.getS (OUT_OFS_PH.ofs n) → t.get (OUT_CNT.STEPS n) = s.get (OUT_CNT.STEPS n)) ∧
      (outMuted s n = true → t.get (OUT_CNT.SKIPPED n) = s.get (OUT_CNT.SKIPPED n)) ∧
      SameOffIrq (pairOf (OUT_OFS_PH.ofs n) ++ [OUT_FLAGS.STEP_EV n, OUT_FLAGS.SKIPPED n, OUT_CNT.STEPS n, OUT_CNT.SKIPPED n,
        CDC_XS_CNT.DROPPED 0, CDC_XS_CNT.DROPPED (32 + n.val), CDC_FLAGS.DROP_EV]) s t ∧
      (xsRuns s 0 = true → s.get (CDC_XS_STATUS.STATE_A (32 + n.val)) = 0 → t.sys = s.sys ∧ t.get (CDC_XS_CNT.DROPPED 0) = s.get (CDC_XS_CNT.DROPPED 0) ∧
        t.get (CDC_XS_CNT.DROPPED (32 + n.val)) = s.get (CDC_XS_CNT.DROPPED (32 + n.val))) ∧
      (xsRuns s 0 = true → s.get (CDC_XS_STATUS.STATE_A (32 + n.val)) = 1 → t.get CDC_FLAGS.DROP_EV = 1 ∧
        t.get (CDC_XS_CNT.DROPPED (32 + n.val)) = min (s.get (CDC_XS_CNT.DROPPED (32 + n.val)) + 1) (2 ^ (CDC_XS_CNT.DROPPED (32 + n.val)).width - 1)) ∧
      (∀ m, m ≠ n.val → outSt t m = outSt s m) ∧ t.out.trgs = s.out.trgs ∧ OnlyParts [.sys, .out, .prov] s t ∧ CfgWrites s t) ∧
    (outMuted s n = false → outCauses s n ≠ 0 → ∃ t, exec (.outputMute n) s = .next t ∧ outMuted t n = true ∧
      ((outSt s n).change = false → t.out = { s.out with outs := s.out.outs.modify n fun o => { o with hold := none } }) ∧
      ((outSt s n).change = true → t.out = { s.out with outs := s.out.outs.modify n fun o =>
          { o with cfg := outWritten s n, change := false, refused := (outWritten s n).bad, hold := none } }) ∧
      SameOffIrq [⟨OUT_GLB_STATUS.MUTED.ofs, 16 + n, 1⟩, OUT_FLAGS.CFG_BAD n] s t ∧ OnlyParts [.out] s t) ∧
    (outMuted s n = true ∨ outCauses s n = 0 → exec (.outputMute n) s = .next s) ∧
    (outMuted s n = true → s.live .out = true → outCauses s n = 0 → ∃ t, exec (.outputUnmute n) s = .next t ∧ outMuted t n = false ∧
      t.get (OUT_FLAGS.UNMUTED_EV n) = 1 ∧ Raised (112 + n) t ∧
      SameOffIrq [⟨OUT_GLB_STATUS.MUTED.ofs, 16 + n, 1⟩, OUT_FLAGS.UNMUTED_EV n] s t ∧ OnlyParts [] s t) ∧
    (s.hostReach .out (some (4, n)) = true → s.get (OUT_STATUS.ALIGN_STATE n) = 2 → ∃ t, exec (.realign n) s = .next t ∧
      t.get (OUT_STATUS.ALIGN_STATE n) = 0 ∧ SameFields [OUT_STATUS.ALIGN_STATE n] s t ∧ OnlyParts [] s t)

/-- Arming, disarming and the instants of a time trigger. -/
def Obligations.TriggersFireOnTheirSchedule : Prop :=
  ∀ (s : State) (j : Fin 32), s.Wf →
    (∀ at_ : Nat, s.hostReach .out (some (5, j)) = true → 2 ≤ s.get (TRG_CFG.MODE j) →
      let now := trgTime s j (s.timeAt at_)
      let start := timeOf (s.get64 (TRG_START_SEC.ofs j)) (s.reg (TRG_START_NS.ofs j)).toNat 0
      let w := s.get (TRG_WIDTH.WIDTH j)
      let ok := now + 2000 * nsUnit ≤ start ∧ (s.reg (TRG_START_NS.ofs j)).toNat ≤ 999999999 ∧
        (s.flag (TRG_CFG.TSRC j) = true → s.ens.started = true) ∧
        (s.get (TRG_CFG.MODE j) = 3 → w + 10 ≤ (s.reg (TRG_PERIOD.ofs j)).toNat) ∧ 5 ≤ w
      (ok → ∃ t, exec (.triggerArm j at_) s = .next t ∧ t.get (TRG_STATUS.ARMED j) = 1 ∧
        let p : TrgPlan := ⟨start, (s.reg (TRG_PERIOD.ofs j)).toNat * nsUnit,
          if s.get (TRG_CFG.MODE j) = 2 then some 1
          else if s.reg (TRG_COUNT.ofs j) = 0 then none else some (s.reg (TRG_COUNT.ofs j)).toNat, 0⟩
        t.get (TRG_STATUS.REMAIN j) = p.remain ∧
        let near := ((trgSt s j).plan.map fun q => q.within (now + 2000 * nsUnit)).getD []
        t.out = { s.out with trgs := s.out.trgs.modify j fun x => { x with plan := some p, old := x.old ++ near } } ∧
        SameFields [TRG_STATUS.ARMED j, TRG_STATUS.REMAIN j] s t ∧ OnlyParts [.out] s t) ∧
      (¬ ok → ∃ t, exec (.triggerArm j at_) s = .next t ∧ t.get (TRG_FLAGS.ARM_REFUSED j) = 1 ∧
        (s.flag (TRG_FLAGS.ARM_REFUSED j) = false → Raised (224 + j) t) ∧ SameOffIrq [TRG_FLAGS.ARM_REFUSED j] s t ∧ OnlyParts [] s t)) ∧
    (s.hostReach .out (some (5, j)) = true → ∃ t, exec (.triggerDisarm j) s = .next t ∧ t.get (TRG_STATUS.ARMED j) = 0 ∧
      t.get (TRG_STATUS.REMAIN j) = 0 ∧
      t.out = { s.out with trgs := s.out.trgs.modify j fun x => { x with plan := none, old := [] } } ∧
      SameFields [TRG_STATUS.ARMED j, TRG_STATUS.REMAIN j] s t ∧ OnlyParts [.out] s t) ∧
    (∀ p : TrgPlan, s.live .out = true → (trgSt s j).old = [] → (trgSt s j).plan = some p →
      let held := s.flag (TRG_CFG.VERIFIED_ONLY j) && !s.flag TB_STATUS.VERIFIED
      let active := !s.flag (TRG_CFG.POL j)
      let last := p.count = some (p.passed + 1)
      let start := p.instant p.passed + (if s.flag (TRG_CFG.TSRC j) then s.getS ENS_TDEV_PH.ofs * phUnit else 0)
      let stop := trgPlace s (start + s.get (TRG_WIDTH.WIDTH j) * nsUnit)
      let up := fun x : Option Int => if held then x else some stop
      ∃ t, exec (.triggerInstant j) s = .next t ∧
      t.get (TRG_CNT.FIRED j) = (if held then s.get (TRG_CNT.FIRED j) else min (s.get (TRG_CNT.FIRED j) + 1) (2 ^ (TRG_CNT.FIRED j).width - 1)) ∧
      t.get (TRG_CNT.SKIPPED j) = (if held then min (s.get (TRG_CNT.SKIPPED j) + 1) (2 ^ (TRG_CNT.SKIPPED j).width - 1) else s.get (TRG_CNT.SKIPPED j)) ∧
      (held = true → t.get (TRG_FLAGS.SUPPRESSED j) = 1) ∧
      (held = false → ¬ last → t.outbox = .trigger j (!active) stop :: .trigger j active (trgPlace s start) :: s.outbox) ∧
      (last → t.get (TRG_STATUS.ARMED j) = 0 ∧ t.get (TRG_STATUS.REMAIN j) = 0 ∧ t.get (TRG_FLAGS.DONE j) = 1 ∧
        t.out = { s.out with trgs := s.out.trgs.modify j fun x => { x with plan := none, until_ := up x.until_ } }) ∧
      (¬ last → t.get (TRG_STATUS.ARMED j) = 1 ∧
        t.out = { s.out with trgs := s.out.trgs.modify j fun x => { x with plan := some { p with passed := p.passed + 1 }, until_ := up x.until_ } }) ∧
      SameOffIrq [TRG_CNT.FIRED j, TRG_CNT.SKIPPED j, TRG_FLAGS.SUPPRESSED j, TRG_FLAGS.DONE j, TRG_STATUS.ARMED j,
        TRG_STATUS.REMAIN j] s t ∧ OnlyParts [.out] s t)

/-- A tracking channel moves between its states only by the events of R164, and is placed, pinned and released. -/
def Obligations.TrackingChannelsChangeState : Prop :=
  ∀ (s : State) (k : Fin 256), s.Wf →
    (let e := s.get (GNSS_TK_STATUS.EXCL k)
      ∀ (c : Instr) (a b x : Nat) (f : TkSt → TkSt), (c, a, b, x, f) ∈ ([
        (.signalFound k, 1, 2, e, fun x => x),
        (.acquisitionTimeout k, 1, s.get (GNSS_TK_STATUS.PINNED k), 0, fun _ => TkSt.reset),
        (.pullinLock k, 2, 3, e, fun x => { x with cp := 0, slip := false, lost := false }),
        (.pullinTimeout k, 2, 1, e, fun x => x),
        (.trackLoss k, 3, 4, e, fun x => x),
        (.reacqLock k, 4, 3, e, fun x => { x with slip := true }),
        (.reacqTimeout k, 4, s.get (GNSS_TK_STATUS.PINNED k), 0, fun _ => TkSt.reset)] ++
        (if s.flag (GNSS_TK_STATUS.PINNED k) then [] else [(.satelliteSet k, 3, 0, 0, fun _ => TkSt.reset)]) :
          List (Instr × Nat × Nat × Nat × (TkSt → TkSt))) →
      (s.get (GNSS_TK_STATUS.STATE k) = a → ∃ t, exec c s = .next t ∧ t.get (GNSS_TK_STATUS.STATE k) = b ∧ t.get (GNSS_TK_STATUS.EXCL k) = x ∧
        t.gnss = { s.gnss with tks := s.gnss.tks.modify k f } ∧
        t.get GNSS_STATUS.TK_USED = ((List.range 256).filter fun j => t.get (GNSS_TK_STATUS.STATE j) != 0).length ∧
        SameFields (GNSS_TK_STATUS.STATE k :: GNSS_TK_STATUS.EXCL k :: [GNSS_STATUS.TK_USED, GNSS_PORT_STATUS.TK_USED 0, GNSS_PORT_STATUS.TK_USED 1, GNSS_PORT_STATUS.TK_USED 2, GNSS_PORT_STATUS.TK_USED 3]) s t ∧ OnlyParts [.gnss] s t) ∧
      (s.get (GNSS_TK_STATUS.STATE k) ≠ a → exec c s = .next s)) ∧
    (s.flag (GNSS_TK_STATUS.PINNED k) = true → exec (.satelliteSet k) s = .next s) ∧
    (s.hostReach .gnss none = true → ∃ t, exec (.trackRelease k) s = .next t ∧ t.get (GNSS_TK_STATUS.STATE k) = 0 ∧
      t.get (GNSS_TK_STATUS.PINNED k) = 0 ∧ t.gnss = { s.gnss with tks := s.gnss.tks.modify k fun _ => TkSt.reset } ∧
      SameFields (GNSS_TK_STATUS.STATE k :: GNSS_TK_STATUS.EXCL k :: GNSS_TK_STATUS.PINNED k :: [GNSS_STATUS.TK_USED, GNSS_PORT_STATUS.TK_USED 0, GNSS_PORT_STATUS.TK_USED 1, GNSS_PORT_STATUS.TK_USED 2, GNSS_PORT_STATUS.TK_USED 3]) s t ∧ OnlyParts [.gnss] s t) ∧
    (∀ v : Word, s.hostReach .gnss none = true → let p := fieldOf v 15 2
      let own := if (s.get (GNSS_TK_STATUS.STATE k) ≠ 0 ∨ s.flag (GNSS_TK_STATUS.PINNED k) = true) ∧ s.get (GNSS_TK_STATUS.PORT k) = p then 1 else 0
      let ok := gnssQuota s p - own < s.get (GNSS_PORT_CFG.TK_QUOTA p) ∧ gnssHas s p (fieldOf v 0 3) (fieldOf v 3 6) (fieldOf v 9 4) = false
      (ok → ∃ t, exec (.trackPin k v) s = .next t ∧ t.get (GNSS_TK_STATUS.STATE k) = 1 ∧ t.get (GNSS_TK_STATUS.PINNED k) = 1 ∧
        t.get (GNSS_TK_STATUS.SYS k) = fieldOf v 0 3 ∧ t.get (GNSS_TK_STATUS.SV k) = fieldOf v 3 6 ∧
        t.get (GNSS_TK_STATUS.SIG k) = fieldOf v 9 4 ∧ t.get (GNSS_TK_STATUS.PORT k) = p ∧
        t.gnss = { s.gnss with tks := s.gnss.tks.modify k fun _ => TkSt.reset } ∧
        SameFields ([GNSS_TK_STATUS.STATE k, GNSS_TK_STATUS.PINNED k, GNSS_TK_STATUS.SYS k, GNSS_TK_STATUS.SV k, GNSS_TK_STATUS.SIG k,
          GNSS_TK_STATUS.PORT k, GNSS_TK_STATUS.EXCL k] ++ [GNSS_STATUS.TK_USED, GNSS_PORT_STATUS.TK_USED 0, GNSS_PORT_STATUS.TK_USED 1, GNSS_PORT_STATUS.TK_USED 2, GNSS_PORT_STATUS.TK_USED 3]) s t ∧ OnlyParts [.gnss] s t) ∧
      (¬ ok → ∃ t, exec (.trackPin k v) s = .next t ∧ t.get GNSS_FLAGS.CFG_BAD = 1 ∧
        (s.flag GNSS_FLAGS.CFG_BAD = false → Raised 130 t) ∧ SameOffIrq [GNSS_FLAGS.CFG_BAD] s t ∧ OnlyParts [] s t)) ∧
    (∀ c : TrackCand, s.live .gnss = true → gnssAllowed s c = true → s.get (GNSS_TK_STATUS.STATE k) = 0 →
      s.flag (GNSS_TK_STATUS.PINNED k) = false →
      (∀ j, j < k.val → s.get (GNSS_TK_STATUS.STATE j) ≠ 0 ∨ s.flag (GNSS_TK_STATUS.PINNED j) = true) →
      ∃ t, exec (.trackAllocation [c]) s = .next t ∧ t.get (GNSS_TK_STATUS.STATE k) = 1 ∧
      t.get (GNSS_TK_STATUS.SYS k) = c.sys.toNat ∧ t.get (GNSS_TK_STATUS.SV k) = c.sv.toNat ∧
      t.get (GNSS_TK_STATUS.SIG k) = c.sig.toNat ∧ t.get (GNSS_TK_STATUS.PORT k) = c.port.val ∧
      t.gnss = { s.gnss with tks := s.gnss.tks.modify k fun _ => TkSt.reset,
                             ports := if c.elev.isSome then s.gnss.ports
                               else s.gnss.ports.modify c.port fun p => { p with robin := (candSat c + 1) % 512 } } ∧
      SameFields ([GNSS_TK_STATUS.STATE k, GNSS_TK_STATUS.SYS k, GNSS_TK_STATUS.SV k, GNSS_TK_STATUS.SIG k,
        GNSS_TK_STATUS.PORT k, GNSS_TK_STATUS.EXCL k] ++ [GNSS_STATUS.TK_USED, GNSS_PORT_STATUS.TK_USED 0, GNSS_PORT_STATUS.TK_USED 1, GNSS_PORT_STATUS.TK_USED 2, GNSS_PORT_STATUS.TK_USED 3]) s t ∧ OnlyParts [.gnss] s t)

/-- The sample clock of a port, the integrations of a channel and the observables of an epoch. -/
def Obligations.SamplesClocksAndObservables : Prop :=
  ∀ s : State, s.Wf →
    (∀ (n : Fin 4) (samples : List Byte) (at_ : Nat), s.live .gnss = true → s.flag (GNSS_PORT_CFG.EN n) = true →
      s.get (CDC_XS_STATUS.STATE_B (26 + n.val)) = 0 →
      ((gnssPort s n).point = none → ∃ t, exec (.sampleClockCompare n samples at_) s = .next t ∧
        t = { s with gnss := { s.gnss with ports := s.gnss.ports.modify n fun p => { p with point := some (s.timeAt at_) } } }) ∧
      (∀ t0, (gnssPort s n).point = some t0 → t0 < s.timeAt at_ → s.gnss.snap = none →
        let rate := (Config.quot (samples.length * 10 ^ 9 * 2 ^ 92) (s.timeAt at_ - t0)).toNat
        let nominal : Int := s.get (GNSS_PORT_RATE.RATE n) * 1000 * 2 ^ 32
        let b := (gnssPort s n).base
        let power := ((samples.map (gnssSample s n)).map (samplePower (s.get (GNSS_PORT_CFG.FMT n)))).sum
        let dt := s.timeAt at_ - t0
        let next := fun c => { s.gnss with ports := s.gnss.ports.modify n fun p => { p with point := some (s.timeAt at_), rate := rate, base := c } };
        (100 * ((rate : Int) - nominal).natAbs ≤ nominal → s.flag (GNSS_PORT_STATUS.CLK_OK n) = false →
          exec (.sampleClockCompare n samples at_) s = .next { s with gnss := next b }) ∧
        (100 * ((rate : Int) - nominal).natAbs ≤ nominal → s.flag (GNSS_PORT_STATUS.CLK_OK n) = true → b.time < 60 * secUnit →
          exec (.sampleClockCompare n samples at_) s = .next
            { s with gnss := next ⟨b.power + power, b.count + samples.length, b.time + dt⟩ }) ∧
        (100 * ((rate : Int) - nominal).natAbs ≤ nominal → s.flag (GNSS_PORT_STATUS.CLK_OK n) = true → 60 * secUnit ≤ b.time → ∃ t,
          exec (.sampleClockCompare n samples at_) s = .next t ∧ t.gnss = next b ∧
          t.get (GNSS_PORT_STATUS.NOISE n) = noiseRise power samples.length b ∧
          (t.get (GNSS_PORT_STATUS.JAM n) = 1 ↔ s.get (GNSS_PORT_JAM.JAM_THR n) ≤ noiseRise power samples.length b) ∧
          SameFields [GNSS_PORT_STATUS.NOISE n, GNSS_PORT_STATUS.JAM n] s t ∧ OnlyParts [.gnss] s t) ∧
        (nominal < 100 * ((rate : Int) - nominal).natAbs → s.flag (GNSS_PORT_STATUS.CLK_OK n) = true → ∃ t,
          exec (.sampleClockCompare n samples at_) s = .next t ∧ t.get (GNSS_PORT_STATUS.CLK_OK n) = 0 ∧ t.get GNSS_FLAGS.CLK_FAULT = 1))) ∧
    (∀ (n : Fin 4) (samples : List Byte) (at_ : Nat), s.live .gnss = true → s.flag (GNSS_PORT_CFG.EN n) = true →
      s.get (CDC_XS_STATUS.STATE_B (26 + n.val)) = 1 → samples ≠ [] → ∃ t, exec (.sampleClockCompare n samples at_) s = .next t ∧ t.get CDC_FLAGS.DROP_EV = 1 ∧
      t.get (CDC_XS_CNT.DROPPED (26 + n.val)) = min (s.get (CDC_XS_CNT.DROPPED (26 + n.val)) + samples.length)
        (2 ^ (CDC_XS_CNT.DROPPED (26 + n.val)).width - 1) ∧
      SameOffIrq [CDC_FLAGS.DROP_EV, CDC_XS_CNT.DROPPED (26 + n.val)] s t ∧ OnlyParts [] s t) ∧
    (∀ n : Fin 4, ∃ t, exec (.gnssClockFault n) s = .next t ∧ t.get (GNSS_PORT_STATUS.CLK_OK n) = 0 ∧ t.get GNSS_FLAGS.CLK_FAULT = 1 ∧
      t.get (GNSS_PORT_JAM.CLK_LOSS n) = min (s.get (GNSS_PORT_JAM.CLK_LOSS n) + 1) (2 ^ (GNSS_PORT_JAM.CLK_LOSS n).width - 1) ∧
      (s.flag GNSS_FLAGS.CLK_FAULT = false → Raised 130 t) ∧
      (∀ k, k < 256 → t.get (GNSS_TK_STATUS.STATE k) =
        if s.get (GNSS_TK_STATUS.PORT k) = n then 0 else s.get (GNSS_TK_STATUS.STATE k)) ∧
      (∀ sn, s.gnss.snap = some sn → t.gnss.snap = some { sn with secs := sn.secs.map fun x =>
        if x.port = n.val ∧ ¬ x.closed then { x with fault := true, closed := true } else x }) ∧
      SameOffIrq ([GNSS_PORT_STATUS.CLK_OK n, GNSS_FLAGS.CLK_FAULT, GNSS_PORT_JAM.CLK_LOSS n] ++ [GNSS_STATUS.TK_USED, GNSS_PORT_STATUS.TK_USED 0, GNSS_PORT_STATUS.TK_USED 1, GNSS_PORT_STATUS.TK_USED 2, GNSS_PORT_STATUS.TK_USED 3] ++
        (List.range 256).map fun k => GNSS_TK_STATUS.STATE k) s t ∧ OnlyParts [.gnss] s t) ∧
    (∀ n : Fin 4, ∃ t, exec (.gnssClockOk n) s = .next t ∧ t.get (GNSS_PORT_STATUS.CLK_OK n) = 1 ∧
      SameFields [GNSS_PORT_STATUS.CLK_OK n] s t ∧ OnlyParts [] s t) ∧
    (∀ (k : Fin 256) (m : TkMeas), s.live .gnss = true → s.get (GNSS_TK_STATUS.STATE k) ≠ 0 →
      ∃ t, exec (.integration k m) s = .next t ∧ t.get (GNSS_TK_STATUS.CN0 k) = m.cn0.toNat ∧
      t.gnss = { s.gnss with tks := s.gnss.tks.modify k fun x =>
        { x with meas := some m, cp := x.cp + m.cp, ints := (true :: x.ints).take 1000 } } ∧
      SameFields [GNSS_TK_STATUS.CN0 k] s t ∧ OnlyParts [.gnss] s t) ∧
    (∀ (k : Fin 256) (at_ : Nat), ∃ t, exec (.integrationLate k at_) s = .next t ∧ t.get GNSS_FLAGS.INT_LATE = 1 ∧
      t.get GNSS_CNT.INT_LATE = min (s.get GNSS_CNT.INT_LATE + 1) (2 ^ 32 - 1) ∧ t.get ⟨CON_DL_FLAGS.FAULT.ofs, 3, 1⟩ = 1 ∧ Raised 19 t ∧
      t.gnss = { s.gnss with tks := s.gnss.tks.modify k fun x =>
        { x with lost := true, cp := x.cp + (x.meas.map (·.cp)).getD 0, ints := (false :: x.ints).take 1000 } } ∧
      SameOffIrq [GNSS_FLAGS.INT_LATE, GNSS_CNT.INT_LATE, CON_DL_CNT.COUNT 3, ⟨CON_DL_FLAGS.FAULT.ofs, 3, 1⟩] s t ∧
      OnlyParts [.gnss, .con] s t) ∧
    (∀ (k : Fin 256) (m : TkMeas) (at_ : Nat), s.live .gnss = true → s.get GNSS_CFG.OBS_RATE ≠ 0 →
      (∀ j, j < 256 → (s.get (GNSS_TK_STATUS.STATE j) = 3 ↔ j = k.val)) → (gnssTk s k).meas = some m → hifRoom s 8 = true →
      s.get (CDC_XS_STATUS.STATE_A 25) = 0 →
      let p : Int := if s.get GNSS_CFG.OBS_RATE = 1 then secUnit else secUnit / 10
      let e := (s.timeAt at_ + p / 2) / p * p
      ∃ t, exec (.observableEpoch at_) s = .next t ∧
      Out.element 8 (s.get (HIF_Q_HEAD.HEAD 8) % hifSize s 8) (gnssRecord s k e m) ∈ t.outbox ∧
      t.get (HIF_Q_HEAD.HEAD 8) = (s.get (HIF_Q_HEAD.HEAD 8) + 1) % 2 ^ 32 ∧
      t.gnss = { s.gnss with tks := s.gnss.tks.modify k fun x => { x with slip := false, lost := false } } ∧
      SameOffIrq [HIF_Q_HEAD.HEAD 8, HIF_Q_ELEM.COUNT 8] s t ∧ OnlyParts [.gnss, .hif] s t)

/-- Time solutions and their positions, and the capture of a snapshot to the pool. -/
def Obligations.SolutionsPositionsAndSnapshots : Prop :=
  ∀ (s : State) (n : Fin 4) (at_ : Nat), s.Wf →
    (∀ fix leap, s.live .gnss = true → s.flag (GNSS_SOL_CFG.EN n) = true → ∃ t, exec (.solutionEpoch n [] leap fix at_) s = .next t ∧
      t.get (GNSS_SOL_STATUS.VERDICT n) = 0 ∧ t.get (GNSS_SOL_STATUS.N_USED n) = 0 ∧ t.get (GNSS_SOL_STATUS.SYS_USED n) = 0 ∧
      t.getS (GNSS_SOL_X_PH.ofs n) = s.getS (GNSS_SOL_X_PH.ofs n)) ∧
    (∀ (e : SigEst) (o : Int) (leap : Option Int) (fix : Int × Int × Int), s.live .gnss = true → s.flag (GNSS_SOL_CFG.EN n) = true → gnssTakesPart s n e = true →
      (s.flag (GNSS_SOL_CFG.TREF n) = true → leap.isSome = true) → e.ofs = some o → (gnssTk s e.tk).excl = none → s.get (GNSS_TK_STATUS.CN0 e.tk) ≤ 4 * s.get GNSS_MISC.CN0_MAX →
      s.get (GNSS_TK_STATUS.SYS e.tk) ≤ 4 → (gnssSol s n).fits = [[], [], [], []] → (gnssSol s n).excl = [none, none, none, none] →
      let c := if s.get (GNSS_TK_STATUS.SYS e.tk) = 4 then 0 else s.get (GNSS_TK_STATUS.SYS e.tk)
      let sec := (s.timeAt at_ + secUnit / 2) / secUnit
      let add := if s.flag (GNSS_SOL_CFG.TREF n) then s.tb.utcOfs - leap.getD 0 else 19
      let b := (sec - add) * (10 ^ 9 * 65536) - e.tx - gnssRange (gnssPos s n fix) e.sat - e.corr - s.getS (GNSS_PORT_DLY_PH.ofs (s.get (GNSS_TK_STATUS.PORT e.tk))) - s.getS (GNSS_SOL_BIAS_PH.ofs n c) - o
      ∃ t, exec (.solutionEpoch n [e] leap fix at_) s = .next t ∧
      (s.flag (GNSS_SOL_STATUS.POS_HELD n) = true → t.get (GNSS_SOL_STATUS.VERDICT n) = 4 ∧ t.getS (GNSS_SOL_X_PH.ofs n) = sat64 b ∧
        t.get (GNSS_SOL_STATUS.N_USED n) = 1 ∧ t.get (GNSS_SOL_STATUS.SYS_USED n) = 2 ^ c ∧ (gnssTk t e.tk).used = true) ∧
      (s.flag (GNSS_SOL_STATUS.POS_HELD n) = false → t.get (GNSS_SOL_STATUS.VERDICT n) = 1 ∧ t.get (GNSS_SOL_STATUS.N_USED n) = 0 ∧
        t.getS (GNSS_SOL_X_PH.ofs n) = s.getS (GNSS_SOL_X_PH.ofs n))) ∧
    (∀ sigs leap fix, ∃ t, exec (.solutionEpoch n sigs leap fix at_) s = .next t ∧ OnlyParts [.rgs, .gnss] s t ∧
      ∀ g : Fld, offIrq g.ofs → g.ofs < 0x200000 ∨ 0x210000 ≤ g.ofs → g.ofs < 0x90000 ∨ 0xA0000 ≤ g.ofs → t.get g = s.get g) ∧
    (s.flag (GNSS_SOL_CFG.POS_MODE n) = false → s.flag (GNSS_SOL_STATUS.POS_HELD n) = false → (gnssSol s n).fixes ≠ 0 →
      ∃ t, exec (.surveyDone n) s = .next t ∧ t.get (GNSS_SOL_STATUS.POS_HELD n) = 1 ∧ t.get (GNSS_SOL_FLAGS.SURVEY_DONE n) = 1 ∧
      t.getS (GNSS_SOL_POS_X.ofs n) = sat64 (Config.quot (gnssSol s n).survey.1 (gnssSol s n).fixes) ∧
      t.getS (GNSS_SOL_POS_Y.ofs n) = sat64 (Config.quot (gnssSol s n).survey.2.1 (gnssSol s n).fixes) ∧
      t.getS (GNSS_SOL_POS_Z.ofs n) = sat64 (Config.quot (gnssSol s n).survey.2.2 (gnssSol s n).fixes) ∧
      SameOffIrq (pairOf (GNSS_SOL_POS_X.ofs n) ++ pairOf (GNSS_SOL_POS_Y.ofs n) ++ pairOf (GNSS_SOL_POS_Z.ofs n) ++
        [GNSS_SOL_STATUS.POS_HELD n, GNSS_SOL_FLAGS.SURVEY_DONE n]) s t ∧ OnlyParts [] s t) ∧
    (∀ z : BitVec 64, s.hostReach .gnss (some (7, n)) = true → ∃ t, exec (.positionCommit n z) s = .next t ∧
      (s.flag (GNSS_SOL_CFG.POS_MODE n) = true → t.get64 (GNSS_SOL_POS_Z.ofs n) = z.toNat ∧ t.get (GNSS_SOL_STATUS.POS_HELD n) = 1) ∧
      (s.flag (GNSS_SOL_CFG.POS_MODE n) = false → t = s) ∧
      SameFields (GNSS_SOL_STATUS.POS_HELD n :: pairOf (GNSS_SOL_POS_Z.ofs n)) s t ∧ OnlyParts [.prov] s t ∧ CfgWrites s t) ∧
    (s.hostReach .gnss (some (7, n)) = true → ∃ t, exec (.resurvey n) s = .next t ∧ t.get (GNSS_SOL_STATUS.POS_HELD n) = 0 ∧
      t.gnss = { s.gnss with sols := s.gnss.sols.modify n fun x =>
        { x with survey := (0, 0, 0), fixes := 0, fits := [[], [], [], []], rebases := s.ens.rebases } } ∧
      SameFields [GNSS_SOL_STATUS.POS_HELD n] s t ∧ OnlyParts [.gnss] s t) ∧
    (s.hostReach .gnss (some (7, n)) = true → exec (.fitReset n) s = .next { s with gnss := { s.gnss with sols := s.gnss.sols.modify n fun x =>
      { x with fits := [[], [], [], []], rebases := s.ens.rebases } } }) ∧
    (∀ (c : Instr) (st : Option Int), s.hostReach .gnss none = true →
      (c = .goNow at_ ∧ st = none ∨ c = .goAt at_ ∧ st = some (snapStart s)) → let r := snapReason s st (s.timeAt at_)
      ∃ t, exec c s = .next t ∧
      (r ≠ 0 → t.get GNSS_SNAP_STATUS.REASON = r ∧ t.get GNSS_FLAGS.SNAP_REFUSED = 1 ∧ t.gnss = s.gnss ∧
        SameOffIrq [GNSS_SNAP_STATUS.REASON, GNSS_FLAGS.SNAP_REFUSED] s t ∧ OnlyParts [] s t) ∧
      (r = 0 → t.get GNSS_SNAP_STATUS.BUSY = 1 ∧ t.get GNSS_SNAP_STATUS.SEQ = (s.get GNSS_SNAP_STATUS.SEQ + 1) % 2 ^ 16 ∧
        (∃ sn, t.gnss = { s.gnss with snap := some sn } ∧ sn.start = st.getD (s.timeAt at_) ∧ sn.running = st.isNone ∧
          sn.secs.map (fun x => (x.port, x.want)) = (snapPorts s).map fun p => (p, snapWant s p)) ∧
        SameFields [GNSS_SNAP_STATUS.BUSY, GNSS_SNAP_STATUS.SEQ] s t ∧ OnlyParts [.gnss] s t)) ∧
    (∀ sn, s.gnss.snap = some sn → sn.running = false → sn.start ≤ s.timeAt at_ → exec (.snapshotStart at_) s = .next
      { s with gnss := { s.gnss with snap := some { sn with running := true, secs := sn.secs.map fun x =>
        { x with noise := s.get (GNSS_PORT_STATUS.NOISE x.port) } } } }) ∧
    (∀ (c : Instr) (sn : Snap), s.gnss.snap = some sn →
      (c = .snapshotAbort ∧ s.hostReach .gnss none = true ∨ c = .snapshotDone ∧ snapComplete s = true) →
      let bs := sn.secs.map (snapSection s)
      let base := fun i => poolBase + ((snapEnd ((bs.take i).map fun b => b.length - 64)) + 63) / 64 * 64
      ∃ t, exec c s = .next t ∧ t.get GNSS_SNAP_STATUS.BUSY = 0 ∧ t.get GNSS_FLAGS.SNAP_DONE = 1 ∧ Raised 129 t ∧ t.gnss = { s.gnss with snap := none } ∧
      (∀ i b, bs[i]? = some b → memBytes bar2Zero t.bar2 (base i) b.length = b) ∧
      (∀ a, (∀ i b, bs[i]? = some b → a < base i ∨ base i + b.length ≤ a) → memByte bar2Zero t.bar2 a = memByte bar2Zero s.bar2 a) ∧
      SameOffIrq [GNSS_SNAP_STATUS.BUSY, GNSS_FLAGS.SNAP_DONE] s t ∧ OnlyParts [.bar2, .gnss] s t)

/-- A port's link, its PAUSE state and its ESMC messages. -/
def Obligations.PortsFollowLinkPauseAndEsmc : Prop :=
  ∀ (s : State) (n : Fin 8), s.Wf →
    (∀ txDly rxDly : BitVec 64,
      (portUsable s n = true → xsFarHeld s (1 + n.val) = false → xsFarHeld s (9 + n.val) = false → ∃ t, exec (.ethLinkUp n txDly rxDly) s = .next t ∧ t.get (EP_STATUS.LINK n) = 1 ∧
      t.get (EP_STATUS.FEC_LOCK n) = (if s.get (EP_CFG.FEC n) = 0 then 0 else 1) ∧
      t.get64 (EP_TX_DLY_PH.ofs n) = txDly.toNat ∧ t.get64 (EP_RX_DLY_PH.ofs n) = rxDly.toNat ∧
      (∀ k, k = n.val ∨ k = 8 + n.val → s.get (TB_REP_STATUS.STATE k) = 0 → t.get (TB_REP_STATUS.STATE k) = bit (xsRuns s (k + 1))) ∧
      SameFields ([EP_STATUS.LINK n, EP_STATUS.FEC_LOCK n] ++ pairOf (EP_TX_DLY_PH.ofs n) ++ pairOf (EP_RX_DLY_PH.ofs n) ++ [TB_REP_STATUS.STATE n, TB_REP_STATUS.LOCKED n, TB_REP_STATUS.STATE (8 + n), TB_REP_STATUS.LOCKED (8 + n)]) s t ∧
      OnlyParts [.tb] s t) ∧
      (portUsable s n = false ∨ xsFarHeld s (1 + n.val) = true ∨ xsFarHeld s (9 + n.val) = true → exec (.ethLinkUp n txDly rxDly) s = .next s)) ∧
    (s.flag (EP_STATUS.LINK n) = true → ∃ t, exec (.ethLinkDown n) s = .next t ∧ t.get (EP_STATUS.LINK n) = 0 ∧
      t.get (EP_STATUS.FEC_LOCK n) = 0 ∧ t.get (EP_FLAGS.LINK_DOWN_EV n) = 1 ∧ (macPort t n).waiting = [] ∧
      (macPort t n).resv = (macPort s n).resv ∧ t.get (TB_REP_STATUS.STATE (8 + n)) = 0 ∧
      (s.flag (EP_FLAGS.LINK_DOWN_EV n) = false → Raised (144 + n) t) ∧
      SameOffIrq ([EP_STATUS.LINK n, EP_STATUS.FEC_LOCK n, EP_FLAGS.LINK_DOWN_EV n, EP_FLAGS.TSQ_OVF n, EP_TSQ_STATUS.COUNT n,
        EP_TSQ_STATUS.OVF n] ++ pairOf (EP_TX_DLY_PH.ofs n) ++ pairOf (EP_RX_DLY_PH.ofs n) ++ [TB_REP_STATUS.STATE n, TB_REP_STATUS.LOCKED n, TB_REP_STATUS.STATE (8 + n), TB_REP_STATUS.LOCKED (8 + n)]) s t ∧ OnlyParts [.tb, .mac] s t) ∧
    (s.flag (EP_STATUS.LINK n) = false → exec (.ethLinkDown n) s = .next s) ∧
    (∀ (opcode quanta : BitVec 16) (at_ : Nat), ∃ t, exec (.pauseRx n opcode quanta at_) s = .next t ∧
      t.get (EP_RX_CNT.PAUSE_RX n) = min (s.get (EP_RX_CNT.PAUSE_RX n) + 1) (2 ^ (EP_RX_CNT.PAUSE_RX n).width - 1) ∧
      (opcode = 1 → s.flag (EP_CFG.RX_PAUSE_EN n) = true → t.get (EP_STATUS.PAUSED n) = (if quanta = 0 then 0 else 1) ∧
        t.mac = s.mac.modify n fun p => 
          { p with pauseEnd := 25 * s.pivotAt at_ + quanta.toNat * 64 * 4096 * (portTimes (s.get (EP_CFG.MODE n))).1.toNat }) ∧
      (opcode ≠ 1 ∨ s.flag (EP_CFG.RX_PAUSE_EN n) = false → t.get (EP_STATUS.PAUSED n) = s.get (EP_STATUS.PAUSED n) ∧ t.mac = s.mac) ∧
      SameFields [EP_RX_CNT.PAUSE_RX n, EP_STATUS.PAUSED n] s t ∧ OnlyParts [.mac] s t) ∧
    (∀ at_ : Nat, ((macPort s n).pauseEnd ≤ 25 * s.pivotAt at_ → ∃ t, exec (.pauseEnd n at_) s = .next t ∧ t.get (EP_STATUS.PAUSED n) = 0 ∧
      SameFields [EP_STATUS.PAUSED n] s t ∧ OnlyParts [] s t) ∧
      (25 * s.pivotAt at_ < (macPort s n).pauseEnd → exec (.pauseEnd n at_) s = .next s)) ∧
    (∀ (p : EsmcPdu) (q : BitVec 4), esmcAccepted p = true → s.flag (EP_STATUS.LINK n) = true → p.ql = some q →
      let e := (p.ext.getD 0xFF).toNat
      ∃ t, exec (.esmcPduRx n p) s = .next t ∧ t.get (EP_ESMC_STATUS.RX_SSM n) = q.toNat ∧ t.get (EP_ESMC_STATUS.RX_ESSM n) = e ∧
      t.get (EP_ESMC_STATUS.RX_VALID n) = 1 ∧
      (q.toNat ≠ s.get (EP_ESMC_STATUS.RX_SSM n) ∨ e ≠ s.get (EP_ESMC_STATUS.RX_ESSM n) → t.get (EP_FLAGS.ESMC_RX_EV n) = 1) ∧
      (∀ m, m < 64 → s.get (RGS_SLOT_BIND.TYPE m) = 3 → s.get (RGS_SLOT_BIND.INDEX m) = n →
        t.get (RGS_SLOT_STATUS.MSG_GRADE m) = gradeOfSsm q.toNat e ∧ t.get (RGS_SLOT_MSG.RAW m) = q.toNat + 256 * e) ∧
      SameOffIrq ([EP_ESMC_STATUS.RX_SSM n, EP_ESMC_STATUS.RX_ESSM n, EP_ESMC_STATUS.RX_VALID n, EP_FLAGS.ESMC_RX_EV n] ++
        (List.range 64).flatMap fun m => [RGS_SLOT_MSG.RAW m, RGS_SLOT_STATUS.MSG_GRADE m, RGS_SLOT_STATUS.GRADE m, RGS_SLOT_FLAGS.GRADE_CHANGE m]) s t ∧ OnlyParts [] s t) ∧
    (∀ p : EsmcPdu, esmcAccepted p = false ∨ s.flag (EP_STATUS.LINK n) = false → exec (.esmcPduRx n p) s = .next s) ∧
    (∃ t, exec (.esmcTimeout n) s = .next t ∧ t.get (EP_ESMC_STATUS.RX_VALID n) = 0 ∧
      (∀ m, m < 64 → s.get (RGS_SLOT_BIND.TYPE m) = 3 → s.get (RGS_SLOT_BIND.INDEX m) = n →
        t.get (RGS_SLOT_STATUS.MSG_GRADE m) = 15 ∧ t.get (RGS_SLOT_MSG.RAW m) = s.get (RGS_SLOT_MSG.RAW m)) ∧
      SameOffIrq (EP_ESMC_STATUS.RX_VALID n :: (List.range 64).flatMap fun m => [RGS_SLOT_MSG.RAW m, RGS_SLOT_STATUS.MSG_GRADE m, RGS_SLOT_STATUS.GRADE m, RGS_SLOT_FLAGS.GRADE_CHANGE m]) s t ∧ OnlyParts [] s t) ∧
    (∀ (c : Instr) (ev : Bool), (c = .esmcInfoTx n ∧ ev = false ∨ c = .esmcEventTx n ∧ ev = true) → esmcOn s n = true → let q := esmcTxQl s n
      ∃ t, exec c s = .next t ∧ t.get (EP_ESMC_STATUS.TX_SSM n) = q.1 ∧
      t.mac = s.mac.modify n (fun p => { p with waiting := p.waiting ++ [⟨esmcFrame s n ev q, 7, none, false, none⟩] }) ∧
      SameFields [EP_ESMC_STATUS.TX_SSM n, EP_ESMC_STATUS.TX_ESSM n] s t ∧ OnlyParts [.mac] s t)

/-- The gates of a port, and the change from one gate list to the next. -/
def Obligations.GateListsOpenAndChange : Prop :=
  ∀ (s : State) (n : Fin 8), s.Wf →
    (∀ at_ : Nat, let x := lineOf (repTime s n at_)
      ∃ t, exec (.gateEntry n at_) s = .next t ∧ (∀ c, c < 8 → (t.get (EP_GATE_STATUS.GATES n)).testBit c = gateOpen s n c x x) ∧
      SameFields [EP_GATE_STATUS.GATES n] s t ∧ OnlyParts [] s t) ∧
    (∀ (en : Bool) (at_ : Nat), s.hostReach .mac (some (8, n)) = true → let x := lineOf (repTime s n at_)
      ∃ t, exec (.gateEnable n en at_) s = .next t ∧ t.get (EP_GATE_CFG.GATE_EN n) = (if en then 1 else 0) ∧
      (en = true → s.get (EP_GATE_STATUS.STATE n) = 0 → (macPort s n).oper.isSome = true → t.get (EP_GATE_STATUS.STATE n) = 2 ∧
        t.mac = s.mac.modify n fun p => { p with running := true }) ∧
      (en = true → s.get (EP_GATE_STATUS.STATE n) ≠ 0 ∨ (macPort s n).oper = none →
        t.get (EP_GATE_STATUS.STATE n) = s.get (EP_GATE_STATUS.STATE n) ∧ t.mac = s.mac) ∧
      (en = false → t.get (EP_GATE_STATUS.STATE n) = 0 ∧ t.get (EP_GATE_STATUS.GATES n) = 255) ∧
      (en = false → s.get (EP_GATE_STATUS.STATE n) ≠ 0 → t.mac = s.mac.modify n fun p => { p with running := false, admin := none }) ∧
      (∀ c, c < 8 → (t.get (EP_GATE_STATUS.GATES n)).testBit c = gateOpen t n c x x) ∧
      SameFields [EP_GATE_CFG.GATE_EN n, EP_GATE_STATUS.STATE n, EP_GATE_STATUS.GATES n] s t ∧ OnlyParts [.mac, .prov] s t ∧ CfgWrites s t) ∧
    (∀ at_ : Nat, s.hostReach .mac (some (8, n)) = true → let g := gateStaged s n
      let ok := g.len ≠ 0 ∧ 64 ≤ g.cycle ∧ g.cycle ≤ 10 ^ 9 ∧ (s.reg (EP_GATE_BASE_NS.ofs n)).toNat ≤ 999999999 ∧
        ∀ l, (macPort s n).oper = some l → l.overlaps g = false
      let want := repTime s n at_ + 10000 * nsUnit
      (ok → ∃ t tc, exec (.gateChange n at_) s = .next t ∧ t.get (EP_GATE_STATUS.STATE n) = 1 ∧
        t.mac = s.mac.modify n (fun p => { p with admin := some (g, 25 * tc) }) ∧
        g.base ≤ tc ∧ want ≤ tc ∧ (tc - g.base) % (g.cycle * nsUnit) = 0 ∧ (tc = g.base ∨ tc - g.cycle * nsUnit < want) ∧
        SameFields [EP_GATE_STATUS.STATE n] s t ∧ OnlyParts [.mac] s t) ∧
      (¬ ok → ∃ t, exec (.gateChange n at_) s = .next t ∧ t.get (EP_FLAGS.GATE_ERR n) = 1 ∧
        (s.flag (EP_FLAGS.GATE_ERR n) = false → Raised (144 + n) t) ∧ SameOffIrq [EP_FLAGS.GATE_ERR n] s t ∧ OnlyParts [] s t)) ∧
    (∀ g tc, (macPort s n).admin = some (g, tc) → ∃ t, exec (.gateChangeTime n) s = .next t ∧
      t.mac = s.mac.modify n (fun p => { p with oper := some g, running := true, admin := none }) ∧
      t.get (EP_GATE_STATUS.STATE n) = 2 ∧ t.get (EP_GATE_STATUS.OPER_START n) = g.start % 2 ^ 10 ∧
      t.get (EP_GATE_STATUS.OPER_LEN n) = g.len % 2 ^ 11 ∧ t.get (EP_FLAGS.CHANGE_DONE n) = 1 ∧
      (∀ c, c < 8 → (t.get (EP_GATE_STATUS.GATES n)).testBit c = gateOpen t n c tc tc) ∧
      SameOffIrq [EP_GATE_STATUS.STATE n, EP_GATE_STATUS.OPER_START n, EP_GATE_STATUS.OPER_LEN n, EP_GATE_STATUS.GATES n,
        EP_FLAGS.CHANGE_DONE n] s t ∧ OnlyParts [.mac] s t) ∧
    ((macPort s n).admin = none → exec (.gateChangeTime n) s = .next s)

/-- The earliest reservation at its instant, a frame sent unscheduled, and the transmit-timestamp queue. -/
def Obligations.FramesDepartAndAreTimestamped : Prop :=
  ∀ (s : State) (n : Fin 8), s.Wf →
    ((macPort s n).resv = [] → exec (.departure n) s = .next s) ∧
    (∀ r rest, (macPort s n).resv = r :: rest → r.frame = none → ∃ t, exec (.departure n) s = .next t ∧
      t.mac = s.mac.modify n (fun p => { p with resv := rest }) ∧ t.get (EP_STATUS.DEP_FILL n) = rest.length % 2 ^ 10 ∧
      t.get (EP_DEP_UNUSED.UNUSED n) = min (s.get (EP_DEP_UNUSED.UNUSED n) + 1) (2 ^ 32 - 1) ∧ t.outbox = s.outbox ∧
      SameFields [EP_STATUS.DEP_FILL n, EP_DEP_UNUSED.UNUSED n] s t ∧ OnlyParts [.mac] s t) ∧
    (∀ r rest fr, (macPort s n).resv = r :: rest → r.frame = some fr → fr.ts = none → fr.gated = false ∨ r.sends = true ∧ pairSends s = true →
      depCause s n r.td fr = none → s.get (CDC_XS_STATUS.STATE_A (1 + n.val)) = 0 → let stop := r.td + (8 + fr.wireLen + 12) * portByte s n
      ∃ t, exec (.departure n) s = .next t ∧ t.outbox = .frame n fr.padded :: s.outbox ∧
      t.mac = s.mac.modify n (fun p => { p with resv := rest, busy := max p.busy stop }) ∧
      t.get (EP_STATUS.DEP_FILL n) = rest.length % 2 ^ 10 ∧
      t.get (EP_DEP_SENT.COUNT n) = min (s.get (EP_DEP_SENT.COUNT n) + 1) (2 ^ 32 - 1) ∧
      SameFields [EP_STATUS.DEP_FILL n, EP_DEP_SENT.COUNT n] s t ∧ OnlyParts [.mac] s t) ∧
    (∀ r rest fr, (macPort s n).resv = r :: rest → r.frame = some fr → fr.ts = none → fr.gated = false ∨ r.sends = true ∧ pairSends s = true →
      depCause s n r.td fr = none → s.get (CDC_XS_STATUS.STATE_A (1 + n.val)) = 1 → ∃ t, exec (.departure n) s = .next t ∧
      (∀ b, Out.frame n b ∈ t.outbox → Out.frame n b ∈ s.outbox) ∧ t.mac = s.mac.modify n (fun p => { p with resv := rest }) ∧
      t.get (EP_STATUS.DEP_FILL n) = rest.length % 2 ^ 10 ∧ t.get CDC_FLAGS.DROP_EV = 1 ∧
      t.get (CDC_XS_CNT.DROPPED (1 + n.val)) = min (s.get (CDC_XS_CNT.DROPPED (1 + n.val)) + portWords s n fr.wireLen)
        (2 ^ (CDC_XS_CNT.DROPPED (1 + n.val)).width - 1) ∧
      SameOffIrq [EP_STATUS.DEP_FILL n, CDC_FLAGS.DROP_EV, CDC_XS_CNT.DROPPED (1 + n.val)] s t ∧ OnlyParts [.mac] s t) ∧
    (∀ r rest fr c p q, (macPort s n).resv = r :: rest → r.frame = some fr → r.owner = .ans p q → fr.ts = none →
      fr.gated = false ∨ r.sends = true ∧ pairSends s = true → depCause s n r.td fr = some c → ∃ t, exec (.departure n) s = .next t ∧
      t.mac = s.mac.modify n (fun p => { p with resv := rest }) ∧ t.get c = min (s.get c + 1) (2 ^ 16 - 1) ∧
      t.get (EP_FLAGS.DEP_DROP n) = 1 ∧ t.get ⟨CON_DL_FLAGS.FAULT.ofs, 0, 1⟩ = 1 ∧ Raised 16 t ∧
      (∀ b, Out.frame n b ∈ t.outbox → Out.frame n b ∈ s.outbox) ∧
      SameOffIrq [EP_STATUS.DEP_FILL n, c, EP_FLAGS.DEP_DROP n, CON_DL_CNT.COUNT 0, ⟨CON_DL_FLAGS.FAULT.ofs, 0, 1⟩] s t ∧
      OnlyParts [.mac, .con] s t) ∧
    (∀ r rest fr, (macPort s n).resv = r :: rest → r.frame = some fr → fr.ts = none → fr.gated = true → r.sends = false ∨ pairSends s = false →
      ∃ t, exec (.departure n) s = .next t ∧ t.mac = s.mac.modify n (fun p => { p with resv := rest }) ∧ t.outbox = s.outbox ∧
      SameFields [EP_STATUS.DEP_FILL n, PAIR_CNT2.REHEARSED] s t ∧ OnlyParts [.mac, .pair] s t) ∧
    (∀ (i at_ : Nat) (fr : EthFrame), (macPort s n).waiting[i]? = some fr → let start := lineOf (repTime s n at_)
      let stop := start + (8 + fr.wireLen + 12) * portByte s n
      (portMayStart s n fr start = true → fr.ts = none → fr.gated = false ∨ pairSends s = true →
        s.get (CDC_XS_STATUS.STATE_A (1 + n.val)) = 0 → ∃ t,
        exec (.unscheduledTx n i at_) s = .next t ∧ t.outbox = .frame n fr.padded :: s.outbox ∧
        (∀ r rest, (macPort s n).resv = r :: rest → stop ≤ r.td) ∧
        t.mac = s.mac.modify n (fun p => { p with waiting := p.waiting.eraseIdx i, f := max p.f stop, busy := max p.busy stop }) ∧
        t.rf = s.rf ∧ OnlyParts [.mac] s t) ∧
      (portMayStart s n fr start = false → exec (.unscheduledTx n i at_) s = .next s)) ∧
    (s.hostReach .mac (some (8, n)) = true →
      (∀ e, (macPort s n).tsq.find? (fun e => e.hostId.isSome) = some e → ∃ t, exec (.tsqPop n) s = .next t ∧
        t.sys = { s.sys with rdata := tsqPopValue s n } ∧
        t.mac = s.mac.modify n (fun p => { p with tsq := dropFirst (fun e => e.hostId.isSome) p.tsq }) ∧
        t.get64 (EP_TSQ_SEC.ofs n) = secOf e.time ∧ t.get (EP_TSQ_NS.NS n) = nsOf e.time ∧ t.get (EP_TSQ_FRAC.FRAC n) = fracOf e.time ∧
        SameFields (EP_TSQ_STATUS.COUNT n :: EP_TSQ_NS.NS n :: EP_TSQ_FRAC.FRAC n :: pairOf (EP_TSQ_SEC.ofs n)) s t ∧
        OnlyParts [.sys, .mac] s t) ∧
      ((macPort s n).tsq.find? (fun e => e.hostId.isSome) = none →
        exec (.tsqPop n) s = .next { s with sys := { s.sys with rdata := 0 } }))

/-- A received frame is filtered, classified and acted on; a request gets its t_d and its answer is handed to the port. -/
def Obligations.FramesAreClassifiedAdmittedAndAnswered : Prop :=
  ∀ s : State, s.Wf →
    (∀ (n : Fin 8) (bytes : List Byte) (at_ : Nat),
      (s.live .mac = false ∨ s.flag (EP_STATUS.LINK n) = false → exec (.frameRx n bytes at_) s = .next s) ∧
      (s.live .mac = true → s.flag (EP_STATUS.LINK n) = true → portAccepts s n (bytes.take 6) = false →
        s.get (CDC_XS_STATUS.STATE_B (9 + n.val)) = 0 → ∃ t, exec (.frameRx n bytes at_) s = .next t ∧
          t.get (EP_RX_CNT.FILTERED n) = min (s.get (EP_RX_CNT.FILTERED n) + 1) (2 ^ (EP_RX_CNT.FILTERED n).width - 1) ∧
          SameFields [EP_RX_CNT.FILTERED n] s t ∧ OnlyParts [] s t) ∧
      (s.live .mac = true → s.flag (EP_STATUS.LINK n) = true → s.get (CDC_XS_STATUS.STATE_B (9 + n.val)) = 1 → bytes ≠ [] →
        ∃ t, exec (.frameRx n bytes at_) s = .next t ∧ t.get (CDC_XS_CNT.DROPPED (9 + n.val)) =
            min (s.get (CDC_XS_CNT.DROPPED (9 + n.val)) + portWords s n bytes.length) (2 ^ (CDC_XS_CNT.DROPPED (9 + n.val)).width - 1) ∧
          t.get CDC_FLAGS.DROP_EV = 1 ∧ SameOffIrq [CDC_XS_CNT.DROPPED (9 + n.val), CDC_FLAGS.DROP_EV] s t ∧ OnlyParts [] s t)) ∧
    (∀ (n : Fin 8) (bytes : List Byte) (at_ : Nat), s.live .mac = true → s.flag (EP_STATUS.LINK n) = true →
      portAccepts s n (bytes.take 6) = true → s.live .ans = true →
      s.get (CDC_XS_STATUS.STATE_B (9 + n.val)) = 0 →
      let p := n.val / 2
      let f := parseFrame bytes
      let m := ansMatch (ansPipe s p).active (n.val % 2) (ansLocal s p f bytes) f bytes
      let act : Word := match m with | some r => ((ansPipe s p).active.getD r ⟨0, 0, 0, 0⟩).act | none => 0
      let action := if m.isSome then fieldOf act 0 3 else s.get (ANS_CFG.DEFAULT_ACTION p)
      let queue := if m.isSome then fieldOf act 3 5 else s.get (ANS_CFG.DEFAULT_QUEUE p)
      let x : RxFrame := ⟨n, bytes, portRxStamp s n at_, !s.flag (TB_REP_STATUS.LOCKED (8 + n)), tbFreeMeas s⟩
      let seen := ANS_CNT_RX.COUNT p :: (m.map fun r => [ANS_RULE_HITS.COUNT p r]).getD []
      ∃ t, exec (.frameRx n bytes at_) s = .next t ∧
      t.get (ANS_CNT_RX.COUNT p) = min (s.get (ANS_CNT_RX.COUNT p) + 1) (2 ^ 32 - 1) ∧
      (∀ r, m = some r → t.get (ANS_RULE_HITS.COUNT p r) = min (s.get (ANS_RULE_HITS.COUNT p r) + 1) (2 ^ 32 - 1)) ∧
      (action = 0 → t.get (ANS_CNT_RULEDROP.COUNT p) = min (s.get (ANS_CNT_RULEDROP.COUNT p) + 1) (2 ^ 32 - 1) ∧
        SameFields (ANS_CNT_RULEDROP.COUNT p :: seen) s t ∧ OnlyParts [] s t) ∧
      (action = 1 → bytes.length ≤ 2016 → hifRoom s (12 + queue % 8) = true →
        s.get (CDC_XS_STATUS.STATE_A 25) = 0 →
        Out.element (12 + queue % 8) (s.get (HIF_Q_HEAD.HEAD (12 + queue % 8)) % hifSize s (12 + queue % 8))
          (rxElement x (m.getD 255) p) ∈ t.outbox ∧
        t.get (HIF_Q_HEAD.HEAD (12 + queue % 8)) = (s.get (HIF_Q_HEAD.HEAD (12 + queue % 8)) + 1) % 2 ^ 32 ∧
        SameOffIrq (ANS_CNT_HOST.COUNT p :: HIF_Q_HEAD.HEAD (12 + queue % 8) :: HIF_Q_ELEM.COUNT (12 + queue % 8) :: seen) s t ∧
        OnlyParts [.hif] s t) ∧
      (action = 2 → t.get (ANS_CNT_PTP.COUNT p) = min (s.get (ANS_CNT_PTP.COUNT p) + 1) (2 ^ 32 - 1) ∧
        (ptpParse f bytes = none → SameFields (ANS_CNT_PTP.COUNT p :: seen) s t ∧ OnlyParts [] s t) ∧
        ∀ ty msg two body, ptpParse f bytes = some (ty, msg, two, body) →
          (ty ≠ 0xC → ty ≠ 0xD → SameFields (ANS_CNT_PTP.COUNT p :: seen) s t ∧ OnlyParts [.ptp] s t ∧
            let rx : PtpRx := ⟨ty, msg, two, body, at_, x.stamp, x.unlocked⟩;
            ∀ i : Fin 16, ptpInst t i =
              if ptpTakes s n i rx then { ptpInst s i with inbox := (ptpInst s i).inbox ++ [rx] } else ptpInst s i) ∧
          (ty = 0xC → SameFields (ANS_CNT_PTP.COUNT p :: seen) s t ∧ OnlyParts [.ptp] s t) ∧
          (ty = 0xD → bytes.length ≤ 2016 → hifRoom s (12 + queue % 8) = true → s.get (CDC_XS_STATUS.STATE_A 25) = 0 → t.ptp = s.ptp ∧
            Out.element (12 + queue % 8) (s.get (HIF_Q_HEAD.HEAD (12 + queue % 8)) % hifSize s (12 + queue % 8))
              (rxElement x (m.getD 255) p) ∈ t.outbox)) ∧
      (action = 3 → s.flag (ANS_CFG.EN p) = true → x.unlocked = false →
        s.flag ANS_GLB_CFG.UNVER_DROP = false ∨ ansUnverified s = false → ansAnswerable s p false f bytes = true →
        (ansPipe s p).reqs.length < 1024 → act.getLsbD 8 = true ∨ vbActive s = false →
        t.ans = { s.ans with pipes := s.ans.pipes.modify p fun y =>
          { y with next := y.next + 1, reqs := y.reqs ++ [⟨y.next, n, bytes, false, false, x.stamp,
            ansTarget s p false false x f, answerLen bytes (ansPayLen s false false f), none, [], [], false, none, .waiting⟩] } } ∧
        t.get (ANS_STATUS.INFLIGHT p) = (ansPipe s p).reqs.length + 1 ∧
        SameFields (ANS_STATUS.INFLIGHT p :: seen) s t ∧ OnlyParts [.ans] s t) ∧
      (action = 3 → s.flag (ANS_CFG.EN p) = false →
        t.get (ANS_CNT_ERR2.ABORT p) = min (s.get (ANS_CNT_ERR2.ABORT p) + 1) (2 ^ 16 - 1) ∧ t.ans = s.ans) ∧
      (action = 3 → s.flag (ANS_CFG.EN p) = true → x.unlocked = false →
        s.flag ANS_GLB_CFG.UNVER_DROP = false ∨ ansUnverified s = false → ansAnswerable s p false f bytes = true →
        (ansPipe s p).reqs.length < 1024 → act.getLsbD 8 = false → vbActive s = true →
        let h := vbHash s (f.l3 == 2) (f.srcIp bytes)
        ∀ w, vbWay s (h % 2 ^ 20) (fun e => e.tag == vbTag h) = some w →
          let e := vbUnpack (vbEntry s (4 * (h % 2 ^ 20) + w))
          let d := vbDecayed s (vbNow (s.timeAt at_)) e
          let e' := vbUnpack (vbEntry t (4 * (h % 2 ^ 20) + w))
          e'.score = min (d + 16) 4095 ∧ e'.last = vbNow (s.timeAt at_) ∧ e'.tag = e.tag ∧
          (min (d + 16) 4095 ≤ vbBurst s * 16 → (ansPipe t p).reqs.length = (ansPipe s p).reqs.length + 1) ∧
          (vbBurst s * 16 < min (d + 16) 4095 → s.flag ANS_GLB_CFG.KOD_EN = false →
            t.get (ANS_CNT_LIMITED.COUNT p) = min (s.get (ANS_CNT_LIMITED.COUNT p) + 1) (2 ^ 32 - 1) ∧
            (ansPipe t p).reqs = (ansPipe s p).reqs))) ∧
    (∀ (f : Parsed) (t2 t3 : Int), 48 ≤ f.payload.length → let h := ansHeader s f t2 t3
      h.length = 48 ∧ (h.drop 24).take 8 = (f.payload.drop 40).take 8 ∧ (h.drop 32).take 8 = ntpStamp s t2 ∧ h.drop 40 = ntpStamp s t3 ∧
      h.getD 3 0 = BitVec.ofNat 8 (s.get ANS_GLB_CFG.PRECISION) ∧ (h.drop 4).take 4 = beBytes 4 (s.reg ANS_ROOT_DELAY.ofs).toNat ∧
      h.getD 1 0 = BitVec.ofNat 8 (if ansUnverified s then 16 else ansStratum s)) ∧
    (∀ (p : Fin 4) (g : BlockGrid), (ansNext s p = none → exec (.reserve p g) s = .next s) ∧
      ∀ r, ansNext s p = some r → r ∈ (ansPipe s p).reqs ∧ (∀ q ∈ (ansPipe s p).reqs, q.td = none → r.target ≤ q.target) ∧
      (ansUnready r = false →
        ∀ td, depChoose s r.port r.lenTx g (r.target - lineOf (portTxd s r.port)) (r.target - 400 * lineNs)
          (s.get (ANS_SLACK.SLACK p) * lineNs) = some td → depRoom s r.port = true →
        ∃ t, exec (.reserve p g) s = .next t ∧
          t.mac = s.mac.modify r.port (fun q =>
            { q with f := gridNext g (portBlock s r.port) (td + portOcc s r.port r.lenTx + 12 * portByte s r.port),
                     resv := q.resv ++ [⟨.ans p r.id, td, r.lenTx, portTxd s r.port, false, pairSends s, none⟩] }) ∧
          (∀ q ∈ (ansPipe t p).reqs, q.id = r.id → q.td = some td ∧ q.header = ansFixed s r (td / 25 + portTxd s r.port)) ∧
          (ansPipe t p).reqs.map (·.id) = (ansPipe s p).reqs.map (·.id) ∧
          (s.flag PAIR_CFG.EN = false → SameFields [EP_STATUS.DEP_FILL r.port] s t ∧ OnlyParts [.mac, .ans] s t))) ∧
    (∀ (p : Fin 4) (g : BlockGrid) (r : AnsReq), ansNext s p = some r → ansUnready r = false →
      depChoose s r.port r.lenTx g (r.target - lineOf (portTxd s r.port)) (r.target - 400 * lineNs)
        (s.get (ANS_SLACK.SLACK p) * lineNs) = none →
      ∃ t, exec (.reserve p g) s = .next t ∧ t.get (ANS_CNT_ERR0.NOSLOT p) = min (s.get (ANS_CNT_ERR0.NOSLOT p) + 1) (2 ^ 16 - 1) ∧
        t.get (ANS_FLAGS.NOSLOT p) = 1 ∧ t.get ⟨CON_DL_FLAGS.FAULT.ofs, 0, 1⟩ = 1 ∧ ansReq t p r.id = none) ∧
    (∀ (p : Fin 4) (g : BlockGrid) (r : AnsReq), ansNext s p = some r → ansUnready r = false → depRoom s r.port = false →
      (depChoose s r.port r.lenTx g (r.target - lineOf (portTxd s r.port)) (r.target - 400 * lineNs)
        (s.get (ANS_SLACK.SLACK p) * lineNs)).isSome = true → r.port < 8 →
      ∃ t, exec (.reserve p g) s = .next t ∧ t.get (EP_DEP_DROP0.QUEUE r.port) = min (s.get (EP_DEP_DROP0.QUEUE r.port) + 1) (2 ^ 16 - 1) ∧
        t.get (EP_FLAGS.DEP_DROP r.port) = 1 ∧ ansReq t p r.id = none) ∧
    (∀ (p : Fin 4) (id at_ : Nat), (ansReq s p id = none → exec (.answerBuilt p id at_) s = .next s) ∧
      ∀ (r : AnsReq) (v : Resv), ansReq s p id = some r → r.port < 8 → r.td.isSome = true →
        r.nts = false ∨ r.kod = true ∨ r.work = .nak → depFind s r.port (.ans p id) = some v →
        lineOf (repTime s r.port at_) + 100 * lineNs ≤ v.td →
        ∃ t, exec (.answerBuilt p id at_) s = .next t ∧
        t.mac = s.mac.modify r.port (fun q => { q with resv := q.resv.map fun x => if x.owner = .ans p id ∧ x.dead = false then
          { x with frame := some ⟨answerFrame s r.port r.bytes (ansPayload s r), s.get (EP_CFG.DEP_TC r.port), none, true, none⟩ } else x }) ∧
        (ansPipe t p).reqs.map (·.id) = ((ansPipe s p).reqs.map (·.id)).filter (fun i => decide (i ≠ id)) ∧
        (r.kod = true → t.get (ANS_CNT_KOD.COUNT p) = min (s.get (ANS_CNT_KOD.COUNT p) + 1) (2 ^ 32 - 1)) ∧
        (r.kod = false → r.nts = false → t.get (ANS_CNT_NTP.COUNT p) = min (s.get (ANS_CNT_NTP.COUNT p) + 1) (2 ^ 32 - 1)) ∧
        SameFields [ANS_CNT_KOD.COUNT p, ANS_CNT_NTP.COUNT p, ANS_CNT_UNVER.COUNT p, ANS_STATUS.INFLIGHT p] s t ∧
        OnlyParts [.mac, .ans] s t) ∧
    (∀ (p : Fin 4) (id at_ : Nat) (r : AnsReq) (v : Resv), ansReq s p id = some r → r.port < 8 → r.td.isSome = true →
      r.nts = false ∨ r.kod = true → depFind s r.port (.ans p id) = some v → v.td < lineOf (repTime s r.port at_) + 100 * lineNs →
      ∃ t, exec (.answerBuilt p id at_) s = .next t ∧ ansReq t p id = none ∧
        t.get (EP_DEP_DROP0.LATE r.port) = min (s.get (EP_DEP_DROP0.LATE r.port) + 1) (2 ^ 16 - 1) ∧
        t.get (EP_FLAGS.DEP_DROP r.port) = 1 ∧ t.get ⟨CON_DL_FLAGS.FAULT.ofs, 0, 1⟩ = 1 ∧
        (∀ x ∈ (macPort t r.port).resv, x.owner = .ans p id → x.dead = true)) ∧
    (∀ p : Fin 4, s.hostReach .ans (some (9, p)) = true → let reqs := (ansPipe s p).reqs
      ∃ t, exec (.pipelineDisable p) s = .next t ∧ t.get (ANS_CFG.EN p) = 0 ∧ CfgWrites s t ∧ OnlyParts [.mac, .ans, .prov, .pair] s t ∧
      (s.flag (ANS_CFG.EN p) = false → t.mac = s.mac ∧ t.ans = s.ans ∧ SameFields [whole (ANS_CFG.ofs p)] s t) ∧
      t.get (ANS_CFG.DEFAULT_ACTION p) = s.get (ANS_CFG.DEFAULT_ACTION p) ∧ t.get (ANS_CFG.DEFAULT_QUEUE p) = s.get (ANS_CFG.DEFAULT_QUEUE p) ∧
      (s.flag (ANS_CFG.EN p) = true → (ansPipe t p).reqs = [] ∧ t.get (ANS_STATUS.INFLIGHT p) = 0 ∧
        (∀ n : Fin 8, (macPort t n).resv = (macPort s n).resv.map fun x =>
          if reqs.any (fun q => decide (q.port = n.val ∧ x.owner = .ans p q.id)) then { x with dead := true, frame := none } else x) ∧
        t.reg (ANS_CNT_RX.ofs p) = s.rf.base (ANS_CNT_RX.ofs p) ∧
        (∀ q : Fin 4, q ≠ p → ansPipe t q = ansPipe s q) ∧
        (s.flag PAIR_CFG.EN = false → t.pair = s.pair ∧
          ∀ g : Fld, g.ofs < 0x410000 + p.val * 0x10000 ∨ 0x420000 + p.val * 0x10000 ≤ g.ofs → t.get g = s.get g)))

/-- Rule banks are committed, exchanged and copied; local addresses are committed; the visitor book is read, swept and cleared. -/
def Obligations.RuleBanksAndTheVisitorBookAreKept : Prop :=
  ∀ s : State, s.Wf →
    (∀ p : Fin 4, s.hostReach .ans (some (9, p)) = true → ∃ t, exec (.ruleCommit p) s = .next t ∧
      (s.flag (ANS_STATUS.COMMIT_BUSY p) = false → t = { s with ans := { s.ans with pipes := s.ans.pipes.modify p fun x => { x with swap := true } } }) ∧
      (s.flag (ANS_STATUS.COMMIT_BUSY p) = true → t.get (ANS_FLAGS.CFG_BAD p) = 1 ∧
        (s.flag (ANS_FLAGS.CFG_BAD p) = false → Raised (152 + p) t) ∧ SameOffIrq [ANS_FLAGS.CFG_BAD p] s t ∧ OnlyParts [] s t)) ∧
    (∀ p : Fin 4, ((ansPipe s p).swap = false → exec (.bankSwap p) s = .next s) ∧
      ((ansPipe s p).swap = true → ∃ t, exec (.bankSwap p) s = .next t ∧
        t.ans = { s.ans with pipes := s.ans.pipes.modify p fun x => { x with active := ansShadow s p, badHit := [], swap := false } } ∧
        t.get (ANS_STATUS.BANK p) = 1 - s.get (ANS_STATUS.BANK p) ∧ t.get (ANS_STATUS.COMMIT_BUSY p) = 1 ∧ (∀ r w, r < 64 → (ansPipe s p).active[r]? = some w → t.reg (ANS_RULE_K0.ofs p r) = w.k0 ∧ t.reg (ANS_RULE_K1.ofs p r) = w.k1 ∧ t.reg (ANS_RULE_K2.ofs p r) = w.k2 ∧ t.reg (ANS_RULE_ACT.ofs p r) = w.act) ∧
        SameFields ([ANS_STATUS.BANK p, ANS_STATUS.COMMIT_BUSY p] ++
          ((List.range 64).flatMap fun r => [whole (ANS_RULE_K0.ofs p r), whole (ANS_RULE_K1.ofs p r), whole (ANS_RULE_K2.ofs p r), whole (ANS_RULE_ACT.ofs p r)])) s t ∧ OnlyParts [.ans] s t)) ∧
    (∀ p : Fin 4, (s.flag (ANS_STATUS.COMMIT_BUSY p) = false → exec (.bankCopyDone p) s = .next s) ∧
      (s.flag (ANS_STATUS.COMMIT_BUSY p) = true → ∃ t, exec (.bankCopyDone p) s = .next t ∧
        t.get (ANS_STATUS.COMMIT_BUSY p) = 0 ∧ t.get (ANS_FLAGS.COMMIT_DONE p) = 1 ∧ (∀ r w, r < 64 → (ansPipe s p).active[r]? = some w → t.reg (ANS_RULE_K0.ofs p r) = w.k0 ∧ t.reg (ANS_RULE_K1.ofs p r) = w.k1 ∧ t.reg (ANS_RULE_K2.ofs p r) = w.k2 ∧ t.reg (ANS_RULE_ACT.ofs p r) = w.act) ∧
        SameOffIrq ([ANS_STATUS.COMMIT_BUSY p, ANS_FLAGS.COMMIT_DONE p] ++
          ((List.range 64).flatMap fun r => [whole (ANS_RULE_K0.ofs p r), whole (ANS_RULE_K1.ofs p r), whole (ANS_RULE_K2.ofs p r), whole (ANS_RULE_ACT.ofs p r)])) s t ∧ OnlyParts [] s t)) ∧
    (∀ (p : Fin 4) (a : Fin 16) (v : Word), s.hostReach .ans (some (9, p)) = true →
      let e := if v.getLsbD 0 then some (v.getLsbD 1, (List.range (if v.getLsbD 1 then 4 else 1)).flatMap fun w =>
        leBytes 4 (s.reg (ANS_ADDR_W.ofs p a w)).toNat) else none
      ∃ t, exec (.addressCommit p a v) s = .next t ∧
      t.ans = { s.ans with pipes := s.ans.pipes.modify p fun x => { x with addrs := x.addrs.set a e } } ∧
      t.get (ANS_ADDR_CFG.VALID p a) = bit (v.getLsbD 0) ∧ t.get (ANS_ADDR_CFG.V6 p a) = bit (v.getLsbD 1) ∧
      SameFields [ANS_ADDR_CFG.VALID p a, ANS_ADDR_CFG.V6 p a] s t ∧ OnlyParts [.ans, .prov] s t ∧ CfgWrites s t) ∧
    (∀ at_ : Nat, (s.live .ans = false → exec (.vbSweep at_) s = .next s) ∧ (s.live .ans = true →
      let young := fun e : Nat × BitVec 64 => decide (((s.timeAt at_ * 16 / secUnit % 2 ^ 20).toNat + 2 ^ 20 - e.2.toNat / 2 ^ 24 % 2 ^ 20) % 2 ^ 20 < 32768 * 16)
      exec (.vbSweep at_) s = .next { s with ans := { s.ans with book := s.ans.book.filter young } })) ∧
    (s.hostReach .ans none = true → ∃ t, exec .vbClear s = .next t ∧ t.ans = { s.ans with book := [], key := s.freeBytes 16 } ∧
      t.get ANS_GLB_STATUS.VB_BUSY = 1 ∧ (∀ i, vbEntry t i = 0) ∧ SameFields [ANS_GLB_STATUS.VB_BUSY] s t ∧ OnlyParts [.ans] s t) ∧
    ((s.flag ANS_GLB_STATUS.VB_BUSY = false → exec .vbClearDone s = .next s) ∧
      (s.flag ANS_GLB_STATUS.VB_BUSY = true → ∃ t, exec .vbClearDone s = .next t ∧ t.get ANS_GLB_STATUS.VB_BUSY = 0 ∧
        t.get HIF_VB_RES.BUSY = (if s.get HIF_VB_RES.BUSY = 1 then 0 else s.get HIF_VB_RES.BUSY) ∧ OnlyParts [] s t ∧
        (s.flag HIF_VB_RES.BUSY = false → SameFields [ANS_GLB_STATUS.VB_BUSY] s t) ∧
        (s.flag HIF_VB_RES.BUSY = true → s.flag HIF_VB_CMD.OP = false →
          t.get64 HIF_VB_ENTRY.ofs = (vbEntry s (s.get HIF_VB_CMD.INDEX)).toNat ∧ t.get HIF_VB_RES.HIT = 1))) ∧
    (∀ i : BitVec 22, s.hostReach .hif none = true → ∃ t, exec (.vbReadIndex i) s = .next t ∧
      SameFields ([HIF_VB_CMD.INDEX, HIF_VB_CMD.V6, HIF_VB_CMD.OP, HIF_VB_RES.BUCKET, HIF_VB_RES.WAY, HIF_VB_RES.HIT, HIF_VB_RES.BUSY] ++ pairOf HIF_VB_ENTRY.ofs) s t ∧ OnlyParts [] s t ∧ t.get HIF_VB_CMD.INDEX = i.toNat ∧ t.get HIF_VB_CMD.OP = 0 ∧
      (s.flag HIF_VB_RES.BUSY = false → s.flag ANS_GLB_STATUS.VB_BUSY = false → t.get HIF_VB_RES.BUCKET = i.toNat / 4 ∧
        t.get HIF_VB_RES.WAY = i.toNat % 4 ∧ t.get HIF_VB_RES.HIT = 1 ∧ t.get HIF_VB_RES.BUSY = 0 ∧
        t.get64 HIF_VB_ENTRY.ofs = (vbEntry s i.toNat).toNat) ∧
      (s.flag HIF_VB_RES.BUSY = false → s.flag ANS_GLB_STATUS.VB_BUSY = true → t.get HIF_VB_RES.BUSY = 1 ∧
        t.get64 HIF_VB_ENTRY.ofs = s.get64 HIF_VB_ENTRY.ofs) ∧
      (s.flag HIF_VB_RES.BUSY = true → t.get HIF_VB_RES.BUSY = 1 ∧ t.get64 HIF_VB_ENTRY.ofs = s.get64 HIF_VB_ENTRY.ofs)) ∧
    (∀ v6 : Bool, s.hostReach .hif none = true → s.flag HIF_VB_RES.BUSY = false → s.flag ANS_GLB_STATUS.VB_BUSY = false →
      let h := vbHash s v6 (vbHostKey s)
      let hit := vbWay s (h % 2 ^ 20) fun e => e.tag == vbTag h
      ∃ t, exec (.vbLookup v6) s = .next t ∧ t.get HIF_VB_RES.BUCKET = h % 2 ^ 20 ∧ t.get HIF_VB_RES.BUSY = 0 ∧
      (∀ w, hit = some w → t.get HIF_VB_RES.HIT = 1 ∧ t.get HIF_VB_RES.WAY = w ∧
        t.get64 HIF_VB_ENTRY.ofs = (vbEntry s (4 * (h % 2 ^ 20) + w)).toNat) ∧
      (hit = none → t.get HIF_VB_RES.HIT = 0 ∧ t.get64 HIF_VB_ENTRY.ofs = 0) ∧
      SameFields ([HIF_VB_CMD.INDEX, HIF_VB_CMD.V6, HIF_VB_CMD.OP, HIF_VB_RES.BUCKET, HIF_VB_RES.WAY, HIF_VB_RES.HIT, HIF_VB_RES.BUSY] ++ pairOf HIF_VB_ENTRY.ofs) s t ∧ OnlyParts [] s t)

/-- ZEROISE with CONFIRM 0xC3 erases every key and every cookie's validity; any other value only sets CFG_BAD. -/
def Obligations.ZeroiseErasesTheKeyStore : Prop :=
  ∀ (s : State) (confirm : Byte), s.Wf → s.hostReach .nts none = true →
    (confirm = 0xC3 → ∃ t, exec (.zeroise confirm) s = .next t ∧ t.nts = { s.nts with cur := none, old1 := none, old2 := none, staging := none } ∧
      t.con.blockReq = true ∧
      (∀ kind at_, let ck := ckptLatch kind at_ t; ck.cur = none ∧ ck.old1 = none ∧ ck.old2 = none ∧ ck.staged = none) ∧
      t.get NTS_FLAGS.ZEROISED = 1 ∧ (∀ gen, ntsHeld t gen = none) ∧ (∀ f q, ntsCheck t f q = .nak NTS_CNT_NAK.KEY) ∧
      t.get NTS_GEN_NEXT.NEXT = s.get NTS_GEN_NEXT.NEXT ∧
      (∀ u k, exec .ntsEnable t = .next u → u.nts.staging = some k → k.gen = s.get NTS_GEN_NEXT.NEXT) ∧
      t.get NTS_STATUS.ROT_STATE = 0 ∧ SameOffIrq [NTS_KEYID.KEYID 0, NTS_KEYID.KEYID 1, NTS_KEYID.KEYID 2, NTS_STATUS.GEN_VALID, NTS_STATUS.ROT_STATE, NTS_FLAGS.ZEROISED] s t ∧
      OnlyParts [.nts, .con] s t ∧ t.con = { s.con with blockReq := true }) ∧
    (confirm ≠ 0xC3 → ∃ t, exec (.zeroise confirm) s = .next t ∧ t.get NTS_FLAGS.CFG_BAD = 1 ∧
      SameOffIrq [NTS_FLAGS.CFG_BAD] s t ∧ OnlyParts [] s t)

/-- A key is drawn on enabling and on a due rotation, a rotation times out, and a sealed cookie opens under its key. -/
def Obligations.KeysRotateAndCookiesOpen : Prop :=
  ∀ s : State, s.Wf →
    (∀ c : Instr, let own := s.live .nts = true ∧ s.flag NTS_CFG.EN = true ∧ s.get PAIR_STATUS.STATE ≠ 3
      let due := own ∧ s.flag NTS_CFG.ROT_EN = true ∧ s.get NTS_STATUS.ROT_STATE = 3
      (c = .ntsEnable ∧ own ∧ s.get NTS_STATUS.ROT_STATE = 0 ∨ c = .rotationDue ∧ due ∨ c = .rotate ∧ s.hostReach .nts none = true ∧ due →
        let gen := s.get NTS_GEN_NEXT.NEXT
        ∃ t, exec c s = .next t ∧ t.nts = { s.nts with staging := some ⟨gen, s.freeBytes 64⟩ } ∧
        t.get NTS_GEN_NEXT.NEXT = (if gen = 2 ^ 32 - 1 then 1 else gen + 1) ∧ t.get NTS_STATUS.ROT_STATE = 2 ∧
        t.con = { s.con with blockReq := true } ∧ SameFields [NTS_GEN_NEXT.NEXT, NTS_STATUS.ROT_STATE] s t ∧
        OnlyParts [.nts, .con] s t) ∧
      (c = .ntsEnable ∧ ¬ (own ∧ s.get NTS_STATUS.ROT_STATE = 0) ∨ (c = .rotationDue ∨ c = .rotate) ∧ ¬ due → exec c s = .next s)) ∧
    ((s.get NTS_STATUS.ROT_STATE ≠ 2 → exec .rotationTimeout s = .next s) ∧
      (s.get NTS_STATUS.ROT_STATE = 2 → ∃ t, exec .rotationTimeout s = .next t ∧ t.nts = { s.nts with staging := none } ∧
        t.get NTS_STATUS.ROT_STATE = (if s.nts.cur.isSome then 3 else 0) ∧ t.get NTS_FLAGS.ROT_FAIL = 1 ∧
        Raised 156 t ∧ SameOffIrq [NTS_STATUS.ROT_STATE, NTS_FLAGS.ROT_FAIL] s t ∧
        OnlyParts [.nts] s t)) ∧
    (∀ (k : NtsKey) (nonce c2s s2c : List Byte), k.key.length = 64 → nonce.length = 12 → c2s.length = 32 → s2c.length = 32 →
      let c := ntsSeal k nonce c2s s2c
      c.length = 100 ∧ c.take 4 = beBytes 4 k.gen ∧ (c.drop 4).take 12 = nonce ∧ ntsOpen k c = some (c2s, s2c))

/-- A unit ends phase 1 with new cookies or a NAK and phase 2 with an authenticated answer; units are tested; jobs are minted. -/
def Obligations.ThePoolWorksInTwoPhasesAndMints : Prop :=
  ∀ s : State, s.Wf →
    (∀ u : Fin 16, (ntsRunning s u = none ∨ (ntsSecond s u).isSome = true → exec (.ntsPhase1 u) s = .next s) ∧
      ∀ p r q, ntsRunning s u = some (p, r) → ntsSecond s u = none → ntsParse s (parseFrame r.bytes) = some q →
      (∀ c2s s2c k, ntsCheck s (parseFrame r.bytes) q = .keys c2s s2c → s.nts.cur = some k →
        let m := (ntsSealMany u k c2s s2c q.cookies s).1
        m.length = 1 + min q.holders 7 ∧ ∃ t, exec (.ntsPhase1 u) s = .next t ∧
        (∀ x ∈ (ansPipe t p).reqs, x.id = r.id → x.work = .ready s2c ((m.map cookieField).flatten)) ∧
        (ansPipe t p).reqs.map (·.id) = (ansPipe s p).reqs.map (·.id) ∧ t.rf = s.rf ∧ OnlyParts [.ans] s t) ∧
      (∀ c, ntsCheck s (parseFrame r.bytes) q = .nak c → ∃ t, exec (.ntsPhase1 u) s = .next t ∧
        t.get (c p) = min (s.get (c p) + 1) (2 ^ 16 - 1) ∧
        (s.flag NTS_CFG.NAK_EN = true → (∀ x ∈ (ansPipe t p).reqs, x.id = r.id → x.work = .nak) ∧
          (ansPipe t p).reqs.map (·.id) = (ansPipe s p).reqs.map (·.id) ∧ SameFields [c p] s t ∧ OnlyParts [.ans] s t) ∧
        (s.flag NTS_CFG.NAK_EN = false → ansReq t p r.id = none))) ∧
    (∀ (u : Fin 16) (at_ : Nat), (ntsSecond s u = none → exec (.ntsPhase2 u at_) s = .next s) ∧
      ∀ p r q td s2c plain, ntsSecond s u = some (p, r) → r.port < 8 → ntsParse s (parseFrame r.bytes) = some q → r.td = some td →
      r.work = .ready s2c plain →
      (lineOf (repTime s r.port at_) + 100 * lineNs ≤ td → ∀ v, depFind s r.port (.ans p r.id) = some v → v.td = td →
        ∃ t, exec (.ntsPhase2 u at_) s = .next t ∧
        t.mac = s.mac.modify r.port (fun y => { y with resv := y.resv.map fun x => if x.owner = .ans p r.id ∧ x.dead = false then
          { x with frame := some ⟨answerFrame s r.port r.bytes (ntsAnswer r q.uid s2c plain (ntsRandom s u 16)),
                                  s.get (EP_CFG.DEP_TC r.port), none, true, none⟩ } else x }) ∧
        ansReq t p r.id = none ∧ t.get (ANS_CNT_NTS.COUNT p) = min (s.get (ANS_CNT_NTS.COUNT p) + 1) (2 ^ 32 - 1) ∧
        t.get (NTS_CNT_COOKIES.COUNT p) = min (s.get (NTS_CNT_COOKIES.COUNT p) + q.cookies) (2 ^ 32 - 1) ∧
        SameFields [ANS_CNT_NTS.COUNT p, NTS_CNT_COOKIES.COUNT p, ANS_CNT_UNVER.COUNT p, ANS_STATUS.INFLIGHT p] s t ∧
        OnlyParts [.mac, .ans] s t) ∧
      (td < lineOf (repTime s r.port at_) + 100 * lineNs → ∃ t, exec (.ntsPhase2 u at_) s = .next t ∧ ansReq t p r.id = none ∧
        t.get (NTS_CNT_POOL.POOL_LATE p) = min (s.get (NTS_CNT_POOL.POOL_LATE p) + 1) (2 ^ 16 - 1) ∧
        t.get NTS_FLAGS.POOL_LATE = 1 ∧ t.get ⟨CON_DL_FLAGS.FAULT.ofs, 0, 1⟩ = 1)) ∧
    (∀ (u : Fin 16) (force : Bool), s.hostReach .nts none = true → ∃ t, exec (.ntsSelftest u force) s = .next t ∧
      (ntsNeeded s u = true → force = false → t.get NTS_FLAGS.BUSY_IN_SERVICE = 1 ∧
        SameOffIrq [NTS_FLAGS.BUSY_IN_SERVICE] s t ∧ OnlyParts [] s t) ∧
      (ntsNeeded s u = false ∨ force = true → (t.get NTS_UNIT_STATUS.TESTING).testBit u = true ∧
        (∀ v, v < 16 → v ≠ u → (t.get NTS_UNIT_STATUS.TESTING).testBit v = (s.get NTS_UNIT_STATUS.TESTING).testBit v) ∧
        (ntsNeeded s u = true → t.get NTS_FLAGS.FORCED_OUT = 1) ∧
        SameOffIrq [NTS_UNIT_STATUS.TESTING, NTS_FLAGS.FORCED_OUT] s t ∧ OnlyParts [] s t)) ∧
    (∀ (u : Fin 16) (ok : Bool), ((s.get NTS_UNIT_STATUS.TESTING).testBit u = false → exec (.ntsSelftestDone u ok) s = .next s) ∧
      ((s.get NTS_UNIT_STATUS.TESTING).testBit u = true → ∃ t, exec (.ntsSelftestDone u ok) s = .next t ∧
        (t.get NTS_UNIT_STATUS.TESTING).testBit u = false ∧
        (ok = false → (t.get NTS_UNIT_STATUS.FAULT).testBit u = true ∧ t.get NTS_FLAGS.UNIT_FAULT = 1) ∧
        (ok = true → t.get NTS_UNIT_STATUS.FAULT = s.get NTS_UNIT_STATUS.FAULT) ∧
        (t.get NTS_UNIT_STATUS.TESTING = 0 → t.get NTS_STATUS.READY = 1) ∧
        SameOffIrq [whole NTS_UNIT_STATUS.ofs, NTS_FLAGS.UNIT_FAULT, NTS_STATUS.READY] s t ∧ OnlyParts [.ans] s t)) ∧
    ((hifDescriptor s 29 = none → exec .mintJob s = .next s) ∧ ∀ d, hifDescriptor s 29 = some d →
      (mintStatus s d = 0 → mintReady s = false → exec .mintJob s = .next s) ∧
      (∀ k, mintStatus s d = 0 → mintReady s = true → s.nts.cur = some k → s.get (CDC_XS_STATUS.STATE_A 25) = 0 →
        let n := leNat ((d.drop 2).take 1)
        let u := s.get NTS_UNIT_CFG.MINT_UNIT
        let m := (ntsSealMany u k ((d.drop 8).take 32) ((d.drop 40).take 32) n (ntsBegin u s)).1
        m.length = n ∧ ∃ t, exec .mintJob s = .next t ∧ Out.hostBytes (leNat ((d.drop 72).take 8)) m.flatten ∈ t.outbox ∧
        t.nts = { s.nts with done := s.nts.done ++ [mintRecord d 0 n k.gen] } ∧
        t.get NTS_MINT_CNT.COUNT = min (s.get NTS_MINT_CNT.COUNT + n) (2 ^ 32 - 1) ∧
        (hifQueue t 29).fetched = (hifQueue s 29).fetched.drop 1 ∧
        SameOffIrq [NTS_MINT_CNT.COUNT, HIF_Q_HEAD.HEAD 29, HIF_Q_ELEM.COUNT 29] s t ∧ OnlyParts [.ans, .nts, .hif] s t) ∧
      (mintStatus s d ≠ 0 → ∃ t, exec .mintJob s = .next t ∧
        t.nts = { s.nts with done := s.nts.done ++ [mintRecord d (mintStatus s d) 0 0] } ∧ t.get NTS_FLAGS.MINT_ERR = 1 ∧
        t.get NTS_MINT_ERR.COUNT = min (s.get NTS_MINT_ERR.COUNT + 1) (2 ^ 32 - 1) ∧
        (∀ a b, Out.hostBytes a b ∈ t.outbox → Out.hostBytes a b ∈ s.outbox) ∧
        SameOffIrq [NTS_MINT_ERR.COUNT, NTS_FLAGS.MINT_ERR, HIF_Q_HEAD.HEAD 29, HIF_Q_ELEM.COUNT 29] s t ∧ OnlyParts [.ans, .nts, .hif] s t)) ∧
    ((s.nts.done = [] → exec .mintCompletion s = .next s) ∧ ∀ r rest, s.nts.done = r :: rest → hifRoom s 11 = true → s.get (CDC_XS_STATUS.STATE_A 25) = 0 →
      ∃ t, exec .mintCompletion s = .next t ∧ t.nts = { s.nts with done := rest } ∧
      Out.element 11 (s.get (HIF_Q_HEAD.HEAD 11) % hifSize s 11) r ∈ t.outbox ∧
      t.get (HIF_Q_HEAD.HEAD 11) = (s.get (HIF_Q_HEAD.HEAD 11) + 1) % 2 ^ 32 ∧
      SameOffIrq [HIF_Q_HEAD.HEAD 11, HIF_Q_ELEM.COUNT 11] s t ∧ OnlyParts [.nts, .hif] s t)

/-- A server instance sends one-step and two-step Syncs, Follow_Ups and Announces, and answers a Delay_Req. -/
def Obligations.PtpServersSendSyncAndAnnounce : Prop :=
  ∀ (s : State) (i : Fin 16), s.Wf → let n := ptpPort s i
    (ptpServer s i = false → ∀ client k g m at_, exec (.syncInstant i client k g) s = .next s ∧ exec (.announceTx i client at_) s = .next s ∧
      exec (.delayReq i m at_) s = .next s) ∧
    (∀ (client : Option (Fin 16384)) (k : Nat) (g : BlockGrid) (at_ : Int), ptpServer s i = true →
      s.flag (PTP_INST_CFG.TWO_STEP i) = false → ptpSyncInstant s i (client.map (·.val)) k = some at_ → let c := client.map (·.val)
      let build := fun t1 : Int => ptpFrame s i (ptpDest s i c) true (ptpSync s i c false (ptpTime t1) (ptpSub t1))
      let len := max 60 (build 0).length + 4
      let pick := depChoose s n len g (lineOf (at_ - portTxd s n)) (lineOf at_ - 400 * lineNs) (s.get PTP_SLACK.SLACK * lineNs)
      ∃ t, exec (.syncInstant i client k g) s = .next t ∧ (ptpInst t i).seqSync = ((ptpInst s i).seqSync + 1) % 65536 ∧
      (∀ td, pick = some td → depRoom s n = true → t.mac = s.mac.modify n (fun p =>
          { p with f := gridNext g (portBlock s n) (td + portOcc s n len + 12 * portByte s n),
                   resv := p.resv ++ [⟨.sync i, td, len, portTxd s n, false, pairSends s,
                     some ⟨build (td / 25 + portTxd s n), s.get (EP_CFG.DEP_TC n), none, true, some i.val⟩⟩] }) ∧
        SameFields [EP_STATUS.DEP_FILL n] s t ∧ OnlyParts [.mac, .ptp] s t) ∧
      (pick = none → t.get (PTP_INST_CNT0.SYNC_DROP i) = min (s.get (PTP_INST_CNT0.SYNC_DROP i) + 1) (2 ^ 16 - 1) ∧
        t.get (PTP_INST_FLAGS.SYNC_DROP i) = 1 ∧ t.get ⟨CON_DL_FLAGS.FAULT.ofs, 0, 1⟩ = 1 ∧ t.mac = s.mac)) ∧
    (∀ (client : Option (Fin 16384)) (k : Nat) (g : BlockGrid), ptpServer s i = true → s.flag (PTP_INST_CFG.TWO_STEP i) = true →
      (ptpSyncInstant s i (client.map (·.val)) k).isSome = true → let c := client.map (·.val)
      let seq := (ptpInst s i).seqSync
      let fr := ptpFrame s i (ptpDest s i c) true (ptpSync s i c true (List.replicate 10 0) 0)
      ∃ t, exec (.syncInstant i client k g) s = .next t ∧
      t.mac = s.mac.modify n (fun p => { p with waiting := p.waiting ++ [⟨fr, s.get (EP_CFG.DEP_TC n), some (.ptp i seq), true, some i.val⟩] }) ∧
      (ptpInst t i).awaiting = (ptpInst s i).awaiting ++ [⟨seq, c.isSome, (ptpDest s i c).mac, (ptpDest s i c).ip, ptpSyncLog s i c⟩] ∧ (ptpInst t i).seqSync = (seq + 1) % 65536 ∧
      t.rf = s.rf ∧ OnlyParts [.mac, .ptp] s t) ∧
    (((macPort s n).tsq.find? (TsEntry.isPtp i) = none → exec (.followUp i) s = .next s) ∧
      ∀ e id a, (macPort s n).tsq.find? (TsEntry.isPtp i) = some e → e.req = .ptp i id →
      (ptpInst s i).awaiting.find? (fun a => a.seq == id) = some a →
      let msg := ptpBytes s i 8 (bit a.unicast * 0x400) (ptpSub e.time) id 2 a.log (ptpTime e.time)
      let fr : EthFrame := ⟨ptpFrame s i ⟨a.mac, a.ip⟩ false msg, s.get (EP_CFG.DEP_TC n), none, ptpServer s i, some i.val⟩
      ∃ t, exec (.followUp i) s = .next t ∧
      (ptpInst t i).awaiting = dropFirst (fun a => a.seq == id) (ptpInst s i).awaiting ∧
      t.mac = s.mac.modify n (fun p => { p with tsq := dropFirst (TsEntry.isPtp i) p.tsq,
                                                waiting := if e.dropped then p.waiting else p.waiting ++ [fr] }) ∧
      (e.dropped = false → SameFields [EP_TSQ_STATUS.COUNT n] s t) ∧
      (e.dropped = true → t.get (PTP_INST_CNT0.TSQ_MISS i) = min (s.get (PTP_INST_CNT0.TSQ_MISS i) + 1) (2 ^ 16 - 1) ∧
        t.get (PTP_INST_FLAGS.TSQ_MISS i) = 1 ∧
        SameOffIrq [EP_TSQ_STATUS.COUNT n, PTP_INST_CNT0.TSQ_MISS i, PTP_INST_FLAGS.TSQ_MISS i] s t) ∧ OnlyParts [.mac, .ptp] s t) ∧
    (((ptpInst s i).awaiting = [] → exec (.tsqTimeout i) s = .next s) ∧ ∀ a rest, (ptpInst s i).awaiting = a :: rest →
      ∃ t, exec (.tsqTimeout i) s = .next t ∧ (ptpInst t i).awaiting = rest ∧
      t.get (PTP_INST_CNT0.TSQ_MISS i) = min (s.get (PTP_INST_CNT0.TSQ_MISS i) + 1) (2 ^ 16 - 1) ∧
      t.get (PTP_INST_FLAGS.TSQ_MISS i) = 1 ∧
      SameOffIrq [PTP_INST_CNT0.TSQ_MISS i, PTP_INST_FLAGS.TSQ_MISS i] s t ∧ OnlyParts [.ptp] s t) ∧
    (∀ (client : Option (Fin 16384)) (at_ : Nat), ptpServer s i = true → client ≠ none ∨ ptpProfile s i ≠ 2 →
      (∀ e, client = some e → ((tableGet s.ptp.table e).bind (·.ann)).isSome = true) → let c := client.map (·.val)
      let fr := ptpFrame s i (ptpDest s i c) false (ptpAnnounce s i c at_)
      ∃ t, exec (.announceTx i client at_) s = .next t ∧ t.get (PTP_INST_STATUS.CLASS_TX i) = ptpClass s i ∧
      t.get (PTP_INST_STATUS.ACC_TX i) = ptpAccuracy s ∧
      t.mac = s.mac.modify n (fun p => { p with waiting := p.waiting ++ [⟨fr, s.get (EP_CFG.DEP_TC n), none, true, some i.val⟩] }) ∧
      (ptpInst t i).seqAnn = ((ptpInst s i).seqAnn + 1) % 65536 ∧ (ansUnverified s = true → s.flag (PTP_INST_OVR.CLASS_OVR_EN i) = false →
        t.get (PTP_INST_STATUS.CLASS_TX i) = 248 ∧ t.get (PTP_INST_STATUS.ACC_TX i) = 0xFE) ∧
      SameFields [PTP_INST_STATUS.CLASS_TX i, PTP_INST_STATUS.ACC_TX i] s t ∧ OnlyParts [.mac, .ptp] s t) ∧
    (ptpProfile s i = 2 → ∀ k g at_, exec (.syncInstant i none k g) s = .next s ∧ exec (.announceTx i none at_) s = .next s) ∧
    (∀ (m : PtpMsg) (at_ : Nat), ptpServer s i = true → ptpWaiting s i (isDelayReq m at_) = none → exec (.delayReq i m at_) s = .next s) ∧
    (∀ (m : PtpMsg) (at_ : Nat) (x : PtpRx), ptpServer s i = true → ptpWaiting s i (isDelayReq m at_) = some x →
      let alone := m.unicast || ptpProfile s i == 2
      ∃ t, exec (.delayReq i m at_) s = .next t ∧ (ptpInst t i).inbox = dropFirst (isDelayReq m at_) (ptpInst s i).inbox ∧
      (x.unlocked = false → alone = false ∨ ptpRespGrant s i m = true → let t4 := x.stamp
        let body := ptpTime t4 ++ beBytes 8 m.id.clock.toNat ++ beBytes 2 m.id.port.toNat
        let msg := ptpBytes s i 9 (bit alone * 0x400) (m.correction.toInt - ptpSub t4) m.seq.toNat 3
          (s.getI (PTP_INST_RATES.LOG_DELAY i)) body
        let fr := ptpFrame s i (if alone then ⟨m.mac, m.ip⟩ else ptpGroup s i) false msg
        t.mac = s.mac.modify n (fun p => { p with waiting := p.waiting ++ [⟨fr, s.get (EP_CFG.DEP_TC n), none, true, some i.val⟩] }) ∧
        t.rf = s.rf ∧ OnlyParts [.mac, .ptp] s t) ∧
      (x.unlocked = true → t.get (PTP_INST_CNT1.DISCARD i) = min (s.get (PTP_INST_CNT1.DISCARD i) + 1) (2 ^ 16 - 1) ∧
        SameFields [PTP_INST_CNT1.DISCARD i] s t ∧ OnlyParts [.ptp] s t) ∧
      (x.unlocked = false → alone = true → ptpRespGrant s i m = false →
        t.get (PTP_INST_CNT1.DENIED i) = min (s.get (PTP_INST_CNT1.DENIED i) + 1) (2 ^ 16 - 1) ∧
        SameFields [PTP_INST_CNT1.DENIED i] s t ∧ OnlyParts [.ptp] s t))

/-- Unicast grants are given, cancelled, renewed and expire; a client chooses its master; an instance is enabled and disabled. -/
def Obligations.PtpGrantsAndTheChoiceOfAMaster : Prop :=
  ∀ (s : State) (i : Fin 16), s.Wf → let n := ptpPort s i
    (∀ (m : PtpMsg) (type : Fin 3) (log : BitVec 8) (dur : BitVec 32) (at_ : Nat), ptpUnicast s i = true →
      (ptpWaiting s i (isRequest m type log dur.toNat at_)).isSome = true →
      ∃ t, exec (.unicastRequest i m type log dur at_) s = .next t ∧ (macPort t n).waiting.length = (macPort s n).waiting.length + 1 ∧ (ptpInst t i).seqSig = ((ptpInst s i).seqSig + 1) % 65536 ∧
      (ptpInst t i).inbox = dropFirst (isRequest m type log dur.toNat at_) (ptpInst s i).inbox ∧ OnlyParts [.mac, .ptp] s t ∧
      (ptpGrantable type log dur.toNat = false → t.get (PTP_INST_CNT1.DENIED i) = min (s.get (PTP_INST_CNT1.DENIED i) + 1) (2 ^ 16 - 1) ∧
        t.get (PTP_INST_FLAGS.DENIED i) = 1 ∧ t.ptp.table = s.ptp.table ∧
        SameOffIrq [PTP_INST_CNT1.DENIED i, PTP_INST_FLAGS.DENIED i] s t) ∧
      (∀ e, ptpGrantable type log dur.toNat = true → ptpPlace s i m = some e →
        (∃ c, tableGet t.ptp.table e.1 = some c ∧ c.inst = i.val ∧ c.mac = m.mac ∧ c.id = e.2.id ∧
          c.grant type = some ⟨log.toInt, s.timeAt at_ + min dur.toNat (s.get PTP_GRANT_CFG.MAX_DUR) * secUnit⟩ ∧
          ∀ y : Fin 3, y ≠ type → c.grant y = e.2.grant y) ∧
        (∀ k, k ≠ e.1 → tableGet t.ptp.table k = tableGet s.ptp.table k) ∧
        t.get PTP_STATUS.TBL_USED = t.ptp.table.length % 2 ^ 15 ∧ SameFields [PTP_STATUS.TBL_USED] s t) ∧
      (ptpGrantable type log dur.toNat = true → ptpPlace s i m = none → t.get PTP_FLAGS.TBL_FULL_EV = 1 ∧
        t.get (PTP_INST_FLAGS.DENIED i) = 1 ∧ t.ptp.table = s.ptp.table)) ∧
    (∀ (m : PtpMsg) (type : Fin 3), ptpUnicast s i = true → (ptpWaiting s i (isCancel m type)).isSome = true →
      ∃ t, exec (.unicastCancel i m type) s = .next t ∧ (macPort t n).waiting.length = (macPort s n).waiting.length + 1 ∧ (ptpInst t i).seqSig = ((ptpInst s i).seqSig + 1) % 65536 ∧ (ptpInst t i).inbox = dropFirst (isCancel m type) (ptpInst s i).inbox ∧
      (ptpEntry s n m = none → t.ptp.table = s.ptp.table) ∧
      (∀ e, ptpEntry s n m = some e →
        (∀ c, tableGet t.ptp.table e.1 = some c → c.grant type = none) ∧
        ((e.2.setGrant type none).held = false → tableGet t.ptp.table e.1 = none) ∧
        ∀ k, k ≠ e.1 → tableGet t.ptp.table k = tableGet s.ptp.table k) ∧
      SameFields [PTP_STATUS.TBL_USED] s t ∧ OnlyParts [.mac, .ptp] s t) ∧
    (∀ m (type : Fin 3) log (dur : BitVec 32) at_,
      (ptpUnicast s i = false ∨ ptpWaiting s i (isRequest m type log dur.toNat at_) = none → exec (.unicastRequest i m type log dur at_) s = .next s) ∧
      (ptpUnicast s i = false ∨ ptpWaiting s i (isCancel m type) = none → exec (.unicastCancel i m type) s = .next s)) ∧
    (∀ at_ : Nat, let keep := fun g : Option Grant => g.filter fun g => decide (s.timeAt at_ < g.ends)
      ∃ t, exec (.grantExpiry at_) s = .next t ∧
      t.ptp = { s.ptp with table := (s.ptp.table.map fun e =>
        (e.1, { e.2 with ann := keep e.2.ann, sync := keep e.2.sync, resp := keep e.2.resp })).filter fun e => e.2.held } ∧
      t.get PTP_STATUS.TBL_USED = t.ptp.table.length % 2 ^ 15 ∧ SameFields [PTP_STATUS.TBL_USED] s t ∧ OnlyParts [.ptp] s t) ∧
    (∀ master : Fin 4, (∀ u, ptpClient s i = true → ptpProfile s i = 2 → (ptpInst s i).um.getD master none = some u →
        ∃ t, exec (.grantRenew i master) s = .next t ∧ (macPort t n).waiting.length = (macPort s n).waiting.length + 1 ∧ (ptpInst t i).seqSig = ((ptpInst s i).seqSig + 1) % 65536 ∧ t.rf = s.rf ∧ OnlyParts [.mac, .ptp] s t) ∧
      (ptpClient s i = false ∨ ptpProfile s i ≠ 2 ∨ (ptpInst s i).um.getD master none = none → exec (.grantRenew i master) s = .next s)) ∧
    (∀ (m : PtpMsg) (d : PtpData) (at_ : Nat), ptpClient s i = true → (ptpWaiting s i (isAnnounce m d at_)).isSome = true →
      ptpAllowed s i m = true →
      let old := ((ptpInst s i).foreign.find? fun f => f.msg.id == m.id).map (·.times)
      let l := (ptpInst s i).foreign.filter (fun f => f.msg.id != m.id) ++ [⟨m, d, (s.timeAt at_ :: old.getD []).take 2⟩]
      let best := ptpBest (ptpSet i (fun x => { x with foreign := l }) s) i
      ∃ t, exec (.announceRx i m d at_) s = .next t ∧ (ptpInst t i).foreign = l ∧ OnlyParts [.ptp] s t ∧
      (ptpInst t i).inbox = dropFirst (isAnnounce m d at_) (ptpInst s i).inbox ∧
      (best = none → (ptpInst t i).chosen = (ptpInst s i).chosen ∧ t.rf = s.rf) ∧
      (∀ f, best = some f → (ptpInst t i).chosen = some f.msg.id ∧ t.get64 (PTP_CLI_MASTER.ofs i) = f.msg.id.clock.toNat ∧
        (ptpState s i = 1 → t.get (PTP_INST_STATUS.PORT_STATE i) = 2) ∧
        (ptpState s i ≠ 1 → (ptpInst s i).chosen = some f.msg.id →
          t.get (PTP_INST_STATUS.PORT_STATE i) = s.get (PTP_INST_STATUS.PORT_STATE i)) ∧
        (ptpState s i ≠ 1 → (ptpInst s i).chosen ≠ some f.msg.id → t.get (PTP_INST_STATUS.PORT_STATE i) = 2 ∧
          t.get (PTP_INST_FLAGS.MASTER_CHANGE i) = 1 ∧ t.get (PTP_INST_STATUS.PATH_STATE i) = 0 ∧
          t.getS (PTP_CLI_DELTA_PH.ofs i) = 0 ∧ (ptpInst t i).refs = []) ∧
        SameOffIrq ([PTP_INST_STATUS.PORT_STATE i, PTP_INST_STATUS.PATH_STATE i, PTP_INST_FLAGS.MASTER_CHANGE i] ++
          pairOf (PTP_CLI_MASTER.ofs i) ++ pairOf (PTP_CLI_DELTA_PH.ofs i) ++
          (List.range 64).flatMap fun m => [RGS_SLOT_MSG.RAW m, RGS_SLOT_STATUS.MSG_GRADE m, RGS_SLOT_STATUS.GRADE m, RGS_SLOT_FLAGS.GRADE_CHANGE m]) s t)) ∧
    (∀ (m : PtpMsg) (d : PtpData) (at_ : Nat), ptpClient s i = false ∨ ptpWaiting s i (isAnnounce m d at_) = none ∨
      ptpAllowed s i m = false → exec (.announceRx i m d at_) s = .next s) ∧
    ((ptpClient s i = true → ptpState s i = 2 ∨ ptpState s i = 3 → ∃ t, exec (.announceTimeout i) s = .next t ∧
        t.get (PTP_INST_STATUS.PORT_STATE i) = 1 ∧ (ptpInst t i).chosen = none ∧
        (ptpInst t i).foreign = (ptpInst s i).foreign.filter (fun f => decide (some f.msg.id ≠ (ptpInst s i).chosen)) ∧
        (∀ k, k < 64 → s.get (RGS_SLOT_BIND.TYPE k) = 4 → s.get (RGS_SLOT_BIND.INDEX k) = i → t.flag (RGS_SLOT_STATUS.SIG k) = false) ∧
        SameFields (PTP_INST_STATUS.PORT_STATE i :: (List.range 64).map fun k => RGS_SLOT_STATUS.SIG k) s t ∧
        OnlyParts [.rgs, .ptp] s t) ∧
      (ptpClient s i = false ∨ ptpState s i ≠ 2 ∧ ptpState s i ≠ 3 → exec (.announceTimeout i) s = .next s)) ∧
    (∀ en : Bool, s.hostReach .ptp (some (10, i)) = true → ∃ t, exec (.ptpInstanceEnable i en) s = .next t ∧ CfgWrites s t ∧
      OnlyParts [.rgs, .mac, .ptp, .prov] s t ∧
      (en = true → s.get64 PTP_CLOCK_ID.ofs = 0 → t.get PTP_FLAGS.CFG_BAD = 1 ∧
        t.get (PTP_INST_CFG.EN i) = s.get (PTP_INST_CFG.EN i) ∧ t.ptp = s.ptp ∧ SameOffIrq [PTP_FLAGS.CFG_BAD] s t) ∧
      (en = true → s.get64 PTP_CLOCK_ID.ofs ≠ 0 → s.flag (PTP_INST_CFG.EN i) = false → t.get (PTP_INST_CFG.EN i) = 1 ∧
        t.get (PTP_INST_STATUS.PORT_STATE i) = (if s.flag (PTP_INST_BIND.ROLE i) then 1 else 4) ∧
        SameFields [PTP_INST_CFG.EN i, PTP_INST_STATUS.PORT_STATE i] s t) ∧
      (en = false → s.flag (PTP_INST_CFG.EN i) = true → t.get (PTP_INST_CFG.EN i) = 0 ∧ t.get (PTP_INST_STATUS.PORT_STATE i) = 0 ∧
        (ptpInst t i).inbox = [] ∧ (s.flag (PTP_INST_BIND.ROLE i) = true → (ptpInst t i).chosen = none ∧ (ptpInst t i).foreign = [] ∧ (ptpInst t i).reqs = [] ∧
          t.get (PTP_INST_STATUS.PATH_STATE i) = 0 ∧ t.getS (PTP_CLI_DELTA_PH.ofs i) = 0) ∧
        SameFields ([PTP_INST_CFG.EN i, PTP_INST_STATUS.PORT_STATE i, PTP_INST_STATUS.PATH_STATE i] ++ pairOf (PTP_CLI_DELTA_PH.ofs i) ++
          (List.range 64).map fun k => RGS_SLOT_STATUS.SIG k) s t) ∧
      (s.flag (PTP_INST_CFG.EN i) = en → s.get64 PTP_CLOCK_ID.ofs ≠ 0 → t = s))

/-- A client pairs Sync and Delay_Resp into exchanges, forms a sample each second, and judges a path step. -/
def Obligations.PtpClientsMeasureAndRequalify : Prop :=
  ∀ (s : State) (i : Fin 16), s.Wf → let n := ptpPort s i
    (∀ (m : PtpMsg) (sec : BitVec 48) (ns : BitVec 32) (fu : BitVec 64) (at_ : Nat),
      (∀ x, ptpClient s i = true → (ptpInst s i).chosen = some m.id → ptpWaiting s i (isSync m sec ns at_) = some x →
        x.twoStep = false ∨ (ptpWaiting s i (isFollowUp m sec ns fu)).isSome = true →
        let y : SyncRec := ⟨m.id, timeOf sec.toNat ns.toNat 0, x.stamp, (m.correction.toInt + (if x.twoStep then fu.toInt else 0)) * phUnit, x.unlocked, s.ptp.epoch⟩
        ∃ t, exec (.syncRx i m sec ns fu at_) s = .next t ∧ (ptpInst t i).last = some y ∧
        (x.twoStep = false → (ptpInst t i).inbox = dropFirst (isSync m sec ns at_) (ptpInst s i).inbox) ∧
        (ptpInst t i).reqs = (ptpInst s i).reqs.map (fun r => if r.epoch = s.ptp.epoch ∧ y.t2 < r.t3 then { r with sync := some y } else r) ∧
        t.rf = s.rf ∧ OnlyParts [.ptp] s t) ∧
      (ptpClient s i = false ∨ (ptpInst s i).chosen ≠ some m.id ∨ ptpWaiting s i (isSync m sec ns at_) = none ∨
          (∃ x, ptpWaiting s i (isSync m sec ns at_) = some x ∧ x.twoStep = true ∧ ptpWaiting s i (isFollowUp m sec ns fu) = none) →
        exec (.syncRx i m sec ns fu at_) s = .next s)) ∧
    (∀ (k : Nat) (g : BlockGrid), (ptpClient s i = false ∨ ptpState s i ≠ 2 ∧ ptpState s i ≠ 3 → exec (.delayReqInstant i k g) s = .next s) ∧
      (ptpClient s i = true → ptpState s i = 2 ∨ ptpState s i = 3 → let at_ := ptpTimes k (s.getI (PTP_INST_RATES.LOG_DELAY i)) + i * 1000 * nsUnit
        let seq := (ptpInst s i).seqDelay
        let build := fun t3 : Int => ptpFrame s i (ptpReqDest s i) true
          (ptpBytes s i 1 (bit (s.flag (PTP_INST_CFG.UNICAST i)) * 0x400) 0 seq 1 0x7F (ptpTime t3))
        let len := max 60 (build 0).length + 4
        ∀ td, depChoose s n len g (lineOf (at_ - portTxd s n)) (lineOf at_ - 400 * lineNs) (s.get PTP_SLACK.SLACK * lineNs) = some td →
          depRoom s n = true → ∃ t, exec (.delayReqInstant i k g) s = .next t ∧ (ptpInst t i).seqDelay = (seq + 1) % 65536 ∧
          (ptpInst t i).reqs = (ptpInst s i).reqs.filter (fun q => q.seq != seq) ++
            [⟨seq, td / 25 + portTxd s n, s.ptp.epoch, (ptpInst s i).last⟩] ∧
          (macPort t n).resv = (macPort s n).resv ++ [⟨.delayReq i seq, td, len, portTxd s n, false, pairSends s,
            some ⟨build (td / 25 + portTxd s n), s.get (EP_CFG.DEP_TC n), none, false, some i.val⟩⟩] ∧
          SameFields [EP_STATUS.DEP_FILL n] s t ∧ OnlyParts [.mac, .ptp] s t)) ∧
    (∀ (m : PtpMsg) (sec : BitVec 48) (ns : BitVec 32) (r : ReqRec) (y : SyncRec), ptpClient s i = true →
      (ptpWaiting s i (isDelayResp m sec ns)).isSome = true → (ptpInst s i).reqs.find? (fun r => r.seq == m.seq.toNat) = some r → r.sync = some y →
      let ms := y.t2 - y.t1 - y.corr
      let sm := timeOf sec.toNat ns.toNat 0 - r.t3 - m.correction.toInt * phUnit
      ∃ t, exec (.delayRespRx i m sec ns) s = .next t ∧
      (ptpInst t i).inbox = dropFirst (isDelayResp m sec ns) (ptpInst s i).inbox ∧ (ptpInst t i).reqs = (ptpInst s i).reqs.filter (fun q => decide (q.seq ≠ r.seq)) ∧
      (y.unlocked = false → y.epoch = r.epoch → y.id = m.id → (ptpInst t i).exch = (ptpInst s i).exch ++ [(ms - sm, ms + sm)] ∧
        t.rf = s.rf) ∧
      (y.unlocked = true ∨ y.epoch ≠ r.epoch ∨ y.id ≠ m.id → (ptpInst t i).exch = (ptpInst s i).exch ∧
        t.get (PTP_INST_CNT1.DISCARD i) = min (s.get (PTP_INST_CNT1.DISCARD i) + 1) (2 ^ 16 - 1)) ∧
      SameFields [PTP_INST_CNT1.DISCARD i] s t ∧ OnlyParts [.ptp] s t) ∧
    (∀ (m : PtpMsg) (sec : BitVec 48) (ns : BitVec 32), (ptpClient s i = false ∨ ptpWaiting s i (isDelayResp m sec ns) = none → exec (.delayRespRx i m sec ns) s = .next s) ∧
      (ptpClient s i = true → (ptpWaiting s i (isDelayResp m sec ns)).isSome = true →
        (ptpInst s i).reqs.find? (fun r => r.seq == m.seq.toNat) = none → ∃ t, exec (.delayRespRx i m sec ns) s = .next t ∧
        ptpInst t i = { ptpInst s i with inbox := dropFirst (isDelayResp m sec ns) (ptpInst s i).inbox } ∧ t.rf = s.rf ∧ OnlyParts [.ptp] s t)) ∧
    ((ptpClient s i = true → (ptpInst s i).exch = [] → exec (.clientSample i) s = .next s) ∧
      (ptpClient s i = true → ptpState s i ≠ 2 → ptpState s i ≠ 3 → ∃ t, exec (.clientSample i) s = .next t ∧
        ptpInst t i = { ptpInst s i with exch := [] } ∧ t.rf = s.rf ∧ OnlyParts [.ptp] s t) ∧ ∀ e0 rest, ptpClient s i = true →
      ptpState s i = 2 ∨ ptpState s i = 3 → (ptpInst s i).exch = e0 :: rest → let ex := e0 :: rest
      let least := (ex.map (·.2)).foldl min e0.2
      let sel := ex.filter fun e => decide (e.2 ≤ least + s.get (PTP_CLI_SEL.SEL_WIN i) * nsUnit)
      let raw := Config.quot (sel.map (·.1)).sum (2 * sel.length * phUnit) - s.getS (PTP_CLI_ASYM_PH.ofs i)
      let rt := Config.quot (sel.map (·.2)).sum (sel.length * phUnit)
      let x := raw - ptpDelta s i
      ∃ t, exec (.clientSample i) s = .next t ∧ (ptpInst t i).exch = [] ∧ t.getS (PTP_CLI_RAW_PH.ofs i) = sat64 raw ∧
      t.getS (PTP_CLI_RT_PH.ofs i) = sat64 rt ∧
      t.get (PTP_INST_CNT2.EXCH i) = min (s.get (PTP_INST_CNT2.EXCH i) + sel.length) (2 ^ 16 - 1) ∧
      (ptpState s i = 2 → t.get (PTP_INST_STATUS.PORT_STATE i) = 3) ∧
      (ptpWithin s i rt = true → t.getS (PTP_CLI_X_PH.ofs i) = sat64 x ∧
        (∀ k, k < 64 → s.get (RGS_SLOT_BIND.TYPE k) = 4 → s.get (RGS_SLOT_BIND.INDEX k) = i →
          t.getS (RGS_SLOT_PH.ofs k) = sat64 x ∧ t.flag (RGS_SLOT_STATUS.SIG k) = true) ∧
        (ptpRequal s i = false → (ptpInst t i).run = [] ∧ (ptpInst t i).refs = (rt :: (ptpInst s i).refs).take 16 ∧
          (ptpInst t i).xPre = sat64 x ∧ t.get (PTP_INST_STATUS.PATH_STATE i) = s.get (PTP_INST_STATUS.PATH_STATE i))) ∧
      (ptpWithin s i rt = false → t.getS (PTP_CLI_X_PH.ofs i) = s.getS (PTP_CLI_X_PH.ofs i)) ∧
      (ptpWithin s i rt = false → ptpRequal s i = false → let run := (ptpInst s i).run ++ [(raw, rt)]
        (run.length ≠ 3 → (ptpInst t i).run = run ∧ t.get (PTP_INST_STATUS.PATH_STATE i) = s.get (PTP_INST_STATUS.PATH_STATE i)) ∧
        (run.length = 3 → t.get (PTP_INST_STATUS.PATH_STATE i) = 1 ∧ t.get (PTP_INST_FLAGS.PATH_STEP i) = 1 ∧
          t.getS (PTP_CLI_DELTA_PH.ofs i) = sat64 (ptpDelta s i + Config.quot (run.map (·.1)).sum 3 - (ptpInst s i).xPre) ∧
          (ptpInst t i).refs = List.replicate 16 (Config.quot (run.map (·.2)).sum 3) ∧ (ptpInst t i).run = [])) ∧
      (∀ g : Fld, offIrq g.ofs → g.ofs < 0x90000 ∨ 0xA0000 ≤ g.ofs → g.ofs < 0x501000 + i.val * 0x100 ∨ 0x501100 + i.val * 0x100 ≤ g.ofs →
        t.get g = s.get g) ∧
        t.tb = { s.tb with reports := t.tb.reports } ∧ OnlyParts [.tb, .rgs, .ptp] s t) ∧
    ((ptpClient s i = true → ptpState s i = 3 → ∃ t, exec (.exchangeTimeout i) s = .next t ∧
        (∀ k, k < 64 → s.get (RGS_SLOT_BIND.TYPE k) = 4 → s.get (RGS_SLOT_BIND.INDEX k) = i → t.flag (RGS_SLOT_STATUS.SIG k) = false) ∧
        SameFields ((List.range 64).map fun k => RGS_SLOT_STATUS.SIG k) s t ∧ OnlyParts [.rgs] s t) ∧
      (ptpClient s i = false ∨ ptpState s i ≠ 3 → exec (.exchangeTimeout i) s = .next s)) ∧
    (∀ (c : Instr) (held : Bool), (c = .ptpReacceptRaw i ∧ held = false ∨ c = .ptpReacceptHeld i ∧ held = true) →
      s.hostReach .ptp (some (10, i)) = true → (s.flag (PTP_INST_STATUS.PATH_STATE i) = false → exec c s = .next s) ∧
      (s.flag (PTP_INST_STATUS.PATH_STATE i) = true → ∃ t, exec c s = .next t ∧ t.get (PTP_INST_STATUS.PATH_STATE i) = 0 ∧
        t.get (PTP_INST_FLAGS.REACCEPTED i) = 1 ∧ t.getS (PTP_CLI_DELTA_PH.ofs i) = 0 ∧
        (held = false → t.getS (PTP_CLI_ASYM_PH.ofs i) = s.getS (PTP_CLI_ASYM_PH.ofs i)) ∧
        (held = true → t.getS (PTP_CLI_ASYM_PH.ofs i) =
          clampInt (-(10 ^ 6 * 65536)) (10 ^ 6 * 65536) (s.getS (PTP_CLI_ASYM_PH.ofs i) + ptpDelta s i)) ∧
        (ptpInst t i).nRaw = 0 ∧ (ptpInst t i).nHeld = 0 ∧
        (∀ k, k < 64 → s.get (RGS_SLOT_BIND.TYPE k) = 4 → s.get (RGS_SLOT_BIND.INDEX k) = i → s.get (RGS_SLOT_STATUS.STATE k) = 5 →
          t.get (RGS_SLOT_STATUS.STATE k) = 4) ∧
        (∀ g : Fld, offIrq g.ofs → g.ofs < 0x90000 ∨ 0xA0000 ≤ g.ofs → (∀ f ∈ [PTP_INST_STATUS.PATH_STATE i, PTP_INST_FLAGS.REACCEPTED i] ++ pairOf (PTP_CLI_DELTA_PH.ofs i) ++ pairOf (PTP_CLI_ASYM_PH.ofs i), g.apart f) → t.get g = s.get g) ∧
        t.tb = { s.tb with reports := t.tb.reports } ∧ OnlyParts [.tb, .rgs, .ptp] s t))

/-- A descriptor queues its slot or is refused, a free core takes the oldest, and a job ends with its record and its result. -/
def Obligations.JobsAreTakenValidatedAndCompleted : Prop :=
  ∀ s : State, s.Wf →
    ((hifDescriptor s 28 = none → exec .jobDescriptor s = .next s) ∧ ∀ raw, hifDescriptor s 28 = some raw → let d := bneParse raw
      let on := s.flag BNE_CFG.EN = true ∧ s.flag BNE_STATUS.READY = true
      ∃ t, exec .jobDescriptor s = .next t ∧ (hifQueue t 28).fetched = (hifQueue s 28).fetched.drop 1 ∧ OnlyParts [.sys, .bne, .hif] s t ∧
      SameOffRange 0x580000 0x590000 [HIF_Q_HEAD.HEAD 28, HIF_Q_ELEM.COUNT 28, HIF_Q_HEAD.HEAD 10, HIF_Q_ELEM.COUNT 10, CDC_XS_CNT.DROPPED 25, CDC_FLAGS.DROP_EV] s t ∧
      (on → bneStateOf s d.slot = 0 → bneValid raw = true → s.get BNE_CORE_STATUS.FAULT ≠ 0xFFFF → t.sys = s.sys ∧
        t.get (BNE_SLOT_STATUS.STATE d.slot) = 1 ∧ t.get (BNE_SLOT_STATUS.ZEROED d.slot) = 0 ∧ (bneSlot t d.slot).desc = raw ∧
        t.bne.queue = s.bne.queue ++ [d.slot] ∧
        SameOffIrq [BNE_SLOT_STATUS.STATE d.slot, BNE_SLOT_STATUS.ZEROED d.slot, HIF_Q_HEAD.HEAD 28, HIF_Q_ELEM.COUNT 28] s t) ∧
      (∀ st, (st = 10 ∧ ¬ on ∨ st = 7 ∧ on ∧ d.slot < 16 ∧ bneStateOf s d.slot ≠ 0 ∨
          st = 6 ∧ on ∧ (d.slot < 16 → bneStateOf s d.slot = 0) ∧ bneValid raw = false) →
        (s.get (CDC_XS_STATUS.STATE_A 25) = 0 → t.sys = s.sys ∧ Out.element 10 (s.get (HIF_Q_HEAD.HEAD 10) % hifSize s 10) (bneRecord raw st 0 0) ∈ t.outbox) ∧ t.bne = s.bne ∧
        t.get BNE_CNT_ERR.NOT_RUN = min (s.get BNE_CNT_ERR.NOT_RUN + 1) (2 ^ 16 - 1))) ∧
    (∀ at_ : Nat, (s.flag BNE_STATUS.READY = false ∨ s.sys.pfailLow = true → exec (.jobDispatch at_) s = .next s) ∧
      ∀ c, s.flag BNE_STATUS.READY = true → s.sys.pfailLow = false → (List.range 16).find? (bneCoreFree s) = some c →
      (s.bne.queue = [] → s.bne.waiting = [] ∨ s.bne.running.isSome = true → exec (.jobDispatch at_) s = .next s) ∧
      (∀ (j : Fin 16) rest, s.bne.queue = j.val :: rest → s.bne.waiting = [] ∨ s.bne.running.isSome = true →
        ∃ t, exec (.jobDispatch at_) s = .next t ∧ t.bne.queue = rest ∧ (t.get BNE_CORE_BUSY.BUSY).testBit c = true ∧
        t.get (BNE_SLOT_STATUS.STATE j) = 2 ∧ t.get (BNE_SLOT_STATUS.CORE j) = c ∧ (bneSlot t j).start = s.pivotAt at_ ∧
        (bneSlot t j).valid = false ∧
        SameFields [⟨BNE_CORE_BUSY.ofs, c, 1⟩, BNE_SLOT_STATUS.STATE j, BNE_SLOT_STATUS.CORE j] s t ∧ OnlyParts [.bne] s t) ∧
      (∀ r rest, s.bne.running = none → s.bne.waiting = r :: rest → ∃ t, exec (.jobDispatch at_) s = .next t ∧
        t.bne = { s.bne with running := some (r, c), waiting := rest } ∧ (t.get BNE_CORE_BUSY.BUSY).testBit c = true ∧
        t.get BNE_STATUS.INTERNAL = 1 ∧ t.get BNE_CNT_INTERNAL.COUNT = min (s.get BNE_CNT_INTERNAL.COUNT + 1) (2 ^ 32 - 1) ∧
        SameFields [⟨BNE_CORE_BUSY.ofs, c, 1⟩, BNE_STATUS.INTERNAL, BNE_STATUS.HEALTHY, BNE_CNT_INTERNAL.COUNT] s t ∧ OnlyParts [.bne] s t)) ∧
    (∀ j : Fin 16, let raw := (bneSlot s j).desc
      let d := bneParse raw
      (bneStateOf s j ≠ 2 ∨ (bneSlot s j).valid = true → exec (.jobValidation j) s = .next s) ∧
      (bneStateOf s j = 2 → (bneSlot s j).valid = false → ∃ t, exec (.jobValidation j) s = .next t ∧ OnlyParts [.sys, .bne, .hif] s t ∧
        (bneValidate s j d = 0 → t.sys = s.sys ∧ (bneSlot t j).valid = true ∧ (bneSlot t j).desc = raw ∧ t.rf = s.rf) ∧
        (bneValidate s j d ≠ 0 → t.get (BNE_SLOT_STATUS.STATE j) = 0 ∧
          (s.get (CDC_XS_STATUS.STATE_A 25) = 0 → t.sys = s.sys ∧ Out.element 10 (s.get (HIF_Q_HEAD.HEAD 10) % hifSize s 10) (bneRecord raw (bneValidate s j d) (4 * s.get (BNE_SLOT_STATUS.CORE j)) (bneTVal d)) ∈ t.outbox) ∧
          SameOffRange 0x580000 0x590000 [HIF_Q_HEAD.HEAD 10, HIF_Q_ELEM.COUNT 10, CDC_XS_CNT.DROPPED 25, CDC_FLAGS.DROP_EV] s t))) ∧
    (∀ j : Fin 16, let raw := (bneSlot s j).desc
      let d := bneParse raw
      let g := bneResult s j d
      let base := j.val * bneWindow
      (bneStateOf s j ≠ 2 ∨ (bneSlot s j).valid = false → exec (.jobComplete j) s = .next s) ∧
      (bneStateOf s j = 2 → (bneSlot s j).valid = true → ∃ t, exec (.jobComplete j) s = .next t ∧
        t.get (BNE_SLOT_STATUS.STATE j) = 0 ∧
        (s.get (CDC_XS_STATUS.STATE_A 25) = 0 → t.sys = s.sys ∧ Out.element 10 (s.get (HIF_Q_HEAD.HEAD 10) % hifSize s 10) (bneRecord raw g.status (4 * s.get (BNE_SLOT_STATUS.CORE j) + bit g.valid) (bneTJob d)) ∈ t.outbox) ∧
        (g.status = 0 → memBytes bar2Zero t.bar2 (base + d.r2) g.r2.length = g.r2 ∧
          (g.r2 = [] ∨ d.r + g.r.length ≤ d.r2 ∨ d.r2 + g.r2.length ≤ d.r → memBytes bar2Zero t.bar2 (base + d.r) g.r.length = g.r) ∧
          t.get BNE_CNT_DONE.COUNT = min (s.get BNE_CNT_DONE.COUNT + 1) (2 ^ 32 - 1)) ∧
        (∀ a, (a < base + d.r ∨ base + d.r + g.r.length ≤ a) → (a < base + d.r2 ∨ base + d.r2 + g.r2.length ≤ a) →
          memByte bar2Zero t.bar2 a = memByte bar2Zero s.bar2 a) ∧
        (g.status ≠ 0 → t.bar2 = s.bar2) ∧
        SameOffRange 0x580000 0x590000 [HIF_Q_HEAD.HEAD 10, HIF_Q_ELEM.COUNT 10, CDC_XS_CNT.DROPPED 25, CDC_FLAGS.DROP_EV] s t ∧ OnlyParts [.sys, .bar2, .bne, .hif] s t)) ∧
    (∀ (j : Fin 16) (d : BneDesc), 1 ≤ d.op → d.op ≤ 5 → bneValidate s j d = 0 → let v := bneOperands s j d
      let g := bneResult s j d
      (g.status = 0 → g.r.length = 8 * d.n) ∧
      (d.op = 1 → g.status = 0 ∧ leNat g.r = (v.2.1 + v.2.2) % v.1) ∧
      (d.op = 2 → g.status = 0 ∧ (leNat g.r + v.2.2) % v.1 = v.2.1) ∧
      (d.op = 3 → g.status = 0 ∧ leNat g.r = v.2.1 * v.2.2 % v.1) ∧
      (d.op = 4 → (g.status = 0 ↔ Nat.gcd v.2.1 v.1 = 1) ∧ (g.status = 0 → v.2.1 * leNat g.r % v.1 = 1) ∧
        (g.status ≠ 0 → g.status = 2)) ∧
      (d.op = 5 → g.status = 0 ∧ leNat g.r = v.2.1 ^ v.2.2 % v.1)) ∧
    (∀ (ofs : Nat) (v : Word), let a := 4 * (ofs / 4)
      let idle := hostMay .bne s = true ∧ bneStateOf s (a / 0x20000) = 0
      (a < 0x200000 → idle → ∃ t, exec (.windowAccess true ofs v) s = .next t ∧ memBytes bar2Zero t.bar2 a 4 = leBytes 4 v.toNat ∧
        (∀ b, b < a ∨ a + 4 ≤ b → memByte bar2Zero t.bar2 b = memByte bar2Zero s.bar2 b) ∧ t.rf = s.rf ∧ OnlyParts [.bar2] s t) ∧
      (a < 0x200000 ∧ idle ∨ poolBase ≤ a ∧ a < poolBase + 0x800000 → exec (.windowAccess false ofs v) s = .next
        { s with sys := { s.sys with rdata := BitVec.ofNat 32 (leNat (memBytes bar2Zero s.bar2 a 4)) } }) ∧
      (a < 0x200000 → hostMay .bne s = true → bneStateOf s (a / 0x20000) ≠ 0 → ∃ t, exec (.windowAccess true ofs v) s = .next t ∧
        t.get BNE_WIN_BLOCKED.COUNT = min (s.get BNE_WIN_BLOCKED.COUNT + 1) (2 ^ 32 - 1) ∧
        SameFields [BNE_WIN_BLOCKED.COUNT] s t ∧ OnlyParts [] s t) ∧
      (a < 0x200000 ∧ ¬ idle ∨ 0x200000 ≤ a ∧ ¬ (poolBase ≤ a ∧ a < poolBase + 0x800000) →
        exec (.windowAccess false ofs v) s = .next { s with sys := { s.sys with rdata := 0 } }) ∧
      (0x200000 ≤ a ∨ hostMay .bne s = false → exec (.windowAccess true ofs v) s = .next s))

/-- A slot is aborted and zeroised, cores are tested and marked, and internal requests are submitted. -/
def Obligations.TheEngineAbortsZeroisesAndTests : Prop :=
  ∀ s : State, s.Wf →
    (∀ (j : Fin 16) (at_ : Nat), s.hostReach .bne (some (12, j)) = true →
      (bneStateOf s j = 3 → exec (.slotAbort j at_) s = .next s) ∧
      (bneStateOf s j ≠ 3 → let raw := (bneSlot s j).desc
        let d := bneParse raw
        ∃ t, exec (.slotAbort j at_) s = .next t ∧ t.get (BNE_SLOT_STATUS.STATE j) = 3 ∧
        SameOffRange 0x580000 0x590000 [HIF_Q_HEAD.HEAD 10, HIF_Q_ELEM.COUNT 10, CDC_XS_CNT.DROPPED 25, CDC_FLAGS.DROP_EV] s t ∧ OnlyParts [.sys, .bar2, .bne, .hif] s t ∧
        (bneStateOf s j ≠ 2 ∨ bneRan s j at_ < bneTVal d ∨ (bneSlot s j).valid = true ∧ bneRan s j at_ < bneTJob d →
          ((bneSlot t j).ending.isSome = true ↔ bneStateOf s j ≠ 0) ∧ (bneStateOf s j ≠ 0 → j.val ∉ t.bne.queue) ∧ t.bar2 = s.bar2 ∧
          SameOffRange 0x580000 0x590000 [] s t ∧ OnlyParts [.bne] s t) ∧
        (bneStateOf s j = 2 → (bneSlot s j).valid = true → bneTJob d ≤ bneRan s j at_ → let g := bneResult s j d
          (bneSlot t j).ending = none ∧ (s.get (CDC_XS_STATUS.STATE_A 25) = 0 → t.sys = s.sys ∧ Out.element 10 (s.get (HIF_Q_HEAD.HEAD 10) % hifSize s 10) (bneRecord raw g.status (4 * s.get (BNE_SLOT_STATUS.CORE j) + bit g.valid) (bneTJob d)) ∈ t.outbox)))) ∧
    (∀ j : Fin 16, (bneStateOf s j ≠ 3 → exec (.zeroiseDone j) s = .next s) ∧
      (bneStateOf s j = 3 → ∃ t, exec (.zeroiseDone j) s = .next t ∧ t.get (BNE_SLOT_STATUS.STATE j) = 0 ∧
        t.get (BNE_SLOT_STATUS.ZEROED j) = 1 ∧
        (∀ a, j.val * bneWindow ≤ a → a < j.val * bneWindow + bneWindow → memByte bar2Zero t.bar2 a = 0) ∧
        (∀ a, a < j.val * bneWindow ∨ j.val * bneWindow + bneWindow ≤ a → memByte bar2Zero t.bar2 a = memByte bar2Zero s.bar2 a) ∧
        (∀ rec, (bneSlot s j).ending = some rec → (s.get (CDC_XS_STATUS.STATE_A 25) = 0 → t.sys = s.sys ∧ Out.element 10 (s.get (HIF_Q_HEAD.HEAD 10) % hifSize s 10) (rec) ∈ t.outbox) ∧
          t.get BNE_CNT_ABORT.ABORTS = min (s.get BNE_CNT_ABORT.ABORTS + 1) (2 ^ 16 - 1)) ∧
        ((bneSlot s j).ending = none → t.get BNE_CNT_ABORT.ZEROISES = min (s.get BNE_CNT_ABORT.ZEROISES + 1) (2 ^ 16 - 1) ∧
          SameFields [BNE_SLOT_STATUS.STATE j, BNE_SLOT_STATUS.ZEROED j, BNE_CNT_ABORT.ZEROISES] s t) ∧
        OnlyParts [.sys, .bar2, .bne, .hif] s t)) ∧
    (∀ c : Fin 16, (s.flag BNE_STATUS.READY = false ∨ s.get BNE_CFG.SELFTEST_INT = 0 → exec (.coreSelftestDue c) s = .next s) ∧
      (s.flag BNE_STATUS.READY = true → s.get BNE_CFG.SELFTEST_INT ≠ 0 → s.bne.duePeriodic = 0 → s.bne.dueCommand = 0 →
        ∃ t, exec (.coreSelftestDue c) s = .next t ∧ SameOffRange 0x580000 0x590000 [] s t ∧ OnlyParts [.bne] s t ∧
        ((s.get BNE_CORE_BUSY.BUSY).testBit c = false → (s.get BNE_CORE_STATUS.TESTING).testBit c = false →
          bits16 (s.get BNE_CORE_STATUS.TESTING) < 2 → t.get BNE_CORE_STATUS.TESTING = s.get BNE_CORE_STATUS.TESTING + 2 ^ c.val ∧
          t.bne = s.bne) ∧
        ((s.get BNE_CORE_BUSY.BUSY).testBit c = true → t.get BNE_CORE_STATUS.TESTING = s.get BNE_CORE_STATUS.TESTING ∧
          t.bne.duePeriodic = 2 ^ c.val))) ∧
    (∀ (c : Fin 16) (force : Bool) (at_ : Nat), s.hostReach .bne none = true →
      let out := bits16 (s.get BNE_CORE_STATUS.FAULT ||| s.get BNE_CORE_STATUS.TESTING ||| 2 ^ c.val)
      ∃ t, exec (.bneSelftest c force at_) s = .next t ∧ SameOffRange 0x580000 0x590000 [] s t ∧ OnlyParts [.bne] s t ∧
      (force = false → out = 16 → t.get BNE_FLAGS.BUSY_IN_SERVICE = 1 ∧ t.bne = s.bne ∧ SameOffIrq [BNE_FLAGS.BUSY_IN_SERVICE] s t) ∧
      (force = true → t.get BNE_FLAGS.FORCED_OUT = 1) ∧
      (force = true ∨ out ≠ 16 → s.bne.running = none → (s.get BNE_CORE_BUSY.BUSY).testBit c = false →
        (∀ j, j < 16 → bneStateOf s j = 2 → s.get (BNE_SLOT_STATUS.CORE j) ≠ c) → (t.get BNE_CORE_STATUS.TESTING).testBit c = true) ∧
      (∀ j : Fin 16, force = true → s.bne.running = none → bneStateOf s j = 2 → s.get (BNE_SLOT_STATUS.CORE j) = c →
        (∀ k, k < 16 → k ≠ j.val → bneStateOf s k = 2 → s.get (BNE_SLOT_STATUS.CORE k) ≠ c) →
        t.get (BNE_SLOT_STATUS.STATE j) = 3 ∧ (bneSlot t j).ending.isSome = true ∧ (t.get BNE_CORE_STATUS.TESTING).testBit c = true)) ∧
    (∀ (c : Fin 16) (ok : Bool), ((s.get BNE_CORE_STATUS.TESTING).testBit c = false → exec (.selftestPassDone c ok) s = .next s) ∧
      ((s.get BNE_CORE_STATUS.TESTING).testBit c = true → s.bne.duePeriodic = 0 → s.bne.dueCommand = 0 →
        ∃ t, exec (.selftestPassDone c ok) s = .next t ∧ (t.get BNE_CORE_STATUS.TESTING).testBit c = false ∧
        t.get BNE_CNT_SELFTEST.PASSES = min (s.get BNE_CNT_SELFTEST.PASSES + 1) (2 ^ 16 - 1) ∧
        (ok = false → (t.get BNE_CORE_STATUS.FAULT).testBit c = true ∧ t.get BNE_FLAGS.CORE_FAULT = 1 ∧
          t.get BNE_CNT_SELFTEST.FAILS = min (s.get BNE_CNT_SELFTEST.FAILS + 1) (2 ^ 16 - 1)) ∧
        (ok = true → t.get BNE_CORE_STATUS.FAULT = s.get BNE_CORE_STATUS.FAULT ∧
          t.get BNE_CNT_SELFTEST.FAILS = s.get BNE_CNT_SELFTEST.FAILS) ∧
        (s.bne.starting = 2 ^ c.val → t.get BNE_STATUS.READY = 1 ∧ t.get BNE_STATUS.RNG_OK = 1 ∧
          (t.get BNE_CORE_STATUS.FAULT ≠ 0xFFFF → t.get PROV_STATUS.KEY_OK = bit identityOk)) ∧
        (s.bne.queue = [] ∨ t.get BNE_CORE_STATUS.FAULT ≠ 0xFFFF → SameOffRange 0x580000 0x590000 [PROV_STATUS.KEY_OK] s t ∧ t.sys = s.sys) ∧
        OnlyParts [.sys, .bne, .hif] s t)) ∧
    (∀ (pair : Bool) (r : BneRequest), (pair = true ∧ s.pair.want = some r ∨
        pair = false ∧ r = .ledger ∧ s.prov.latched ≠ [] ∧ s.flag PROV_STATUS.KEY_OK = true) →
      (r ∉ s.bne.waiting → (∀ c, s.bne.running ≠ some (r, c)) →
        exec (.internalRequest pair) s = .next { s with bne := { s.bne with waiting := s.bne.waiting ++ [r] } }) ∧
      (r ∈ s.bne.waiting ∨ (∃ c, s.bne.running = some (r, c)) → exec (.internalRequest pair) s = .next s)) ∧
    ((s.pair.want = none → exec (.internalRequest true) s = .next s) ∧
      (s.prov.latched = [] ∨ s.flag PROV_STATUS.KEY_OK = false → exec (.internalRequest false) s = .next s))

/-- The ledger latches a record at its instant, issues it signed and chained, and writes it to the host ring. -/
def Obligations.LedgerRecordsAreLatchedIssuedAndDelivered : Prop :=
  ∀ s : State, s.Wf →
    (∀ at_ : Nat, let twin := provTwin s (s.pivotAt at_)
      (provMay s = false ∨ provAtPeriod s at_ = false → exec (.ledgerPeriod at_) s = .next s) ∧
      (provMay s = true → provAtPeriod s at_ = true → twin = none → s.prov.latched.length < 4 → ∃ t r, exec (.ledgerPeriod at_) s = .next t ∧
        t.prov = { s.prov with latched := s.prov.latched ++ [r], sum := 0, steps := 0, gap := false } ∧ r.latchedAt = s.pivotAt at_ ∧
        r.body = provBody s (s.timeAt at_ - s.timeAt at_ % provPeriodOf s) false ∧
        r.refs = ((List.range 64).filter (provReferenced s)).flatMap (provRef s (s.pivotAt at_)) ∧ r.kind = 0 ∧
        r.head = [0x50, 0x52, 0x56, 0x4C, 1, 0] ++ leBytes 2 ((List.range 64).filter (provReferenced s)).length ∧
        t.get PROV_STATUS.QUEUED = s.prov.latched.length + 1 ∧
        SameFields [PROV_STATUS.QUEUED, PROV_STATUS.WAITING] s t ∧ OnlyParts [.prov] s t) ∧
      (∀ q, provMay s = true → provAtPeriod s at_ = true → twin = some q → ∃ t r, exec (.ledgerPeriod at_) s = .next t ∧
        t.prov = { s.prov with latched := s.prov.latched.dropLast ++ [r], sum := 0, steps := 0, gap := false } ∧ r.kind = 0 ∧
        r.sum = q.sum + s.prov.sum ∧ r.steps = q.steps + s.prov.steps ∧ r.gap = (q.gap || s.prov.gap) ∧
        (0 < q.kind → r.latchedAt = s.pivotAt at_) ∧ SameFields [PROV_STATUS.QUEUED, PROV_STATUS.WAITING] s t ∧ OnlyParts [.prov] s t) ∧
      (provMay s = true → provAtPeriod s at_ = true → twin = none → 4 ≤ s.prov.latched.length → ∃ t, exec (.ledgerPeriod at_) s = .next t ∧
        t.prov = { s.prov with gap := true } ∧ t.get PROV_FLAGS.MISSED = 1 ∧
        t.get PROV_CNT_ERR.MISSED = min (s.get PROV_CNT_ERR.MISSED + 1) (2 ^ 16 - 1) ∧
        SameOffIrq [PROV_FLAGS.MISSED, PROV_CNT_ERR.MISSED] s t ∧ OnlyParts [.prov] s t)) ∧
    (∀ at_ : Nat, s.hostReach .prov none = true →
      (provMay s = true → provTwin s (s.pivotAt at_) = none → s.prov.latched.length ≤ 2 → ∃ t r, exec (.issueNow at_) s = .next t ∧
        t.prov = { s.prov with latched := s.prov.latched ++ [r], sum := 0, steps := 0, gap := false } ∧ r.latchedAt = s.pivotAt at_ ∧
        r.body = provBody s (s.timeAt at_) false ∧ r.head.getD 5 0 = 3 ∧ t.get PROV_STATUS.QUEUED = s.prov.latched.length + 1 ∧
        SameFields [PROV_STATUS.QUEUED, PROV_STATUS.WAITING] s t ∧ OnlyParts [.prov] s t) ∧
      (∀ q, provMay s = true → provTwin s (s.pivotAt at_) = some q → ∃ t r, exec (.issueNow at_) s = .next t ∧
        t.prov = { s.prov with latched := s.prov.latched.dropLast ++ [r], sum := 0, steps := 0, gap := false } ∧ r.kind = min 3 q.kind ∧
        r.sum = q.sum + s.prov.sum ∧ r.steps = q.steps + s.prov.steps ∧ SameFields [PROV_STATUS.QUEUED, PROV_STATUS.WAITING] s t ∧
        OnlyParts [.prov] s t) ∧
      (provMay s = false ∨ provTwin s (s.pivotAt at_) = none ∧ 2 < s.prov.latched.length → exec (.issueNow at_) s = .next s)) ∧
    (∀ at_ : Nat, (bneRuns s .ledger = false ∨ s.prov.latched = [] → exec (.recordIssue at_) s = .next s) ∧
      ∀ r rest, bneRuns s .ledger = true → s.prov.latched = r :: rest → ∃ t bytes, exec (.recordIssue at_) s = .next t ∧
        let serial := s.prov.boot * 2 ^ 40 + s.prov.next
        let prev := s.prov.last.getD (0, List.replicate 32 0)
        let chain := if s.prov.last.isNone then s.freeVal % 2 ^ 64 else s.get64 PROV_CHAIN.ofs
        let unsigned := r.head ++ leBytes 8 serial ++ leBytes 8 prev.1 ++ prev.2 ++ r.body ++ leBytes 8 chain ++ r.refs
        bytes = unsigned ++ ed25519.sign identitySeed unsigned ∧ t.prov.latched = rest ∧ t.prov.next = s.prov.next + 1 ∧
        t.prov.last = some (serial, sha256 bytes) ∧ t.get64 PROV_LAST_SERIAL.ofs = serial % 2 ^ 64 ∧ t.get64 PROV_CHAIN.ofs = chain ∧
        t.get PROV_STATUS.READY = 1 ∧ t.get PROV_CNT_ISSUED.COUNT = min (s.get PROV_CNT_ISSUED.COUNT + 1) (2 ^ 32 - 1) ∧
        (s.prov.last = none → t.get PROV_FLAGS.NEW_CHAIN = 1) ∧ bneRuns t .ledger = false ∧
        (s.prov.waiting.length < 32 → t.prov.waiting = s.prov.waiting ++ [bytes]) ∧
        (32 ≤ s.prov.waiting.length → t.prov.waiting = (s.prov.waiting ++ [bytes]).drop 1 ∧ t.get PROV_FLAGS.RING_DROP = 1) ∧
        t.prov = { s.prov with latched := rest, next := s.prov.next + 1, last := t.prov.last, waiting := t.prov.waiting, issued := some (s.pivotAt at_, provLatest s) } ∧
        (∀ g : Fld, offIrq g.ofs → g.ofs < 0x580000 ∨ 0x590000 ≤ g.ofs → g.ofs < 0x600000 ∨ 0x601000 ≤ g.ofs → t.get g = s.get g) ∧
        (∀ f ∈ [PROV_CFG.EN, PROV_CFG.PERIOD, PROV_STATUS.KEY_OK, whole PROV_REF_MASK.ofs, PROV_CNT_ERR.MISSED], t.get f = s.get f) ∧
        OnlyParts [.bne, .prov] s t) ∧
    ((s.prov.waiting = [] ∨ hifRoom s 9 = false → exec .ledgerRingWrite s = .next s) ∧
      ∀ b rest, s.prov.waiting = b :: rest → hifRoom s 9 = true → s.get (CDC_XS_STATUS.STATE_A 25) = 0 → ∃ t, exec .ledgerRingWrite s = .next t ∧
        t.prov = { s.prov with waiting := rest } ∧
        Out.element 9 (s.get (HIF_Q_HEAD.HEAD 9) % hifSize s 9) (b ++ List.replicate (2048 - b.length) 0) ∈ t.outbox ∧
        t.get (HIF_Q_HEAD.HEAD 9) = (s.get (HIF_Q_HEAD.HEAD 9) + 1) % 2 ^ 32 ∧ t.get PROV_STATUS.WAITING = rest.length % 2 ^ 6 ∧
        SameOffIrq [PROV_STATUS.QUEUED, PROV_STATUS.WAITING, HIF_Q_HEAD.HEAD 9, HIF_Q_ELEM.COUNT 9] s t ∧ OnlyParts [.prov, .hif] s t) ∧
    ((s.prov.booting = false → exec .bootTimeout s = .next s) ∧ (s.prov.booting = true → ∃ t, exec .bootTimeout s = .next t ∧
      t.get PROV_FLAGS.BOOT_FAIL = 1 ∧ t.con = { s.con with blockReq := true } ∧ SameOffIrq [PROV_FLAGS.BOOT_FAIL] s t ∧
      OnlyParts [.con] s t))

/-- A link goes through LOCK to RUN, measures its hop, tags its blocks and judges path steps. -/
def Obligations.LinksLockMeetTheirPeerAndMeasure : Prop :=
  ∀ (s : State) (n : Fin 8), s.Wf →
    ((lkOn s n = true → lkState s n = 0 → ∃ t, exec (.linkBlockLock n) s = .next t ∧ t.get (LK_STATUS.STATE n) = 1 ∧
        (lkSt t n).lock = true ∧ (s.get (TB_REP_STATUS.STATE (16 + n.val)) = 0 → xsRuns s (17 + n.val) = true →
          s.flag (CDC_XS_STATUS.CLK_ABSENT (17 + n.val)) = false → t.get (TB_REP_STATUS.STATE (16 + n.val)) = 1) ∧
        SameFields [LK_STATUS.STATE n, TB_REP_STATUS.STATE (16 + n.val), TB_REP_STATUS.LOCKED (16 + n.val)] s t ∧ OnlyParts [.tb, .lnk] s t) ∧
      (lkOn s n = false ∨ lkState s n ≠ 0 → exec (.linkBlockLock n) s =
        .next { s with lnk := { s.lnk with links := s.lnk.links.modify n fun l => { l with lock := true } } })) ∧
    ((lkState s n = 0 → exec (.linkLockLost n) s =
        .next { s with lnk := { s.lnk with links := s.lnk.links.modify n fun l => { l with lock := false } } }) ∧
      (lkState s n ≠ 0 → ∃ t, exec (.linkLockLost n) s = .next t ∧ t.get (LK_STATUS.STATE n) = 0 ∧
        t.get (LK_FLAGS.LINK_DOWN_EV n) = 1 ∧ t.get (LK_CNT.DOWNS n) = min (s.get (LK_CNT.DOWNS n) + 1) (2 ^ 16 - 1) ∧
        t.get (TB_REP_STATUS.STATE (16 + n.val)) = 0 ∧ (lkSt t n).lock = false ∧ (lkSt t n).refs = (lkSt s n).refs ∧
        (lkSt t n).deps = [] ∧ (lkSt t n).arr = none ∧
        (lkState s n = 3 → ∀ k, k < 64 → s.get (RGS_SLOT_BIND.TYPE k) = 6 → s.get (RGS_SLOT_BIND.INDEX k) = n.val → t.flag (RGS_SLOT_STATUS.SIG k) = false) ∧
        SameOffIrq ([LK_STATUS.STATE n, LK_FLAGS.LINK_DOWN_EV n, LK_CNT.DOWNS n, TB_REP_STATUS.STATE (16 + n.val), TB_REP_STATUS.LOCKED (16 + n.val),
          LK_BAR_STATUS.ID, LK_BAR_STATUS.WAIT, LK_GLB_FLAGS.BAR_DONE] ++ (CDC_FLAGS.DROP_EV :: (List.range 56).map fun m => CDC_XS_CNT.DROPPED m) ++ ((List.range 64).map fun k => RGS_SLOT_STATUS.SIG k)) s t ∧ OnlyParts [.sys, .tb, .rgs, .lnk] s t)) ∧
    (∀ (addr : BitVec 12) (role : Fin 4), lkState s n = 1 ∨ lkState s n = 2 →
      (addr.toNat = s.get (LK_BIND.PEER n) → (lkRole s n, role.val) ∈ [(1, 2), (2, 1), (3, 3)] →
        exec (.linkPeerCheck n addr role) s = .next (s.put (LK_STATUS.STATE n) 3)) ∧
      (addr.toNat ≠ s.get (LK_BIND.PEER n) ∨ (lkRole s n, role.val) ∉ [(1, 2), (2, 1), (3, 3)] →
        ∃ t, exec (.linkPeerCheck n addr role) s = .next t ∧ t.get (LK_STATUS.STATE n) = 2 ∧ t.get (LK_FLAGS.PEER_BAD n) = 1 ∧
        (s.flag (LK_FLAGS.PEER_BAD n) = false → Raised (213 + n.val) t) ∧ t.get (LK_STATUS.PATH_STATE n) = 0 ∧
        t.getS (LK_DELTA_PH.ofs n) = 0 ∧ (lkSt t n).refs = [] ∧
        SameOffIrq ([LK_STATUS.STATE n, LK_STATUS.PATH_STATE n, LK_FLAGS.PEER_BAD n] ++ pairOf (LK_DELTA_PH.ofs n)) s t ∧
        OnlyParts [.lnk] s t)) ∧
    (s.hostReach .lnk (some (11, n)) = true → (∃ t, exec (.linkEnable n false) s = .next t ∧ t.get (LK_CFG.EN n) = 0 ∧
        t.get (LK_STATUS.STATE n) = 0 ∧ t.get (LK_STATUS.PATH_STATE n) = 0 ∧ t.getS (LK_DELTA_PH.ofs n) = 0 ∧
        t.get (TB_REP_STATUS.STATE (16 + n.val)) = 0 ∧ (lkSt t n).refs = [] ∧
        (lkState s n = 3 → ∀ k, k < 64 → s.get (RGS_SLOT_BIND.TYPE k) = 6 → s.get (RGS_SLOT_BIND.INDEX k) = n.val → t.flag (RGS_SLOT_STATUS.SIG k) = false) ∧
        SameOffIrq ([LK_CFG.EN n, LK_STATUS.STATE n, LK_STATUS.PATH_STATE n, TB_REP_STATUS.STATE (16 + n.val), TB_REP_STATUS.LOCKED (16 + n.val),
          LK_BAR_STATUS.ID, LK_BAR_STATUS.WAIT, LK_GLB_FLAGS.BAR_DONE] ++ pairOf (LK_DELTA_PH.ofs n) ++ (CDC_FLAGS.DROP_EV :: (List.range 56).map fun m => CDC_XS_CNT.DROPPED m) ++ ((List.range 64).map fun k => RGS_SLOT_STATUS.SIG k)) s t ∧
        OnlyParts [.sys, .tb, .rgs, .prov, .lnk] s t ∧ CfgWrites s t) ∧
      (∃ t, exec (.linkEnable n true) s = .next t ∧ t.get (LK_CFG.EN n) = 1 ∧
        (s.flag LK_GLB_CFG.EN = true → lkRole s n ≠ 0 → lkState s n = 0 → (lkSt s n).lock = true → t.get (LK_STATUS.STATE n) = 1) ∧
        (lkState s n ≠ 0 ∨ (lkSt s n).lock = false → t.get (LK_STATUS.STATE n) = lkState s n ∧ t.tb = s.tb) ∧
        SameOffIrq ([LK_CFG.EN n, LK_STATUS.STATE n, TB_REP_STATUS.STATE (16 + n.val), TB_REP_STATUS.LOCKED (16 + n.val)] ++ (CDC_FLAGS.DROP_EV :: (List.range 56).map fun m => CDC_XS_CNT.DROPPED m)) s t ∧ OnlyParts [.sys, .tb, .prov] s t ∧ CfgWrites s t)) ∧
    (∀ mix at_ : Nat, (lkState s n = 0 → exec (.timingBlockTx n mix at_) s = .next s) ∧
      (lkState s n ≠ 0 → s.get (CDC_XS_STATUS.STATE_A (48 + n.val)) = 0 → ∃ t, exec (.timingBlockTx n mix at_) s = .next t ∧
        (lkSt t n).deps = (lkStamp s n at_ mix :: (lkSt s n).deps).take 1024 ∧
        let tag := t.get (LK_STATUS.TAG_TX n)
        let hops := tag / 16 % 8
        (∀ d rest a, (lkSt s n).deps = d :: rest → (lkSt s n).arr = some a → Out.timing n
          [d, a, s.getS (LK_TX_DLY_PH.ofs n) + s.getS (LK_TX_EXT_PH.ofs n),
           s.getS (LK_RX_DLY_PH.ofs n) + s.getS (LK_RX_EXT_PH.ofs n), (tag : Int)] ∈ t.outbox) ∧
        (s.flag TB_STATUS.VERIFIED = false → tag % 16 = 15) ∧
        (s.flag TB_STATUS.VERIFIED = true → 24 ≤ loopStatus s → tag % 16 = s.get LK_GLB_CFG.ROOT_GRADE) ∧
        (s.flag TB_STATUS.VERIFIED = true → loopStatus s < 24 → tag % 16 = s.get (LOOP_STATUS.GRADE (loopStatus s))) ∧
        (s.get LK_GLB_STATUS.ADDR = 0 → hops = 0) ∧
        (s.get LK_GLB_STATUS.ADDR ≠ 0 → lkRunning s 1 = [] → hops = 7) ∧
        (∀ u rest, s.get LK_GLB_STATUS.ADDR ≠ 0 → lkRunning s 1 = u :: rest →
          let h := s.get (LK_STATUS.TAG_RX u) / 16 % 8; hops = if h ≤ 4 then h + 1 else 6) ∧
        SameFields [LK_STATUS.TAG_TX n] s t ∧ OnlyParts [.lnk] s t)) ∧
    (∀ (mix at_ : Nat) (b : LinkBlock), let stamp := lkStamp s n at_ mix
      (lkState s n = 0 → exec (.timingBlockRx n mix b at_) s = .next s) ∧
      (lkState s n ≠ 0 → lkState s n ≠ 3 → s.get (CDC_XS_STATUS.STATE_B (17 + n.val)) = 0 → exec (.timingBlockRx n mix b at_) s =
        .next { s with lnk := { s.lnk with links := s.lnk.links.modify n fun l => { l with arr := some stamp } } }) ∧
      (lkState s n = 3 → s.get (CDC_XS_STATUS.STATE_B (17 + n.val)) = 0 → ∃ t, exec (.timingBlockRx n mix b at_) s = .next t ∧ (lkSt t n).arr = some stamp ∧
        t.get (LK_STATUS.TAG_RX n) = b.tag.toNat ∧ t.get (LK_STATUS.UP_REQUAL n) = b.tag.toNat / 128 ∧
        (∀ k, k < 64 → s.get (RGS_SLOT_BIND.TYPE k) = 6 → s.get (RGS_SLOT_BIND.INDEX k) = n.val → t.get (RGS_SLOT_MSG.RAW k) = b.tag.toNat ∧
          t.get (RGS_SLOT_STATUS.MSG_GRADE k) = gradeOfTag b.tag.toNat) ∧
        (lkRole s n = 1 → 5 ≤ b.tag.toNat / 16 % 8 → t.get LK_GLB_FLAGS.DEPTH_BREACH = 1) ∧
        ((lkSt s n).arr = none ∨ (lkSt s n).deps.length ≤ b.echo → t.getS (LK_X_PH.ofs n) = s.getS (LK_X_PH.ofs n) ∧
          t.get (LK_STATUS.PATH_STATE n) = s.get (LK_STATUS.PATH_STATE n) ∧ (lkSt t n).refs = (lkSt s n).refs) ∧
        (∀ a d, (lkSt s n).arr = some a → (lkSt s n).deps[b.echo]? = some d →
          let ms := a - b.dep
          let sm := b.arr - d
          let fixI := b.txSum + (s.getS (LK_RX_DLY_PH.ofs n) + s.getS (LK_RX_EXT_PH.ofs n))
          let fixO := s.getS (LK_TX_DLY_PH.ofs n) + s.getS (LK_TX_EXT_PH.ofs n) + b.rxSum
          let f := ms + sm - fixI - fixO
          let raw := ms - fixI - Config.quot (f * (2 ^ 60 + s.getS (LK_ASYM_FF.ofs n))) (2 ^ 61)
          let delta := s.getS (LK_DELTA_PH.ofs n)
          let run := f :: (lkSt s n).runF
          (2000 * 65536 < f → t.get (LK_FLAGS.FAR_DLY n) = 1) ∧
          (lkWithin s n f = true → (lkSt t n).refs = (f :: (lkSt s n).refs).take 1526 ∧ (lkSt t n).runF = [] ∧
            t.getS (LK_DELTA_PH.ofs n) = delta ∧
            (lkRole s n ≠ 2 → t.getS (LK_X_PH.ofs n) = sat64 (raw - delta) ∧ (lkSt t n).winX = (raw - delta) :: (lkSt s n).winX) ∧
            (lkRole s n = 2 → t.getS (LK_X_PH.ofs n) = s.getS (LK_X_PH.ofs n))) ∧
          (lkWithin s n f = false → t.getS (LK_X_PH.ofs n) = s.getS (LK_X_PH.ofs n) ∧
            (run.length < 1526 → (lkSt t n).runF = run ∧ (lkSt t n).refs = (lkSt s n).refs ∧ t.getS (LK_DELTA_PH.ofs n) = delta) ∧
            (1526 ≤ run.length → (lkSt t n).refs = run ∧ (lkSt t n).runF = [] ∧
              (lkRole s n = 2 → t.get (LK_FLAGS.PATH_STEP n) = 1 ∧ t.getS (LK_DELTA_PH.ofs n) = delta) ∧
              (lkRole s n ≠ 2 → t.getS (LK_DELTA_PH.ofs n) =
                sat64 (delta + meanOf (raw :: (lkSt s n).runRaw) - (lkSt s n).x)) ∧
              (lkRole s n ≠ 2 → s.flag (LK_STATUS.PATH_STATE n) = false → t.get (LK_STATUS.PATH_STATE n) = 1 ∧
                t.get (LK_FLAGS.PATH_STEP n) = 1 ∧
                (∀ k, k < 64 → s.get (RGS_SLOT_BIND.TYPE k) = 6 → s.get (RGS_SLOT_BIND.INDEX k) = n.val → s.get (RGS_SLOT_STATUS.STATE k) = 4 → t.get (RGS_SLOT_STATUS.STATE k) = 5))))) ∧
        SameOffRange 0x90000 0xA0000 ([LK_STATUS.TAG_RX n, LK_STATUS.UP_REQUAL n, LK_STATUS.PATH_STATE n, LK_FLAGS.PATH_STEP n,
          LK_FLAGS.FAR_DLY n, LK_GLB_FLAGS.DEPTH_BREACH] ++ pairOf (LK_X_PH.ofs n) ++ pairOf (LK_DELTA_PH.ofs n)) s t ∧
        t.tb = { s.tb with reports := t.tb.reports } ∧ OnlyParts [.tb, .rgs, .lnk] s t)) ∧
    ((lkState s n ≠ 3 ∨ (lkSt s n).winF = [] → exec (.linkSample n) s = .next s) ∧
      (lkState s n = 3 → (lkSt s n).winF ≠ [] → ∃ t, exec (.linkSample n) s = .next t ∧ (lkSt t n).winF = [] ∧ (lkSt t n).winX = [] ∧
        let raw := meanOf (lkSt s n).winRaw
        let delta := s.getS (LK_DELTA_PH.ofs n)
        let cnt := max 1 (s.get (LK_PATH_CNT.CONFIRM_CNT n))
        t.getS (LK_RT_PH.ofs n) = sat64 (meanOf (lkSt s n).winF) ∧ t.getS (LK_RAW_PH.ofs n) = sat64 raw ∧
        ((lkSt s n).winX ≠ [] → ∀ k, k < 64 → s.get (RGS_SLOT_BIND.TYPE k) = 6 → s.get (RGS_SLOT_BIND.INDEX k) = n.val → t.getS (RGS_SLOT_PH.ofs k) = sat64 (meanOf (lkSt s n).winX) ∧
          t.flag (RGS_SLOT_STATUS.SIG k) = true) ∧
        (s.flag (LK_STATUS.PATH_STATE n) = false → t.getS (LK_DELTA_PH.ofs n) = delta ∧ t.get (LK_STATUS.PATH_STATE n) = 0 ∧
          t.getS (LK_ASYM_FF.ofs n) = s.getS (LK_ASYM_FF.ofs n)) ∧
        (s.flag (LK_STATUS.PATH_STATE n) = true → lkAgrees s n raw = true →
          t.getS (LK_ASYM_FF.ofs n) = s.getS (LK_ASYM_FF.ofs n) ∧
          ((lkSt s n).nRaw + 1 = cnt → t.get (LK_STATUS.PATH_STATE n) = 0 ∧ t.get (LK_FLAGS.REACCEPTED n) = 1 ∧
            t.getS (LK_DELTA_PH.ofs n) = 0) ∧
          ((lkSt s n).nRaw + 1 ≠ cnt → t.get (LK_STATUS.PATH_STATE n) = 1 ∧ (lkSt t n).nRaw = (lkSt s n).nRaw + 1 ∧
            (lkSt t n).nHeld = 0 ∧ t.getS (LK_DELTA_PH.ofs n) = delta)) ∧
        (s.flag (LK_STATUS.PATH_STATE n) = true → lkAgrees s n raw = false → lkAgrees s n (raw - delta) = true →
          ((lkSt s n).nHeld + 1 = cnt → t.get (LK_STATUS.PATH_STATE n) = 0 ∧ t.get (LK_FLAGS.REACCEPTED n) = 1 ∧
            t.getS (LK_DELTA_PH.ofs n) = 0 ∧ ((lkSt s n).refs.sum ≠ 0 → t.getS (LK_ASYM_FF.ofs n) =
              clampInt (-asymMax) asymMax (s.getS (LK_ASYM_FF.ofs n) +
                Config.quot (2 * delta * (lkSt s n).refs.length * 2 ^ 60) (lkSt s n).refs.sum))) ∧
          ((lkSt s n).nHeld + 1 ≠ cnt → t.get (LK_STATUS.PATH_STATE n) = 1 ∧ (lkSt t n).nHeld = (lkSt s n).nHeld + 1 ∧
            (lkSt t n).nRaw = 0 ∧ t.getS (LK_DELTA_PH.ofs n) = delta)) ∧
        (s.flag (LK_STATUS.PATH_STATE n) = true → lkAgrees s n raw = false → lkAgrees s n (raw - delta) = false →
          t.get (LK_STATUS.PATH_STATE n) = 1 ∧ (lkSt t n).nRaw = 0 ∧ (lkSt t n).nHeld = 0) ∧
        SameOffRange 0x90000 0xA0000 ([LK_STATUS.PATH_STATE n, LK_FLAGS.REACCEPTED n] ++ pairOf (LK_RT_PH.ofs n) ++
          pairOf (LK_RAW_PH.ofs n) ++ pairOf (LK_DELTA_PH.ofs n) ++ pairOf (LK_ASYM_FF.ofs n)) s t ∧
        t.tb = { s.tb with reports := t.tb.reports } ∧ OnlyParts [.tb, .rgs, .lnk] s t)) ∧
    (∀ (c : Instr) (held : Bool), (c = .linkReacceptRaw n ∧ held = false ∨ c = .linkReacceptHeld n ∧ held = true) →
      s.hostReach .lnk (some (11, n)) = true → (s.flag (LK_STATUS.PATH_STATE n) = false → exec c s = .next s) ∧
      (s.flag (LK_STATUS.PATH_STATE n) = true → ∃ t, exec c s = .next t ∧ t.get (LK_STATUS.PATH_STATE n) = 0 ∧
        t.get (LK_FLAGS.REACCEPTED n) = 1 ∧ t.getS (LK_DELTA_PH.ofs n) = 0 ∧ (lkSt t n).nRaw = 0 ∧ (lkSt t n).nHeld = 0 ∧
        (held = false → t.getS (LK_ASYM_FF.ofs n) = s.getS (LK_ASYM_FF.ofs n)) ∧
        (held = true → (lkSt s n).refs.sum ≠ 0 → t.getS (LK_ASYM_FF.ofs n) =
          clampInt (-asymMax) asymMax (s.getS (LK_ASYM_FF.ofs n) +
            Config.quot (2 * s.getS (LK_DELTA_PH.ofs n) * (lkSt s n).refs.length * 2 ^ 60) (lkSt s n).refs.sum)) ∧
        (∀ k, k < 64 → s.get (RGS_SLOT_BIND.TYPE k) = 6 → s.get (RGS_SLOT_BIND.INDEX k) = n.val → s.get (RGS_SLOT_STATUS.STATE k) = 5 → t.get (RGS_SLOT_STATUS.STATE k) = 4) ∧
        SameOffRange 0x90000 0xA0000 ([LK_STATUS.PATH_STATE n, LK_FLAGS.REACCEPTED n] ++ pairOf (LK_DELTA_PH.ofs n) ++
          pairOf (LK_ASYM_FF.ofs n)) s t ∧
        t.tb = { s.tb with reports := t.tb.reports } ∧ OnlyParts [.tb, .rgs, .lnk] s t))

/-- Control frames are checked, forwarded and taken; broadcasts, barriers and time-triggered operations take effect. -/
def Obligations.TheControlPlaneBroadcastsBarsAndTriggers : Prop :=
  ∀ s : State, s.Wf →
    (∀ (n : Fin 8) (first second : List Byte) (at_ : Nat),
      (lkState s n ≠ 3 ∨ lkRole s n = 3 ∨ (lkRole s n = 1 ∧ 5 ≤ s.get (LK_STATUS.TAG_RX n) / 16 % 8) →
        exec (.controlFrame n first second at_) s = .next s) ∧
      (lkState s n = 3 → lkRole s n ≠ 3 → (lkRole s n = 1 → s.get (LK_STATUS.TAG_RX n) / 16 % 8 < 5) →
        controlGood first = false → controlGood second = false → ∃ t, exec (.controlFrame n first second at_) s = .next t ∧
        t.get (LK_CNT.CRC_ERR n) = min (s.get (LK_CNT.CRC_ERR n) + 2) (2 ^ 16 - 1) ∧ t.get (LK_FLAGS.CTRL_CRC n) = 1 ∧
        (s.flag (LK_FLAGS.CTRL_CRC n) = false → Raised (213 + n.val) t) ∧
        SameOffIrq [LK_CNT.CRC_ERR n, LK_FLAGS.CTRL_CRC n] s t ∧ OnlyParts [] s t)) ∧
    (∀ (n : Fin 8) (first second : List Byte) (at_ : Nat), lkState s n = 3 → lkRole s n = 1 →
      s.get (LK_STATUS.TAG_RX n) / 16 % 8 < 5 → controlGood first = true ∨ controlGood second = true →
      let c := controlOf (if controlGood first then first else second)
      ∃ t, exec (.controlFrame n first second at_) s = .next t ∧
      (controlGood first = false ∨ controlGood second = false →
        t.get (LK_CNT.CRC_ERR n) = min (s.get (LK_CNT.CRC_ERR n) + 1) (2 ^ 16 - 1)) ∧
      (c.type = 1 ∨ c.type = 4 ∨ c.type = 5 → ∀ m ∈ lkRunning s 2, s.get (CDC_XS_STATUS.STATE_A (48 + m)) = 0 → Out.control m c.bytes ∈ t.outbox) ∧
      (c.type = 1 → (c.origin = s.get LK_GLB_STATUS.ADDR → t.get LK_BC_STATUS.TX_BUSY = 0) ∧
        (lnkInScope s c = false → t.lnk = s.lnk) ∧
        (lnkInScope s c = true → s.lnk.mailbox.length < 16 → t.get LK_GLB_FLAGS.BC_RX = 1 ∧ Raised 212 t ∧
          t.lnk = { s.lnk with mailbox := s.lnk.mailbox ++ [(c.seq, c.origin, c.body.take 32)] } ∧
          t.get LK_BC_STATUS.RX_COUNT = s.lnk.mailbox.length + 1) ∧
        (lnkInScope s c = true → 16 ≤ s.lnk.mailbox.length → t.get LK_GLB_FLAGS.BC_OVF = 1 ∧ t.lnk = s.lnk ∧
          t.get LK_BC_STATUS.OVF = min (s.get LK_BC_STATUS.OVF + 1) (2 ^ 16 - 1))) ∧
      (c.type = 4 → t.lnk.barrier = none ∧ t.get LK_BAR_STATUS.WAIT = 0 ∧ t.get LK_BAR_STATUS.ID = leField c.body 0 1 ∧
        t.get LK_GLB_FLAGS.BAR_DONE = 1 ∧ (c.flags.testBit 0 = true → t.get LK_GLB_FLAGS.BAR_PARTIAL = 1) ∧
        (c.flags.testBit 0 = false → t.get LK_GLB_FLAGS.BAR_PARTIAL = s.get LK_GLB_FLAGS.BAR_PARTIAL)) ∧
      (c.type = 5 → let T := timeOf (leField c.body 8 8) (leField c.body 4 4) 0
        (lnkInScope s c = false → t.lnk = s.lnk) ∧
        (lnkInScope s c = true → s.timeAt at_ + 1000 * nsUnit ≤ T →
          t.lnk = { s.lnk with armed := s.lnk.armed ++ [⟨T, leField c.body 0 1, c.seq⟩] } ∧
          t.get LK_TTO_STATUS.PENDING = (s.lnk.armed.length + 1) % 8) ∧
        (lnkInScope s c = true → T < s.timeAt at_ + 1000 * nsUnit → t.get LK_GLB_FLAGS.TTO_LATE = 1 ∧ t.lnk = s.lnk ∧
          (s.get LK_GLB_STATUS.ADDR ≠ 0 → s.get (CDC_XS_STATUS.STATE_A (48 + n.val)) = 0 →
            Out.control n { c with type := 6, flags := 0, origin := s.get LK_GLB_STATUS.ADDR }.bytes ∈ t.outbox))) ∧
      SameOffIrq ([LK_CNT.CRC_ERR n, whole LK_BC_STATUS.ofs, whole LK_BAR_STATUS.ofs, whole LK_GLB_FLAGS.ofs, whole LK_TTO_STATUS.ofs] ++
        (CDC_FLAGS.DROP_EV :: (List.range 56).map fun m => CDC_XS_CNT.DROPPED m)) s t ∧ OnlyParts [.sys, .lnk] s t) ∧
    (∀ (n : Fin 8) (first second : List Byte) (at_ : Nat), lkState s n = 3 → lkRole s n = 2 →
      controlGood first = true ∨ controlGood second = true →
      let c := controlOf (if controlGood first then first else second)
      ∃ t, exec (.controlFrame n first second at_) s = .next t ∧
      (c.type = 2 → s.get LK_GLB_STATUS.ADDR = 0 → t.lnk.seq = (s.lnk.seq + 1) % 2 ^ 16 ∧
        (∀ m ∈ lkRunning s 2, s.get (CDC_XS_STATUS.STATE_A (48 + m)) = 0 → Out.control m { c with type := 1, seq := s.lnk.seq }.bytes ∈ t.outbox) ∧
        (lnkInScope s c = true → s.lnk.mailbox.length < 16 →
          t.lnk.mailbox = s.lnk.mailbox ++ [(s.lnk.seq, c.origin, c.body.take 32)])) ∧
      (c.type = 2 ∨ c.type = 6 → s.get LK_GLB_STATUS.ADDR ≠ 0 → t.lnk = s.lnk ∧
        ∀ m ∈ lkRunning s 1, s.get (CDC_XS_STATUS.STATE_A (48 + m)) = 0 → s.get (LK_STATUS.TAG_RX m) / 16 % 8 < 5 → Out.control m c.bytes ∈ t.outbox) ∧
      (c.type = 6 → s.get LK_GLB_STATUS.ADDR = 0 → t.lnk = s.lnk ∧
        t.get LK_TTO_STATUS.MISS = min (s.get LK_TTO_STATUS.MISS + 1) (2 ^ 16 - 1)) ∧
      (c.type = 3 → s.lnk.barrier = none → t.lnk = { s.lnk with links := s.lnk.links.modify n fun l =>
        { l with arrive := some (leField c.body 0 1) } }) ∧
      (∀ b, c.type = 3 → s.lnk.barrier = some b → leField c.body 0 1 = b.id →
        (∀ m ∈ b.need, m = n.val ∨ (lkSt s m).arrive = some b.id) →
        (s.get LK_GLB_STATUS.ADDR = 0 → t.lnk.barrier = none ∧ t.get LK_BAR_STATUS.WAIT = 0 ∧ t.get LK_GLB_FLAGS.BAR_DONE = 1) ∧
        (s.get LK_GLB_STATUS.ADDR ≠ 0 → t.lnk.barrier = some { b with sent := true } ∧ (b.sent = false → ∀ m ∈ lkRunning s 1, s.get (CDC_XS_STATUS.STATE_A (48 + m)) = 0 →
          s.get (LK_STATUS.TAG_RX m) / 16 % 8 < 5 → Out.control m (Control.bytes ⟨3, 0, 0, s.get LK_GLB_STATUS.ADDR, 0, leBytes 1 b.id⟩) ∈
            t.outbox))) ∧
      SameOffIrq ([LK_CNT.CRC_ERR n, whole LK_BC_STATUS.ofs, whole LK_BAR_STATUS.ofs, whole LK_GLB_FLAGS.ofs, whole LK_TTO_STATUS.ofs] ++
        (CDC_FLAGS.DROP_EV :: (List.range 56).map fun m => CDC_XS_CNT.DROPPED m)) s t ∧ OnlyParts [.sys, .lnk] s t) ∧
    (s.hostReach .lnk none = true → (s.flag LK_BC_STATUS.TX_BUSY = true → exec .bcSend s = .next s) ∧
      (s.flag LK_BC_STATUS.TX_BUSY = false →
        let payload := (List.range 8).flatMap fun w => leBytes 4 (s.reg (LK_BC_TX_W.ofs w)).toNat
        ∃ t, exec .bcSend s = .next t ∧
        (s.get LK_GLB_STATUS.ADDR ≠ 0 → t.get LK_BC_STATUS.TX_BUSY = 1 ∧ t.lnk = s.lnk ∧
          ∀ m ∈ lkRunning s 1, s.get (CDC_XS_STATUS.STATE_A (48 + m)) = 0 → s.get (LK_STATUS.TAG_RX m) / 16 % 8 < 5 →
            Out.control m (Control.bytes ⟨2, 0, 0, s.get LK_GLB_STATUS.ADDR, 0, payload⟩) ∈ t.outbox) ∧
        (s.get LK_GLB_STATUS.ADDR = 0 → t.get LK_BC_STATUS.TX_BUSY = 0 ∧ t.lnk.seq = (s.lnk.seq + 1) % 2 ^ 16 ∧
          (∀ m ∈ lkRunning s 2, s.get (CDC_XS_STATUS.STATE_A (48 + m)) = 0 → Out.control m (Control.bytes ⟨1, 0, s.lnk.seq, 0, 0, payload⟩) ∈ t.outbox) ∧
          (s.lnk.mailbox.length < 16 → t.lnk.mailbox = s.lnk.mailbox ++ [(s.lnk.seq, 0, payload)] ∧ t.get LK_GLB_FLAGS.BC_RX = 1 ∧ Raised 212 t) ∧
          (16 ≤ s.lnk.mailbox.length → t.lnk.mailbox = s.lnk.mailbox ∧ t.get LK_GLB_FLAGS.BC_OVF = 1)) ∧
        SameOffIrq ([whole LK_BC_STATUS.ofs, LK_GLB_FLAGS.BC_RX, LK_GLB_FLAGS.BC_OVF] ++ (CDC_FLAGS.DROP_EV :: (List.range 56).map fun m => CDC_XS_CNT.DROPPED m)) s t ∧ OnlyParts [.sys, .lnk] s t)) ∧
    (s.hostReach .lnk none = true → (∀ seq origin p rest, s.lnk.mailbox = (seq, origin, p) :: rest → ∃ t, exec .bcPop s = .next t ∧
        t.sys = { s.sys with rdata := BitVec.ofNat 32 (seq + 2 ^ 16 * (origin % 4096) + 2 ^ 28) } ∧
        t.lnk = { s.lnk with mailbox := rest } ∧ t.get LK_BC_STATUS.RX_COUNT = rest.length % 2 ^ 5 ∧
        (∀ w < 8, t.reg (LK_BC_RX_W.ofs w) = BitVec.ofNat 32 (leField p (4 * w) 4)) ∧
        SameFields (LK_BC_STATUS.RX_COUNT :: (List.range 8).map fun w => whole (LK_BC_RX_W.ofs w)) s t ∧ OnlyParts [.sys, .lnk] s t) ∧
      (s.lnk.mailbox = [] → exec .bcPop s = .next { s with sys := { s.sys with rdata := 0 } })) ∧
    (∀ id : BitVec 8, s.hostReach .lnk none = true →
      (s.flag LK_BAR_STATUS.WAIT = true → ∃ t, exec (.barrierArrive id) s = .next t ∧ t.get LK_GLB_FLAGS.BAR_ERR = 1 ∧
        SameOffIrq [LK_GLB_FLAGS.BAR_ERR] s t ∧ OnlyParts [] s t) ∧
      (s.flag LK_BAR_STATUS.WAIT = false →
        let b : Barrier := ⟨id.toNat, lkRunning s 2, false⟩
        let all := ∀ m ∈ lkRunning s 2, (lkSt s m).arrive = some id.toNat
        ∃ t, exec (.barrierArrive id) s = .next t ∧
        (¬ all → t.get LK_BAR_STATUS.WAIT = 1 ∧ t.lnk = { s.lnk with barrier := some b } ∧ SameFields [LK_BAR_STATUS.WAIT] s t) ∧
        (all → s.get LK_GLB_STATUS.ADDR ≠ 0 → t.get LK_BAR_STATUS.WAIT = 1 ∧ t.lnk = { s.lnk with barrier := some { b with sent := true } } ∧
          (∀ m ∈ lkRunning s 1, s.get (CDC_XS_STATUS.STATE_A (48 + m)) = 0 → s.get (LK_STATUS.TAG_RX m) / 16 % 8 < 5 →
            Out.control m (Control.bytes ⟨3, 0, 0, s.get LK_GLB_STATUS.ADDR, 0, leBytes 1 id.toNat⟩) ∈ t.outbox) ∧
          SameOffIrq (LK_BAR_STATUS.WAIT :: (CDC_FLAGS.DROP_EV :: (List.range 56).map fun m => CDC_XS_CNT.DROPPED m)) s t) ∧
        (all → s.get LK_GLB_STATUS.ADDR = 0 → t.get LK_BAR_STATUS.WAIT = 0 ∧ t.get LK_BAR_STATUS.ID = id.toNat ∧
          t.get LK_GLB_FLAGS.BAR_DONE = 1 ∧ t.get LK_GLB_FLAGS.BAR_PARTIAL = s.get LK_GLB_FLAGS.BAR_PARTIAL ∧ t.lnk.barrier = none ∧
          t.lnk.seq = (s.lnk.seq + 1) % 2 ^ 16 ∧
          (∀ m ∈ lkRunning s 2, s.get (CDC_XS_STATUS.STATE_A (48 + m)) = 0 → Out.control m (Control.bytes ⟨4, 0, s.lnk.seq, 0, 0, leBytes 1 id.toNat⟩) ∈ t.outbox)) ∧
        SameOffIrq ([LK_BAR_STATUS.WAIT, LK_BAR_STATUS.ID, LK_GLB_FLAGS.BAR_DONE] ++ (CDC_FLAGS.DROP_EV :: (List.range 56).map fun m => CDC_XS_CNT.DROPPED m)) s t ∧ OnlyParts [.sys, .lnk] s t)) ∧
    ((∀ b, s.lnk.barrier = some b → s.get LK_GLB_STATUS.ADDR = 0 → ∃ t, exec .barrierTimeout s = .next t ∧ t.lnk.barrier = none ∧
        t.get LK_BAR_STATUS.WAIT = 0 ∧ t.get LK_BAR_STATUS.ID = b.id % 256 ∧ t.get LK_GLB_FLAGS.BAR_DONE = 1 ∧
        t.get LK_GLB_FLAGS.BAR_PARTIAL = 1 ∧
        (∀ m ∈ lkRunning s 2, s.get (CDC_XS_STATUS.STATE_A (48 + m)) = 0 → Out.control m (Control.bytes ⟨4, 1, s.lnk.seq, 0, 0, leBytes 1 b.id⟩) ∈ t.outbox) ∧
        SameOffIrq ([LK_BAR_STATUS.WAIT, LK_BAR_STATUS.ID, LK_GLB_FLAGS.BAR_DONE, LK_GLB_FLAGS.BAR_PARTIAL] ++ (CDC_FLAGS.DROP_EV :: (List.range 56).map fun m => CDC_XS_CNT.DROPPED m)) s t ∧
        OnlyParts [.sys, .lnk] s t) ∧
      (s.lnk.barrier = none ∨ s.get LK_GLB_STATUS.ADDR ≠ 0 → exec .barrierTimeout s = .next s)) ∧
    (∀ (op kind : Fin 4) (scope : BitVec 12) (at_ : Nat), s.hostReach .lnk none = true →
      let T := timeOf (s.get64 LK_TTO_SEC.ofs) (s.get LK_TTO_NS.NS) 0
      let now := s.timeAt at_
      let lead : Int := (s.get LK_GLB_CFG.TOPO_DEPTH * 1500 + 2000) * nsUnit
      let pend := s.lnk.armed.length + (s.lnk.issued.filter fun t => decide (now < t)).length
      (T < now + lead ∨ 999999999 < s.get LK_TTO_NS.NS ∨ 4 ≤ pend ∨ s.get LK_GLB_STATUS.ADDR ≠ 0 ∨ op = 0 ∨ op = 3 →
        ∃ t, exec (.ttoIssue op kind scope at_) s = .next t ∧ t.get LK_GLB_FLAGS.TTO_REFUSED = 1 ∧
        SameOffIrq [LK_GLB_FLAGS.TTO_REFUSED] s t ∧ OnlyParts [] s t) ∧
      (now + lead ≤ T → s.get LK_TTO_NS.NS ≤ 999999999 → pend < 4 → s.get LK_GLB_STATUS.ADDR = 0 → (op = 1 ∨ op = 2) →
        let c : Control := ⟨5, 0, s.lnk.seq, 0, scope.toNat + 4096 * kind.val,
          leBytes 1 op.val ++ [0, 0, 0] ++ leBytes 4 (s.get LK_TTO_NS.NS) ++ leBytes 8 (s.get64 LK_TTO_SEC.ofs)⟩
        ∃ t, exec (.ttoIssue op kind scope at_) s = .next t ∧ t.lnk.seq = (s.lnk.seq + 1) % 2 ^ 16 ∧
        (∀ m ∈ lkRunning s 2, s.get (CDC_XS_STATUS.STATE_A (48 + m)) = 0 → Out.control m c.bytes ∈ t.outbox) ∧
        (kind = 0 ∨ (kind = 1 ∨ kind = 2) ∧ scope = 0 → t.lnk.armed = s.lnk.armed ++ [⟨T, op.val, s.lnk.seq⟩] ∧
          t.get LK_TTO_STATUS.PENDING = s.lnk.armed.length + 1) ∧
        (kind = 3 ∨ (kind = 1 ∨ kind = 2) ∧ scope ≠ 0 → t.lnk.armed = s.lnk.armed ∧ T ∈ t.lnk.issued) ∧
        SameOffIrq (LK_TTO_STATUS.PENDING :: (CDC_FLAGS.DROP_EV :: (List.range 56).map fun m => CDC_XS_CNT.DROPPED m)) s t ∧ OnlyParts [.sys, .lnk] s t)) ∧
    (∀ at_ : Nat, (s.live .lnk = false ∨ (∀ o ∈ s.lnk.armed, s.timeAt at_ < o.t) → exec (.ttoStrobe at_) s = .next s) ∧
      (s.live .lnk = true → (∃ o ∈ s.lnk.armed, o.t ≤ s.timeAt at_) → (∀ o ∈ s.lnk.armed, o.t ≤ s.timeAt at_ → o.op ≠ 2) →
        ∃ t, exec (.ttoStrobe at_) s = .next t ∧ t.get LK_GLB_FLAGS.TTO_DONE = 1 ∧
        t.lnk = { s.lnk with armed := s.lnk.armed.filter fun o => decide (s.timeAt at_ < o.t) } ∧
        (lnkInColl s = false → t.get LK_GLB_FLAGS.TTO_UNSYNC = 1) ∧
        (lnkInColl s = true → t.get LK_GLB_FLAGS.TTO_UNSYNC = s.get LK_GLB_FLAGS.TTO_UNSYNC) ∧
        t.get LK_TTO_STATUS.PENDING = t.lnk.armed.length % 8 ∧
        ((∃ o ∈ s.lnk.armed, o.t ≤ s.timeAt at_ ∧ o.op = 1) → s.live .vit = true → s.flag VIT_CFG.TTO_EN = true →
          s.flag VIT_STATUS.HELD = false →
          t.vit.held.isSome = true ∧ t.get VIT_STATUS.HELD = 1) ∧
        (s.flag VIT_CFG.TTO_EN = false → t.vit = s.vit) ∧
        SameOffRange 0x40000 0x50000 [LK_GLB_FLAGS.TTO_DONE, LK_GLB_FLAGS.TTO_UNSYNC, LK_TTO_STATUS.PENDING] s t ∧
        OnlyParts [.lnk, .vit] s t) ∧
      (s.live .lnk = true → (∃ o ∈ s.lnk.armed, o.t ≤ s.timeAt at_ ∧ o.op = 2) → ∃ t, exec (.ttoStrobe at_) s = .next t ∧
        t.phase = 2 ∧ t.get GLB_RESET_CAUSE.CAUSE = ResetCause.collection.code ∧ t.lnk = LnkState.reset ∧ t.tb = State.reset.tb))

/-- Enabling, keying, heartbeats, DEMOTE, REPAIRED and the pins move a unit through the pair states. -/
def Obligations.PairUnitsKeyAndChangeState : Prop :=
  ∀ s : State, s.Wf →
    (s.hostReach .pair none = true → (s.flag PAIR_CFG.EN = false → ∃ t, exec (.pairEnable true) s = .next t ∧ t.get PAIR_CFG.EN = 1 ∧
        t.get PAIR_STATUS.STATE = 1 ∧ t.get PAIR_STATUS.KEYED = 0 ∧
        t.pair = { s.pair with gap := false, key := none, nextKey := none, kx := none, want := some .pairKey, peer := none, failed := false } ∧
        (s.sys.activeN = false → t.get PAIR_FLAGS.ACTIVE_MISMATCH = 1) ∧ CfgWrites s t ∧
        SameOffRange 0x580000 0x590000 [PAIR_CFG.EN, PAIR_STATUS.STATE, PAIR_STATUS.KEYED, PAIR_FLAGS.ACTIVE_MISMATCH] s t ∧
        OnlyParts [.bne, .prov, .pair] s t) ∧
      (s.flag PAIR_CFG.EN = true → ∃ t, exec (.pairEnable false) s = .next t ∧ t.get PAIR_CFG.EN = 0 ∧ t.get PAIR_STATUS.STATE = 0 ∧
        t.get PAIR_STATUS.KEYED = 0 ∧ t.get PAIR_STATUS.HB_OK = 0 ∧
        t.pair = { PairState.reset with host := s.pair.host, rehearsed := s.pair.rehearsed } ∧ CfgWrites s t ∧
        SameOffRange 0x580000 0x590000 [PAIR_CFG.EN, PAIR_STATUS.STATE, PAIR_STATUS.KEYED, PAIR_STATUS.HB_OK] s t ∧
        OnlyParts [.bne, .prov, .pair] s t) ∧
      (∀ en, s.flag PAIR_CFG.EN = en → ∃ t, exec (.pairEnable en) s = .next t ∧ SameFields [] s t ∧ OnlyParts [.prov] s t ∧ CfgWrites s t) ∧
      (pairStateOf s = 6 → ∃ t, exec .repaired s = .next t ∧ t.get PAIR_STATUS.STATE = 1 ∧ t.get PAIR_STATUS.KEYED = 0 ∧
        t.pair = { s.pair with gap := false, key := none, nextKey := none, kx := none, want := some .pairKey, peer := none, failed := false } ∧
        SameOffRange 0x580000 0x590000 [PAIR_STATUS.STATE, PAIR_STATUS.KEYED, PAIR_FLAGS.ACTIVE_MISMATCH] s t ∧ OnlyParts [.bne, .pair] s t) ∧
      (pairStateOf s ≠ 6 → exec .repaired s = .next s) ∧
      (pairStateOf s = 4 → ∃ t, exec .demote s = .next t ∧ t.get PAIR_STATUS.STATE = 6 ∧ t.get PAIR_FLAGS.FAILED_EV = 1 ∧
        Raised 221 t ∧ t.pair = { s.pair with gap := false } ∧
        SameOffIrq [PAIR_STATUS.STATE, PAIR_FLAGS.FAILED_EV, PAIR_FLAGS.ACTIVE_MISMATCH] s t ∧ OnlyParts [.pair] s t) ∧
      (pairStateOf s ≠ 4 → exec .demote s = .next s)) ∧
    (∀ (c : Instr) (periodic : Bool), (c = .rekey periodic ∧ s.hostReach .pair none = true ∨ c = .keyRetry ∧ s.pair.failed = true ∧
        periodic = false) → (pairStateOf s = 0 ∨ periodic = true ∧ s.get PAIR_CFG2.REKEY_INT = 0 → exec c s = .next s) ∧
      (pairStateOf s ≠ 0 → periodic = false ∨ s.get PAIR_CFG2.REKEY_INT ≠ 0 → ∃ t, exec c s = .next t ∧
        t.pair = { s.pair with kx := none, want := some .pairKey, peer := none, failed := false } ∧
        SameOffRange 0x580000 0x590000 [] s t ∧ OnlyParts [.bne, .pair] s t)) ∧
    (s.pair.failed = false → exec .keyRetry s = .next s) ∧
    (∀ bytes : List Byte, let pub := bytes.take 32
      let nonce := (bytes.drop 32).take 16
      let hash := (bytes.drop 48).take 32
      let good := ed25519.verify (pairPeerKey s) (pub ++ nonce ++ hash) ((bytes.drop 80).take 64)
      (s.flag PAIR_CFG.EN = false ∨ pub = s.pair.seen → exec (.keyMessage bytes) s = .next s) ∧
      (s.flag PAIR_CFG.EN = true → pub ≠ s.pair.seen → ∃ t, exec (.keyMessage bytes) s = .next t ∧
        (good = false → t.get PAIR_FLAGS.KEY_BAD = 1 ∧ t.pair = { s.pair with kx := none, want := none, peer := none, failed := true } ∧
          SameOffIrq [PAIR_FLAGS.KEY_BAD] s t ∧ OnlyParts [.pair] s t) ∧
        (good = true → t.pair.seen = pub ∧ t.pair.peer = some (pub, nonce) ∧ t.get PAIR_STATUS.STATE = s.get PAIR_STATUS.STATE ∧
          (hash ≠ catHash s → t.get PAIR_FLAGS.CFG_MISMATCH = 1) ∧
          (s.pair.kx = none → s.pair.want ≠ some .pairKey → t.pair.want = some .pairKey) ∧
          (∀ x, s.pair.kx = some x → x.sent = true → s.pair.want = none → t.pair.want = some .pairSecret) ∧
          SameOffRange 0x580000 0x590000 [PAIR_FLAGS.CFG_MISMATCH] s t ∧ OnlyParts [.bne, .pair] s t))) ∧
    ((bneRuns s .pairKey = true → ∃ t x, exec .internalRequestDone s = .next t ∧ t.pair = { s.pair with kx := some x, want := some .pairSign } ∧
        x.pub = x25519.public x.priv ∧ x.priv.length = 32 ∧ x.nonce.length = 16 ∧ x.sent = false ∧ t.bne.running = none ∧
        SameOffRange 0x580000 0x590000 [] s t ∧ OnlyParts [.bne, .pair] s t) ∧
      (∀ x, bneRuns s .pairSign = true → s.pair.kx = some x → ∃ t, exec .internalRequestDone s = .next t ∧
        let m := x.pub ++ x.nonce ++ catHash s
        let want := if s.pair.peer.isSome then some .pairSecret else none
        Out.pair 0 (m ++ ed25519.sign identitySeed m) ∈ t.outbox ∧
        t.pair = { s.pair with kx := some { x with sent := true }, want := want } ∧ t.bne.running = none ∧
        SameOffRange 0x580000 0x590000 [] s t ∧ OnlyParts [.bne, .pair] s t) ∧
      (∀ x pub nonce, bneRuns s .pairSecret = true → s.pair.kx = some x → s.pair.peer = some (pub, nonce) →
        let z := x25519.apply x.priv pub
        let lower := s.get LK_GLB_STATUS.ADDR < s.get (LK_BIND.PEER (s.get PAIR_BIND.LINK))
        let k := hkdf256 z (if lower then x.nonce ++ nonce else nonce ++ x.nonce)
          [0x53, 0x55, 0x4E, 0x44, 0x41, 0x4E, 0x45, 0x2D, 0x50, 0x41, 0x49, 0x52] 96
        ∃ t, exec .internalRequestDone s = .next t ∧ t.bne.running = none ∧ t.pair.kx = none ∧ t.pair.want = none ∧
        (z.all (· == 0) = true → t.get PAIR_FLAGS.KEY_BAD = 1 ∧ t.pair.failed = true ∧ t.pair.key = s.pair.key) ∧
        (z.all (· == 0) = false → (pairStateOf s = 3 ∨ pairStateOf s = 4) → s.pair.key.isSome = true →
          t.pair.nextKey = some k ∧ t.pair.key = s.pair.key ∧ SameOffRange 0x580000 0x590000 [] s t) ∧
        (z.all (· == 0) = false → pairStateOf s ≠ 3 → pairStateOf s ≠ 4 → t.pair.key = some k ∧ t.get PAIR_STATUS.KEYED = 1 ∧
          (pairStateOf s ≠ 1 ∨ s.flag PAIR_STATUS.HB_OK = false → t.get PAIR_STATUS.STATE = s.get PAIR_STATUS.STATE)) ∧
        SameOffRange 0x580000 0x590000 [PAIR_FLAGS.KEY_BAD, PAIR_STATUS.KEYED, PAIR_STATUS.STATE, PAIR_FLAGS.ACTIVE_MISMATCH] s t ∧
        OnlyParts [.bne, .pair] s t) ∧
      (bneRuns s .pairKey = false → bneRuns s .pairSign = false → bneRuns s .pairSecret = false → exec .internalRequestDone s = .next s)) ∧
    ((pairStateOf s = 1 → s.flag PAIR_STATUS.KEYED = false → s.sys.partnerOk = false ∨ s.flag PAIR_CFG.PREFER = true →
        ∃ t, exec .pairWaitExpiry s = .next t ∧ t.get PAIR_STATUS.STATE = 5 ∧ SameFields [PAIR_STATUS.STATE] s t ∧ OnlyParts [] s t) ∧
      (pairStateOf s ≠ 1 ∨ s.flag PAIR_STATUS.KEYED = true ∨ s.sys.partnerOk = true ∧ s.flag PAIR_CFG.PREFER = false →
        exec .pairWaitExpiry s = .next s)) ∧
    (∀ at_ : Nat, (s.flag PAIR_CFG.EN = true → s.pair.key.isSome = true → pairLinkUp s = true → ∃ t b, exec (.heartbeatTx at_) s = .next t ∧
        Out.beat b ∈ t.outbox ∧ b.state.val = pairStateOf s ∧ b.prefer = s.flag PAIR_CFG.PREFER ∧
        b.epoch.toNat = (if pairStateOf s = 4 then s.get PAIR_EPOCH_TX.EPOCH else s.get PAIR_EPOCH_RX.EPOCH) ∧
        b.d = s.pair.d.map (BitVec.ofInt 64) ∧ b.m = s.pair.m.map (BitVec.ofInt 64) ∧
        (s.flag TB_STATUS.VERIFIED = false → b.health.val = 2) ∧ (pairStateOf s = 3 → s.pair.committed = none → b.health.val = 2) ∧
        (s.flag TB_STATUS.VERIFIED = true → pairStateOf s ≠ 3 →
          b.health.val = if pairHealthBits s (s.timeAt at_) = 127 then 0 else 1) ∧ SameFields [] s t ∧ OnlyParts [] s t) ∧
      (s.flag PAIR_CFG.EN = false ∨ s.pair.key = none ∨ pairLinkUp s = false → exec (.heartbeatTx at_) s = .next s)) ∧
    (∀ (b : PairBeat) (tagOk : Bool) (at_ : Nat), (s.flag PAIR_CFG.EN = false → exec (.heartbeatRx b tagOk at_) s = .next s) ∧
      (s.flag PAIR_CFG.EN = true → tagOk = false ∨ s.pair.key = none → ∃ t, exec (.heartbeatRx b tagOk at_) s = .next t ∧
        t.get PAIR_CNT0.BAD_FRAME = min (s.get PAIR_CNT0.BAD_FRAME + 1) (2 ^ 16 - 1) ∧ SameFields [PAIR_CNT0.BAD_FRAME] s t ∧
        OnlyParts [] s t) ∧
      (s.flag PAIR_CFG.EN = true → tagOk = true → s.pair.key.isSome = true → ∃ t, exec (.heartbeatRx b tagOk at_) s = .next t ∧
        let lower := s.get LK_GLB_STATUS.ADDR < s.get (LK_BIND.PEER (s.get PAIR_BIND.LINK))
        let wins := s.flag PAIR_CFG.PREFER = true ∨ b.prefer = false ∧ lower
        t.get PAIR_STATUS.HB_OK = 1 ∧ t.get PAIR_STATUS.PARTNER_STATE = b.state.val ∧ t.get PAIR_STATUS.PARTNER_HEALTH = b.health.val ∧
        t.pair.prefer = b.prefer ∧ t.pair.linkLost = false ∧ t.pair.arb = false ∧
        (∀ q, b.m = some q → t.getS PAIR_M_PEER_PH.ofs = q.toInt) ∧
        (s.pair.arb = false →
          (pairStateOf s = 1 → s.flag PAIR_STATUS.KEYED = true → b.state = 4 ∨ b.state = 5 → t.get PAIR_STATUS.STATE = 2) ∧
          (pairStateOf s = 1 → s.flag PAIR_STATUS.KEYED = true → b.state = 1 → wins → t.get PAIR_STATUS.STATE = 4) ∧
          (pairStateOf s = 1 → s.flag PAIR_STATUS.KEYED = true → b.state = 1 → ¬ wins → t.get PAIR_STATUS.STATE = 2) ∧
          (pairStateOf s = 1 → s.flag PAIR_STATUS.KEYED = false → t.get PAIR_STATUS.STATE = 1) ∧
          (pairStateOf s = 2 ∨ pairStateOf s = 3 → b.state = 6 → s.flag PAIR_CFG.AUTO_PROMOTE = true → t.get PAIR_STATUS.STATE = 4 ∧
            t.get PAIR_FLAGS.PROMOTED = 1 ∧ t.get PAIR_CNT2.PROMOTIONS = min (s.get PAIR_CNT2.PROMOTIONS + 1) (2 ^ 16 - 1)) ∧
          (pairStateOf s = 2 ∨ pairStateOf s = 3 → b.state = 6 → s.flag PAIR_CFG.AUTO_PROMOTE = false → t.get PAIR_FLAGS.PROMOTE_DUE = 1 ∧
            t.get PAIR_STATUS.STATE = s.get PAIR_STATUS.STATE) ∧
          (pairStateOf s = 2 ∨ pairStateOf s = 3 → b.state ≠ 6 → t.get PAIR_STATUS.STATE = s.get PAIR_STATUS.STATE) ∧
          (pairStateOf s = 5 → pairLinkUp s = true → b.state ≠ 4 → t.get PAIR_STATUS.STATE = 4) ∧
          (pairStateOf s = 5 → pairLinkUp s = false ∨ b.state = 4 → t.get PAIR_STATUS.STATE = 5) ∧
          (pairStateOf s = 4 ∨ pairStateOf s = 6 → t.get PAIR_STATUS.STATE = s.get PAIR_STATUS.STATE)) ∧
        (s.pair.arb = true → pairStateOf s = 4 → let tol := max 1 (s.get PAIR_ARB_TOL.ARB_TOL) * 65536
          (∀ m q, s.pair.m = some m → b.m = some q → tol < m.natAbs → q.toInt.natAbs ≤ tol → t.get PAIR_STATUS.STATE = 6 ∧
            t.get PAIR_FLAGS.FAILED_EV = 1) ∧
          (∀ m q, s.pair.m = some m → b.m = some q → (tol < m.natAbs ↔ tol < q.toInt.natAbs) → t.get PAIR_FLAGS.UNDECIDED = 1 ∧
            t.get PAIR_STATUS.STATE = 4) ∧
          (s.pair.m = none ∨ b.m = none → t.get PAIR_FLAGS.UNDECIDED = 1 ∧ t.get PAIR_STATUS.STATE = 4)) ∧
        SameOffRange 0x480000 0x490000 ([PAIR_STATUS.HB_OK, PAIR_STATUS.PARTNER_STATE, PAIR_STATUS.PARTNER_HEALTH, PAIR_FLAGS.FAILED_EV,
          PAIR_FLAGS.UNDECIDED, PAIR_STATUS.STATE, PAIR_FLAGS.PROMOTED, PAIR_FLAGS.PROMOTE_DUE, PAIR_FLAGS.PROMOTE_REFUSED, PAIR_FLAGS.ACTIVE_MISMATCH,
          PAIR_CNT2.PROMOTIONS, PAIR_STATE_AGE.AGE] ++ pairOf PAIR_M_PEER_PH.ofs) s t ∧ OnlyParts [.nts, .pair, .con] s t)) ∧
    ((s.flag PAIR_CFG.EN = true → s.flag PAIR_STATUS.HB_OK = true → ∃ t, exec .heartbeatLoss s = .next t ∧ t.get PAIR_STATUS.HB_OK = 0 ∧
        (s.sys.partnerOk = true → t.get PAIR_FLAGS.LINK_LOST = 1 ∧ t.get PAIR_STATUS.STATE = s.get PAIR_STATUS.STATE ∧
          t.pair = { s.pair with linkLost := true }) ∧
        (s.sys.partnerOk = false → t.pair = s.pair ∧
          t.get PAIR_STATUS.STATE = if pairStateOf s = 4 then 5 else s.get PAIR_STATUS.STATE) ∧
        SameOffIrq [PAIR_STATUS.HB_OK, PAIR_STATUS.STATE, PAIR_FLAGS.LINK_LOST] s t ∧ OnlyParts [.pair] s t) ∧
      (s.flag PAIR_CFG.EN = false ∨ s.flag PAIR_STATUS.HB_OK = false → exec .heartbeatLoss s = .next s)) ∧
    (∀ level : Bool, ∃ t, exec (.activeNChange level) s = .next t ∧ t.sys = { s.sys with activeN := level } ∧
      t.get PAIR_STATUS.ACTIVE_N = bit level ∧ (s.flag PAIR_CFG.EN = true → level = false → pairStateOf s ≠ 4 → pairStateOf s ≠ 5 →
        t.get PAIR_FLAGS.ACTIVE_MISMATCH = 1) ∧
      (s.flag PAIR_CFG.EN = false ∨ level = true ∨ pairStateOf s = 4 ∨ pairStateOf s = 5 →
        t.get PAIR_FLAGS.ACTIVE_MISMATCH = s.get PAIR_FLAGS.ACTIVE_MISMATCH) ∧
      SameOffIrq [PAIR_STATUS.ACTIVE_N, PAIR_FLAGS.ACTIVE_MISMATCH] s t ∧ OnlyParts [.sys] s t)

/-- Promotion, comparison with arbitration, copy epochs, rehearsal digests and the host state area of a pair. -/
def Obligations.PairUnitsArePromotedCompareAndCopy : Prop :=
  ∀ s : State, s.Wf →
    (∀ (force : Bool) (at_ : Nat), s.hostReach .pair none = true → let now := s.timeAt at_
      (pairStateOf s ≠ 2 → pairStateOf s ≠ 3 → exec (.promote force at_) s = .next s) ∧
      (pairStateOf s = 2 ∨ pairStateOf s = 3 → force = false → pairHealth s now = 2 ∨ s.pair.committed = none →
        ∃ t, exec (.promote force at_) s = .next t ∧ t.get PAIR_FLAGS.PROMOTE_REFUSED = 1 ∧ SameOffIrq [PAIR_FLAGS.PROMOTE_REFUSED] s t ∧
        OnlyParts [] s t) ∧
      (pairStateOf s = 2 ∨ pairStateOf s = 3 → force = true ∨ pairHealth s now ≠ 2 ∧ s.pair.committed.isSome = true →
        ∃ t, exec (.promote force at_) s = .next t ∧ t.get PAIR_STATUS.STATE = 4 ∧ t.get PAIR_FLAGS.PROMOTED = 1 ∧
        (s.flag PAIR_FLAGS.PROMOTED = false → Raised 221 t) ∧
        t.get PAIR_CNT2.PROMOTIONS = min (s.get PAIR_CNT2.PROMOTIONS + 1) (2 ^ 16 - 1) ∧
        t.pair.gap = (s.sys.partnerOk && decide (s.get PAIR_CFG2.HANDOVER_GAP ≠ 0)) ∧
        (pairLinkUp s = true → Out.pair 2 [] ∈ t.outbox) ∧
        (pairStateOf s = 2 ∨ s.pair.committed = none → t.get PAIR_STATE_AGE.AGE = 0xFFFFFFFF ∧ t.nts.cur = none ∧
          t.pair = { s.pair with gap := t.pair.gap }) ∧
        (∀ e k, pairStateOf s = 3 → s.pair.committed = some e → s.pair.key = some k →
          t.pair = { s.pair with gap := t.pair.gap, host := e.host } ∧ let us := Config.quot (now - e.time) (1000 * nsUnit)
          (0 ≤ us → us < 0xFFFFFFFF → (t.get PAIR_STATE_AGE.AGE : Int) = us)) ∧
        SameOffRange 0x480000 0x490000 [PAIR_STATUS.STATE, PAIR_FLAGS.PROMOTED, PAIR_CNT2.PROMOTIONS, PAIR_STATE_AGE.AGE] s t ∧
        OnlyParts [.nts, .pair, .con] s t)) ∧
    (∀ (level cut : Bool) (at_ : Nat), ∃ t, exec (.partnerOkChange level cut at_) s = .next t ∧ t.sys = { s.sys with partnerOk := level } ∧
      t.get PAIR_STATUS.PARTNER_OK = bit level ∧
      (s.flag PAIR_CFG.EN = false ∨ level = true → SameFields [PAIR_STATUS.PARTNER_OK] s t ∧ OnlyParts [.sys] s t) ∧
      (s.flag PAIR_CFG.EN = true → level = false → pairStateOf s = 2 ∨ pairStateOf s = 3 → t.get PAIR_STATUS.STATE = 5 ∧
        t.get PAIR_FLAGS.PROMOTED = 1 ∧ t.pair.gap = false ∧
        t.get PAIR_CNT2.PROMOTIONS = min (s.get PAIR_CNT2.PROMOTIONS + 1) (2 ^ 16 - 1) ∧
        t.get PAIR_CNT0.COPY_ABORT = (if cut then min (s.get PAIR_CNT0.COPY_ABORT + 1) (2 ^ 16 - 1) else s.get PAIR_CNT0.COPY_ABORT) ∧
        (pairStateOf s = 2 → t.get PAIR_STATE_AGE.AGE = 0xFFFFFFFF)) ∧
      (s.flag PAIR_CFG.EN = true → level = false → pairStateOf s = 4 → s.flag PAIR_STATUS.HB_OK = false → t.get PAIR_STATUS.STATE = 5) ∧
      (s.flag PAIR_CFG.EN = true → level = false → pairStateOf s = 4 → s.flag PAIR_STATUS.HB_OK = true → t.get PAIR_STATUS.STATE = 4) ∧
      SameOffRange 0x480000 0x490000 [PAIR_STATUS.PARTNER_OK, PAIR_STATUS.STATE, PAIR_FLAGS.PROMOTED, PAIR_CNT2.PROMOTIONS, PAIR_STATE_AGE.AGE,
        PAIR_CNT0.COPY_ABORT, PAIR_FLAGS.ACTIVE_MISMATCH] s t ∧ OnlyParts [.sys, .nts, .pair, .con] s t) ∧
    (exec .handoverGapExpiry s = .next { s with pair := { s.pair with gap := false } } ∧
      (s.flag PAIR_CFG.EN = true → pairStateOf s = 4 → ∃ t, exec (.partnerPromoted true) s = .next t ∧ t.get PAIR_STATUS.STATE = 2 ∧
        t.pair = { s.pair with gap := false, committed := none } ∧
        SameOffIrq [PAIR_STATUS.STATE, PAIR_FLAGS.ACTIVE_MISMATCH] s t ∧ OnlyParts [.pair] s t) ∧
      (s.flag PAIR_CFG.EN = false ∨ pairStateOf s ≠ 4 → exec (.partnerPromoted true) s = .next s) ∧
      (s.flag PAIR_CFG.EN = true → ∀ at_ e, ∀ c ∈ [Instr.partnerPromoted false, .rehearsalDigest [] false, .epochAck 0 false],
        ∃ t, exec c s = .next t ∧ t.get PAIR_CNT0.BAD_FRAME = min (s.get PAIR_CNT0.BAD_FRAME + 1) (2 ^ 16 - 1) ∧
        SameFields [PAIR_CNT0.BAD_FRAME] s t ∧ OnlyParts [] s t ∧
        (pairStateOf s = 2 ∨ pairStateOf s = 3 → exec (.epochCommit e .badTag) s = exec c s ∧ exec (.epochCommit e .badCrc) s = .next s) ∧
        (pairStateOf s ≠ 4 ∨ pairLinkUp s = false → exec (.copyEpoch at_) s = .next s))) ∧
    (∀ at_ : Nat, (s.flag PAIR_CFG.EN = false → exec (.pairCompare at_) s = .next s) ∧ (s.flag PAIR_CFG.EN = true →
      let now := s.timeAt at_
      let thr := max 1 (s.get PAIR_THR.THR) * 65536
      ∃ t, exec (.pairCompare at_) s = .next t ∧ t.pair.stamp = none ∧ t.pair.d = pairD s ∧
      (∀ p, s.pair.stamp = some p → pairD s = some (rgsNearest p (10 ^ 9 * 4096) * 16)) ∧
      (∀ d, pairD s = some d → t.getS PAIR_D_PH.ofs = sat64 d ∧
        (d.natAbs ≤ thr → t.pair.run = 0 ∧ t.pair.disagree = false ∧ t.pair.undecided = false ∧ t.pair.arb = false ∧
          t.pair.base = some (pairBaseline s now) ∧ SameFields (pairOf PAIR_D_PH.ofs) s t) ∧
        (thr < d.natAbs → t.pair.run = s.pair.run + 1 ∧ t.pair.base = s.pair.base ∧
          (s.pair.disagree = false → s.pair.run + 1 < max 1 (s.get PAIR_THR.PERSIST) → t.pair.disagree = false ∧
            SameFields (pairOf PAIR_D_PH.ofs) s t) ∧
          (s.pair.disagree = true → s.pair.undecided = false → s.pair.arb = false → t.pair.disagree = true ∧ t.pair.m = s.pair.m ∧
            SameFields (pairOf PAIR_D_PH.ofs) s t) ∧
          (s.pair.disagree = true ∧ (s.pair.undecided = true ∨ s.pair.arb = true) ∨
              s.pair.disagree = false ∧ max 1 (s.get PAIR_THR.PERSIST) ≤ s.pair.run + 1 → t.pair.disagree = true ∧
            t.pair.m = pairMovement s now ∧ (s.pair.disagree = false → t.get PAIR_FLAGS.DISAGREE = 1) ∧
            (s.flag PAIR_STATUS.HB_OK = true → t.pair.arb = true) ∧
            (s.flag PAIR_STATUS.HB_OK = false → t.pair.arb = false ∧ t.pair.undecided = true ∧ t.get PAIR_FLAGS.UNDECIDED = 1)))) ∧
      SameOffIrq ([PAIR_FLAGS.DISAGREE, PAIR_FLAGS.UNDECIDED] ++ pairOf PAIR_D_PH.ofs ++ pairOf PAIR_M_PH.ofs) s t ∧ OnlyParts [.pair] s t)) ∧
    (∀ (at_ : Nat) (k : List Byte), pairStateOf s = 4 → pairLinkUp s = true → (s.pair.nextKey = some k ∨ s.pair.nextKey = none ∧ s.pair.key = some k) →
      let num := max (s.get PAIR_EPOCH_TX.EPOCH) (s.get PAIR_EPOCH_RX.EPOCH) + 1
      num < 2 ^ 32 → ∃ t, exec (.copyEpoch at_) s = .next t ∧ t.get PAIR_EPOCH_TX.EPOCH = num ∧
      Out.epoch ⟨BitVec.ofNat 32 num, s.timeAt at_, pairWrap k (pairNtsPlain s), s.pair.host⟩ ∈ t.outbox ∧
      t.pair.key = some k ∧ t.pair.nextKey = none ∧ (s.nts.staging = none → t.pair.sent = s.pair.sent) ∧
      (∀ g, s.nts.staging = some g → t.pair.sent = (num, g.gen) :: s.pair.sent) ∧
      SameFields [PAIR_EPOCH_TX.EPOCH] s t ∧ OnlyParts [.pair] s t) ∧
    (∀ e : PairEpoch, s.flag PAIR_CFG.EN = true → pairStateOf s = 2 ∨ pairStateOf s = 3 →
      (∃ t, exec (.epochCommit e .cut) s = .next t ∧ t.get PAIR_CNT0.COPY_ABORT = min (s.get PAIR_CNT0.COPY_ABORT + 1) (2 ^ 16 - 1) ∧
        SameFields [PAIR_CNT0.COPY_ABORT] s t ∧ OnlyParts [] s t) ∧
      (∀ k plain, (s.pair.nextKey = some k ∨ s.pair.nextKey = none ∧ s.pair.key = some k) → pairUnwrap k e.nts = some plain →
        (∀ c, s.pair.committed = some c → c.num < e.num) → ∃ t, exec (.epochCommit e .good) s = .next t ∧
        t.get PAIR_STATUS.STATE = 3 ∧ t.get PAIR_EPOCH_RX.EPOCH = e.num.toNat ∧ t.pair.committed = some { e with host := pairArea e.host } ∧
        Out.pair 3 (leBytes 4 e.num.toNat) ∈ t.outbox ∧ t.nts.cur = pairKeyOf (plain.take 69) ∧
        t.nts.old1 = pairKeyOf ((plain.drop 69).take 69) ∧ t.nts.old2 = pairKeyOf ((plain.drop 138).take 69) ∧
        SameOffRange 0x480000 0x490000 [PAIR_STATUS.STATE, PAIR_EPOCH_RX.EPOCH, PAIR_FLAGS.ACTIVE_MISMATCH] s t ∧ OnlyParts [.nts, .pair] s t) ∧
      (∀ c, s.pair.nextKey = none → s.pair.committed = some c → e.num ≤ c.num → exec (.epochCommit e .good) s = .next s)) ∧
    (∀ at_ : Nat, (s.flag PAIR_CFG.EN = false → exec (.copyLate at_) s = .next s) ∧ (s.flag PAIR_CFG.EN = true → ∃ t, exec (.copyLate at_) s = .next t ∧
        t.get PAIR_FLAGS.COPY_LATE = 1 ∧ t.get ⟨CON_DL_FLAGS.FAULT.ofs, 5, 1⟩ = 1 ∧
        t.get (CON_DL_CNT.COUNT 5) = min (s.get (CON_DL_CNT.COUNT 5) + 1) (2 ^ (CON_DL_CNT.COUNT 5).width - 1) ∧ Raised 21 t ∧
        SameOffIrq [PAIR_FLAGS.COPY_LATE, CON_DL_CNT.COUNT 5, ⟨CON_DL_FLAGS.FAULT.ofs, 5, 1⟩] s t ∧ OnlyParts [.con] s t)) ∧
    (∀ num : BitVec 32, s.flag PAIR_CFG.EN = true → (s.pair.sent.lookup num.toNat = none → exec (.epochAck num true) s = .next s) ∧
      ∀ g k, s.pair.sent.lookup num.toNat = some g → s.nts.staging = some k → ∃ t, exec (.epochAck num true) s = .next t ∧
      t.pair.acked = some g ∧ (g = k.gen → s.pair.saved = some k.gen → t.nts.cur = some k ∧ t.nts.old1 = s.nts.cur ∧
        t.nts.staging = none ∧ t.get NTS_FLAGS.ROTATED = 1) ∧ (s.pair.saved ≠ some k.gen → t.nts = s.nts) ∧
      SameOffRange 0x480000 0x490000 [] s t ∧ OnlyParts [.nts, .pair] s t) ∧
    (∀ digest : List Byte, s.flag PAIR_CFG.EN = true →
      (pairStateOf s ≠ 3 ∨ s.flag PAIR_CFG.REHEARSE_EN = false → exec (.rehearsalDigest digest true) s = .next s) ∧
      (pairStateOf s = 3 → s.flag PAIR_CFG.REHEARSE_EN = true → ∃ t, exec (.rehearsalDigest digest true) s = .next t ∧
        ((∀ o ∈ s.pair.own, o.take 8 ≠ digest.take 8) → t = { s with pair := { s.pair with other := s.pair.other ++ [digest] } }) ∧
        (∀ o rest, s.pair.own = o :: rest → o.take 8 = digest.take 8 → t.pair.own = rest ∧ (t.pair.compared.head?) = some (s.tb.dev, o != digest) ∧
          (o ≠ digest → t.get PAIR_FLAGS.REHEARSE_MISMATCH = 1 ∧
            t.get PAIR_CNT1.MISMATCH = min (s.get PAIR_CNT1.MISMATCH + 1) (2 ^ 16 - 1)) ∧ (o = digest → t.rf = s.rf)) ∧
        SameOffIrq [PAIR_FLAGS.REHEARSE_MISMATCH, PAIR_CNT1.MISMATCH] s t ∧ OnlyParts [.pair] s t)) ∧
    (∀ own : Bool, ((if own then s.pair.own else s.pair.other) = [] → exec (.digestTimeout own) s = .next s) ∧
      ((if own then s.pair.own else s.pair.other) ≠ [] → ∃ t, exec (.digestTimeout own) s = .next t ∧
        t.pair = (if own then { s.pair with own := s.pair.own.drop 1 } else { s.pair with other := s.pair.other.drop 1 }) ∧
        t.get PAIR_CNT1.UNMATCHED = min (s.get PAIR_CNT1.UNMATCHED + 1) (2 ^ 16 - 1) ∧ SameFields [PAIR_CNT1.UNMATCHED] s t ∧
        OnlyParts [.pair] s t)) ∧
    (∀ v : Word, s.hostReach .pair none = true → let i := s.get PAIR_HS_IDX.IDX
      (∃ t, exec (.hostStateAccess true v) s = .next t ∧ t.get PAIR_HS_IDX.IDX = (i + 1) % 2 ^ 14 ∧
        (pairStateOf s ≠ 3 → memBytes 0 t.pair.host (4 * i) 4 = leBytes 4 v.toNat) ∧ (pairStateOf s = 3 → t.pair = s.pair) ∧
        (∀ a, a < 4 * i ∨ 4 * i + 4 ≤ a → memByte 0 t.pair.host a = memByte 0 s.pair.host a) ∧
        SameFields [PAIR_HS_IDX.IDX] s t ∧ OnlyParts [.prov, .pair] s t ∧ CfgWrites s t) ∧
      (∃ t, exec (.hostStateAccess false v) s = .next t ∧ t.get PAIR_HS_IDX.IDX = (i + 1) % 2 ^ 14 ∧
        (pairStateOf s ≠ 3 → t.sys.rdata.toNat = leNat (memBytes 0 s.pair.host (4 * i) 4)) ∧
        (∀ e, pairStateOf s = 3 → s.pair.committed = some e → t.sys.rdata.toNat = leNat (memBytes 0 e.host (4 * i) 4)) ∧
        SameFields [PAIR_HS_IDX.IDX] s t ∧ OnlyParts [.sys] s t))

/-- A PWR or DEV reset, PERST_N, the pivot fault, and the clocks and crossings of the device. -/
def Obligations.DeviceResetsAndCrossings : Prop :=
  ∀ s : State, s.Wf → let hard := fun (t : State) => ∀ ofs h, regFind ofs = some h → h.desc.dom ≠ .pwr → h.sticky = 0 → ofs ≠ CAT_STATUS.ofs →
      ofs < 0x20100 ∨ 0x20200 ≤ ofs → t.reg ofs = hardValue ofs;
    (∀ (powerUp : Bool) (strap : Fin 8) (pf : Bool), ∃ t, exec (.por powerUp strap pf) s = .next t ∧ t.phase = 0 ∧
      t.get GLB_RESET_CAUSE.CAUSE = (if powerUp then 0 else 1) ∧ t.sys.strap = strap.val ∧ t.sys.pfailLow = pf ∧ t.sys.pfailHold = pf ∧
      t.sys.ownerKey = s.sys.ownerKey ∧ t.sys.sigReq = s.sys.sigReq ∧ t.sys.perst = s.sys.perst ∧ t.sys.pivotFault = false ∧
      t.sys.blkHeld = 0 ∧ t.sys.instHeld = none ∧ Out.uartPhase 0 ∈ t.outbox ∧ t.slots = s.slots ∧ (s.cat.op = none → t.nv = s.nv) ∧
      (∀ a, memByte bar2Zero t.bar2 a = if a < 16 * bneWindow then 0 else memByte bar2Zero s.bar2 a) ∧ t.pending = s.pending ∧
      (∀ p, p ∉ [Part.nv, .slots, .bar2, .sys] → p.same State.reset t) ∧
      (∀ ofs, ofs ≠ CAT_STATUS.ofs → ofs ≠ GLB_RESET_CAUSE.ofs → ofs < 0x20100 ∨ 0x20200 ≤ ofs → t.reg ofs = State.reset.reg ofs) ∧
      (∀ k < 56, t.get (CDC_XS_STATUS.STATE_A k) = 2 ∧ t.get (CDC_XS_STATUS.STATE_B k) = 2)) ∧
    (∀ (c : Instr) (cause : ResetCause) (at_ : Nat), (c = .softReset 0xA5 ∧ cause = .soft ∧ s.hostReach .glb none = true ∨
        c = .pivotRecovered ∧ cause = .pivotFault ∧ s.sys.pivotFault = true ∨
        c = .d2dFault ∧ cause = .d2dFault ∧ s.flag CDC_STATUS.D2D_RETRAINING = true ∨ c = .watchdogExpiry ∧ cause = .watchdog ∧ 2 ≤ s.phase ∨
        c = .hostWatchdogExpiry at_ ∧ cause = .hostWatchdog ∧ s.live .con = true ∧ s.flag CON_CFG.HOST_WD_EN = true ∧ (s.sys.pivotFault = true ∨
          ∀ k, s.con.kickAt = some k → k + max 1 (s.get CON_HOST_WD.HOST_WD_TIMEOUT) * tickUnits ≤ s.pivotAt at_)) →
      ∃ t, exec c s = .next t ∧ t.phase = (if cause = .pivotFault then 1 else 2) ∧ t.get GLB_RESET_CAUSE.CAUSE = cause.code ∧
      t.get GLB_RESET_CAUSE.DEV_RESETS = min (s.get GLB_RESET_CAUSE.DEV_RESETS + 1) (2 ^ 16 - 1) ∧
      t.sys = { s.sys with pivotFault := false, d2dFault := false, afterPivotFault := decide (cause = .pivotFault),
                           warming := decide (cause = .pivotFault), blkHeld := 0, instHeld := none, flitFails := 0 } ∧
      hard t ∧ t.slots = s.slots ∧ (s.cat.op = none → t.nv = s.nv) ∧ t.pending = s.pending ∧
      (∀ p, p ∉ [Part.nv, .slots, .bar2, .sys] → p.same State.reset t) ∧
      (∀ a, memByte bar2Zero t.bar2 a = if a < 16 * bneWindow then 0 else memByte bar2Zero s.bar2 a) ∧
      t.get CAT_CFG.FACTORY_NEXT = s.get CAT_CFG.FACTORY_NEXT ∧
      t.get CDC_FLAGS.D2D_FAULT = (if cause = .d2dFault then 1 else s.get CDC_FLAGS.D2D_FAULT) ∧
      t.get CON_FLAGS.WD_EXPIRED = (if cause = .watchdog ∨ cause = .hostWatchdog then 1 else s.get CON_FLAGS.WD_EXPIRED) ∧
      (∀ k < 56, t.get (CDC_XS_STATUS.STATE_A k) = 2 ∧ t.get (CDC_XS_STATUS.STATE_B k) = if k = 31 ∨ k = 25 ∧ s.sys.perst = false then 1 else 2)) ∧
    (∀ confirm : BitVec 8, ∀ at_, (s.hostReach .glb none = true → confirm ≠ 0xA5 → exec (.softReset confirm) s = .next s) ∧
      (s.sys.pivotFault = false → exec .pivotRecovered s = .next s) ∧
      (s.flag CDC_STATUS.D2D_RETRAINING = false → exec .d2dFault s = .next s) ∧ (s.phase < 2 → exec .watchdogExpiry s = .next s) ∧
      (s.flag CON_CFG.HOST_WD_EN = false → exec (.hostWatchdogExpiry at_) s = .next s)) ∧
    ((exec (.perst s.sys.perst) s = .next s) ∧ (s.sys.perst = false → ∃ t, exec (.perst true) s = .next t ∧ t.sys = { s.sys with perst := true } ∧
        t.hif = HifState.reset ∧ (∀ ofs h, regFind ofs = some h → perstPick h = true → h.sticky = 0 → t.reg ofs = s.rf.base ofs) ∧
        (∀ ofs h, regFind ofs = some h → perstPick h = false → ofs ≠ CDC_XS_STATUS.ofs 25 → t.reg ofs = s.reg ofs) ∧
        t.get (CDC_XS_STATUS.STATE_A 25) = (if s.phase < 3 ∨ s.sys.coreAbsent = true then 2 else 1) ∧
        t.get (CDC_XS_STATUS.STATE_B 25) = 2 ∧ OnlyParts [.sys, .hif] s t) ∧
      (s.sys.perst = true → ∃ t, exec (.perst false) s = .next t ∧ t.sys = { s.sys with perst := false } ∧
        (s.phase < 3 ∨ s.sys.coreAbsent = true → t.get (CDC_XS_STATUS.STATE_A 25) = 2 ∧ t.get (CDC_XS_STATUS.STATE_B 25) =
          if s.flag (CDC_XS_STATUS.CLK_ABSENT 25) = true ∨ s.phase < 3 ∧ s.get GLB_RESET_CAUSE.CAUSE ≤ 1 then 2 else 1) ∧
        (coreRuns s = true → s.flag (CDC_XS_STATUS.CLK_ABSENT 25) = false →
          s.get (CDC_XS_STATUS.STATE_A 25) ≠ 0 ∨ s.get (CDC_XS_STATUS.STATE_B 25) ≠ 0 → t.get (CDC_XS_STATUS.STATE_A 25) = 3 ∧
          t.get (CDC_XS_STATUS.STATE_B 25) = 3) ∧
        (coreRuns s = true → s.flag (CDC_XS_STATUS.CLK_ABSENT 25) = true → t.get (CDC_XS_STATUS.STATE_A 25) = 1 ∧
          t.get (CDC_XS_STATUS.STATE_B 25) = 2) ∧
        SameFields [CDC_XS_STATUS.STATE_A 25, CDC_XS_STATUS.STATE_B 25] s t ∧ OnlyParts [.sys] s t)) ∧
    ((s.phase < 6 ∨ s.sys.pivotFault = true → exec .pivotFault s = .next s) ∧
      (6 ≤ s.phase → s.sys.pivotFault = false → ∃ t, exec .pivotFault s = .next t ∧ t.sys = { s.sys with pivotFault := true } ∧
        t.get TB_STATUS.PIVOT_FAULT = 1 ∧ t.get TB_STATUS.VERIFIED = 0 ∧ t.get TB_STATUS.STEP_PENDING = 0 ∧
        t.get TB_FLAGS.VERIFIED_LOST = s.get TB_FLAGS.VERIFIED_LOST ∧ Raised 7 t ∧
        (∀ n < 16, (t.get (OUT_GLB_STATUS.MUTED)).testBit n = true) ∧
        (∀ w, s.con.writing = some w → t.con = { s.con with writing := none } ∧ t.get CON_FLAGS.CKPT_FAIL = 1 ∧
          t.slots = s.slots.modify w.slot fun c => { c with stored := tableSet c.stored w.pos (ckptImage w.slot w.ck false) }) ∧
        (s.con.writing = none → t.con = s.con ∧ t.slots = s.slots) ∧ t.get TB_STATUS.FREE_MEAS = bit (tbFreeMeas t) ∧
        t.get PAIR_STATUS.STATE = (if s.get PAIR_STATUS.STATE = 4 then 6 else s.get PAIR_STATUS.STATE) ∧
        SameOffIrq ([TB_STATUS.PIVOT_FAULT, TB_STATUS.VERIFIED, TB_STATUS.STEP_PENDING, TB_STATUS.FREE_MEAS, TB_STATUS.SLEWING,
          TB_STATUS.VERIFY_DISAGREE, OUT_GLB_STATUS.MUTED,
          CON_STATUS.CKPT_BUSY, CON_CKPT_CNT.FAILS, CON_FLAGS.CKPT_FAIL, PAIR_STATUS.STATE, PAIR_FLAGS.FAILED_EV,
          PAIR_FLAGS.ACTIVE_MISMATCH] ++ (List.range 16).map fun n => OUT_FLAGS.CFG_BAD n) s t ∧ OnlyParts [.slots, .sys, .tb, .out, .pair, .con] s t)) ∧
    (∀ k : Fin 56, let rep : List Fld := if 1 ≤ k.val ∧ k.val ≤ 24 then [TB_REP_STATUS.STATE (k.val - 1), TB_REP_STATUS.LOCKED (k.val - 1)] else []
      let sides : List Fld := [CDC_XS_STATUS.STATE_A k, CDC_XS_STATUS.STATE_B k, CDC_STATUS.D2D_UP];
      (coreRuns s = false ∨ s.flag (CDC_XS_STATUS.CLK_ABSENT k) = true → exec (.clockAbsent (some k)) s = .next s) ∧
      (coreRuns s = true → s.flag (CDC_XS_STATUS.CLK_ABSENT k) = false → ∃ t, exec (.clockAbsent (some k)) s = .next t ∧
        t.get (CDC_XS_STATUS.CLK_ABSENT k) = 1 ∧ t.get CDC_FLAGS.CLK_LOSS_EV = 1 ∧ (s.flag CDC_FLAGS.CLK_LOSS_EV = false → Raised 4 t) ∧
        t.get (CDC_XS_RESYNC.CLK_LOSS k) = min (s.get (CDC_XS_RESYNC.CLK_LOSS k) + 1) (2 ^ 16 - 1) ∧
        t.get (CDC_XS_STATUS.STATE_A k) = (if cdcNear s k = true then 2 else 1) ∧ t.get (CDC_XS_STATUS.STATE_B k) = 2 ∧
        (k = 0 → t.get CDC_STATUS.D2D_UP = 0) ∧ (k ≠ 0 → t.get CDC_STATUS.D2D_UP = s.get CDC_STATUS.D2D_UP) ∧
        (1 ≤ k.val → k.val ≤ 24 → t.get (TB_REP_STATUS.STATE (k.val - 1)) = 0) ∧
        SameOffIrq ([CDC_XS_STATUS.CLK_ABSENT k, CDC_XS_RESYNC.CLK_LOSS k, CDC_FLAGS.CLK_LOSS_EV] ++ sides ++ rep) s t ∧ OnlyParts [.tb] s t) ∧
      (coreRuns s = false ∨ s.flag (CDC_XS_STATUS.CLK_ABSENT k) = false → exec (.clockReturn (some k)) s = .next s) ∧
      (coreRuns s = true → s.flag (CDC_XS_STATUS.CLK_ABSENT k) = true → ∃ t, exec (.clockReturn (some k)) s = .next t ∧
        t.get (CDC_XS_STATUS.CLK_ABSENT k) = 0 ∧
        t.get (CDC_XS_STATUS.STATE_A k) = cdcSide (cdcNear s k) (cdcFar t k) (s.get (CDC_XS_STATUS.STATE_A k)) (s.get (CDC_XS_STATUS.STATE_B k)) ∧
        t.get (CDC_XS_STATUS.STATE_B k) = cdcSide (cdcFar t k) (cdcNear s k) (s.get (CDC_XS_STATUS.STATE_B k)) (s.get (CDC_XS_STATUS.STATE_A k)) ∧
        (6 ≤ s.phase → cdcHeld s k = false → (k = 25 → s.sys.perst = false) → s.get (CDC_XS_STATUS.STATE_B k) ≠ 0 →
          t.get (CDC_XS_STATUS.STATE_A k) = 3 ∧ t.get (CDC_XS_STATUS.STATE_B k) = 3) ∧
        (cdcHeld s k = true → t.get (CDC_XS_STATUS.STATE_B k) = 2) ∧
        SameFields (CDC_XS_STATUS.CLK_ABSENT k :: sides) s t ∧ OnlyParts [] s t) ∧
      (∀ dropped flushed, s.get (CDC_XS_STATUS.STATE_A k) ≠ 3 ∨ s.get (CDC_XS_STATUS.STATE_B k) ≠ 3 →
        exec (.resyncComplete k dropped flushed) s = .next s) ∧
      (∀ dropped flushed, s.get (CDC_XS_STATUS.STATE_A k) = 3 → s.get (CDC_XS_STATUS.STATE_B k) = 3 →
        ∃ t, exec (.resyncComplete k dropped flushed) s = .next t ∧
        t.get (CDC_XS_STATUS.STATE_A k) = 0 ∧ t.get (CDC_XS_STATUS.STATE_B k) = 0 ∧
        t.get (CDC_XS_RESYNC.RESYNCS k) = min (s.get (CDC_XS_RESYNC.RESYNCS k) + 1) (2 ^ 16 - 1) ∧
        t.get (CDC_XS_CNT.DROPPED k) = min (s.get (CDC_XS_CNT.DROPPED k) + dropped) (2 ^ 16 - 1) ∧
        (let n := flushed + (tableGet s.sys.xsHeld k).getD 0
         t.get (CDC_XS_CNT.FLUSHED k) = min (s.get (CDC_XS_CNT.FLUSHED k) + n) (2 ^ 16 - 1) ∧ (n ≠ 0 → t.get CDC_FLAGS.FLUSH_EV = 1)) ∧
        t.sys = { s.sys with xsHeld := tableErase s.sys.xsHeld k } ∧
        (dropped ≠ 0 → t.get CDC_FLAGS.DROP_EV = 1) ∧ (k = 0 → t.get CDC_STATUS.D2D_UP = 1) ∧
        (let port := fun j : Nat => s.flag (EP_CFG.EN j) = true ∧ s.live .mac = true
         1 ≤ k.val → k.val ≤ 24 → t.get (TB_REP_STATUS.LOCKED (k.val - 1)) = 0 ∧ t.tb.replicas.getD (k.val - 1) Replica.off = Replica.off ∧
           t.get (TB_REP_STATUS.STATE (k.val - 1)) =
             if s.flag (CDC_XS_STATUS.CLK_ABSENT k) = false ∧ (k.val ≤ 8 ∧ port (k.val - 1) ∨ 9 ≤ k.val ∧ k.val ≤ 16 ∧ port (k.val - 9) ∨
               17 ≤ k.val ∧ s.flag (LK_CFG.EN (k.val - 17)) = true ∧ s.live .lnk = true) then 1 else 0) ∧
        SameOffIrq ([CDC_XS_STATUS.STATE_A k, CDC_XS_STATUS.STATE_B k, CDC_XS_RESYNC.RESYNCS k, CDC_XS_CNT.DROPPED k, CDC_XS_CNT.FLUSHED k,
          CDC_FLAGS.DROP_EV, CDC_FLAGS.FLUSH_EV, CDC_STATUS.D2D_UP] ++ rep) s t ∧ OnlyParts [.sys, .tb] s t)) ∧
    (let sides : List Fld := CDC_STATUS.D2D_UP :: (List.range 56).flatMap fun k => [CDC_XS_STATUS.STATE_A k, CDC_XS_STATUS.STATE_B k];
      (coreRuns s = false → exec (.clockAbsent none) s = .next s) ∧
      (coreRuns s = true → ∃ t, exec (.clockAbsent none) s = .next t ∧ t.sys = { s.sys with coreAbsent := true } ∧
        t.get CDC_FLAGS.CLK_LOSS_EV = 1 ∧ t.get (CDC_XS_RESYNC.CLK_LOSS 31) = min (s.get (CDC_XS_RESYNC.CLK_LOSS 31) + 1) (2 ^ 16 - 1) ∧
        (∀ k < 56, k < 32 ∨ 48 ≤ k → t.get (CDC_XS_STATUS.STATE_A k) = 2 ∧
          t.get (CDC_XS_STATUS.STATE_B k) = if cdcFar s k = true then 2 else 1) ∧ t.get CDC_STATUS.D2D_UP = 0 ∧
        SameOffIrq (CDC_FLAGS.CLK_LOSS_EV :: CDC_XS_RESYNC.CLK_LOSS 31 :: sides) s t ∧ OnlyParts [.sys] s t) ∧
      (s.sys.coreAbsent = false → exec (.clockReturn none) s = .next s) ∧
      (s.sys.coreAbsent = true → ∃ t, exec (.clockReturn none) s = .next t ∧ t.sys = { s.sys with coreAbsent := false } ∧
        (∀ k < 56, k < 32 ∨ 48 ≤ k → t.get (CDC_XS_STATUS.STATE_A k) =
            cdcSide (cdcNear t k) (cdcFar s k) (s.get (CDC_XS_STATUS.STATE_A k)) (s.get (CDC_XS_STATUS.STATE_B k)) ∧
          t.get (CDC_XS_STATUS.STATE_B k) =
            cdcSide (cdcFar s k) (cdcNear t k) (s.get (CDC_XS_STATUS.STATE_B k)) (s.get (CDC_XS_STATUS.STATE_A k))) ∧
        SameFields sides s t ∧ OnlyParts [.sys] s t)) ∧
    (let retrained := fun t : State => t.get CDC_D2D_CNT.RETRAINS = min (s.get CDC_D2D_CNT.RETRAINS + 1) (2 ^ 16 - 1) ∧
        t.get CDC_STATUS.D2D_UP = 0 ∧ t.get CDC_STATUS.D2D_RETRAINING = 1 ∧ t.get CDC_FLAGS.RETRAIN_EV = 1 ∧
        t.sys = { s.sys with flitFails := 0 } ∧
        t.out = { s.out with outs := s.out.outs.mapIdx fun n o => { o with word := some (outWord s n) } } ∧ OnlyParts [.sys, .out] s t
      let word : List Fld := [CDC_D2D_CNT.RETRAINS, CDC_STATUS.D2D_UP, CDC_STATUS.D2D_RETRAINING, CDC_FLAGS.RETRAIN_EV];
      (s.flag CDC_STATUS.D2D_UP = false → (∀ again, exec (.flitCrcError again) s = .next s) ∧ exec .retrain s = .next s) ∧
      (s.flag CDC_STATUS.D2D_UP = true → (∀ again, let n := if again then s.sys.flitFails + 1 else 1
          ∃ t, exec (.flitCrcError again) s = .next t ∧ t.get CDC_D2D_CRC.COUNT = min (s.get CDC_D2D_CRC.COUNT + 1) (2 ^ 32 - 1) ∧
          t.get CDC_D2D_CNT.REPLAYS = min (s.get CDC_D2D_CNT.REPLAYS + 1) (2 ^ 16 - 1) ∧
          (4 ≤ n → retrained t ∧ SameOffIrq (CDC_D2D_CRC.COUNT :: CDC_D2D_CNT.REPLAYS :: word) s t) ∧
          (n < 4 → t.sys = { s.sys with flitFails := n } ∧ SameFields [CDC_D2D_CRC.COUNT, CDC_D2D_CNT.REPLAYS] s t ∧ OnlyParts [.sys] s t)) ∧
        (∃ t, exec .retrain s = .next t ∧ retrained t ∧ SameOffIrq word s t)) ∧
      (s.flag CDC_STATUS.D2D_RETRAINING = false → exec .retrainDone s = .next s) ∧
      (s.flag CDC_STATUS.D2D_RETRAINING = true → ∃ t, exec .retrainDone s = .next t ∧
        (s.evt.held = [] → s.evt.calHeld = [] → t.get CDC_STATUS.D2D_UP = 1 ∧ t.get CDC_STATUS.D2D_RETRAINING = 0 ∧
          t.out = { s.out with outs := s.out.outs.map fun o => { o with word := none } } ∧
          SameFields [CDC_STATUS.D2D_UP, CDC_STATUS.D2D_RETRAINING] s t ∧ OnlyParts [.out] s t) ∧
        (let s1 := { (s.put CDC_STATUS.D2D_RETRAINING 0).put CDC_STATUS.D2D_UP 1 with out := { s.out with outs := s.out.outs.map fun o => { o with word := none } }, evt := { s.evt with held := [], calHeld := [] } }
         t = s.evt.calHeld.foldl (fun s x => evtStore x.ch (x.record s false) s) (s.evt.held.foldl (fun s x => edgeDeliver 0 x s) s1)) ∧
        OnlyParts [.evt, .rgs, .ens, .out, .pair] s t))

/-- BLK and INST resets by register, and the phases of start-up up to RUN with the restore of a checkpoint. -/
def Obligations.BlocksRestartAndStartUpRuns : Prop :=
  ∀ s : State, s.Wf →
    (∀ (blocks : BitVec 13) (at_ : Nat), s.hostReach .glb none = true →
      (s.flag GLB_RST_STATUS.BUSY = true → ∃ t, exec (.blkReset blocks at_) s = .next t ∧ t.get GLB_RST_STATUS.RST_BAD = 1 ∧
        SameFields [GLB_RST_STATUS.RST_BAD] s t ∧ OnlyParts [] s t) ∧
      (s.flag GLB_RST_STATUS.BUSY = false → blocks = 0 → exec (.blkReset blocks at_) s = .next s) ∧
      (s.flag GLB_RST_STATUS.BUSY = false → blocks ≠ 0 → ∃ t, exec (.blkReset blocks at_) s = .next t ∧
        t.get GLB_RST_STATUS.BUSY = 1 ∧ t.sys = { s.sys with blkHeld := blocks.toNat, xsHeld := t.sys.xsHeld } ∧
        (∀ b, blocksOf blocks.toNat = [b] → b ≠ .evt → b ≠ .ans → ∀ ofs h, regFind ofs = some h → h.ofBlock b = true → h.sticky = 0 →
          t.reg ofs = s.rf.base ofs) ∧
        (∀ b, blocksOf blocks.toNat = [b] → (b = .rgs → t.rgs = { RgsState.reset with now := s.rgs.now }) ∧
          (b = .loop → ∀ k : Fin 24, loopSt t k = { LoopState.reset with p := loopPhase s k (s.timeAt at_), pAt := s.timeAt at_, xLast := (loopSt s k).xLast, lastSample := (loopSt s k).lastSample, xAt := (loopSt s k).xAt }) ∧
          (b = .ens → t.ens = { EnsState.reset with moved := s.ens.moved, rebases := s.ens.rebases, rebase := true }) ∧
          (b = .out → t.out = OutState.reset) ∧ (b = .gnss → t.gnss = GnssState.reset) ∧ (b = .mac → t.mac = List.replicate 8 MacPort.reset) ∧
          (b = .ptp → t.ptp = { PtpState.reset with epoch := s.ptp.epoch }) ∧ (b = .lnk → t.lnk = LnkState.reset) ∧
          (b = .pair → t.pair = PairState.reset) ∧ (b = .vit → t.vit = VitState.reset)) ∧
        (∀ b ∈ [Blk.rgs, .loop, .ens, .out, .vit], blocksOf blocks.toNat = [b] → ∀ ofs h, regFind ofs = some h → h.ofBlock b = false →
          ofs ≠ GLB_RST_STATUS.ofs → ofs < 0x20100 ∨ 0x20200 ≤ ofs → t.reg ofs = s.reg ofs) ∧
        OnlyParts [.bar2, .sys, .tb, .evt, .rgs, .loops, .ens, .out, .gnss, .mac, .ans, .ptp, .bne, .prov, .lnk, .pair, .hif, .vit] s t)) ∧
    (∀ (block : Fin 16) (index : Fin 256) (at_ : Nat), s.hostReach .glb none = true →
      (s.flag GLB_RST_STATUS.BUSY = true ∨ (∀ kind count, instOf block = some (kind, count) → count ≤ index.val) →
        ∃ t, exec (.instReset block index at_) s = .next t ∧ t.get GLB_RST_STATUS.RST_BAD = 1 ∧ SameFields [GLB_RST_STATUS.RST_BAD] s t ∧
        OnlyParts [] s t) ∧
      (∀ kind count, s.flag GLB_RST_STATUS.BUSY = false → instOf block = some (kind, count) → index.val < count →
        ∃ t, exec (.instReset block index at_) s = .next t ∧ t.get GLB_RST_STATUS.BUSY = 1 ∧
        t.sys = { s.sys with instHeld := some (block.val, index.val), xsHeld := t.sys.xsHeld } ∧
        (kind ∈ [InstKind.loop, .member, .trigger, .gnssPort, .solution, .port, .ptpInst, .link] → ∀ ofs h, regFind ofs = some h →
          h.ofInst kind index = true → h.sticky = 0 → h.desc.base ≠ RGS_SEL_STATUS.ofs 0 →
          h.desc.base ≠ LOOP_INT_FF.ofs 0 → h.desc.base ≠ LOOP_STEER_FF.ofs 0 → t.reg ofs = s.rf.base ofs) ∧
        (kind = .slot → rgsSlot t index = RgsSlot.reset) ∧ (kind = .output → (t.get OUT_GLB_STATUS.MUTED).testBit index = true) ∧
        (kind = .loop → (loopSt t index).p = loopPhase s index (s.timeAt at_) ∧ (loopSt t index).auth = none ∧
          (loopSt t index).r = 0 ∧ t.get64 (LOOP_INT_FF.ofs index) = s.get64 (LOOP_INT_FF.ofs index)) ∧
        (kind = .port → macPort t index = MacPort.reset) ∧ (kind = .ptpInst → ptpInst t index = PtpInst.reset) ∧
        (kind = .link → lkSt t index = LkLink.reset) ∧
        OnlyParts [.bar2, .sys, .tb, .evt, .rgs, .loops, .ens, .out, .gnss, .mac, .ans, .ptp, .bne, .prov, .lnk, .pair, .hif] s t)) ∧
    ((s.flag GLB_RST_STATUS.BUSY = false → exec .blkResetDone s = .next s) ∧
      (s.flag GLB_RST_STATUS.BUSY = true → ∃ t, exec .blkResetDone s = .next t ∧ t.get GLB_RST_STATUS.BUSY = 0 ∧
        t.sys = { s.sys with blkHeld := 0, instHeld := none, xsHeld := t.sys.xsHeld } ∧
        (s.sys.instHeld = none → ∀ b f, (b, f) ∈ [(Blk.evt, EVT_STATUS.READY), (.rgs, RGS_STATUS.READY), (.loop, LOOP_GLB_STATUS.READY),
            (.ens, ENS_STATUS.READY), (.out, OUT_GLB_STATUS.READY), (.gnss, GNSS_STATUS.READY), (.ans, ANS_GLB_STATUS.READY),
            (.ptp, PTP_STATUS.READY), (.lnk, LK_GLB_STATUS.READY), (.vit, VIT_STATUS.READY)] →
          blocksOf s.sys.blkHeld = [b] → t.get f = 1) ∧
        (s.sys.instHeld = none → blocksOf s.sys.blkHeld = [.pair] → s.flag PAIR_CFG.EN = true → t.get PAIR_STATUS.STATE = 1) ∧
        (∀ p : Fin 4, s.sys.blkHeld = 0 → s.sys.instHeld = some (9, p.val) → t.get (ANS_STATUS.READY p) = 1) ∧
        (∀ k : Fin 24, s.sys.blkHeld = 0 → s.sys.instHeld = some (2, k.val) →
          t.get (LOOP_STATUS.STATE k) = bit (s.flag (LOOP_CFG.EN k)) ∧ t.get (LOOP_STATUS.FIRST_DONE k) = 0) ∧
        (∀ n : Fin 8, s.sys.blkHeld = 0 → s.sys.instHeld = some (11, n.val) → lkOn s n = true → lkState s n = 0 → (lkSt s n).lock = true →
          t.get (LK_STATUS.STATE n) = 1) ∧
        OnlyParts [.bar2, .sys, .tb, .rgs, .loops, .ens, .out, .mac, .ans, .ptp, .bne, .lnk, .pair] s t)) ∧
    ((s.phase = 0 → s.sys.strap ≠ 7 → s.sys.pfailHold = false → ∃ t, exec .pivotStable s = .next t ∧ t.phase = 1 ∧
        t.sys = { s.sys with warming := true } ∧ Out.uartPhase 1 ∈ t.outbox ∧ SameFields [CAT_STATUS.PHASE] s t ∧ OnlyParts [.sys] s t) ∧
      (s.phase ≠ 0 ∨ s.sys.strap = 7 ∨ s.sys.pfailHold = true → exec .pivotStable s = .next s) ∧
      (∀ (c : Instr) (p : Nat), (c, p) ∈ [(Instr.pllLocked, 1), (.warmupDone, 4)] → (s.phase ≠ p → exec c s = .next s) ∧
        (s.phase = p → ∃ t, exec c s = .next t ∧ t.phase = p + 1 ∧ Out.uartPhase (p + 1) ∈ t.outbox ∧ SameFields [CAT_STATUS.PHASE] s t ∧
          OnlyParts [] s t)) ∧
      (1 ≤ s.phase → s.phase ≤ 5 → ∃ t, exec .pivotLostAtStart s = .next t ∧ t.phase = 0 ∧ t.sys = { s.sys with warming := false } ∧
        (∀ k < 56, t.get (CDC_XS_STATUS.STATE_A k) = 2 ∧ t.get (CDC_XS_STATUS.STATE_B k) = if k = 31 ∨ k = 25 ∧ s.sys.perst = false then 1 else 2) ∧
        SameFields (CAT_STATUS.PHASE :: (List.range 56).flatMap fun k => [CDC_XS_STATUS.STATE_A k, CDC_XS_STATUS.STATE_B k]) s t ∧
        OnlyParts [.sys] s t) ∧
      (s.phase = 0 ∨ 6 ≤ s.phase → exec .pivotLostAtStart s = .next s)) ∧
    ((s.phase ≠ 2 → exec .factoryApplied s = .next s) ∧ (s.phase = 2 → ∃ t, exec .factoryApplied s = .next t ∧ t.phase = 3 ∧
        Out.uartPhase 3 ∈ t.outbox ∧ t.rf.img = [] ∧ t.rf.imgOn = true ∧
        (∀ ofs, tableGet s.rf.vals ofs = none → ofs ≠ CAT_STATUS.ofs → ofs < 0x20100 ∨ 0x20200 ≤ ofs → t.reg ofs = imageValue [] ofs) ∧
        (∀ k ∈ [0, 30, 31], s.flag (CDC_XS_STATUS.CLK_ABSENT k) = false → t.get (CDC_XS_STATUS.STATE_A k) = 3 ∧ t.get (CDC_XS_STATUS.STATE_B k) = 3) ∧
        t.get (CDC_XS_STATUS.STATE_B 25) = cdcSide (s.sys.perst || s.flag (CDC_XS_STATUS.CLK_ABSENT 25)) false (s.get (CDC_XS_STATUS.STATE_B 25))
          (s.get (CDC_XS_STATUS.STATE_A 25)) ∧
        OnlyParts [] s t)) ∧
    (∀ startMs : Nat, (s.phase ≠ 5 → exec (.restoreDone startMs) s = .next s) ∧
      (s.phase = 5 → ∃ t, exec (.restoreDone startMs) s = .next t ∧ t.phase = 6 ∧ Out.uartPhase 6 ∈ t.outbox ∧
        t.get CAT_DEVICE.START_MS = min startMs 0xFFFF ∧ t.get TB_STATUS.PREAUTH = s.get TB_CFG.PREAUTH_AT_START ∧
        (∀ f ∈ [TB_STATUS.READY, EVT_STATUS.READY, RGS_STATUS.READY, LOOP_GLB_STATUS.READY, ENS_STATUS.READY, OUT_GLB_STATUS.READY,
          GNSS_STATUS.READY, ANS_GLB_STATUS.READY, PTP_STATUS.READY, LK_GLB_STATUS.READY, VIT_STATUS.READY, CON_STATUS.READY,
          CDC_STATUS.READY, HIF_STATUS.READY], t.get f = 1) ∧
        t.ans.book = [] ∧ (s.flag CDC_FLAGS.D2D_FAULT = true → Raised 3 t) ∧ (s.flag CON_FLAGS.WD_EXPIRED = true → Raised 30 t) ∧
        (ckptNewest s = none → t.get CAT_STATUS.CKPT_PARTIAL = 0 ∧ t.prov.boot = 1 ∧ t.prov.last = none ∧ t.tb.dev = s.tb.dev) ∧
        (∀ i pos ck, ckptNewest s = some (i, pos, ck) → t.get CAT_STATUS.CKPT_PARTIAL = (if ck.hash = catHash s then 0 else 1) ∧
          t.tb.dev = ck.dev ∧ t.tb.utcOfs = ck.utcOfs ∧ t.tb.leap = ck.leap ∧ t.get TB_STATUS.TIME_SRC = 1 ∧
          t.get64 CON_CKPT_SEQ.ofs = ck.seq % 2 ^ 64 ∧ t.get CON_CKPT_INFO.RESTORED = 1 ∧
          t.nts.cur = ck.cur.bind ntsUnwrap ∧ t.nts.old1 = ck.old1.bind ntsUnwrap ∧ t.nts.old2 = ck.old2.bind ntsUnwrap ∧ t.prov.boot = ck.boot + 1 ∧ t.prov.last = ck.last) ∧
        OnlyParts [.bar2, .sys, .tb, .rgs, .loops, .ens, .out, .mac, .ans, .nts, .ptp, .bne, .prov, .lnk, .pair, .con] s t))

/-- The selection of R338 at start-up and at a live load, and the NV, CHECK and one-time-programmable commands. -/
def Obligations.ImagesAreSelectedAndTheNvMemoryIsWritten : Prop :=
  ∀ s : State, s.Wf →
    (∀ (a b' : Bool) (c : Instr) (p : Nat), (c = .imageSelected a b' ∧ p = 3 ∨ c = .liveLoadDone a b' ∧ p = 7) → (s.phase ≠ p → exec c s = .next s) ∧
      (s.phase = p → let first := if bankPresent s.nv 1 = true ∧ (bankPresent s.nv 0 = false ∨ bankSeq s.nv 0 < bankSeq s.nv 1) then 1 else 0
      let other := 1 - first
      let ans := fun b : Nat => if b = 0 then a else b'
      let r := catCheck first (ans first) s
      let q := catCheck other (ans other) s
      ∃ t, exec c s = .next t ∧ t.phase = (if p = 3 then 4 else 6) ∧ ((∀ r ∈ t.rf.img, r.ofs ≠ CAT_CFG.ofs) → t.get CAT_CFG.FACTORY_NEXT = 0) ∧
      (s.flag CAT_CFG.FACTORY_NEXT = true → t.get CAT_STATUS.SOURCE = 1 ∧ t.get CAT_STATUS.FALLBACK = 0 ∧ t.get CAT_STATUS.OLDER_IMAGE = 0 ∧
        t.rf.img = [] ∧ catHash t = leBytes 32 Config.factoryHash.toNat) ∧
      (s.flag CAT_CFG.FACTORY_NEXT = false → r.1 = 0 → t.get CAT_STATUS.SOURCE = 2 + first ∧ t.get CAT_STATUS.FALLBACK = 0 ∧
        t.get CAT_STATUS.OLDER_IMAGE = 0 ∧ t.rf.img = imgRecs (bankImage s.nv first) ∧ catHash t = sha256 (bankImage s.nv first) ∧
        t.get CAT_STATUS.SIG_UNCHECKED = bit (imgSigned (bankImage s.nv first) && s.sys.ownerKey.isNone)) ∧
      (s.flag CAT_CFG.FACTORY_NEXT = false → r.1 ≠ 0 → q.1 = 0 → t.get CAT_STATUS.SOURCE = 2 + other ∧ t.get CAT_STATUS.FALLBACK = 0 ∧
        t.get CAT_STATUS.OLDER_IMAGE = 1 ∧ t.rf.img = imgRecs (bankImage s.nv other) ∧ catHash t = sha256 (bankImage s.nv other) ∧
        t.get (CAT_BANK_STATUS.REASON first) = r.1) ∧
      (s.flag CAT_CFG.FACTORY_NEXT = false → r.1 ≠ 0 → q.1 ≠ 0 → t.get CAT_STATUS.SOURCE = 1 ∧ t.rf.img = [] ∧
        t.get CAT_STATUS.FALLBACK = bit (bankPresent s.nv 0 || bankPresent s.nv 1) ∧
        (bankPresent s.nv 0 = true ∨ bankPresent s.nv 1 = true → t.get CAT_FLAGS.FALLBACK_EV = 1) ∧
        t.get (CAT_BANK_STATUS.REASON first) = r.1 ∧ t.get (CAT_BANK_STATUS.REASON other) = q.1) ∧ 
      (p = 3 → t.tb = { s.tb with utcOfs := t.getI TB_UTC_OFS.OFS } ∧ t.prov = { s.prov with cfgWrites := 0 } ∧ OnlyParts [.tb, .prov] s t) ∧
      (p = 7 → t.tb.dev = s.tb.dev ∧ t.prov.cfgWrites = 0 ∧ t.tb.reports = [] ∧ t.sys = { s.sys with blkHeld := 0, instHeld := none, xsHeld := t.sys.xsHeld } ∧
        t.get GLB_RST_STATUS.BUSY = 0 ∧ t.get RGS_STATUS.READY = 1 ∧ t.get OUT_GLB_STATUS.READY = 1 ∧
        OnlyParts [.bar2, .sys, .tb, .evt, .rgs, .loops, .ens, .out, .gnss, .mac, .ans, .nts, .ptp, .bne, .prov, .lnk, .pair, .hif, .vit] s t))) ∧
    ((coreRuns s = false → exec .reload s = .next s) ∧ (coreRuns s = true → s.flag CAT_NV_STATUS.BUSY = true ∨ s.phase ≠ 6 → ∃ t, exec .reload s = .next t ∧
        t.get CAT_FLAGS.CFG_BAD = 1 ∧ SameOffIrq [CAT_FLAGS.CFG_BAD] s t ∧ OnlyParts [] s t) ∧
      (coreRuns s = true → s.phase = 6 → s.flag CAT_NV_STATUS.BUSY = false → ∃ t, exec .reload s = .next t ∧ t.phase = 7 ∧ Out.uartPhase 7 ∈ t.outbox ∧
        SameFields [CAT_STATUS.PHASE] s t ∧ OnlyParts [] s t)) ∧
    (∀ (c : Instr) (op : CatOp) (at_ n : Nat), let addr := s.get CAT_NV_ADDR.ADDR
      (c = .nvRead ∧ op = .read at_ ∧ at_ = addr ∧ n = 256 ∨ c = .nvProgram ∧ op = .program at_ s.cat.page ∧ at_ = addr / 256 * 256 ∧ n = 256 ∨
        c = .nvErase ∧ op = .erase at_ ∧ at_ = addr / 65536 * 65536 ∧ n = 65536) →
      let inUse := fun bank src : Nat => s.get CAT_STATUS.SOURCE = src ∧ at_ < 0x800000 * bank + 0x800000 ∧ 0x800000 * bank < at_ + n
      let denied := 0x1000000 < at_ + n ∨ inUse 0 2 ∨ inUse 1 3
      (coreRuns s = false → exec c s = .next s) ∧
      (coreRuns s = true → s.flag CAT_NV_STATUS.BUSY = true → ∃ t, exec c s = .next t ∧ t.get CAT_FLAGS.CFG_BAD = 1 ∧
        SameOffIrq [CAT_FLAGS.CFG_BAD] s t ∧ OnlyParts [] s t) ∧
      (coreRuns s = true → s.flag CAT_NV_STATUS.BUSY = false → denied → ∃ t, exec c s = .next t ∧ t.get CAT_FLAGS.NV_PROTECT = 1 ∧
        SameOffIrq [CAT_FLAGS.NV_PROTECT] s t ∧ OnlyParts [] s t) ∧
      (coreRuns s = true → s.flag CAT_NV_STATUS.BUSY = false → ¬ denied →
        (s.get (CDC_XS_STATUS.STATE_A 30) = 0 → ∃ t, exec c s = .next t ∧ t.get CAT_NV_STATUS.BUSY = 1 ∧
          t.cat = { s.cat with op := some op } ∧ SameFields [CAT_NV_STATUS.BUSY] s t ∧ OnlyParts [.cat] s t) ∧
        (s.get (CDC_XS_STATUS.STATE_A 30) = 1 → ∃ t, exec c s = .next t ∧ t.get CDC_FLAGS.DROP_EV = 1 ∧
          t.get (CDC_XS_CNT.DROPPED 30) = min (s.get (CDC_XS_CNT.DROPPED 30) + 1) (2 ^ 16 - 1) ∧
          SameOffIrq [CDC_FLAGS.DROP_EV, CDC_XS_CNT.DROPPED 30] s t ∧ OnlyParts [] s t) ∧
        (s.get (CDC_XS_STATUS.STATE_A 30) = 2 → exec c s = .next s) ∧
        (s.get (CDC_XS_STATUS.STATE_A 30) = 3 → exec c s = .next { s with sys := { s.sys with
          xsHeld := tableSet s.sys.xsHeld 30 ((tableGet s.sys.xsHeld 30).getD 0 + 1) } }))) ∧
    (∀ bank : Fin 2, (coreRuns s = false → exec (.check bank) s = .next s) ∧
      (coreRuns s = true → s.flag CAT_NV_STATUS.BUSY = true → ∃ t, exec (.check bank) s = .next t ∧ t.get CAT_FLAGS.CFG_BAD = 1 ∧
        SameOffIrq [CAT_FLAGS.CFG_BAD] s t ∧ OnlyParts [] s t) ∧
      (coreRuns s = true → s.flag CAT_NV_STATUS.BUSY = false → ∃ t, exec (.check bank) s = .next t ∧ t.get CAT_NV_STATUS.BUSY = 1 ∧
        t.cat = { s.cat with op := some (.check bank) } ∧ SameFields [CAT_NV_STATUS.BUSY] s t ∧ OnlyParts [.cat] s t)) ∧
    (∀ ok : Bool, (s.cat.op = none → exec (.nvCommandDone ok) s = .next s ∧ exec (.checkDone ok) s = .next s) ∧
      (∀ a, s.cat.op = some (.erase a) → s.sys.pfailLow = true → exec (.nvCommandDone ok) s = .next s) ∧
      (∀ op, s.cat.op = some op → (∀ bank, op ≠ .check bank) → exec (.checkDone ok) s = .next s ∧ (s.sys.pfailLow = false ∨ (∀ a, op ≠ .erase a) →
        ∃ t, exec (.nvCommandDone ok) s = .next t ∧
        t.get CAT_NV_STATUS.BUSY = 0 ∧ t.cat.op = none ∧ t.cat.word = 0 ∧
        (ok = false → t.get CAT_FLAGS.NV_ERR = 1 ∧ t.cat.page = s.cat.page) ∧
        (∀ a, ok = true → op = .read a → t.cat.page = memBytes nvErased s.nv a 256 ∧ t.nv = s.nv) ∧
        (∀ a, op = .read a → t.nv = s.nv) ∧
        (∀ a page, ok = true → op = .program a page → memBytes nvErased t.nv a page.length = page) ∧
        (∀ a page x, op = .program a page → x < a ∨ a + page.length ≤ x → memByte nvErased t.nv x = memByte nvErased s.nv x) ∧
        (∀ a x, op = .erase a → x < a ∨ a + 65536 ≤ x → memByte nvErased t.nv x = memByte nvErased s.nv x) ∧
        (∀ a x, ok = true → op = .erase a → a ≤ x → x < a + 65536 → memByte nvErased t.nv x = 0xFF) ∧
        SameOffIrq [CAT_NV_STATUS.BUSY, CAT_FLAGS.NV_ERR] s t ∧ OnlyParts [.nv, .cat] s t)) ∧
      (∀ bank : Fin 2, s.cat.op = some (.check bank) → exec (.nvCommandDone ok) s = .next s ∧ ∃ t, exec (.checkDone ok) s = .next t ∧
        let r := if ok then bankCheck s.nv bank s.sys.ownerKey s.sys.sigReq s.sys.strap else (9, 0)
        t.get CAT_NV_STATUS.BUSY = 0 ∧ t.cat.op = none ∧ t.get CAT_FLAGS.CHECK_DONE = 1 ∧ t.get (CAT_BANK_STATUS.CHECKED bank) = 1 ∧
        t.get (CAT_BANK_STATUS.REASON bank) = r.1 % 16 ∧ t.get (CAT_BANK_STATUS.DETAIL bank) = r.2 % 256 ∧
        t.get (CAT_BANK_STATUS.PRESENT bank) = bit (bankPresent s.nv bank) ∧ (r.1 = 9 → t.get CAT_FLAGS.NV_ERR = 1) ∧
        SameOffIrq [CAT_NV_STATUS.BUSY, CAT_FLAGS.NV_ERR, CAT_FLAGS.CHECK_DONE, CAT_BANK_STATUS.PRESENT bank, CAT_BANK_STATUS.CHECKED bank,
          CAT_BANK_STATUS.REASON bank, CAT_BANK_STATUS.DETAIL bank, CAT_BANK_SEQ.SEQ bank] s t ∧ OnlyParts [.cat] s t)) ∧
    (∀ v : Word, s.hostReach .cat none = true →
      (∃ t, exec (.nvDataAccess true v) s = .next t ∧ SameFields [] s t ∧ OnlyParts [.cat] s t ∧
        t.cat = { s.cat with word := (s.cat.word + 1) % 64,
                             page := s.cat.page.take (4 * s.cat.word) ++ leBytes 4 v.toNat ++ s.cat.page.drop (4 * s.cat.word + 4) }) ∧
      (∃ t, exec (.nvDataAccess false v) s = .next t ∧ SameFields [] s t ∧ OnlyParts [.sys, .cat] s t ∧
        t.sys = { s.sys with rdata := BitVec.ofNat 32 (leNat ((s.cat.page.drop (4 * s.cat.word)).take 4)) } ∧
        t.cat = { s.cat with word := (s.cat.word + 1) % 64 })) ∧
    (∀ confirm : BitVec 8, (coreRuns s = false → exec (.programKey confirm) s = .next s ∧ exec (.programSigReq confirm) s = .next s) ∧
      (coreRuns s = true → ∀ c, (c = .programKey confirm ∧ (confirm ≠ 0x5A ∨ s.sys.ownerKey.isSome = true) ∨
          c = .programSigReq confirm ∧ (confirm ≠ 0x5A ∨ s.sys.ownerKey = none)) → ∃ t, exec c s = .next t ∧ t.get CAT_FLAGS.OTP_ERR = 1 ∧
        SameOffIrq [CAT_FLAGS.OTP_ERR] s t ∧ OnlyParts [] s t) ∧
      (coreRuns s = true → s.sys.ownerKey = none → let key := (List.range 8).flatMap fun w => leBytes 4 (s.reg (CAT_OWNER_KEY.ofs w)).toNat;
        exec (.programKey 0x5A) s = .next { s with sys := { s.sys with ownerKey := some key } }) ∧
      (coreRuns s = true → s.sys.ownerKey.isSome = true → exec (.programSigReq 0x5A) s = .next { s with sys := { s.sys with sigReq := true } }))

/-- Checkpoints are latched by request, written to the older slot, committed or failed; erase-ahead; PFAIL_N. -/
def Obligations.CheckpointsAreLatchedWrittenAndCommitted : Prop :=
  ∀ s : State, s.Wf →
    (∀ (c : Instr) (kind at_ : Nat), (c = .checkpointPeriodic at_ ∧ s.flag CON_CFG.CKPT_EN = true ∧
          kind = (if s.con.blockReq then 1 else if s.con.hostReq then 2 else 0) ∨
        c = .ckptNow at_ ∧ kind = (if s.con.blockReq then 1 else 2) ∨ c = .checkpointRequest at_ ∧ s.con.blockReq = true ∧ kind = 1) →
      s.live .con = true → s.con.writing = none → s.sys.pfailLow = false → s.sys.pivotFault = false →
      let i := ckptTarget s
      let slot := ckptSlot s i
      let ck := ckptLatch kind at_ s
      3 ≤ slot.erased → ∃ t, exec c s = .next t ∧ t.con.blockReq = false ∧ t.con.hostReq = false ∧ t.con.perReq = false ∧
      t.con.latchedAt = some (s.pivotAt at_) ∧
      (t.get CON_STATUS.CKPT_BUSY = 1 ∧ t.con.writing = some ⟨i, slot.next, ck⟩ ∧
        t.slots = s.slots.modify i (fun x => { x with next := (x.next + 1) % 1024, erased := x.erased - 1 }) ∧
        ck.kind = kind ∧ ck.dev = s.timeAt at_ ∧ ck.hash = catHash s ∧ ck.utcOfs = s.tb.utcOfs ∧ ck.leap = s.tb.leap ∧
        ck.boot = s.prov.boot ∧ ck.last = s.prov.last ∧ (∀ ofs ∈ ckptRegs, (ofs, s.reg ofs) ∈ ck.regs) ∧
        (s.nts.staging = none → ck.cur = s.nts.cur.map ntsWrap ∧ ck.old1 = s.nts.old1.map ntsWrap ∧ ck.old2 = s.nts.old2.map ntsWrap) ∧
        (s.nts.staging.isSome = true → ck.cur = s.nts.staging.map ntsWrap ∧ ck.old1 = s.nts.cur.map ntsWrap ∧ ck.old2 = s.nts.old1.map ntsWrap) ∧
        (∀ n, ckptNewest s = some n → ck.seq = n.2.2.seq + 1 ∧ (n.1 < 2 → i ≠ n.1)) ∧
        SameFields [CON_STATUS.CKPT_BUSY] s t ∧ OnlyParts [.slots, .con] s t)) ∧
    (∀ at_ : Nat, let full := (ckptSlot s (ckptTarget s)).erased < 3;
      (s.con.writing.isSome = true ∨ s.sys.pfailLow = true ∨ s.sys.pivotFault = true ∨ full → exec (.checkpointRequest at_) s = .next s) ∧
      (s.live .con = false → exec (.ckptNow at_) s = .next s ∧ exec (.checkpointPeriodic at_) s = .next s) ∧
      (s.live .con = true → s.con.writing.isSome = true ∨ s.sys.pfailLow = true ∨ s.sys.pivotFault = true ∨ full →
        exec (.ckptNow at_) s = .next { s with con := { s.con with hostReq := true } }) ∧
      (s.flag CON_CFG.CKPT_EN = false ∨ s.sys.pfailLow = true → exec (.checkpointPeriodic at_) s = .next s) ∧
      (s.live .con = true → s.flag CON_CFG.CKPT_EN = true → s.sys.pfailLow = false → s.con.writing.isSome = true ∨ s.sys.pivotFault = true ∨ full →
        exec (.checkpointPeriodic at_) s = .next { s with con := { s.con with perReq := true } })) ∧
    (∀ v : Word, s.hostReach .con none = true → ∃ t, exec (.checkpointConfigWrite v) s = .next t ∧ t.get CON_CFG.CKPT_EN = v.toNat % 2 ∧
      t.get CON_CFG.HOST_WD_EN = v.toNat / 2 % 2 ∧ t.get CON_CFG.PERIOD = min 3600 (max 1 (v.toNat / 2 ^ 16)) ∧
      SameFields [whole CON_CFG.ofs] s t ∧ OnlyParts [.prov] s t ∧ CfgWrites s t) ∧
    (∀ (ok : Bool) (at_ : Nat), (s.con.writing = none → exec (.checkpointCommit ok at_) s = .next s) ∧
      ∀ w, s.con.writing = some w → w.slot < s.slots.length → ∃ t, exec (.checkpointCommit ok at_) s = .next t ∧
      (ok = false → t.get CON_FLAGS.CKPT_FAIL = 1) ∧
      (ok = false → s.con.blockReq = false → s.con.hostReq = false → s.con.perReq = false → t.con = { s.con with writing := none } ∧
        t.get CON_STATUS.CKPT_BUSY = 0 ∧ t.get CON_CKPT_CNT.FAILS = min (s.get CON_CKPT_CNT.FAILS + 1) (2 ^ 16 - 1) ∧
        t.slots = s.slots.modify w.slot (fun c => { c with stored := tableSet c.stored w.pos (ckptImage w.slot w.ck false) }) ∧
        OnlyParts [.slots, .con] s t) ∧
      (ok = true → tableGet (ckptSlot t w.slot).stored w.pos = some (ckptImage w.slot w.ck true) ∧ t.get64 CON_CKPT_SEQ.ofs = w.ck.seq % 2 ^ 64 ∧
        t.get CON_STATUS.NEWEST_SLOT = w.slot ∧ t.get CON_CKPT_CNT.WRITES = min (s.get CON_CKPT_CNT.WRITES + 1) (2 ^ 16 - 1) ∧
        t.get CON_FLAGS.CKPT_DONE = 1 ∧
        (s.con.blockReq = false → s.con.hostReq = false → s.con.perReq = false → t.con = { s.con with writing := none } ∧
          t.get CON_STATUS.CKPT_BUSY = 0) ∧
        (∀ k, s.nts.staging = some k → w.ck.staged = some k.gen → s.get NTS_STATUS.ROT_STATE = 2 → pairActive s = false →
          t.nts.cur = some k ∧ t.nts.old1 = s.nts.cur ∧ t.nts.old2 = s.nts.old1 ∧ t.nts.staging = none ∧ t.get NTS_FLAGS.ROTATED = 1) ∧
        (s.nts.staging = none → t.nts = s.nts) ∧
        (w.ck.boot = s.prov.boot → s.prov.booting = true → s.flag PROV_CFG.EN = true → s.sys.pivotFault = false → s.sys.pfailLow = false →
          t.prov.booting = false ∧ t.prov.restarted = true)) ∧
      (∀ g : Fld, offIrq g.ofs → g.ofs < 0x50000 ∨ 0x60000 ≤ g.ofs → g.ofs < 0x480000 ∨ 0x490000 ≤ g.ofs → g.ofs < 0x600000 ∨ 0x610000 ≤ g.ofs →
        t.get g = s.get g) ∧ OnlyParts [.slots, .nts, .prov, .pair, .con] s t) ∧
    (∀ at_ : Nat, (s.live .con = true → s.con.writing.isSome = true ∨ s.con.blockReq = true ∨ s.con.hostReq = true ∨ s.con.perReq = true →
        ∃ t, exec (.checkpointLate at_) s = .next t ∧ t.get ⟨CON_DL_FLAGS.FAULT.ofs, 6, 1⟩ = 1 ∧ Raised 22 t ∧
        t.get (CON_DL_CNT.COUNT 6) = min (s.get (CON_DL_CNT.COUNT 6) + 1) (2 ^ (CON_DL_CNT.COUNT 6).width - 1) ∧ t.con.writing = s.con.writing ∧
        SameOffIrq [CON_DL_CNT.COUNT 6, ⟨CON_DL_FLAGS.FAULT.ofs, 6, 1⟩] s t ∧ OnlyParts [.con] s t) ∧
      (s.con.writing = none → s.con.blockReq = false → s.con.hostReq = false → s.con.perReq = false → exec (.checkpointLate at_) s = .next s)) ∧
    ((s.live .con = false ∨ s.con.erasing.isSome = true ∨ s.sys.pfailLow = true ∨ ckptNextErase s 0 = none ∧ ckptNextErase s 1 = none →
        exec .eraseAhead s = .next s) ∧
      (∀ (i : Fin 2) sector, s.live .con = true → s.con.erasing = none → s.sys.pfailLow = false → ckptNextErase s i = some sector →
        i = 0 ∨ ckptNextErase s 0 = none → ∃ t, exec .eraseAhead s = .next t ∧ t.get CON_STATUS.ERASING = 1 ∧
        t.con = { s.con with erasing := some (i.val, sector) } ∧ SameFields [CON_STATUS.ERASING] s t ∧ OnlyParts [.con] s t) ∧
      (∀ at_, s.con.erasing = none ∨ s.sys.pfailLow = true → exec (.eraseDone at_) s = .next s) ∧
      (∀ (i : Fin 2) sector at_, s.con.erasing = some (i.val, sector) → s.sys.pfailLow = false → s.live .con = true →
        s.con.writing = none → s.sys.pivotFault = false → s.con.blockReq = true →
        let u := ckptErased i sector s
        let slot := ckptSlot u (ckptTarget u)
        3 ≤ slot.erased → ∃ t, exec (.eraseDone at_) s = .next t ∧ t.con.erasing = none ∧ t.con.blockReq = false ∧
          t.con.writing = some ⟨ckptTarget u, slot.next, ckptLatch 1 at_ u⟩ ∧ t.get CON_STATUS.CKPT_BUSY = 1 ∧
          SameOffIrq [CON_STATUS.CKPT_BUSY] u t ∧ OnlyParts [.slots, .con] s t) ∧
      (∀ (i : Fin 2) sector at_, s.con.erasing = some (i.val, sector) → s.sys.pfailLow = false → s.con.blockReq = false →
        s.con.hostReq = false → s.con.perReq = false → ∃ t, exec (.eraseDone at_) s = .next t ∧
        let wear := (tableGet (ckptSlot s i).wear sector).getD 0 + 1
        t.get CON_STATUS.ERASING = 0 ∧ t.con = { s.con with erasing := none } ∧
        (ckptSlot t i).erased = (ckptSlot s i).erased + 8 ∧ (ckptSlot t i).next = (ckptSlot s i).next ∧
        tableGet (ckptSlot t i).wear sector = some wear ∧ (∀ p ∈ (ckptSlot t i).stored, p.1 / 8 ≠ sector) ∧
        (∀ p ∈ (ckptSlot s i).stored, p.1 / 8 ≠ sector → p ∈ (ckptSlot t i).stored) ∧
        t.get CON_WEAR.MAX_ERASE = min 0xFFFFFF (ckptMaxWear t) ∧ (90000 < wear → t.get CON_FLAGS.WEAR_WARN = 1) ∧
        SameOffIrq [CON_STATUS.ERASING, CON_WEAR.MAX_ERASE, CON_FLAGS.WEAR_WARN] s t ∧ OnlyParts [.slots, .con] s t)) ∧
    (∀ at_ : Nat, (s.sys.pfailLow = true → exec (.pfailLow at_) s = .next s) ∧
      (s.sys.pfailLow = false → ∃ t, exec (.pfailLow at_) s = .next t ∧ t.sys = { s.sys with pfailLow := true, xsHeld := t.sys.xsHeld } ∧
        let u := if s.live .con = true ∧ s.con.writing.isSome = true then ckptFail s else s
        let may := s.live .con = true ∧ s.sys.pivotFault = false ∧ ∀ h, s.con.pfailHighAt = some h → h + 10 * tickUnits ≤ s.pivotAt at_
        (may → (ckptSlot u (ckptTarget u)).erased ≠ 0 → t.get CON_STATUS.CKPT_BUSY = 1 ∧
          t.con.writing = some ⟨ckptTarget u, (ckptSlot u (ckptTarget u)).next, ckptLatch 3 at_ u⟩) ∧
        (s.live .con = true → s.con.writing.isSome = true → t.get CON_FLAGS.CKPT_FAIL = 1) ∧ (¬ may → t.con = u.con ∧ t.slots = u.slots) ∧
        (s.live .evt = true → t.get EVT_STATUS.PFAIL_HOLD = 1) ∧ (s.live .prov = true → t.prov.latched = []) ∧
        (s.live .bne = true → ∀ a, a < 16 * bneWindow → memByte bar2Zero t.bar2 a = 0) ∧
        (∀ a page, s.cat.op = some (.program a page) → t.cat.op = none ∧ t.get CAT_NV_STATUS.BUSY = 0) ∧
        ((∀ a page, s.cat.op ≠ some (.program a page)) → t.nv = s.nv ∧ t.cat = s.cat) ∧
        (∀ g : Fld, offIrq g.ofs → g.ofs < 0x50000 ∨ 0x60000 ≤ g.ofs → g.ofs < 0x100000 ∨ 0x210000 ≤ g.ofs → g.ofs < 0x10000 ∨ 0x30000 ≤ g.ofs →
          g.ofs < 0x580000 ∨ 0x590000 ≤ g.ofs → g.ofs < 0x600000 ∨ 0x610000 ≤ g.ofs →
          g.ofs < 0x780000 ∨ 0x790000 ≤ g.ofs → t.get g = s.get g) ∧
        OnlyParts [.nv, .slots, .bar2, .sys, .evt, .gnss, .bne, .prov, .hif, .con, .cat] s t)) ∧
    (∀ at_ : Nat, (s.sys.pfailLow = false → exec (.pfailHigh at_) s = .next s) ∧
      (s.sys.pfailLow = true → ∃ t, exec (.pfailHigh at_) s = .next t ∧ t.sys = { s.sys with pfailLow := false, pfailHold := false } ∧
        t.con.pfailHighAt = some (s.pivotAt at_) ∧ (s.live .evt = true → t.get EVT_STATUS.PFAIL_HOLD = 0) ∧
        (s.con.blockReq = false → s.con.hostReq = false → s.con.perReq = false →
          t.con = { s.con with pfailHighAt := some (s.pivotAt at_) } ∧ SameFields [EVT_STATUS.PFAIL_HOLD] s t ∧ t.slots = s.slots) ∧
        (s.live .con = true → s.con.writing = none → s.sys.pivotFault = false → s.con.blockReq = true →
          3 ≤ (ckptSlot s (ckptTarget s)).erased → t.get CON_STATUS.CKPT_BUSY = 1 ∧
          t.con.writing = some ⟨ckptTarget s, (ckptSlot s (ckptTarget s)).next, ckptLatch 1 at_ s⟩) ∧
        SameOffIrq [EVT_STATUS.PFAIL_HOLD, CON_STATUS.CKPT_BUSY, CON_CKPT_CNT.FAILS, CON_FLAGS.CKPT_FAIL] s t ∧
        OnlyParts [.slots, .sys, .evt, .con] s t))

/-- Scrub passes, calibrations, telemetry, the watchdog kick and self-tests of the Conservator. -/
def Obligations.TheConservatorScrubsCalibratesAndTests : Prop :=
  ∀ s : State, s.Wf →
    (∀ (read : Bool) (errors : List EccError) (at_ : Nat), (s.live .con = false → exec (.scrubPass read errors at_) s = .next s) ∧ (s.live .con = true →
      ∃ t, exec (.scrubPass read errors at_) s = .next t ∧ t.con.scrub = (read && s.con.scrub) ∧
      t.get CON_ECC_CNT.UE = min (s.get CON_ECC_CNT.UE + (errors.filter (·.ue)).length) (2 ^ 16 - 1) ∧
      t.get CON_ECC_CNT.CE = min (s.get CON_ECC_CNT.CE + (errors.filter (!·.ue)).length) (2 ^ 16 - 1) ∧
      ((∃ e ∈ errors, e.ue = true) → t.get CON_FLAGS.ECC_UE = 1 ∧ Raised 25 t) ∧ ((∃ e ∈ errors, e.ue = false) → t.get CON_FLAGS.ECC_CE = 1) ∧
      (∀ e, errors.getLast? = some e → t.get CON_ECC_LAST.WORD = e.word.toNat ∧ t.get CON_ECC_LAST.REGION = eccRegion e.place ∧
        t.get CON_ECC_LAST.UE = bit e.ue) ∧
      ((∀ e ∈ errors, e.ue = false) → SameOffIrq [whole CON_ECC_LAST.ofs, CON_ECC_CNT.CE, CON_FLAGS.ECC_CE] s t ∧ OnlyParts [.con] s t) ∧
      OnlyParts [.slots, .evt, .mac, .ans, .ptp, .bne, .pair, .hif, .con] s t)) ∧
    (∀ (read : Bool) (w : BitVec 23) (p : EccPlace) (at_ : Nat), s.live .con = true → ∃ t, exec (.scrubPass read [⟨w, p, true⟩] at_) s = .next t ∧
      (∀ b, p = .book b → t.ans = { s.ans with book := s.ans.book.filter fun e => decide (e.1 / 4 ≠ b.val) } ∧ OnlyParts [.ans, .con] s t) ∧
      (∀ n i, p = .record n i → (evtChan t n).queue = ((evtChan s n).queue.eraseIdx i).modify i (fun r => { r with flags := r.flags ||| 1 }) ∧
        ((evtChan s n).queue.length = i + 1 → (evtChan t n).destroyed = true) ∧ OnlyParts [.evt, .con] s t) ∧
      (p = .pool → OnlyParts [.con] s t) ∧ (∀ e, p = .client e → tableGet t.ptp.table e.val = none ∧ OnlyParts [.ptp, .con] s t) ∧
      (∀ j, p = .window j → bneStateOf s j ≤ 2 → t.get (BNE_SLOT_STATUS.STATE j) = 3 ∧ t.bar2 = s.bar2 ∧ OnlyParts [.bne, .con] s t) ∧
      (p = .checkpoint → (s.con.writing.isSome = true → t.get CON_FLAGS.CKPT_FAIL = 1) ∧
        (s.con.blockReq = false → s.con.hostReq = false → s.con.perReq = false → t.con.writing = none) ∧ OnlyParts [.slots, .con] s t) ∧
      (∀ n i, p = .frame n i → (macPort t n).waiting = (macPort s n).waiting.eraseIdx i ∧
        (∀ fr, (macPort s n).waiting[i]? = some fr → fr.inst = none → beNat ((fr.bytes.drop 12).take 2) ≠ 0x8809 →
          t.get (HIF_Q_CNT.DROPS (20 + n.val)) = min (s.get (HIF_Q_CNT.DROPS (20 + n.val)) + 1) (2 ^ 16 - 1)) ∧ OnlyParts [.mac, .con] s t) ∧
      (∀ n i r, p = .reserved n i → (macPort s n).resv[i]? = some r → (macPort t n).resv[i]? = some { r with frame := none } ∧
        OnlyParts [.mac, .ptp, .con] s t) ∧
      (∀ k i r, p = .request k i → (ansPipe s k).reqs[i]? = some r → (∀ x ∈ (ansPipe t k).reqs, x.id ≠ r.id) ∧
        t.get (ANS_CNT_ERR2.ABORT k) = min (s.get (ANS_CNT_ERR2.ABORT k) + 1) (2 ^ (ANS_CNT_ERR2.ABORT k).width - 1) ∧
        OnlyParts [.mac, .ans, .pair, .con] s t) ∧
      (∀ n, p = .received n → t.get (HIF_Q_CNT.DROPS (12 + n.val)) = min (s.get (HIF_Q_CNT.DROPS (12 + n.val)) + 1) (2 ^ 16 - 1) ∧
        t.get HIF_FLAGS.DROP = 1 ∧ Raised 13 t ∧ OnlyParts [.con] s t) ∧
      (∀ q, p = .descriptor q → (hifQueue t q).fetched = (hifQueue s q).fetched.drop 1 ∧ OnlyParts [.hif, .con] s t)) ∧
    (∀ at_ : Nat, (s.live .con = false → exec .scrubNow s = .next s ∧ exec (.wdKick at_) s = .next s) ∧ (s.live .con = true →
      exec .scrubNow s = .next { s with con := { s.con with scrub := true } } ∧
      exec (.wdKick at_) s = .next { s with con := { s.con with kickAt := some (s.pivotAt at_) } })) ∧
    (∀ (out : Fin 16) (delay : Int) (at_ : Nat), (s.live .con = false ∨ s.live .out = false ∨ s.flag (OUT_CFG.EN out) = false →
        exec (.outputCal out delay at_) s = .next s) ∧
      (s.live .con = true → s.live .out = true → s.flag (OUT_CFG.EN out) = true → calBusy s = true →
        exec (.outputCal out delay at_) s = .next { s with con := { s.con with calWait := s.con.calWait ++ [(out.val, delay)] } }) ∧
      (s.live .con = true → s.live .out = true → s.flag (OUT_CFG.EN out) = true → calBusy s = false → ∃ t, exec (.outputCal out delay at_) s = .next t ∧
        t.con.calWait = [] ∧ SameOffIrq [CON_FLAGS.CAL_FAULT] s t ∧ OnlyParts [.con] s t) ∧
      (s.live .con = true → s.live .out = true → s.flag (OUT_CFG.EN out) = true → calBusy s = false → s.con.calWait = [] →
        let last := s.con.outDelays.getD out none
        ((∀ l, last = some l → 1000 * (delay - l.delay).natAbs ≤ 20 * 65536) →
          exec (.outputCal out delay at_) s = .next { s with con := { s.con with outDelays := s.con.outDelays.set out (some ⟨delay, outComp s out (s.timeAt at_), s.timeAt at_⟩) } }) ∧
        (∀ l, last = some l → 20 * 65536 < 1000 * (delay - l.delay).natAbs → ∃ t, exec (.outputCal out delay at_) s = .next t ∧
          t.get CON_FLAGS.CAL_FAULT = 1 ∧ (s.flag CON_FLAGS.CAL_FAULT = false → Raised 28 t) ∧ SameOffIrq [CON_FLAGS.CAL_FAULT] s t ∧
          OnlyParts [] s t))) ∧
    (∀ (n : Fin 8) (tx rx : Int), (s.live .con = false ∨ s.live .lnk = false → exec (.linkCal n tx rx) s = .next s) ∧
      (s.live .con = true → s.live .lnk = true → ∃ t, exec (.linkCal n tx rx) s = .next t ∧ let last := s.con.linkDelays.getD n none
        (last = none → t.getS (LK_TX_DLY_PH.ofs n) = sat64 tx ∧ t.getS (LK_RX_DLY_PH.ofs n) = sat64 rx ∧
          t.con = { s.con with linkDelays := s.con.linkDelays.set n (some (tx, rx)) }) ∧
        (∀ x y, last = some (x, y) → let okT := decide (1000 * (tx - x).natAbs ≤ 20 * 65536)
          let okR := decide (1000 * (rx - y).natAbs ≤ 20 * 65536)
          t.con = { s.con with linkDelays := s.con.linkDelays.set n (some (if okT then tx else x, if okR then rx else y)) } ∧
          t.getS (LK_TX_DLY_PH.ofs n) = (if okT then sat64 tx else s.getS (LK_TX_DLY_PH.ofs n)) ∧
          t.getS (LK_RX_DLY_PH.ofs n) = (if okR then sat64 rx else s.getS (LK_RX_DLY_PH.ofs n)) ∧
          (okT = false ∨ okR = false → t.get CON_FLAGS.CAL_FAULT = 1) ∧
          (okT = true → okR = true → t.get CON_FLAGS.CAL_FAULT = s.get CON_FLAGS.CAL_FAULT)) ∧
        SameOffIrq (CON_FLAGS.CAL_FAULT :: (pairOf (LK_TX_DLY_PH.ofs n) ++ pairOf (LK_RX_DLY_PH.ofs n))) s t ∧ OnlyParts [.con] s t)) ∧
    (∀ temps rails : List (BitVec 16), temps.length = 16 → rails.length = 8 →
      (s.live .con = false → exec (.telemetryRead temps rails) s = .next s) ∧
      (s.live .con = true → ∃ t, exec (.telemetryRead temps rails) s = .next t ∧
        (∀ i < 16, t.get (CON_TEMP.TEMP i) = (temps.getD i 0).toNat) ∧
        (∀ r < 8, let mv := (rails.getD r 0).toNat
          let v := (railNominal r).1
          let lim := (railNominal r).2
          t.get (CON_RAIL.MV r) = mv ∧ (t.get (CON_RAIL.LOW r) = 1 ↔ 100 * mv < v * (100 - lim)) ∧
          (t.get (CON_RAIL.HIGH r) = 1 ↔ v * (100 + lim) < 100 * mv)) ∧
        ((∃ x ∈ temps, s.getI CON_TEMP_LIM.TEMP_WARN ≤ x.toInt) → t.get CON_FLAGS.TEMP_HI = 1) ∧
        ((∀ x ∈ temps, x.toInt < s.getI CON_TEMP_LIM.TEMP_WARN) → t.get CON_FLAGS.TEMP_HI = s.get CON_FLAGS.TEMP_HI) ∧
        ((∃ r < 8, t.get (CON_RAIL.LOW r) = 1 ∨ t.get (CON_RAIL.HIGH r) = 1) → t.get CON_FLAGS.RAIL_BAD = 1) ∧
        SameOffIrq ([CON_FLAGS.TEMP_HI, CON_FLAGS.RAIL_BAD] ++ ((List.range 16).map fun i => CON_TEMP.TEMP i) ++
          (List.range 8).flatMap fun r => [CON_RAIL.MV r, CON_RAIL.LOW r, CON_RAIL.HIGH r]) s t ∧ OnlyParts [] s t)) ∧
    (∀ (target : BitVec 5) (force : Bool), let n := target.toNat
      let en := 1 ≤ n ∧ n ≤ 8 ∧ s.flag (EP_CFG.EN (n - 1)) = true ∨ 9 ≤ n ∧ n ≤ 16 ∧ s.flag (LK_CFG.EN (n - 9)) = true
      (s.live .con = false ∨ 16 < n ∨ s.con.test.isSome = true → exec (.conSelftest target force) s = .next s) ∧
      (s.live .con = true → n ≤ 16 → s.con.test = none → ¬ en →
        exec (.conSelftest target force) s = .next { s with con := { s.con with test := some n, scrub := s.con.scrub || n == 0 } }) ∧
      (s.live .con = true → s.con.test = none → en → force = false → ∃ t, exec (.conSelftest target force) s = .next t ∧
        t.get CON_FLAGS.BUSY_IN_SERVICE = 1 ∧ SameOffIrq [CON_FLAGS.BUSY_IN_SERVICE] s t ∧ OnlyParts [] s t) ∧
      (s.live .con = true → s.con.test = none → en → force = true → ∃ t, exec (.conSelftest target force) s = .next t ∧
        t.get CON_FLAGS.FORCED_OUT = 1 ∧ t.con = { s.con with test := some n } ∧
        (n ≤ 8 → t.get (EP_CFG.EN (n - 1)) = 0) ∧ (9 ≤ n → t.get (LK_CFG.EN (n - 9)) = 0 ∧ t.get (LK_STATUS.STATE (n - 9)) = 0) ∧
        (∀ g : Fld, offIrq g.ofs → g.apart CON_FLAGS.FORCED_OUT → g.ofs < 0x80000 ∨ 0xA0000 ≤ g.ofs → g.ofs < 0x300000 ∨ 0x380000 ≤ g.ofs →
          g.ofs < 0x680000 ∨ 0x690000 ≤ g.ofs → g.ofs < 0x20000 ∨ 0x30000 ≤ g.ofs → t.get g = s.get g) ∧
        OnlyParts [.sys, .tb, .rgs, .mac, .lnk, .con] s t)) ∧
    (∀ errors : Nat, (s.con.test = none → exec (.conSelftestDone errors) s = .next s) ∧ (∀ n, s.con.test = some n → ∃ t,
        exec (.conSelftestDone errors) s = .next t ∧ t.get CON_SELFTEST_RES.TARGET = n % 32 ∧
        (t.get CON_SELFTEST_RES.PASS = 1 ↔ errors = 0) ∧ t.get CON_SELFTEST_RES.ERRORS = min errors (2 ^ 26 - 1) ∧
        t.get CON_FLAGS.SELFTEST_DONE = 1 ∧ (s.flag CON_FLAGS.SELFTEST_DONE = false → Raised 29 t) ∧ t.con = { s.con with test := none } ∧
        SameOffIrq [CON_SELFTEST_RES.TARGET, CON_SELFTEST_RES.PASS, CON_SELFTEST_RES.ERRORS, CON_FLAGS.SELFTEST_DONE] s t ∧
        OnlyParts [.con] s t))

/-- The Vitrine's triggers latch a snapshot or are refused, and the interrupt controller serves its vectors. -/
def Obligations.SnapshotsLatchAndInterruptsAreServed : Prop :=
  ∀ s : State, s.Wf →
    (∀ at_ : Nat, s.hostReach .vit none = true → let now := s.timeAt at_
      ∃ t, exec (.vitTrig at_) s = .next t ∧
        (vitTwin s at_ = true → t.get VIT_STATUS.SRC = s.get VIT_STATUS.SRC ||| 1 ∧ t.vit.held = s.vit.held ∧
          SameFields [VIT_STATUS.SRC] s t) ∧
        (vitTwin s at_ = false → s.flag VIT_STATUS.HELD = true → s.flag VIT_CFG.LOCK = true → t.get VIT_CNT.MISSED = min (s.get VIT_CNT.MISSED + 1) (2 ^ 16 - 1) ∧
          t.get VIT_FLAGS.MISSED = 1 ∧ t.vit.held = s.vit.held ∧ SameOffIrq [VIT_CNT.MISSED, VIT_FLAGS.MISSED] s t) ∧
        (vitTwin s at_ = false → s.flag VIT_STATUS.HELD = false ∨ s.flag VIT_CFG.LOCK = false → t.get VIT_STATUS.HELD = 1 ∧ t.get VIT_STATUS.SRC = 1 ∧
          t.get VIT_SEQ.SEQ = (s.get VIT_SEQ.SEQ + 1) % 2 ^ 32 ∧ t.get64 VIT_TIME_SEC.ofs = secOf now ∧ t.get VIT_TIME_NS.NS = nsOf now ∧
          t.get VIT_TIME_FRAC.FRAC = fracOf now % 2 ^ 32 ∧ t.get VIT_CNT.TAKEN = min (s.get VIT_CNT.TAKEN + 1) (2 ^ 16 - 1) ∧
          t.get VIT_FLAGS.TAKEN = 1 ∧ (s.flag VIT_FLAGS.TAKEN = false → Raised 5 t) ∧ t.vit.latchedAt = some (s.pivotAt at_ / coreUnits) ∧
          (∃ f, t.vit.held = some f ∧ f.get64 TB_TIME_SEC.ofs = secOf now ∧ f.get TB_TIME_NS.NS = nsOf now ∧
            ∀ ofs, ofs ∉ snapViewed → ofs < 0x40000 ∨ 0x50000 ≤ ofs → ofs < 0x80000 ∨ 0x90000 ≤ ofs → f.reg ofs = s.reg ofs) ∧
          SameOffIrq ([VIT_STATUS.HELD, VIT_STATUS.SRC, VIT_SEQ.SEQ, VIT_TIME_NS.NS, VIT_TIME_FRAC.FRAC, VIT_CNT.TAKEN,
            VIT_FLAGS.TAKEN] ++ pairOf VIT_TIME_SEC.ofs) s t) ∧ OnlyParts [.vit] s t) ∧
    (∀ (pin : Fin 32) (rising : Bool) (at_ : Nat), let now := s.timeAt at_
      let watch := s.flag VIT_CFG.PIN_EN = true ∧ s.get VIT_CFG.PIN = pin.val ∧ s.get (TRG_CFG.MODE pin) = 0 ∧
        (s.get VIT_CFG.PIN_EDGE).testBit (if rising then 0 else 1) = true
      ∃ t, exec (.vitPinEdge pin rising at_) s = .next t ∧ t.sys = { s.sys with pins := t.sys.pins } ∧ t.sys.pins.testBit pin = rising ∧
      (∀ k, k ≠ pin.val → t.sys.pins.testBit k = s.sys.pins.testBit k) ∧
      (¬ watch ∨ s.live .vit = false → SameFields [] s t ∧ OnlyParts [.sys] s t) ∧
      (watch → s.live .vit = true →
        (vitTwin s at_ = true → t.get VIT_STATUS.SRC = s.get VIT_STATUS.SRC ||| 2 ∧ t.vit.held = s.vit.held ∧
          SameFields [VIT_STATUS.SRC] s t) ∧
        (vitTwin s at_ = false → s.flag VIT_STATUS.HELD = true → s.flag VIT_CFG.LOCK = true → t.get VIT_CNT.MISSED = min (s.get VIT_CNT.MISSED + 1) (2 ^ 16 - 1) ∧
          t.get VIT_FLAGS.MISSED = 1 ∧ t.vit.held = s.vit.held ∧ SameOffIrq [VIT_CNT.MISSED, VIT_FLAGS.MISSED] s t) ∧
        (vitTwin s at_ = false → s.flag VIT_STATUS.HELD = false ∨ s.flag VIT_CFG.LOCK = false → t.get VIT_STATUS.HELD = 1 ∧ t.get VIT_STATUS.SRC = 2 ∧
          t.get VIT_SEQ.SEQ = (s.get VIT_SEQ.SEQ + 1) % 2 ^ 32 ∧ t.get64 VIT_TIME_SEC.ofs = secOf now ∧ t.get VIT_TIME_NS.NS = nsOf now ∧
          t.get VIT_TIME_FRAC.FRAC = fracOf now % 2 ^ 32 ∧ t.get VIT_CNT.TAKEN = min (s.get VIT_CNT.TAKEN + 1) (2 ^ 16 - 1) ∧
          t.get VIT_FLAGS.TAKEN = 1 ∧ (s.flag VIT_FLAGS.TAKEN = false → Raised 5 t) ∧ t.vit.latchedAt = some (s.pivotAt at_ / coreUnits) ∧
          (∃ f, t.vit.held = some f ∧ f.get64 TB_TIME_SEC.ofs = secOf now ∧ f.get TB_TIME_NS.NS = nsOf now ∧
            ∀ ofs, ofs ∉ snapViewed → ofs < 0x40000 ∨ 0x50000 ≤ ofs → ofs < 0x80000 ∨ 0x90000 ≤ ofs → f.reg ofs = s.reg ofs) ∧
          SameOffIrq ([VIT_STATUS.HELD, VIT_STATUS.SRC, VIT_SEQ.SEQ, VIT_TIME_NS.NS, VIT_TIME_FRAC.FRAC, VIT_CNT.TAKEN,
            VIT_FLAGS.TAKEN] ++ pairOf VIT_TIME_SEC.ofs) s t) ∧ OnlyParts [.sys, .vit] s t)) ∧
    (∀ at_ : Nat, (s.vit.armed = none ∨ (∀ T, s.vit.armed = some T → s.timeAt at_ < T) → exec (.todMatch at_) s = .next s) ∧
      ∀ T, s.vit.armed = some T → T ≤ s.timeAt at_ → let now := s.timeAt at_
      ∃ t, exec (.todMatch at_) s = .next t ∧ t.vit.armed = none ∧ t.get VIT_STATUS.TOD_ARMED = 0 ∧
      (s.live .vit = false → t.vit.held = s.vit.held ∧ SameFields [VIT_STATUS.TOD_ARMED] s t) ∧
      (s.live .vit = true →
        (vitTwin s at_ = true → t.get VIT_STATUS.SRC = s.get VIT_STATUS.SRC ||| 4 ∧ t.vit.held = s.vit.held ∧
          SameFields [VIT_STATUS.SRC, VIT_STATUS.TOD_ARMED] s t) ∧
        (vitTwin s at_ = false → s.flag VIT_STATUS.HELD = true → s.flag VIT_CFG.LOCK = true → t.get VIT_CNT.MISSED = min (s.get VIT_CNT.MISSED + 1) (2 ^ 16 - 1) ∧
          t.get VIT_FLAGS.MISSED = 1 ∧ t.vit.held = s.vit.held ∧ SameOffIrq [VIT_CNT.MISSED, VIT_FLAGS.MISSED, VIT_STATUS.TOD_ARMED] s t) ∧
        (vitTwin s at_ = false → s.flag VIT_STATUS.HELD = false ∨ s.flag VIT_CFG.LOCK = false → t.get VIT_STATUS.HELD = 1 ∧ t.get VIT_STATUS.SRC = 4 ∧
          t.get VIT_SEQ.SEQ = (s.get VIT_SEQ.SEQ + 1) % 2 ^ 32 ∧ t.get64 VIT_TIME_SEC.ofs = secOf now ∧ t.get VIT_TIME_NS.NS = nsOf now ∧
          t.get VIT_TIME_FRAC.FRAC = fracOf now % 2 ^ 32 ∧ t.get VIT_CNT.TAKEN = min (s.get VIT_CNT.TAKEN + 1) (2 ^ 16 - 1) ∧
          t.get VIT_FLAGS.TAKEN = 1 ∧ (s.flag VIT_FLAGS.TAKEN = false → Raised 5 t) ∧ t.vit.latchedAt = some (s.pivotAt at_ / coreUnits) ∧
          (∃ f, t.vit.held = some f ∧ f.get64 TB_TIME_SEC.ofs = secOf now ∧ f.get TB_TIME_NS.NS = nsOf now ∧
            ∀ ofs, ofs ∉ snapViewed → ofs < 0x40000 ∨ 0x50000 ≤ ofs → ofs < 0x80000 ∨ 0x90000 ≤ ofs → f.reg ofs = s.reg ofs) ∧
          SameOffIrq ([VIT_STATUS.HELD, VIT_STATUS.SRC, VIT_SEQ.SEQ, VIT_TIME_NS.NS, VIT_TIME_FRAC.FRAC, VIT_CNT.TAKEN,
            VIT_FLAGS.TAKEN, VIT_STATUS.TOD_ARMED] ++ pairOf VIT_TIME_SEC.ofs) s t) ∧ OnlyParts [.vit] s t)) ∧
    (∀ at_ : Nat, s.hostReach .vit none = true → let T := timeOf (s.get64 VIT_TOD_SEC.ofs) (s.get VIT_TOD_NS.NS) 0
      (999999999 < s.get VIT_TOD_NS.NS ∨ T - s.timeAt at_ < 2000 * nsUnit → ∃ t, exec (.armTod at_) s = .next t ∧
        t.get VIT_FLAGS.ARM_REFUSED = 1 ∧ (s.flag VIT_FLAGS.ARM_REFUSED = false → Raised 6 t) ∧ SameOffIrq [VIT_FLAGS.ARM_REFUSED] s t ∧
        OnlyParts [] s t) ∧
      (s.get VIT_TOD_NS.NS ≤ 999999999 → 2000 * nsUnit ≤ T - s.timeAt at_ → ∃ t, exec (.armTod at_) s = .next t ∧
        t.get VIT_STATUS.TOD_ARMED = 1 ∧ t.vit = { s.vit with armed := some T } ∧ SameFields [VIT_STATUS.TOD_ARMED] s t ∧ OnlyParts [.vit] s t) ∧
      (∃ t, exec .disarmTod s = .next t ∧ t.get VIT_STATUS.TOD_ARMED = 0 ∧ t.vit = { s.vit with armed := none } ∧
        SameFields [VIT_STATUS.TOD_ARMED] s t ∧ OnlyParts [.vit] s t) ∧
      (∃ t, exec .vitRelease s = .next t ∧ t.get VIT_STATUS.HELD = 0 ∧ t.vit = { s.vit with held := none } ∧
        SameFields [VIT_STATUS.HELD] s t ∧ OnlyParts [.vit] s t)) ∧
    (∀ src : BitVec 8, s.hostReach .irq none = true → let n := src.toNat
      let reserved := n = 31 ∨ 43 ≤ n ∧ n ≤ 47 ∨ 105 ≤ n ∧ n ≤ 111 ∨ 135 ≤ n ∧ n ≤ 143 ∨ n = 158 ∨ n = 159 ∨ 177 ≤ n ∧ n ≤ 191 ∨ n = 223
      (reserved → exec (.irqTest src) s = .next s) ∧
      (¬ reserved → ∃ t, exec (.irqTest src) s = .next t ∧ Raised n t ∧ OnlyParts [] s t ∧
        (∀ g : Fld, offIrq g.ofs → t.get g = s.get g) ∧ t.get IRQ_CFG.EN = s.get IRQ_CFG.EN ∧
        (∀ k, t.reg (IRQ_EN.ofs k) = s.reg (IRQ_EN.ofs k) ∨ 8 ≤ k) ∧ (∀ k, t.reg (IRQ_MAP.ofs k) = s.reg (IRQ_MAP.ofs k) ∨ 64 ≤ k) ∧
        (let v := s.rf.vectorOf n
         s.get IRQ_CFG.EN = 1 → (s.get (IRQ_EN.EN (n / 32))).testBit (n % 32) = true →
         (s.get64 IRQ_VEC_INSVC.ofs).testBit v = false → (t.get64 IRQ_VEC_INSVC.ofs).testBit v = true ∧
          (t.get64 IRQ_VEC_ASSERTED.ofs).testBit v = true ∧ (s.get (MSIX_CTRL.MASK v) = 0 → Out.msix v ((s.reg (MSIX_ADDR_LO.ofs v)).toNat + 2 ^ 32 * (s.reg (MSIX_ADDR_HI.ofs v)).toNat) (s.reg (MSIX_DATA.ofs v)) ∈ t.outbox) ∧
          (s.get (MSIX_CTRL.MASK v) = 1 → t.get (MSIX_PBA.PEND v) = 1)))) ∧
    (∀ v6 : BitVec 6, s.hostReach .irq none = true → let v := v6.toNat
      let a := s.rf.assertedSet
      ∃ t, exec (.irqEoi v6) s = .next t ∧ OnlyParts [] s t ∧ t.get64 IRQ_VEC_ASSERTED.ofs = a ∧
        (∀ k, t.reg (IRQ_RAW.ofs k) = s.reg (IRQ_RAW.ofs k) ∨ 8 ≤ k) ∧ (∀ g : Fld, offIrq g.ofs → t.get g = s.get g) ∧ t.get IRQ_CFG.EN = s.get IRQ_CFG.EN ∧
        (∀ k, t.reg (IRQ_EN.ofs k) = s.reg (IRQ_EN.ofs k) ∨ 8 ≤ k) ∧ (∀ k, t.reg (IRQ_MAP.ofs k) = s.reg (IRQ_MAP.ofs k) ∨ 64 ≤ k) ∧
        (a.testBit v = false → (t.get64 IRQ_VEC_INSVC.ofs).testBit v = false) ∧
        (a.testBit v = true → (t.get64 IRQ_VEC_INSVC.ofs).testBit v = true ∧ (s.get (MSIX_CTRL.MASK v) = 0 → Out.msix v ((s.reg (MSIX_ADDR_LO.ofs v)).toNat + 2 ^ 32 * (s.reg (MSIX_ADDR_HI.ofs v)).toNat) (s.reg (MSIX_DATA.ofs v)) ∈ t.outbox) ∧
          (s.get (MSIX_CTRL.MASK v) = 1 → t.get (MSIX_PBA.PEND v) = 1))) ∧
    (∀ v : Fin 64, s.hostReach .irq none = true → ∃ t, exec (.vectorUnmask v) s = .next t ∧ t.get (MSIX_CTRL.MASK v) = 0 ∧
      t.get (MSIX_PBA.PEND v) = 0 ∧ (s.get (MSIX_PBA.PEND v) = 1 → Out.msix v ((s.reg (MSIX_ADDR_LO.ofs v)).toNat + 2 ^ 32 * (s.reg (MSIX_ADDR_HI.ofs v)).toNat) (s.reg (MSIX_DATA.ofs v)) ∈ t.outbox) ∧ (s.get (MSIX_PBA.PEND v) = 0 → t.outbox = s.outbox) ∧
      SameFields [MSIX_CTRL.MASK v, MSIX_PBA.PEND v] s t ∧ OnlyParts [] s t)

/-- Tails, fetches, transmit and copy descriptors, write-backs, timers and errors of the DMA queues. -/
def Obligations.QueuesAreServedByDma : Prop :=
  ∀ s : State, s.Wf →
    (∀ (q : Fin 32) (v : Word), s.hostReach .hif none = true → let head := s.get (HIF_Q_HEAD.HEAD q)
      let fill := if q.val < 20 then (head + 2 ^ 32 - v.toNat) % 2 ^ 32 else (v.toNat + 2 ^ 32 - head) % 2 ^ 32
      let size := 2 ^ s.get (HIF_Q_CFG.SIZE_LOG2 q)
      (fill ≤ size → ∃ t, exec (.qTailWrite q v) s = .next t ∧ t.get (HIF_Q_TAIL.TAIL q) = v.toNat ∧ SameFields [HIF_Q_TAIL.TAIL q] s t ∧
        OnlyParts [] s t) ∧
      (size < fill → ∃ t, exec (.qTailWrite q v) s = .next t ∧ t.get (HIF_Q_CFG.Q_ERR q) = 1 ∧ t.get HIF_FLAGS.Q_ERR = 1 ∧ Raised 14 t ∧
        SameOffIrq [HIF_Q_CFG.Q_ERR q, HIF_FLAGS.Q_ERR] s t ∧ OnlyParts [] s t)) ∧
    (∀ (q : Fin 32) (en : Bool), s.hostReach .hif none = true → ∃ t, exec (.queueEnable q en) s = .next t ∧
      t.get (HIF_Q_CFG.EN q) = bit en ∧ SameFields [HIF_Q_CFG.EN q] s t ∧ OnlyParts [] s t) ∧
    (∀ (q : Fin 32) (bytes : List Byte), let posted := (s.get (HIF_Q_TAIL.TAIL q) + 2 ^ 32 - s.get (HIF_Q_HEAD.HEAD q)) % 2 ^ 32
      let place := fun c : Nat => s.flag (HIF_Q_CFG.EN c) = true ∧ hifFill s c + (hifQueue s c).claims < hifSize s c
      let may := 20 ≤ q.val ∧ q ≠ 31 ∧ s.flag (HIF_Q_CFG.EN q) = true ∧ s.sys.pfailLow = false ∧
        s.get (CDC_XS_STATUS.STATE_A 25) = 0 ∧ s.get (CDC_XS_STATUS.STATE_B 25) = 0 ∧ (hifQueue s q).fetched.length < posted ∧
        (q = 28 → place 10) ∧ (q = 29 → place 11)
      (¬ may → exec (.descriptorFetch q bytes) s = .next s) ∧
      (may → ∃ t, exec (.descriptorFetch q bytes) s = .next t ∧ (hifQueue t q).fetched = (hifQueue s q).fetched ++ [bytes] ∧
        (q = 28 → (hifQueue t 10).claims = (hifQueue s 10).claims + 1) ∧ (q = 29 → (hifQueue t 11).claims = (hifQueue s 11).claims + 1) ∧
        (∀ c, c ≠ q.val → c ≠ 10 ∨ q ≠ 28 → c ≠ 11 ∨ q ≠ 29 → hifQueue t c = hifQueue s c) ∧ SameFields [] s t ∧ OnlyParts [.hif] s t)) ∧
    (∀ (n : Fin 8) (frame : List Byte), (hifDescriptor s (20 + n.val) = none → exec (.txDescriptor n frame) s = .next s) ∧
      ∀ d rest, (hifQueue s (20 + n.val)).fetched = d :: rest → let len := leNat ((d.drop 8).take 2)
      let flags := leNat ((d.drop 10).take 2)
      let good := 14 ≤ len ∧ len ≤ 1522 ∧ flags < 16 ∧ (d.drop 14).all (· == 0) = true
      let up := s.flag (EP_CFG.EN n) = true ∧ s.flag (EP_STATUS.LINK n) = true
      let ts := if flags.testBit 3 then some (TsReq.host (leNat ((d.drop 12).take 2))) else none
      ∃ t, exec (.txDescriptor n frame) s = .next t ∧
        t.get (HIF_Q_HEAD.HEAD (20 + n.val)) = (s.get (HIF_Q_HEAD.HEAD (20 + n.val)) + 1) % 2 ^ 32 ∧
        t.get (HIF_Q_ELEM.COUNT (20 + n.val)) = min (s.get (HIF_Q_ELEM.COUNT (20 + n.val)) + 1) (2 ^ 32 - 1) ∧ (hifQueue t (20 + n.val)).fetched = rest ∧
        (s.get (HIF_Q_IRQ.THRESH (20 + n.val)) ≠ 0 → s.get (HIF_Q_IRQ.THRESH (20 + n.val)) ≤ (hifQueue s (20 + n.val)).unnotified + 1 →
          Raised 11 t ∧ (hifQueue t (20 + n.val)).unnotified = 0) ∧
        (s.get (HIF_Q_IRQ.THRESH (20 + n.val)) = 0 ∨ (hifQueue s (20 + n.val)).unnotified + 1 < s.get (HIF_Q_IRQ.THRESH (20 + n.val)) →
          (hifQueue t (20 + n.val)).unnotified = (hifQueue s (20 + n.val)).unnotified + 1) ∧
        (¬ good → t.get (HIF_Q_CNT.BAD_DESC (20 + n.val)) = min (s.get (HIF_Q_CNT.BAD_DESC (20 + n.val)) + 1) (2 ^ 16 - 1) ∧
          t.get HIF_FLAGS.BAD_DESC = 1 ∧ t.mac = s.mac) ∧
        (good → up → (macPort t n).waiting = (macPort s n).waiting ++
          [⟨(frame ++ List.replicate len 0).take len, flags % 8, ts, false, none⟩]) ∧
        (good → ¬ up → t.get (HIF_Q_CNT.DROPS (20 + n.val)) = min (s.get (HIF_Q_CNT.DROPS (20 + n.val)) + 1) (2 ^ 16 - 1) ∧
          t.get HIF_FLAGS.DROP = 1 ∧ (macPort t n).waiting = (macPort s n).waiting) ∧
        SameOffRange 0x300000 0x380000 [HIF_Q_HEAD.HEAD (20 + n.val), HIF_Q_ELEM.COUNT (20 + n.val), HIF_Q_CNT.DROPS (20 + n.val),
          HIF_Q_CNT.BAD_DESC (20 + n.val), HIF_FLAGS.BAD_DESC, HIF_FLAGS.DROP] s t ∧ OnlyParts [.mac, .hif] s t) ∧
    ((hifDescriptor s 30 = none → exec .captureCopy s = .next s) ∧ ∀ d rest, (hifQueue s 30).fetched = d :: rest →
      let a := descField d 0 4
      let len := descField d 4 4
      let good := a % 64 = 0 ∧ len % 64 = 0 ∧ 64 ≤ len ∧ a + len ≤ 0x800000 ∧ descField d 8 8 % 64 = 0 ∧ descField d 16 16 = 0
      ∃ t, exec .captureCopy s = .next t ∧
        t.get (HIF_Q_HEAD.HEAD 30) = (s.get (HIF_Q_HEAD.HEAD 30) + 1) % 2 ^ 32 ∧
        t.get (HIF_Q_ELEM.COUNT 30) = min (s.get (HIF_Q_ELEM.COUNT 30) + 1) (2 ^ 32 - 1) ∧ (hifQueue t 30).fetched = rest ∧
        (s.get (HIF_Q_IRQ.THRESH 30) ≠ 0 → s.get (HIF_Q_IRQ.THRESH 30) ≤ (hifQueue s 30).unnotified + 1 →
          Raised 12 t ∧ (hifQueue t 30).unnotified = 0) ∧
        (s.get (HIF_Q_IRQ.THRESH 30) = 0 ∨ (hifQueue s 30).unnotified + 1 < s.get (HIF_Q_IRQ.THRESH 30) →
          (hifQueue t 30).unnotified = (hifQueue s 30).unnotified + 1) ∧
        (good → (s.get (CDC_XS_STATUS.STATE_A 25) = 0 → Out.hostBytes (descField d 8 8) (memBytes bar2Zero s.bar2 (poolBase + a) len) ∈ t.outbox) ∧
          (s.get (CDC_XS_STATUS.STATE_A 25) = 1 → t.get CDC_FLAGS.DROP_EV = 1 ∧
            t.get (CDC_XS_CNT.DROPPED 25) = min (s.get (CDC_XS_CNT.DROPPED 25) + 1) (2 ^ 16 - 1)) ∧
          t.get HIF_FLAGS.BAD_DESC = s.get HIF_FLAGS.BAD_DESC) ∧
        (¬ good → t.get (HIF_Q_CNT.BAD_DESC 30) = min (s.get (HIF_Q_CNT.BAD_DESC 30) + 1) (2 ^ 16 - 1) ∧ t.get HIF_FLAGS.BAD_DESC = 1) ∧
        SameOffIrq [HIF_Q_HEAD.HEAD 30, HIF_Q_ELEM.COUNT 30, HIF_Q_CNT.BAD_DESC 30, HIF_FLAGS.BAD_DESC, CDC_FLAGS.DROP_EV,
          CDC_XS_CNT.DROPPED 25] s t ∧ OnlyParts [.sys, .hif] s t) ∧
    (∀ q : Fin 32, (s.flag (HIF_Q_CFG.EN q) = false → exec (.writeBack q) s = .next s) ∧
      (s.flag (HIF_Q_CFG.EN q) = true → s.get (CDC_XS_STATUS.STATE_A 25) = 1 → ∃ t, exec (.writeBack q) s = .next t ∧
        t.get CDC_FLAGS.DROP_EV = 1 ∧ t.get (CDC_XS_CNT.DROPPED 25) = min (s.get (CDC_XS_CNT.DROPPED 25) + 1) (2 ^ 16 - 1) ∧
        SameOffIrq [CDC_FLAGS.DROP_EV, CDC_XS_CNT.DROPPED 25] s t ∧ OnlyParts [] s t) ∧
      (s.flag (HIF_Q_CFG.EN q) = true → s.get (CDC_XS_STATUS.STATE_A 25) = 2 → exec (.writeBack q) s = .next s) ∧
      (s.flag (HIF_Q_CFG.EN q) = true → s.get (CDC_XS_STATUS.STATE_A 25) = 3 → exec (.writeBack q) s =
        .next { s with sys := { s.sys with xsHeld := tableSet s.sys.xsHeld 25 ((tableGet s.sys.xsHeld 25).getD 0 + 1) } }) ∧
      (s.flag (HIF_Q_CFG.EN q) = true → s.get (CDC_XS_STATUS.STATE_A 25) = 0 → ∃ t, exec (.writeBack q) s = .next t ∧ Out.writeBack q (s.get (HIF_Q_HEAD.HEAD q)) ∈ t.outbox ∧
        Out.hostBytes (s.get64 (HIF_Q_WB.ofs q) / 8 * 8) (leBytes 8 (s.get (HIF_Q_HEAD.HEAD q))) ∈ t.outbox ∧ SameFields [] s t ∧
        OnlyParts [] s t)) ∧
    (∀ q : Fin 32, (s.get (HIF_Q_IRQ.TIMER q) = 0 ∨ (hifQueue s q).unnotified = 0 → exec (.queueTimer q) s = .next s) ∧
      (s.get (HIF_Q_IRQ.TIMER q) ≠ 0 → (hifQueue s q).unnotified ≠ 0 → ∃ t, exec (.queueTimer q) s = .next t ∧
        (hifQueue t q).unnotified = 0 ∧
        Raised (if q.val < 8 then 8 else if q.val < 12 then 9 else if q.val < 20 then 10 else if q.val < 28 then 11 else 12) t ∧
        SameOffIrq [] s t ∧ OnlyParts [.hif] s t)) ∧
    (∀ q : Fin 32, ∃ t, exec (.dmaError q) s = .next t ∧ t.get (HIF_Q_CFG.EN q) = 0 ∧ t.get (HIF_Q_CFG.Q_ERR q) = 1 ∧
      t.get HIF_FLAGS.Q_ERR = 1 ∧ Raised 14 t ∧ (hifQueue t q).fetched = [] ∧
      (q = 28 → (hifQueue t 10).claims = (hifQueue s 10).claims - (hifQueue s 28).fetched.length) ∧
      (q = 29 → (hifQueue t 11).claims = (hifQueue s 11).claims - (hifQueue s 29).fetched.length) ∧
      SameOffIrq [HIF_Q_CFG.EN q, HIF_Q_CFG.Q_ERR q, HIF_FLAGS.Q_ERR] s t ∧ OnlyParts [.hif] s t)
end

