-- ==== Sys2Proof/Laws/Aes.lean ====
section
/-! SUPPORT. The substitution table of AES holds the substitution box, inverse and affine map, of the standard. -/

namespace Sys2Proof.Machine

theorem aesSub_eq_sbox_of_lt : ∀ n : Fin 256, aesSub (BitVec.ofNat 8 n) = aesSbox (BitVec.ofNat 8 n) := by decide +kernel

theorem aesSub_eq_sbox (b : Byte) : aesSub b = aesSbox b := by
  have h := aesSub_eq_sbox_of_lt ⟨b.toNat, b.isLt⟩
  simpa using h

end Sys2Proof.Machine
end

