-- ==== Sys2Proof/Laws/Tables.lean ====
section
/-! SUPPORT. Sparse tables and byte memories: what a read gives after a write, and that every operation keeps the canonical
form. -/

namespace Sys2Proof.Machine

/-! ### Reads after writes -/

theorem tableGet_tableSet {α : Type} (t : List (Nat × α)) (k j : Nat) (x : α) :
    tableGet (tableSet t k x) j = if j = k then some x else tableGet t j := by
  induction t with
  | nil => simp [tableSet, tableGet, eq_comm]
  | cons p t ih =>
    obtain ⟨a, v⟩ := p
    simp only [tableSet]
    split
    · by_cases hj : j = k
      · simp [tableGet, hj]
      · simp [tableGet, hj, Ne.symm hj]
    · split
      · subst a
        by_cases hj : j = k
        · simp [tableGet, hj]
        · simp [tableGet, hj, Ne.symm hj]
      · rename_i hk
        by_cases hj : j = k
        · subst hj; simp [tableGet, ih, hk]
        · simp [tableGet, ih, hj]

theorem tableGet_tableErase {α : Type} (t : List (Nat × α)) (k j : Nat) :
    tableGet (tableErase t k) j = if j = k then none else tableGet t j := by
  induction t with
  | nil => simp [tableErase, tableGet]
  | cons p t ih =>
    obtain ⟨a, v⟩ := p
    simp only [tableErase]
    split
    · subst a
      rw [ih]
      by_cases hj : j = k
      · simp [hj]
      · simp [tableGet, hj, Ne.symm hj]
    · by_cases hj : j = k
      · subst hj; simp [tableGet, *]
      · simp [tableGet, ih, hj]

theorem memByte_memSet (d : Byte) (m : Memory) (a j : Nat) (b : Byte) :
    memByte d (memSet d m a b) j = if j = a then b else memByte d m j := by
  unfold memSet memByte
  split <;> simp only [tableGet_tableErase, tableGet_tableSet] <;> split <;> simp_all

/-- A write of consecutive bytes leaves every byte outside them. -/
theorem memByte_memWrite_other (d : Byte) (m : Memory) (a j : Nat) (bs : List Byte) (h : j < a ∨ a + bs.length ≤ j) :
    memByte d (memWrite d m a bs) j = memByte d m j := by
  induction bs generalizing m a with
  | nil => rfl
  | cons b bs ih =>
    simp only [memWrite, List.length_cons] at h ⊢
    rw [ih _ _ (by omega), memByte_memSet, if_neg (by omega)]

/-- A write of consecutive bytes is read back. -/
theorem memByte_memWrite_same (d : Byte) (m : Memory) (a i : Nat) (bs : List Byte) (h : i < bs.length) :
    memByte d (memWrite d m a bs) (a + i) = bs[i] := by
  induction bs generalizing m a i with
  | nil => simp at h
  | cons b bs ih =>
    simp only [memWrite]
    cases i with
    | zero => rw [memByte_memWrite_other _ _ _ _ _ (by omega), memByte_memSet]; simp
    | succ i => rw [show a + (i + 1) = (a + 1) + i by omega, ih _ _ _ (by simpa using h)]; simp

theorem memBytes_memWrite (d : Byte) (m : Memory) (a : Nat) (bs : List Byte) :
    memBytes d (memWrite d m a bs) a bs.length = bs := by
  apply List.ext_getElem
  · simp [memBytes]
  · intro i h1 h2
    simp only [memBytes, List.getElem_map, List.getElem_range]
    exact memByte_memWrite_same d m a i bs h2

theorem tableGet_filter {α : Type} (t : List (Nat × α)) (p : Nat → Bool) (j : Nat) :
    tableGet (t.filter fun c => p c.1) j = if p j then tableGet t j else none := by
  induction t with
  | nil => simp [tableGet]
  | cons q t ih =>
    obtain ⟨a, v⟩ := q
    by_cases ha : p a = true
    · by_cases hj : a = j
      · subst hj; simp [tableGet, ha]
      · simp [tableGet, ha, hj, ih]
    · by_cases hj : a = j
      · subst hj; simp [ha, ih]
      · simp [tableGet, ha, hj, ih]

/-- Clearing a range: its bytes read as unlisted ones, the others as before. -/
theorem memByte_memClear (d : Byte) (m : Memory) (a n j : Nat) :
    memByte d (memClear m a n) j = if a ≤ j ∧ j < a + n then d else memByte d m j := by
  unfold memByte memClear
  rw [tableGet_filter m fun k => k < a || a + n ≤ k]
  by_cases h : a ≤ j ∧ j < a + n
  · rw [if_neg (by simp; omega), if_pos h]; rfl
  · rw [if_pos (by simp; omega), if_neg h]

/-! ### The canonical form -/

/-- The keys of a table lie above a bound. -/
theorem keysAbove_mono {α : Type} {t : List (Nat × α)} {lo lo' : Option Nat} (h : keysAbove lo t = true)
    (hl : ∀ l, lo' = some l → ∃ m, lo = some m ∧ l ≤ m) : keysAbove lo' t = true := by
  cases t with
  | nil => rfl
  | cons p t =>
    obtain ⟨k, v⟩ := p
    simp only [keysAbove, Bool.and_eq_true] at h ⊢
    refine ⟨?_, h.2⟩
    cases lo' with
    | none => rfl
    | some l =>
      obtain ⟨m, rfl, hm⟩ := hl l rfl
      have := h.1
      simp only [decide_eq_true_eq] at this ⊢
      omega

theorem keysAbove_tableSet {α : Type} (t : List (Nat × α)) (k : Nat) (x : α) (lo : Option Nat)
    (h : keysAbove lo t = true) (hk : ∀ l, lo = some l → l < k) : keysAbove lo (tableSet t k x) = true := by
  induction t generalizing lo with
  | nil => cases lo <;> simp [tableSet, keysAbove, hk]
  | cons p t ih =>
    obtain ⟨a, v⟩ := p
    simp only [keysAbove, Bool.and_eq_true] at h
    simp only [tableSet]
    split
    · simp only [keysAbove, Bool.and_eq_true, h.2, and_true]
      exact ⟨by cases lo <;> simp [hk], by simpa⟩
    · split
      · subst a; simp only [keysAbove, Bool.and_eq_true]; exact h
      · simp only [keysAbove, Bool.and_eq_true]
        exact ⟨h.1, ih _ h.2 (by intro l hl; cases hl; omega)⟩

theorem keysAbove_filter {α : Type} (t : List (Nat × α)) (p : Nat × α → Bool) (lo : Option Nat) (h : keysAbove lo t = true) :
    keysAbove lo (t.filter p) = true := by
  induction t generalizing lo with
  | nil => rfl
  | cons q t ih =>
    obtain ⟨a, v⟩ := q
    simp only [keysAbove, Bool.and_eq_true] at h
    by_cases hp : p (a, v) = true
    · simp only [List.filter_cons, hp, if_true, keysAbove, Bool.and_eq_true]
      exact ⟨h.1, ih _ h.2⟩
    · rw [List.filter_cons_of_neg hp]
      refine ih lo (keysAbove_mono h.2 ?_)
      intro l hl
      subst hl
      exact ⟨a, rfl, by have := h.1; simp at this; omega⟩

theorem tableErase_eq_filter {α : Type} (t : List (Nat × α)) (k : Nat) : tableErase t k = t.filter fun c => c.1 != k := by
  induction t with
  | nil => rfl
  | cons p t ih =>
    obtain ⟨a, v⟩ := p
    by_cases h : a = k <;> simp [tableErase, h, ih]

theorem keysAbove_tableErase {α : Type} (t : List (Nat × α)) (k : Nat) (lo : Option Nat) (h : keysAbove lo t = true) :
    keysAbove lo (tableErase t k) = true := by
  rw [tableErase_eq_filter]; exact keysAbove_filter t _ lo h

theorem all_tableSet {α : Type} (p : Nat × α → Bool) (t : List (Nat × α)) (k : Nat) (x : α) (h : t.all p = true)
    (hx : p (k, x) = true) : (tableSet t k x).all p = true := by
  induction t with
  | nil => simp [tableSet, hx]
  | cons q t ih =>
    obtain ⟨a, v⟩ := q
    simp only [List.all_cons, Bool.and_eq_true] at h
    simp only [tableSet]
    split
    · simp [hx, h.1, h.2]
    · split
      · simp [hx, h.2]
      · simp [h.1, ih h.2]

theorem all_filter {α : Type} (p q : Nat × α → Bool) (t : List (Nat × α)) (h : t.all p = true) : (t.filter q).all p = true := by
  simp only [List.all_eq_true, List.mem_filter] at h ⊢
  exact fun x hx => h x hx.1

theorem memSet_wf (d : Byte) (m : Memory) (a : Nat) (b : Byte) (h : m.wf d = true) : (memSet d m a b).wf d = true := by
  simp only [Memory.wf, Bool.and_eq_true] at h ⊢
  unfold memSet
  split
  · rw [tableErase_eq_filter]; exact ⟨keysAbove_filter _ _ _ h.1, all_filter _ _ _ h.2⟩
  · exact ⟨keysAbove_tableSet _ _ _ _ h.1 (by simp), all_tableSet _ _ _ _ h.2 (by simpa)⟩

theorem memWrite_wf (d : Byte) (m : Memory) (a : Nat) (bs : List Byte) (h : m.wf d = true) : (memWrite d m a bs).wf d = true := by
  induction bs generalizing m a with
  | nil => exact h
  | cons b bs ih => exact ih _ _ (memSet_wf d m a b h)

theorem memClear_wf (d : Byte) (m : Memory) (a n : Nat) (h : m.wf d = true) : (memClear m a n).wf d = true := by
  simp only [Memory.wf, Bool.and_eq_true] at h ⊢
  exact ⟨keysAbove_filter _ _ _ h.1, all_filter _ _ _ h.2⟩

theorem memWf_nil (d : Byte) : Memory.wf d [] = true := rfl

end Sys2Proof.Machine
end

