-- ==== Sys2Proof/Laws/Regs.lean ====
section
/-! SUPPORT. Registers and their fields: what a read gives after a write of the same or of another register or field. -/

namespace Sys2Proof.Machine

/-! ### Fields of a word -/

theorem getElem_word (n j : Nat) (h : j < 32) : (BitVec.ofNat 32 n)[j] = n.testBit j := by
  rw [← BitVec.getLsbD_eq_getElem, BitVec.getLsbD_ofNat]; simp [h]

theorem fieldOf_testBit (v : Word) (lo w i : Nat) : (fieldOf v lo w).testBit i = (decide (i < w) && v.getLsbD (lo + i)) := by
  simp [fieldOf, Nat.testBit_mod_two_pow, Nat.testBit_shiftRight, BitVec.getLsbD]

theorem fieldOf_lt (v : Word) (lo w : Nat) : fieldOf v lo w < 2 ^ w := Nat.mod_lt _ (Nat.two_pow_pos w)

theorem fieldSet_getLsbD (v : Word) (lo w x i : Nat) :
    (fieldSet v lo w x).getLsbD i =
      (decide (i < 32) && if lo ≤ i ∧ i < lo + w then x.testBit (i - lo) else v.getLsbD i) := by
  unfold fieldSet
  by_cases hi : i < 32
  · by_cases hl : lo ≤ i
    · have h32 : i - lo < 32 := by omega
      have hlo : ¬ i < lo := by omega
      by_cases hw : i < lo + w
      · have : i - lo < w := by omega
        simp [hi, hl, hw, hlo, this, getElem_word _ _ h32, Nat.testBit_mod_two_pow, Nat.testBit_two_pow_sub_one]
      · have : ¬ i - lo < w := by omega
        simp [hi, hl, hw, hlo, this, getElem_word _ _ h32, Nat.testBit_mod_two_pow, Nat.testBit_two_pow_sub_one]
    · simp [hi, hl, show i < lo by omega]
  · simp [hi]

/-- A field reads back what was put into it, modulo its width. -/
theorem fieldOf_fieldSet_same (v : Word) (lo w x : Nat) (h : lo + w ≤ 32) : fieldOf (fieldSet v lo w x) lo w = x % 2 ^ w := by
  apply Nat.eq_of_testBit_eq
  intro i
  rw [fieldOf_testBit, fieldSet_getLsbD, Nat.testBit_mod_two_pow]
  by_cases hi : i < w
  · simp [hi, show lo + i < 32 by omega]
  · simp [hi]

/-- A field keeps its value when another field of the same word is put. -/
theorem fieldOf_fieldSet_other (v : Word) (lo w x lo' w' : Nat) (h : lo' + w' ≤ lo ∨ lo + w ≤ lo') :
    fieldOf (fieldSet v lo w x) lo' w' = fieldOf v lo' w' := by
  apply Nat.eq_of_testBit_eq
  intro i
  rw [fieldOf_testBit, fieldOf_testBit, fieldSet_getLsbD]
  by_cases hi : i < w'
  · rw [if_neg (by omega)]
    by_cases h32 : lo' + i < 32
    · simp [h32]
    · simp [h32, BitVec.getLsbD_of_ge v (lo' + i) (by omega)]
  · simp [hi]

/-! ### Registers -/

theorem RegFile.reg_set (r : RegFile) (o p : Nat) (v : Word) : (r.set o v).reg p = if p = o then v else r.reg p := by
  unfold RegFile.reg RegFile.set RegFile.base
  simp only [tableGet_tableSet]
  split <;> rename_i h
  · split at h <;> simp_all
  · split at h <;> simp_all

@[simp] theorem RegFile.reg_set_same (r : RegFile) (o : Nat) (v : Word) : (r.set o v).reg o = v := by
  rw [RegFile.reg_set, if_pos rfl]

theorem RegFile.reg_set_other (r : RegFile) (o p : Nat) (v : Word) (h : p ≠ o) : (r.set o v).reg p = r.reg p := by
  rw [RegFile.reg_set, if_neg h]

theorem RegFile.reg_put_other (r : RegFile) (f : Fld) (x o : Nat) (h : o ≠ f.ofs) : (r.put f x).reg o = r.reg o :=
  r.reg_set_other _ _ _ h

theorem RegFile.get_put_same (r : RegFile) (f : Fld) (x : Nat) (h : f.lo + f.width ≤ 32) :
    (r.put f x).get f = x % 2 ^ f.width := by
  simp only [RegFile.get, RegFile.put, RegFile.reg_set_same]
  exact fieldOf_fieldSet_same _ _ _ _ h

theorem RegFile.get_put_other (r : RegFile) (f g : Fld) (x : Nat) (h : g.apart f) : (r.put f x).get g = r.get g := by
  simp only [RegFile.get, RegFile.put]
  by_cases ho : g.ofs = f.ofs
  · rw [ho, RegFile.reg_set_same]
    exact fieldOf_fieldSet_other _ _ _ _ _ _ (by have := h; unfold Fld.apart at this; omega)
  · rw [RegFile.reg_set_other _ _ _ _ ho]

theorem RegFile.reg_put64_other (r : RegFile) (o v p : Nat) (h : p ≠ o) (h4 : p ≠ o + 4) : (r.put64 o v).reg p = r.reg p := by
  unfold RegFile.put64
  rw [RegFile.reg_set_other _ _ _ _ h4, RegFile.reg_set_other _ _ _ _ h]

theorem RegFile.get64_put64_same (r : RegFile) (o v : Nat) : (r.put64 o v).get64 o = v % 2 ^ 64 := by
  unfold RegFile.get64 RegFile.put64
  rw [RegFile.reg_set_same, RegFile.reg_set_other _ _ _ _ (by omega), RegFile.reg_set_same]
  simp only [BitVec.toNat_ofNat]
  omega

theorem RegFile.get64_set_other (r : RegFile) (o p : Nat) (v : Word) (h : p ≠ o) (h4 : p + 4 ≠ o) :
    (r.set o v).get64 p = r.get64 p := by
  unfold RegFile.get64
  rw [RegFile.reg_set_other _ _ _ _ h, RegFile.reg_set_other _ _ _ _ h4]

/-! ### The same on the whole state -/

theorem State.reg_put_other (s : State) (f : Fld) (x o : Nat) (h : o ≠ f.ofs) : (s.put f x).reg o = s.reg o :=
  RegFile.reg_put_other _ _ _ _ h

theorem State.get_put_same (s : State) (f : Fld) (x : Nat) (h : f.lo + f.width ≤ 32) : (s.put f x).get f = x % 2 ^ f.width :=
  RegFile.get_put_same _ _ _ h

theorem State.get_put_other (s : State) (f g : Fld) (x : Nat) (h : g.apart f) : (s.put f x).get g = s.get g :=
  RegFile.get_put_other _ _ _ _ h

theorem State.reg_setReg_same (s : State) (o : Nat) (v : Word) : (s.setReg o v).reg o = v := RegFile.reg_set_same _ _ _

theorem State.reg_setReg_other (s : State) (o p : Nat) (v : Word) (h : p ≠ o) : (s.setReg o v).reg p = s.reg p :=
  RegFile.reg_set_other _ _ _ _ h

theorem State.reg_put64_other (s : State) (o v p : Nat) (h : p ≠ o) (h4 : p ≠ o + 4) : (s.put64 o v).reg p = s.reg p :=
  RegFile.reg_put64_other _ _ _ _ h h4

theorem State.get64_put64_same (s : State) (o v : Nat) : (s.put64 o v).get64 o = v % 2 ^ 64 := RegFile.get64_put64_same _ _ _

theorem State.get64_put_other (s : State) (f : Fld) (x o : Nat) (h : o ≠ f.ofs) (h4 : o + 4 ≠ f.ofs) :
    (s.put f x).get64 o = s.get64 o := RegFile.get64_set_other _ _ _ _ h h4

/-! ### Interrupts leave every register outside the IRQ block -/

theorem RegFile.deliver_reg (p : RegFile × List Out) (v o : Nat) (hv : v < 64) (h : offIrq o) :
    (RegFile.deliver p v).1.reg o = p.1.reg o := by
  unfold RegFile.deliver
  split
  · refine RegFile.reg_put_other _ _ _ _ ?_
    unfold offIrq at h
    simp only [MSIX_PBA.PEND]
    omega
  · rfl

theorem RegFile.serve_reg (a : Nat) (p : RegFile × List Out) (v o : Nat) (hv : v < 64) (h : offIrq o) :
    (RegFile.serve a p v).1.reg o = p.1.reg o := by
  unfold RegFile.serve
  split
  · rw [RegFile.deliver_reg _ _ _ hv h]
    unfold offIrq at h
    exact RegFile.reg_put64_other _ _ _ _ (by simp only [IRQ_VEC_INSVC.ofs]; omega) (by simp only [IRQ_VEC_INSVC.ofs]; omega)
  · rfl

theorem RegFile.serveAll_reg (a : Nat) (l : List Nat) (p : RegFile × List Out) (o : Nat) (hl : ∀ v ∈ l, v < 64) (h : offIrq o) :
    (l.foldl (RegFile.serve a) p).1.reg o = p.1.reg o := by
  induction l generalizing p with
  | nil => rfl
  | cons v l ih =>
    rw [List.foldl_cons, ih _ fun w hw => hl w (List.mem_cons_of_mem _ hw), RegFile.serve_reg _ _ _ _ (hl v List.mem_cons_self) h]

theorem RegFile.irqUpdate_reg (p : RegFile × List Out) (o : Nat) (h : offIrq o) : (RegFile.irqUpdate p).1.reg o = p.1.reg o := by
  have h1 : (p.1.put64 IRQ_VEC_ASSERTED.ofs p.1.assertedSet).reg o = p.1.reg o := by
    unfold offIrq at h
    exact RegFile.reg_put64_other _ _ _ _ (by simp only [IRQ_VEC_ASSERTED.ofs]; omega)
      (by simp only [IRQ_VEC_ASSERTED.ofs]; omega)
  unfold RegFile.irqUpdate
  simp only
  split
  · exact h1
  · rw [RegFile.serveAll_reg _ _ _ _ (fun v hv => List.mem_range.1 hv) h]; exact h1

/-- Raising a source changes no register outside the IRQ block. -/
theorem State.reg_raise (s : State) (src o : Nat) (hs : src < 256) (h : offIrq o) : (s.raise src).reg o = s.reg o := by
  unfold State.raise State.reg RegFile.irqRaise
  simp only
  rw [RegFile.irqUpdate_reg _ _ h]
  refine RegFile.reg_put_other _ _ _ _ ?_
  unfold offIrq at h
  simp only [IRQ_RAW.ofs]
  omega

theorem State.get_raise (s : State) (src : Nat) (f : Fld) (hs : src < 256) (h : offIrq f.ofs) : (s.raise src).get f = s.get f := by
  have := s.reg_raise src f.ofs hs h
  simp only [State.get, RegFile.get, State.reg] at this ⊢
  rw [this]

/-- Setting a flag sets it, and changes no register outside its own and the IRQ block. -/
theorem State.reg_setFlag (s : State) (f : Fld) (src o : Nat) (hs : src < 256) (h : offIrq o) (hf : o ≠ f.ofs) :
    (s.setFlag f src).reg o = s.reg o := by
  unfold State.setFlag
  split
  · rfl
  · rw [State.reg_raise _ _ _ hs h, State.reg_put_other _ _ _ _ hf]

theorem State.get_setFlag_same (s : State) (f : Fld) (src : Nat) (hs : src < 256) (h : offIrq f.ofs) (hw : f.lo + f.width ≤ 32)
    (h1 : f.width = 1) : (s.setFlag f src).get f = 1 := by
  unfold State.setFlag
  split
  · rename_i hf; simpa [State.flag, State.get] using hf
  · rw [State.get_raise _ _ _ hs h, State.get_put_same _ _ _ hw]
    simp [h1]

theorem State.get_setFlag_other (s : State) (f g : Fld) (src : Nat) (hs : src < 256) (h : offIrq g.ofs) (hg : g.apart f) :
    (s.setFlag f src).get g = s.get g := by
  unfold State.setFlag
  split
  · rfl
  · rw [State.get_raise _ _ _ hs h, State.get_put_other _ _ _ _ hg]

/-- An event sets its flag, and changes no register outside the flag's own and the IRQ block. -/
theorem State.reg_setEvent (s : State) (f : Fld) (src o : Nat) (hs : src < 256) (h : offIrq o) (hf : o ≠ f.ofs) :
    (s.setEvent f src).reg o = s.reg o := by
  rw [State.setEvent, State.reg_raise _ _ _ hs h, State.reg_put_other _ _ _ _ hf]

theorem State.get_setEvent_same (s : State) (f : Fld) (src : Nat) (hs : src < 256) (h : offIrq f.ofs) (hw : f.lo + f.width ≤ 32)
    (h1 : f.width = 1) : (s.setEvent f src).get f = 1 := by
  rw [State.setEvent, State.get_raise _ _ _ hs h, State.get_put_same _ _ _ hw]
  simp [h1]

theorem State.get_setEvent_other (s : State) (f g : Fld) (src : Nat) (hs : src < 256) (h : offIrq g.ofs) (hg : g.apart f) :
    (s.setEvent f src).get g = s.get g := by
  rw [State.setEvent, State.get_raise _ _ _ hs h, State.get_put_other _ _ _ _ hg]

end Sys2Proof.Machine
end

