-- ==== Sys2Proof/Laws/State.lean ====
section
/-! SUPPORT. The fields of the state that each shared operation leaves, one lemma per field and operation. -/

namespace Sys2Proof.Machine

/-! ### setReg -/

@[simp] theorem State.setReg_pending (s : State) (o : Nat) (v : Word) : (s.setReg o v).pending = s.pending := rfl
@[simp] theorem State.setReg_nv (s : State) (o : Nat) (v : Word) : (s.setReg o v).nv = s.nv := rfl
@[simp] theorem State.setReg_slots (s : State) (o : Nat) (v : Word) : (s.setReg o v).slots = s.slots := rfl
@[simp] theorem State.setReg_bar2 (s : State) (o : Nat) (v : Word) : (s.setReg o v).bar2 = s.bar2 := rfl
@[simp] theorem State.setReg_sys (s : State) (o : Nat) (v : Word) : (s.setReg o v).sys = s.sys := rfl
@[simp] theorem State.setReg_tb (s : State) (o : Nat) (v : Word) : (s.setReg o v).tb = s.tb := rfl
@[simp] theorem State.setReg_evt (s : State) (o : Nat) (v : Word) : (s.setReg o v).evt = s.evt := rfl
@[simp] theorem State.setReg_rgs (s : State) (o : Nat) (v : Word) : (s.setReg o v).rgs = s.rgs := rfl
@[simp] theorem State.setReg_loops (s : State) (o : Nat) (v : Word) : (s.setReg o v).loops = s.loops := rfl
@[simp] theorem State.setReg_ens (s : State) (o : Nat) (v : Word) : (s.setReg o v).ens = s.ens := rfl
@[simp] theorem State.setReg_out (s : State) (o : Nat) (v : Word) : (s.setReg o v).out = s.out := rfl
@[simp] theorem State.setReg_gnss (s : State) (o : Nat) (v : Word) : (s.setReg o v).gnss = s.gnss := rfl
@[simp] theorem State.setReg_mac (s : State) (o : Nat) (v : Word) : (s.setReg o v).mac = s.mac := rfl
@[simp] theorem State.setReg_ans (s : State) (o : Nat) (v : Word) : (s.setReg o v).ans = s.ans := rfl
@[simp] theorem State.setReg_nts (s : State) (o : Nat) (v : Word) : (s.setReg o v).nts = s.nts := rfl
@[simp] theorem State.setReg_ptp (s : State) (o : Nat) (v : Word) : (s.setReg o v).ptp = s.ptp := rfl
@[simp] theorem State.setReg_bne (s : State) (o : Nat) (v : Word) : (s.setReg o v).bne = s.bne := rfl
@[simp] theorem State.setReg_prov (s : State) (o : Nat) (v : Word) : (s.setReg o v).prov = s.prov := rfl
@[simp] theorem State.setReg_lnk (s : State) (o : Nat) (v : Word) : (s.setReg o v).lnk = s.lnk := rfl
@[simp] theorem State.setReg_pair (s : State) (o : Nat) (v : Word) : (s.setReg o v).pair = s.pair := rfl
@[simp] theorem State.setReg_hif (s : State) (o : Nat) (v : Word) : (s.setReg o v).hif = s.hif := rfl
@[simp] theorem State.setReg_con (s : State) (o : Nat) (v : Word) : (s.setReg o v).con = s.con := rfl
@[simp] theorem State.setReg_cat (s : State) (o : Nat) (v : Word) : (s.setReg o v).cat = s.cat := rfl
@[simp] theorem State.setReg_vit (s : State) (o : Nat) (v : Word) : (s.setReg o v).vit = s.vit := rfl
@[simp] theorem State.setReg_free (s : State) (o : Nat) (v : Word) : (s.setReg o v).free = s.free := rfl
@[simp] theorem State.setReg_outbox (s : State) (o : Nat) (v : Word) : (s.setReg o v).outbox = s.outbox := rfl

/-! ### put -/

@[simp] theorem State.put_pending (s : State) (f : Fld) (x : Nat) : (s.put f x).pending = s.pending := rfl
@[simp] theorem State.put_nv (s : State) (f : Fld) (x : Nat) : (s.put f x).nv = s.nv := rfl
@[simp] theorem State.put_slots (s : State) (f : Fld) (x : Nat) : (s.put f x).slots = s.slots := rfl
@[simp] theorem State.put_bar2 (s : State) (f : Fld) (x : Nat) : (s.put f x).bar2 = s.bar2 := rfl
@[simp] theorem State.put_sys (s : State) (f : Fld) (x : Nat) : (s.put f x).sys = s.sys := rfl
@[simp] theorem State.put_tb (s : State) (f : Fld) (x : Nat) : (s.put f x).tb = s.tb := rfl
@[simp] theorem State.put_evt (s : State) (f : Fld) (x : Nat) : (s.put f x).evt = s.evt := rfl
@[simp] theorem State.put_rgs (s : State) (f : Fld) (x : Nat) : (s.put f x).rgs = s.rgs := rfl
@[simp] theorem State.put_loops (s : State) (f : Fld) (x : Nat) : (s.put f x).loops = s.loops := rfl
@[simp] theorem State.put_ens (s : State) (f : Fld) (x : Nat) : (s.put f x).ens = s.ens := rfl
@[simp] theorem State.put_out (s : State) (f : Fld) (x : Nat) : (s.put f x).out = s.out := rfl
@[simp] theorem State.put_gnss (s : State) (f : Fld) (x : Nat) : (s.put f x).gnss = s.gnss := rfl
@[simp] theorem State.put_mac (s : State) (f : Fld) (x : Nat) : (s.put f x).mac = s.mac := rfl
@[simp] theorem State.put_ans (s : State) (f : Fld) (x : Nat) : (s.put f x).ans = s.ans := rfl
@[simp] theorem State.put_nts (s : State) (f : Fld) (x : Nat) : (s.put f x).nts = s.nts := rfl
@[simp] theorem State.put_ptp (s : State) (f : Fld) (x : Nat) : (s.put f x).ptp = s.ptp := rfl
@[simp] theorem State.put_bne (s : State) (f : Fld) (x : Nat) : (s.put f x).bne = s.bne := rfl
@[simp] theorem State.put_prov (s : State) (f : Fld) (x : Nat) : (s.put f x).prov = s.prov := rfl
@[simp] theorem State.put_lnk (s : State) (f : Fld) (x : Nat) : (s.put f x).lnk = s.lnk := rfl
@[simp] theorem State.put_pair (s : State) (f : Fld) (x : Nat) : (s.put f x).pair = s.pair := rfl
@[simp] theorem State.put_hif (s : State) (f : Fld) (x : Nat) : (s.put f x).hif = s.hif := rfl
@[simp] theorem State.put_con (s : State) (f : Fld) (x : Nat) : (s.put f x).con = s.con := rfl
@[simp] theorem State.put_cat (s : State) (f : Fld) (x : Nat) : (s.put f x).cat = s.cat := rfl
@[simp] theorem State.put_vit (s : State) (f : Fld) (x : Nat) : (s.put f x).vit = s.vit := rfl
@[simp] theorem State.put_free (s : State) (f : Fld) (x : Nat) : (s.put f x).free = s.free := rfl
@[simp] theorem State.put_outbox (s : State) (f : Fld) (x : Nat) : (s.put f x).outbox = s.outbox := rfl

/-! ### putB -/

@[simp] theorem State.putB_pending (s : State) (f : Fld) (b : Bool) : (s.putB f b).pending = s.pending := rfl
@[simp] theorem State.putB_nv (s : State) (f : Fld) (b : Bool) : (s.putB f b).nv = s.nv := rfl
@[simp] theorem State.putB_slots (s : State) (f : Fld) (b : Bool) : (s.putB f b).slots = s.slots := rfl
@[simp] theorem State.putB_bar2 (s : State) (f : Fld) (b : Bool) : (s.putB f b).bar2 = s.bar2 := rfl
@[simp] theorem State.putB_sys (s : State) (f : Fld) (b : Bool) : (s.putB f b).sys = s.sys := rfl
@[simp] theorem State.putB_tb (s : State) (f : Fld) (b : Bool) : (s.putB f b).tb = s.tb := rfl
@[simp] theorem State.putB_evt (s : State) (f : Fld) (b : Bool) : (s.putB f b).evt = s.evt := rfl
@[simp] theorem State.putB_rgs (s : State) (f : Fld) (b : Bool) : (s.putB f b).rgs = s.rgs := rfl
@[simp] theorem State.putB_loops (s : State) (f : Fld) (b : Bool) : (s.putB f b).loops = s.loops := rfl
@[simp] theorem State.putB_ens (s : State) (f : Fld) (b : Bool) : (s.putB f b).ens = s.ens := rfl
@[simp] theorem State.putB_out (s : State) (f : Fld) (b : Bool) : (s.putB f b).out = s.out := rfl
@[simp] theorem State.putB_gnss (s : State) (f : Fld) (b : Bool) : (s.putB f b).gnss = s.gnss := rfl
@[simp] theorem State.putB_mac (s : State) (f : Fld) (b : Bool) : (s.putB f b).mac = s.mac := rfl
@[simp] theorem State.putB_ans (s : State) (f : Fld) (b : Bool) : (s.putB f b).ans = s.ans := rfl
@[simp] theorem State.putB_nts (s : State) (f : Fld) (b : Bool) : (s.putB f b).nts = s.nts := rfl
@[simp] theorem State.putB_ptp (s : State) (f : Fld) (b : Bool) : (s.putB f b).ptp = s.ptp := rfl
@[simp] theorem State.putB_bne (s : State) (f : Fld) (b : Bool) : (s.putB f b).bne = s.bne := rfl
@[simp] theorem State.putB_prov (s : State) (f : Fld) (b : Bool) : (s.putB f b).prov = s.prov := rfl
@[simp] theorem State.putB_lnk (s : State) (f : Fld) (b : Bool) : (s.putB f b).lnk = s.lnk := rfl
@[simp] theorem State.putB_pair (s : State) (f : Fld) (b : Bool) : (s.putB f b).pair = s.pair := rfl
@[simp] theorem State.putB_hif (s : State) (f : Fld) (b : Bool) : (s.putB f b).hif = s.hif := rfl
@[simp] theorem State.putB_con (s : State) (f : Fld) (b : Bool) : (s.putB f b).con = s.con := rfl
@[simp] theorem State.putB_cat (s : State) (f : Fld) (b : Bool) : (s.putB f b).cat = s.cat := rfl
@[simp] theorem State.putB_vit (s : State) (f : Fld) (b : Bool) : (s.putB f b).vit = s.vit := rfl
@[simp] theorem State.putB_free (s : State) (f : Fld) (b : Bool) : (s.putB f b).free = s.free := rfl
@[simp] theorem State.putB_outbox (s : State) (f : Fld) (b : Bool) : (s.putB f b).outbox = s.outbox := rfl

/-! ### putI -/

@[simp] theorem State.putI_pending (s : State) (f : Fld) (x : Int) : (s.putI f x).pending = s.pending := rfl
@[simp] theorem State.putI_nv (s : State) (f : Fld) (x : Int) : (s.putI f x).nv = s.nv := rfl
@[simp] theorem State.putI_slots (s : State) (f : Fld) (x : Int) : (s.putI f x).slots = s.slots := rfl
@[simp] theorem State.putI_bar2 (s : State) (f : Fld) (x : Int) : (s.putI f x).bar2 = s.bar2 := rfl
@[simp] theorem State.putI_sys (s : State) (f : Fld) (x : Int) : (s.putI f x).sys = s.sys := rfl
@[simp] theorem State.putI_tb (s : State) (f : Fld) (x : Int) : (s.putI f x).tb = s.tb := rfl
@[simp] theorem State.putI_evt (s : State) (f : Fld) (x : Int) : (s.putI f x).evt = s.evt := rfl
@[simp] theorem State.putI_rgs (s : State) (f : Fld) (x : Int) : (s.putI f x).rgs = s.rgs := rfl
@[simp] theorem State.putI_loops (s : State) (f : Fld) (x : Int) : (s.putI f x).loops = s.loops := rfl
@[simp] theorem State.putI_ens (s : State) (f : Fld) (x : Int) : (s.putI f x).ens = s.ens := rfl
@[simp] theorem State.putI_out (s : State) (f : Fld) (x : Int) : (s.putI f x).out = s.out := rfl
@[simp] theorem State.putI_gnss (s : State) (f : Fld) (x : Int) : (s.putI f x).gnss = s.gnss := rfl
@[simp] theorem State.putI_mac (s : State) (f : Fld) (x : Int) : (s.putI f x).mac = s.mac := rfl
@[simp] theorem State.putI_ans (s : State) (f : Fld) (x : Int) : (s.putI f x).ans = s.ans := rfl
@[simp] theorem State.putI_nts (s : State) (f : Fld) (x : Int) : (s.putI f x).nts = s.nts := rfl
@[simp] theorem State.putI_ptp (s : State) (f : Fld) (x : Int) : (s.putI f x).ptp = s.ptp := rfl
@[simp] theorem State.putI_bne (s : State) (f : Fld) (x : Int) : (s.putI f x).bne = s.bne := rfl
@[simp] theorem State.putI_prov (s : State) (f : Fld) (x : Int) : (s.putI f x).prov = s.prov := rfl
@[simp] theorem State.putI_lnk (s : State) (f : Fld) (x : Int) : (s.putI f x).lnk = s.lnk := rfl
@[simp] theorem State.putI_pair (s : State) (f : Fld) (x : Int) : (s.putI f x).pair = s.pair := rfl
@[simp] theorem State.putI_hif (s : State) (f : Fld) (x : Int) : (s.putI f x).hif = s.hif := rfl
@[simp] theorem State.putI_con (s : State) (f : Fld) (x : Int) : (s.putI f x).con = s.con := rfl
@[simp] theorem State.putI_cat (s : State) (f : Fld) (x : Int) : (s.putI f x).cat = s.cat := rfl
@[simp] theorem State.putI_vit (s : State) (f : Fld) (x : Int) : (s.putI f x).vit = s.vit := rfl
@[simp] theorem State.putI_free (s : State) (f : Fld) (x : Int) : (s.putI f x).free = s.free := rfl
@[simp] theorem State.putI_outbox (s : State) (f : Fld) (x : Int) : (s.putI f x).outbox = s.outbox := rfl

/-! ### put64 -/

@[simp] theorem State.put64_pending (s : State) (o v : Nat) : (s.put64 o v).pending = s.pending := rfl
@[simp] theorem State.put64_nv (s : State) (o v : Nat) : (s.put64 o v).nv = s.nv := rfl
@[simp] theorem State.put64_slots (s : State) (o v : Nat) : (s.put64 o v).slots = s.slots := rfl
@[simp] theorem State.put64_bar2 (s : State) (o v : Nat) : (s.put64 o v).bar2 = s.bar2 := rfl
@[simp] theorem State.put64_sys (s : State) (o v : Nat) : (s.put64 o v).sys = s.sys := rfl
@[simp] theorem State.put64_tb (s : State) (o v : Nat) : (s.put64 o v).tb = s.tb := rfl
@[simp] theorem State.put64_evt (s : State) (o v : Nat) : (s.put64 o v).evt = s.evt := rfl
@[simp] theorem State.put64_rgs (s : State) (o v : Nat) : (s.put64 o v).rgs = s.rgs := rfl
@[simp] theorem State.put64_loops (s : State) (o v : Nat) : (s.put64 o v).loops = s.loops := rfl
@[simp] theorem State.put64_ens (s : State) (o v : Nat) : (s.put64 o v).ens = s.ens := rfl
@[simp] theorem State.put64_out (s : State) (o v : Nat) : (s.put64 o v).out = s.out := rfl
@[simp] theorem State.put64_gnss (s : State) (o v : Nat) : (s.put64 o v).gnss = s.gnss := rfl
@[simp] theorem State.put64_mac (s : State) (o v : Nat) : (s.put64 o v).mac = s.mac := rfl
@[simp] theorem State.put64_ans (s : State) (o v : Nat) : (s.put64 o v).ans = s.ans := rfl
@[simp] theorem State.put64_nts (s : State) (o v : Nat) : (s.put64 o v).nts = s.nts := rfl
@[simp] theorem State.put64_ptp (s : State) (o v : Nat) : (s.put64 o v).ptp = s.ptp := rfl
@[simp] theorem State.put64_bne (s : State) (o v : Nat) : (s.put64 o v).bne = s.bne := rfl
@[simp] theorem State.put64_prov (s : State) (o v : Nat) : (s.put64 o v).prov = s.prov := rfl
@[simp] theorem State.put64_lnk (s : State) (o v : Nat) : (s.put64 o v).lnk = s.lnk := rfl
@[simp] theorem State.put64_pair (s : State) (o v : Nat) : (s.put64 o v).pair = s.pair := rfl
@[simp] theorem State.put64_hif (s : State) (o v : Nat) : (s.put64 o v).hif = s.hif := rfl
@[simp] theorem State.put64_con (s : State) (o v : Nat) : (s.put64 o v).con = s.con := rfl
@[simp] theorem State.put64_cat (s : State) (o v : Nat) : (s.put64 o v).cat = s.cat := rfl
@[simp] theorem State.put64_vit (s : State) (o v : Nat) : (s.put64 o v).vit = s.vit := rfl
@[simp] theorem State.put64_free (s : State) (o v : Nat) : (s.put64 o v).free = s.free := rfl
@[simp] theorem State.put64_outbox (s : State) (o v : Nat) : (s.put64 o v).outbox = s.outbox := rfl

/-! ### putS -/

@[simp] theorem State.putS_pending (s : State) (o : Nat) (x : Int) : (s.putS o x).pending = s.pending := rfl
@[simp] theorem State.putS_nv (s : State) (o : Nat) (x : Int) : (s.putS o x).nv = s.nv := rfl
@[simp] theorem State.putS_slots (s : State) (o : Nat) (x : Int) : (s.putS o x).slots = s.slots := rfl
@[simp] theorem State.putS_bar2 (s : State) (o : Nat) (x : Int) : (s.putS o x).bar2 = s.bar2 := rfl
@[simp] theorem State.putS_sys (s : State) (o : Nat) (x : Int) : (s.putS o x).sys = s.sys := rfl
@[simp] theorem State.putS_tb (s : State) (o : Nat) (x : Int) : (s.putS o x).tb = s.tb := rfl
@[simp] theorem State.putS_evt (s : State) (o : Nat) (x : Int) : (s.putS o x).evt = s.evt := rfl
@[simp] theorem State.putS_rgs (s : State) (o : Nat) (x : Int) : (s.putS o x).rgs = s.rgs := rfl
@[simp] theorem State.putS_loops (s : State) (o : Nat) (x : Int) : (s.putS o x).loops = s.loops := rfl
@[simp] theorem State.putS_ens (s : State) (o : Nat) (x : Int) : (s.putS o x).ens = s.ens := rfl
@[simp] theorem State.putS_out (s : State) (o : Nat) (x : Int) : (s.putS o x).out = s.out := rfl
@[simp] theorem State.putS_gnss (s : State) (o : Nat) (x : Int) : (s.putS o x).gnss = s.gnss := rfl
@[simp] theorem State.putS_mac (s : State) (o : Nat) (x : Int) : (s.putS o x).mac = s.mac := rfl
@[simp] theorem State.putS_ans (s : State) (o : Nat) (x : Int) : (s.putS o x).ans = s.ans := rfl
@[simp] theorem State.putS_nts (s : State) (o : Nat) (x : Int) : (s.putS o x).nts = s.nts := rfl
@[simp] theorem State.putS_ptp (s : State) (o : Nat) (x : Int) : (s.putS o x).ptp = s.ptp := rfl
@[simp] theorem State.putS_bne (s : State) (o : Nat) (x : Int) : (s.putS o x).bne = s.bne := rfl
@[simp] theorem State.putS_prov (s : State) (o : Nat) (x : Int) : (s.putS o x).prov = s.prov := rfl
@[simp] theorem State.putS_lnk (s : State) (o : Nat) (x : Int) : (s.putS o x).lnk = s.lnk := rfl
@[simp] theorem State.putS_pair (s : State) (o : Nat) (x : Int) : (s.putS o x).pair = s.pair := rfl
@[simp] theorem State.putS_hif (s : State) (o : Nat) (x : Int) : (s.putS o x).hif = s.hif := rfl
@[simp] theorem State.putS_con (s : State) (o : Nat) (x : Int) : (s.putS o x).con = s.con := rfl
@[simp] theorem State.putS_cat (s : State) (o : Nat) (x : Int) : (s.putS o x).cat = s.cat := rfl
@[simp] theorem State.putS_vit (s : State) (o : Nat) (x : Int) : (s.putS o x).vit = s.vit := rfl
@[simp] theorem State.putS_free (s : State) (o : Nat) (x : Int) : (s.putS o x).free = s.free := rfl
@[simp] theorem State.putS_outbox (s : State) (o : Nat) (x : Int) : (s.putS o x).outbox = s.outbox := rfl

/-! ### count -/

@[simp] theorem State.count_pending (s : State) (f : Fld) (n : Nat) : (s.count f n).pending = s.pending := rfl
@[simp] theorem State.count_nv (s : State) (f : Fld) (n : Nat) : (s.count f n).nv = s.nv := rfl
@[simp] theorem State.count_slots (s : State) (f : Fld) (n : Nat) : (s.count f n).slots = s.slots := rfl
@[simp] theorem State.count_bar2 (s : State) (f : Fld) (n : Nat) : (s.count f n).bar2 = s.bar2 := rfl
@[simp] theorem State.count_sys (s : State) (f : Fld) (n : Nat) : (s.count f n).sys = s.sys := rfl
@[simp] theorem State.count_tb (s : State) (f : Fld) (n : Nat) : (s.count f n).tb = s.tb := rfl
@[simp] theorem State.count_evt (s : State) (f : Fld) (n : Nat) : (s.count f n).evt = s.evt := rfl
@[simp] theorem State.count_rgs (s : State) (f : Fld) (n : Nat) : (s.count f n).rgs = s.rgs := rfl
@[simp] theorem State.count_loops (s : State) (f : Fld) (n : Nat) : (s.count f n).loops = s.loops := rfl
@[simp] theorem State.count_ens (s : State) (f : Fld) (n : Nat) : (s.count f n).ens = s.ens := rfl
@[simp] theorem State.count_out (s : State) (f : Fld) (n : Nat) : (s.count f n).out = s.out := rfl
@[simp] theorem State.count_gnss (s : State) (f : Fld) (n : Nat) : (s.count f n).gnss = s.gnss := rfl
@[simp] theorem State.count_mac (s : State) (f : Fld) (n : Nat) : (s.count f n).mac = s.mac := rfl
@[simp] theorem State.count_ans (s : State) (f : Fld) (n : Nat) : (s.count f n).ans = s.ans := rfl
@[simp] theorem State.count_nts (s : State) (f : Fld) (n : Nat) : (s.count f n).nts = s.nts := rfl
@[simp] theorem State.count_ptp (s : State) (f : Fld) (n : Nat) : (s.count f n).ptp = s.ptp := rfl
@[simp] theorem State.count_bne (s : State) (f : Fld) (n : Nat) : (s.count f n).bne = s.bne := rfl
@[simp] theorem State.count_prov (s : State) (f : Fld) (n : Nat) : (s.count f n).prov = s.prov := rfl
@[simp] theorem State.count_lnk (s : State) (f : Fld) (n : Nat) : (s.count f n).lnk = s.lnk := rfl
@[simp] theorem State.count_pair (s : State) (f : Fld) (n : Nat) : (s.count f n).pair = s.pair := rfl
@[simp] theorem State.count_hif (s : State) (f : Fld) (n : Nat) : (s.count f n).hif = s.hif := rfl
@[simp] theorem State.count_con (s : State) (f : Fld) (n : Nat) : (s.count f n).con = s.con := rfl
@[simp] theorem State.count_cat (s : State) (f : Fld) (n : Nat) : (s.count f n).cat = s.cat := rfl
@[simp] theorem State.count_vit (s : State) (f : Fld) (n : Nat) : (s.count f n).vit = s.vit := rfl
@[simp] theorem State.count_free (s : State) (f : Fld) (n : Nat) : (s.count f n).free = s.free := rfl
@[simp] theorem State.count_outbox (s : State) (f : Fld) (n : Nat) : (s.count f n).outbox = s.outbox := rfl

/-! ### countWrap -/

@[simp] theorem State.countWrap_pending (s : State) (f : Fld) (n : Nat) : (s.countWrap f n).pending = s.pending := rfl
@[simp] theorem State.countWrap_nv (s : State) (f : Fld) (n : Nat) : (s.countWrap f n).nv = s.nv := rfl
@[simp] theorem State.countWrap_slots (s : State) (f : Fld) (n : Nat) : (s.countWrap f n).slots = s.slots := rfl
@[simp] theorem State.countWrap_bar2 (s : State) (f : Fld) (n : Nat) : (s.countWrap f n).bar2 = s.bar2 := rfl
@[simp] theorem State.countWrap_sys (s : State) (f : Fld) (n : Nat) : (s.countWrap f n).sys = s.sys := rfl
@[simp] theorem State.countWrap_tb (s : State) (f : Fld) (n : Nat) : (s.countWrap f n).tb = s.tb := rfl
@[simp] theorem State.countWrap_evt (s : State) (f : Fld) (n : Nat) : (s.countWrap f n).evt = s.evt := rfl
@[simp] theorem State.countWrap_rgs (s : State) (f : Fld) (n : Nat) : (s.countWrap f n).rgs = s.rgs := rfl
@[simp] theorem State.countWrap_loops (s : State) (f : Fld) (n : Nat) : (s.countWrap f n).loops = s.loops := rfl
@[simp] theorem State.countWrap_ens (s : State) (f : Fld) (n : Nat) : (s.countWrap f n).ens = s.ens := rfl
@[simp] theorem State.countWrap_out (s : State) (f : Fld) (n : Nat) : (s.countWrap f n).out = s.out := rfl
@[simp] theorem State.countWrap_gnss (s : State) (f : Fld) (n : Nat) : (s.countWrap f n).gnss = s.gnss := rfl
@[simp] theorem State.countWrap_mac (s : State) (f : Fld) (n : Nat) : (s.countWrap f n).mac = s.mac := rfl
@[simp] theorem State.countWrap_ans (s : State) (f : Fld) (n : Nat) : (s.countWrap f n).ans = s.ans := rfl
@[simp] theorem State.countWrap_nts (s : State) (f : Fld) (n : Nat) : (s.countWrap f n).nts = s.nts := rfl
@[simp] theorem State.countWrap_ptp (s : State) (f : Fld) (n : Nat) : (s.countWrap f n).ptp = s.ptp := rfl
@[simp] theorem State.countWrap_bne (s : State) (f : Fld) (n : Nat) : (s.countWrap f n).bne = s.bne := rfl
@[simp] theorem State.countWrap_prov (s : State) (f : Fld) (n : Nat) : (s.countWrap f n).prov = s.prov := rfl
@[simp] theorem State.countWrap_lnk (s : State) (f : Fld) (n : Nat) : (s.countWrap f n).lnk = s.lnk := rfl
@[simp] theorem State.countWrap_pair (s : State) (f : Fld) (n : Nat) : (s.countWrap f n).pair = s.pair := rfl
@[simp] theorem State.countWrap_hif (s : State) (f : Fld) (n : Nat) : (s.countWrap f n).hif = s.hif := rfl
@[simp] theorem State.countWrap_con (s : State) (f : Fld) (n : Nat) : (s.countWrap f n).con = s.con := rfl
@[simp] theorem State.countWrap_cat (s : State) (f : Fld) (n : Nat) : (s.countWrap f n).cat = s.cat := rfl
@[simp] theorem State.countWrap_vit (s : State) (f : Fld) (n : Nat) : (s.countWrap f n).vit = s.vit := rfl
@[simp] theorem State.countWrap_free (s : State) (f : Fld) (n : Nat) : (s.countWrap f n).free = s.free := rfl
@[simp] theorem State.countWrap_outbox (s : State) (f : Fld) (n : Nat) : (s.countWrap f n).outbox = s.outbox := rfl

/-! ### revert -/

@[simp] theorem State.revert_pending (s : State) (a b : Nat) : (s.revert a b).pending = s.pending := rfl
@[simp] theorem State.revert_nv (s : State) (a b : Nat) : (s.revert a b).nv = s.nv := rfl
@[simp] theorem State.revert_slots (s : State) (a b : Nat) : (s.revert a b).slots = s.slots := rfl
@[simp] theorem State.revert_bar2 (s : State) (a b : Nat) : (s.revert a b).bar2 = s.bar2 := rfl
@[simp] theorem State.revert_sys (s : State) (a b : Nat) : (s.revert a b).sys = s.sys := rfl
@[simp] theorem State.revert_tb (s : State) (a b : Nat) : (s.revert a b).tb = s.tb := rfl
@[simp] theorem State.revert_evt (s : State) (a b : Nat) : (s.revert a b).evt = s.evt := rfl
@[simp] theorem State.revert_rgs (s : State) (a b : Nat) : (s.revert a b).rgs = s.rgs := rfl
@[simp] theorem State.revert_loops (s : State) (a b : Nat) : (s.revert a b).loops = s.loops := rfl
@[simp] theorem State.revert_ens (s : State) (a b : Nat) : (s.revert a b).ens = s.ens := rfl
@[simp] theorem State.revert_out (s : State) (a b : Nat) : (s.revert a b).out = s.out := rfl
@[simp] theorem State.revert_gnss (s : State) (a b : Nat) : (s.revert a b).gnss = s.gnss := rfl
@[simp] theorem State.revert_mac (s : State) (a b : Nat) : (s.revert a b).mac = s.mac := rfl
@[simp] theorem State.revert_ans (s : State) (a b : Nat) : (s.revert a b).ans = s.ans := rfl
@[simp] theorem State.revert_nts (s : State) (a b : Nat) : (s.revert a b).nts = s.nts := rfl
@[simp] theorem State.revert_ptp (s : State) (a b : Nat) : (s.revert a b).ptp = s.ptp := rfl
@[simp] theorem State.revert_bne (s : State) (a b : Nat) : (s.revert a b).bne = s.bne := rfl
@[simp] theorem State.revert_prov (s : State) (a b : Nat) : (s.revert a b).prov = s.prov := rfl
@[simp] theorem State.revert_lnk (s : State) (a b : Nat) : (s.revert a b).lnk = s.lnk := rfl
@[simp] theorem State.revert_pair (s : State) (a b : Nat) : (s.revert a b).pair = s.pair := rfl
@[simp] theorem State.revert_hif (s : State) (a b : Nat) : (s.revert a b).hif = s.hif := rfl
@[simp] theorem State.revert_con (s : State) (a b : Nat) : (s.revert a b).con = s.con := rfl
@[simp] theorem State.revert_cat (s : State) (a b : Nat) : (s.revert a b).cat = s.cat := rfl
@[simp] theorem State.revert_vit (s : State) (a b : Nat) : (s.revert a b).vit = s.vit := rfl
@[simp] theorem State.revert_free (s : State) (a b : Nat) : (s.revert a b).free = s.free := rfl
@[simp] theorem State.revert_outbox (s : State) (a b : Nat) : (s.revert a b).outbox = s.outbox := rfl

/-! ### unstage -/

@[simp] theorem State.unstage_pending (s : State) (o : Nat) : (s.unstage o).pending = s.pending := rfl
@[simp] theorem State.unstage_nv (s : State) (o : Nat) : (s.unstage o).nv = s.nv := rfl
@[simp] theorem State.unstage_slots (s : State) (o : Nat) : (s.unstage o).slots = s.slots := rfl
@[simp] theorem State.unstage_bar2 (s : State) (o : Nat) : (s.unstage o).bar2 = s.bar2 := rfl
@[simp] theorem State.unstage_sys (s : State) (o : Nat) : (s.unstage o).sys = s.sys := rfl
@[simp] theorem State.unstage_tb (s : State) (o : Nat) : (s.unstage o).tb = s.tb := rfl
@[simp] theorem State.unstage_evt (s : State) (o : Nat) : (s.unstage o).evt = s.evt := rfl
@[simp] theorem State.unstage_rgs (s : State) (o : Nat) : (s.unstage o).rgs = s.rgs := rfl
@[simp] theorem State.unstage_loops (s : State) (o : Nat) : (s.unstage o).loops = s.loops := rfl
@[simp] theorem State.unstage_ens (s : State) (o : Nat) : (s.unstage o).ens = s.ens := rfl
@[simp] theorem State.unstage_out (s : State) (o : Nat) : (s.unstage o).out = s.out := rfl
@[simp] theorem State.unstage_gnss (s : State) (o : Nat) : (s.unstage o).gnss = s.gnss := rfl
@[simp] theorem State.unstage_mac (s : State) (o : Nat) : (s.unstage o).mac = s.mac := rfl
@[simp] theorem State.unstage_ans (s : State) (o : Nat) : (s.unstage o).ans = s.ans := rfl
@[simp] theorem State.unstage_nts (s : State) (o : Nat) : (s.unstage o).nts = s.nts := rfl
@[simp] theorem State.unstage_ptp (s : State) (o : Nat) : (s.unstage o).ptp = s.ptp := rfl
@[simp] theorem State.unstage_bne (s : State) (o : Nat) : (s.unstage o).bne = s.bne := rfl
@[simp] theorem State.unstage_prov (s : State) (o : Nat) : (s.unstage o).prov = s.prov := rfl
@[simp] theorem State.unstage_lnk (s : State) (o : Nat) : (s.unstage o).lnk = s.lnk := rfl
@[simp] theorem State.unstage_pair (s : State) (o : Nat) : (s.unstage o).pair = s.pair := rfl
@[simp] theorem State.unstage_hif (s : State) (o : Nat) : (s.unstage o).hif = s.hif := rfl
@[simp] theorem State.unstage_con (s : State) (o : Nat) : (s.unstage o).con = s.con := rfl
@[simp] theorem State.unstage_cat (s : State) (o : Nat) : (s.unstage o).cat = s.cat := rfl
@[simp] theorem State.unstage_vit (s : State) (o : Nat) : (s.unstage o).vit = s.vit := rfl
@[simp] theorem State.unstage_free (s : State) (o : Nat) : (s.unstage o).free = s.free := rfl
@[simp] theorem State.unstage_outbox (s : State) (o : Nat) : (s.unstage o).outbox = s.outbox := rfl

/-! ### emit -/

@[simp] theorem State.emit_pending (s : State) (o : Out) : (s.emit o).pending = s.pending := rfl
@[simp] theorem State.emit_nv (s : State) (o : Out) : (s.emit o).nv = s.nv := rfl
@[simp] theorem State.emit_slots (s : State) (o : Out) : (s.emit o).slots = s.slots := rfl
@[simp] theorem State.emit_bar2 (s : State) (o : Out) : (s.emit o).bar2 = s.bar2 := rfl
@[simp] theorem State.emit_sys (s : State) (o : Out) : (s.emit o).sys = s.sys := rfl
@[simp] theorem State.emit_tb (s : State) (o : Out) : (s.emit o).tb = s.tb := rfl
@[simp] theorem State.emit_evt (s : State) (o : Out) : (s.emit o).evt = s.evt := rfl
@[simp] theorem State.emit_rgs (s : State) (o : Out) : (s.emit o).rgs = s.rgs := rfl
@[simp] theorem State.emit_loops (s : State) (o : Out) : (s.emit o).loops = s.loops := rfl
@[simp] theorem State.emit_ens (s : State) (o : Out) : (s.emit o).ens = s.ens := rfl
@[simp] theorem State.emit_out (s : State) (o : Out) : (s.emit o).out = s.out := rfl
@[simp] theorem State.emit_gnss (s : State) (o : Out) : (s.emit o).gnss = s.gnss := rfl
@[simp] theorem State.emit_mac (s : State) (o : Out) : (s.emit o).mac = s.mac := rfl
@[simp] theorem State.emit_ans (s : State) (o : Out) : (s.emit o).ans = s.ans := rfl
@[simp] theorem State.emit_nts (s : State) (o : Out) : (s.emit o).nts = s.nts := rfl
@[simp] theorem State.emit_ptp (s : State) (o : Out) : (s.emit o).ptp = s.ptp := rfl
@[simp] theorem State.emit_bne (s : State) (o : Out) : (s.emit o).bne = s.bne := rfl
@[simp] theorem State.emit_prov (s : State) (o : Out) : (s.emit o).prov = s.prov := rfl
@[simp] theorem State.emit_lnk (s : State) (o : Out) : (s.emit o).lnk = s.lnk := rfl
@[simp] theorem State.emit_pair (s : State) (o : Out) : (s.emit o).pair = s.pair := rfl
@[simp] theorem State.emit_hif (s : State) (o : Out) : (s.emit o).hif = s.hif := rfl
@[simp] theorem State.emit_con (s : State) (o : Out) : (s.emit o).con = s.con := rfl
@[simp] theorem State.emit_cat (s : State) (o : Out) : (s.emit o).cat = s.cat := rfl
@[simp] theorem State.emit_vit (s : State) (o : Out) : (s.emit o).vit = s.vit := rfl
@[simp] theorem State.emit_rf (s : State) (o : Out) : (s.emit o).rf = s.rf := rfl
@[simp] theorem State.emit_free (s : State) (o : Out) : (s.emit o).free = s.free := rfl

/-! ### raise -/

@[simp] theorem State.raise_pending (s : State) (n : Nat) : (s.raise n).pending = s.pending := rfl
@[simp] theorem State.raise_nv (s : State) (n : Nat) : (s.raise n).nv = s.nv := rfl
@[simp] theorem State.raise_slots (s : State) (n : Nat) : (s.raise n).slots = s.slots := rfl
@[simp] theorem State.raise_bar2 (s : State) (n : Nat) : (s.raise n).bar2 = s.bar2 := rfl
@[simp] theorem State.raise_sys (s : State) (n : Nat) : (s.raise n).sys = s.sys := rfl
@[simp] theorem State.raise_tb (s : State) (n : Nat) : (s.raise n).tb = s.tb := rfl
@[simp] theorem State.raise_evt (s : State) (n : Nat) : (s.raise n).evt = s.evt := rfl
@[simp] theorem State.raise_rgs (s : State) (n : Nat) : (s.raise n).rgs = s.rgs := rfl
@[simp] theorem State.raise_loops (s : State) (n : Nat) : (s.raise n).loops = s.loops := rfl
@[simp] theorem State.raise_ens (s : State) (n : Nat) : (s.raise n).ens = s.ens := rfl
@[simp] theorem State.raise_out (s : State) (n : Nat) : (s.raise n).out = s.out := rfl
@[simp] theorem State.raise_gnss (s : State) (n : Nat) : (s.raise n).gnss = s.gnss := rfl
@[simp] theorem State.raise_mac (s : State) (n : Nat) : (s.raise n).mac = s.mac := rfl
@[simp] theorem State.raise_ans (s : State) (n : Nat) : (s.raise n).ans = s.ans := rfl
@[simp] theorem State.raise_nts (s : State) (n : Nat) : (s.raise n).nts = s.nts := rfl
@[simp] theorem State.raise_ptp (s : State) (n : Nat) : (s.raise n).ptp = s.ptp := rfl
@[simp] theorem State.raise_bne (s : State) (n : Nat) : (s.raise n).bne = s.bne := rfl
@[simp] theorem State.raise_prov (s : State) (n : Nat) : (s.raise n).prov = s.prov := rfl
@[simp] theorem State.raise_lnk (s : State) (n : Nat) : (s.raise n).lnk = s.lnk := rfl
@[simp] theorem State.raise_pair (s : State) (n : Nat) : (s.raise n).pair = s.pair := rfl
@[simp] theorem State.raise_hif (s : State) (n : Nat) : (s.raise n).hif = s.hif := rfl
@[simp] theorem State.raise_con (s : State) (n : Nat) : (s.raise n).con = s.con := rfl
@[simp] theorem State.raise_cat (s : State) (n : Nat) : (s.raise n).cat = s.cat := rfl
@[simp] theorem State.raise_vit (s : State) (n : Nat) : (s.raise n).vit = s.vit := rfl
@[simp] theorem State.raise_free (s : State) (n : Nat) : (s.raise n).free = s.free := rfl

/-! ### freeNext -/

@[simp] theorem State.freeNext_pending (s : State) : (s.freeNext).pending = s.pending := rfl
@[simp] theorem State.freeNext_nv (s : State) : (s.freeNext).nv = s.nv := rfl
@[simp] theorem State.freeNext_slots (s : State) : (s.freeNext).slots = s.slots := rfl
@[simp] theorem State.freeNext_bar2 (s : State) : (s.freeNext).bar2 = s.bar2 := rfl
@[simp] theorem State.freeNext_sys (s : State) : (s.freeNext).sys = s.sys := rfl
@[simp] theorem State.freeNext_tb (s : State) : (s.freeNext).tb = s.tb := rfl
@[simp] theorem State.freeNext_evt (s : State) : (s.freeNext).evt = s.evt := rfl
@[simp] theorem State.freeNext_rgs (s : State) : (s.freeNext).rgs = s.rgs := rfl
@[simp] theorem State.freeNext_loops (s : State) : (s.freeNext).loops = s.loops := rfl
@[simp] theorem State.freeNext_ens (s : State) : (s.freeNext).ens = s.ens := rfl
@[simp] theorem State.freeNext_out (s : State) : (s.freeNext).out = s.out := rfl
@[simp] theorem State.freeNext_gnss (s : State) : (s.freeNext).gnss = s.gnss := rfl
@[simp] theorem State.freeNext_mac (s : State) : (s.freeNext).mac = s.mac := rfl
@[simp] theorem State.freeNext_ans (s : State) : (s.freeNext).ans = s.ans := rfl
@[simp] theorem State.freeNext_nts (s : State) : (s.freeNext).nts = s.nts := rfl
@[simp] theorem State.freeNext_ptp (s : State) : (s.freeNext).ptp = s.ptp := rfl
@[simp] theorem State.freeNext_bne (s : State) : (s.freeNext).bne = s.bne := rfl
@[simp] theorem State.freeNext_prov (s : State) : (s.freeNext).prov = s.prov := rfl
@[simp] theorem State.freeNext_lnk (s : State) : (s.freeNext).lnk = s.lnk := rfl
@[simp] theorem State.freeNext_pair (s : State) : (s.freeNext).pair = s.pair := rfl
@[simp] theorem State.freeNext_hif (s : State) : (s.freeNext).hif = s.hif := rfl
@[simp] theorem State.freeNext_con (s : State) : (s.freeNext).con = s.con := rfl
@[simp] theorem State.freeNext_cat (s : State) : (s.freeNext).cat = s.cat := rfl
@[simp] theorem State.freeNext_vit (s : State) : (s.freeNext).vit = s.vit := rfl
@[simp] theorem State.freeNext_rf (s : State) : (s.freeNext).rf = s.rf := rfl
@[simp] theorem State.freeNext_outbox (s : State) : (s.freeNext).outbox = s.outbox := rfl

end Sys2Proof.Machine
end

