-- ==== Sys2Proof/Laws/Keeps.lean ====
section
/-! SUPPORT. What every operation on the state keeps: the form of the state, the queue, and every part outside a mask of part
numbers. -/

namespace Sys2Proof.Machine

/-- The number of a part. -/
def Part.idx : Part → Nat
  | .nv => 0
  | .slots => 1
  | .bar2 => 2
  | .sys => 3
  | .tb => 4
  | .evt => 5
  | .rgs => 6
  | .loops => 7
  | .ens => 8
  | .out => 9
  | .gnss => 10
  | .mac => 11
  | .ans => 12
  | .nts => 13
  | .ptp => 14
  | .bne => 15
  | .prov => 16
  | .lnk => 17
  | .pair => 18
  | .hif => 19
  | .con => 20
  | .cat => 21
  | .vit => 22

/-- From `s` to `t` the form of the state, the queue and every part outside the mask are kept. -/
structure Keeps (m : Nat) (s t : State) : Prop where
  wf : s.Wf → t.Wf
  queue : t.pending = s.pending
  parts : ∀ p : Part, m.testBit p.idx = false → p.same s t

/-- A command ends in a next state that keeps the same. -/
def Runs (m : Nat) (s : State) (o : Host.Outcome State Fault Refusal) : Prop := ∃ t, o = .next t ∧ Keeps m s t

theorem Part.same_refl (s : State) (p : Part) : p.same s s := by cases p <;> rfl

theorem Part.same_trans {a b c : State} {p : Part} (h : p.same a b) (k : p.same b c) : p.same a c := by
  cases p <;> exact Eq.trans k h

theorem Keeps.refl (m : Nat) (s : State) : Keeps m s s := ⟨id, rfl, fun p _ => p.same_refl s⟩

theorem Keeps.after {m M : Nat} {a b c : State} (hs : m &&& M = m) (h : Keeps M a b) (k : Keeps m b c) : Keeps M a c := by
  refine ⟨k.wf ∘ h.wf, k.queue.trans h.queue, fun p hp => Part.same_trans (h.parts p hp) (k.parts p ?_)⟩
  rw [← hs, Nat.testBit_and, hp, Bool.and_false]

theorem Keeps.via {m M : Nat} {a b c : State} (k : Keeps m b c) (hs : m &&& M = m) (h : Keeps M a b) : Keeps M a c :=
  .after hs h k

theorem mask_trans {l m M : Nat} (h : l &&& m = l) (k : m &&& M = m) : l &&& M = l := by
  rw [← h, Nat.and_assoc, k]

theorem Keeps.cut {M : Nat} {s : State} {P : Prop} (t : State) (h : Keeps M s t) (k : Keeps M s t → P) : P := k h

theorem Keeps.cutFun {M : Nat} {s : State} {P : Prop} (t : State → State) (h : ∀ a, Keeps M s a → Keeps M s (t a))
    (k : (∀ a, Keeps M s a → Keeps M s (t a)) → P) : P := k h

theorem Keeps.cutFst {α : Type} {M : Nat} {s : State} {P : Prop} (t : State × α) (h : Keeps M s t.1) (k : Keeps M s t.1 → P) :
    P := k h

theorem Keeps.cutSnd {α : Type} {M : Nat} {s : State} {P : Prop} (t : α × State) (h : Keeps M s t.2) (k : Keeps M s t.2 → P) :
    P := k h

theorem Keeps.cutThird {α β : Type} {M : Nat} {s : State} {P : Prop} (t : α × β × State) (h : Keeps M s t.2.2)
    (k : Keeps M s t.2.2 → P) : P := k h

theorem Keeps.ite {M : Nat} {s a b : State} {c : Prop} [Decidable c] (h : Keeps M s a) (k : Keeps M s b) :
    Keeps M s (if c then a else b) := by split <;> assumption

theorem Runs.ite {M : Nat} {s : State} {a b : Host.Outcome State Fault Refusal} {c : Prop} [Decidable c] (h : Runs M s a)
    (k : Runs M s b) : Runs M s (if c then a else b) := by split <;> assumption

theorem Runs.next {M : Nat} {s t : State} (h : Keeps M s t) : Runs M s (.next t) := ⟨t, rfl, h⟩

theorem Keeps.foldl {α : Type} {M : Nat} {s a : State} {f : State → α → State} (l : List α) (h : Keeps M s a)
    (hf : ∀ b x, Keeps M s b → Keeps M s (f b x)) : Keeps M s (l.foldl f a) := by
  induction l generalizing a with
  | nil => exact h
  | cons x l ih => exact ih (hf a x h)

theorem Keeps.onlyIf {M : Nat} {s a : State} {c : Bool} {f : State → State} (h : Keeps M s a)
    (hf : ∀ b, Keeps M s b → Keeps M s (f b)) : Keeps M s (State.onlyIf c f a) := by
  unfold State.onlyIf; split
  · exact hf a h
  · exact h

/-- Several parts replaced at once. -/
theorem Keeps.step {M : Nat} {a s t : State} (h : Keeps M a s) (hw : s.Wf → t.Wf) (hq : t.pending = s.pending)
    (hp : ∀ p : Part, M.testBit p.idx = false → p.same s t) : Keeps M a t :=
  ⟨hw ∘ h.wf, hq.trans h.queue, fun p k => Part.same_trans (h.parts p k) (hp p k)⟩

/-! ### One part replaced -/

theorem Keeps.nv {M : Nat} {a s : State} {x : _} (w : s.Wf → Memory.wf nvErased x = true) (hM : M.testBit 0 = true) (h : Keeps M a s) :
    Keeps M a { s with nv := x } where
  wf q := have g := h.wf q; { g with nv := w g }
  queue := h.queue
  parts q hq := by
    cases q <;> first | exact h.parts _ hq | (simp [Part.idx, hM] at hq)

theorem Keeps.slots {M : Nat} {a s : State} {x : _} (w : s.Wf → x.length = 2) (hM : M.testBit 1 = true) (h : Keeps M a s) :
    Keeps M a { s with slots := x } where
  wf q := have g := h.wf q; { g with slots := w g }
  queue := h.queue
  parts q hq := by
    cases q <;> first | exact h.parts _ hq | (simp [Part.idx, hM] at hq)

theorem Keeps.bar2 {M : Nat} {a s : State} {x : _} (w : s.Wf → Memory.wf bar2Zero x = true) (hM : M.testBit 2 = true) (h : Keeps M a s) :
    Keeps M a { s with bar2 := x } where
  wf q := have g := h.wf q; { g with bar2 := w g }
  queue := h.queue
  parts q hq := by
    cases q <;> first | exact h.parts _ hq | (simp [Part.idx, hM] at hq)

theorem Keeps.sys {M : Nat} {a s : State} {x : _} (hM : M.testBit 3 = true) (h : Keeps M a s) :
    Keeps M a { s with sys := x } where
  wf q := have g := h.wf q; { g with }
  queue := h.queue
  parts q hq := by
    cases q <;> first | exact h.parts _ hq | (simp [Part.idx, hM] at hq)

theorem Keeps.tb {M : Nat} {a s : State} {x : _} (w : s.Wf → TbState.Full x) (hM : M.testBit 4 = true) (h : Keeps M a s) :
    Keeps M a { s with tb := x } where
  wf q := have g := h.wf q; { g with tb := w g }
  queue := h.queue
  parts q hq := by
    cases q <;> first | exact h.parts _ hq | (simp [Part.idx, hM] at hq)

theorem Keeps.evt {M : Nat} {a s : State} {x : _} (w : s.Wf → EvtState.Full x) (hM : M.testBit 5 = true) (h : Keeps M a s) :
    Keeps M a { s with evt := x } where
  wf q := have g := h.wf q; { g with evt := w g }
  queue := h.queue
  parts q hq := by
    cases q <;> first | exact h.parts _ hq | (simp [Part.idx, hM] at hq)

theorem Keeps.rgs {M : Nat} {a s : State} {x : _} (w : s.Wf → RgsState.Full x) (hM : M.testBit 6 = true) (h : Keeps M a s) :
    Keeps M a { s with rgs := x } where
  wf q := have g := h.wf q; { g with rgs := w g }
  queue := h.queue
  parts q hq := by
    cases q <;> first | exact h.parts _ hq | (simp [Part.idx, hM] at hq)

theorem Keeps.loops {M : Nat} {a s : State} {x : _} (w : s.Wf → x.length = 24) (hM : M.testBit 7 = true) (h : Keeps M a s) :
    Keeps M a { s with loops := x } where
  wf q := have g := h.wf q; { g with loops := w g }
  queue := h.queue
  parts q hq := by
    cases q <;> first | exact h.parts _ hq | (simp [Part.idx, hM] at hq)

theorem Keeps.ens {M : Nat} {a s : State} {x : _} (w : s.Wf → EnsState.Full x) (hM : M.testBit 8 = true) (h : Keeps M a s) :
    Keeps M a { s with ens := x } where
  wf q := have g := h.wf q; { g with ens := w g }
  queue := h.queue
  parts q hq := by
    cases q <;> first | exact h.parts _ hq | (simp [Part.idx, hM] at hq)

theorem Keeps.out {M : Nat} {a s : State} {x : _} (w : s.Wf → OutState.Full x) (hM : M.testBit 9 = true) (h : Keeps M a s) :
    Keeps M a { s with out := x } where
  wf q := have g := h.wf q; { g with out := w g }
  queue := h.queue
  parts q hq := by
    cases q <;> first | exact h.parts _ hq | (simp [Part.idx, hM] at hq)

theorem Keeps.gnss {M : Nat} {a s : State} {x : _} (w : s.Wf → GnssState.Full x) (hM : M.testBit 10 = true) (h : Keeps M a s) :
    Keeps M a { s with gnss := x } where
  wf q := have g := h.wf q; { g with gnss := w g }
  queue := h.queue
  parts q hq := by
    cases q <;> first | exact h.parts _ hq | (simp [Part.idx, hM] at hq)

theorem Keeps.mac {M : Nat} {a s : State} {x : _} (w : s.Wf → x.length = 8) (hM : M.testBit 11 = true) (h : Keeps M a s) :
    Keeps M a { s with mac := x } where
  wf q := have g := h.wf q; { g with mac := w g }
  queue := h.queue
  parts q hq := by
    cases q <;> first | exact h.parts _ hq | (simp [Part.idx, hM] at hq)

theorem Keeps.ans {M : Nat} {a s : State} {x : _} (w : s.Wf → AnsState.Full x) (hM : M.testBit 12 = true) (h : Keeps M a s) :
    Keeps M a { s with ans := x } where
  wf q := have g := h.wf q; { g with ans := w g }
  queue := h.queue
  parts q hq := by
    cases q <;> first | exact h.parts _ hq | (simp [Part.idx, hM] at hq)

theorem Keeps.nts {M : Nat} {a s : State} {x : _} (hM : M.testBit 13 = true) (h : Keeps M a s) :
    Keeps M a { s with nts := x } where
  wf q := have g := h.wf q; { g with }
  queue := h.queue
  parts q hq := by
    cases q <;> first | exact h.parts _ hq | (simp [Part.idx, hM] at hq)

theorem Keeps.ptp {M : Nat} {a s : State} {x : _} (w : s.Wf → PtpState.Full x) (hM : M.testBit 14 = true) (h : Keeps M a s) :
    Keeps M a { s with ptp := x } where
  wf q := have g := h.wf q; { g with ptp := w g }
  queue := h.queue
  parts q hq := by
    cases q <;> first | exact h.parts _ hq | (simp [Part.idx, hM] at hq)

theorem Keeps.bne {M : Nat} {a s : State} {x : _} (w : s.Wf → BneState.Full x) (hM : M.testBit 15 = true) (h : Keeps M a s) :
    Keeps M a { s with bne := x } where
  wf q := have g := h.wf q; { g with bne := w g }
  queue := h.queue
  parts q hq := by
    cases q <;> first | exact h.parts _ hq | (simp [Part.idx, hM] at hq)

theorem Keeps.prov {M : Nat} {a s : State} {x : _} (hM : M.testBit 16 = true) (h : Keeps M a s) :
    Keeps M a { s with prov := x } where
  wf q := have g := h.wf q; { g with }
  queue := h.queue
  parts q hq := by
    cases q <;> first | exact h.parts _ hq | (simp [Part.idx, hM] at hq)

theorem Keeps.lnk {M : Nat} {a s : State} {x : _} (w : s.Wf → LnkState.Full x) (hM : M.testBit 17 = true) (h : Keeps M a s) :
    Keeps M a { s with lnk := x } where
  wf q := have g := h.wf q; { g with lnk := w g }
  queue := h.queue
  parts q hq := by
    cases q <;> first | exact h.parts _ hq | (simp [Part.idx, hM] at hq)

theorem Keeps.pair {M : Nat} {a s : State} {x : _} (w : s.Wf → Memory.wf 0 x.host = true ∧ ∀ e, x.committed = some e → Memory.wf 0 e.host = true) (hM : M.testBit 18 = true) (h : Keeps M a s) :
    Keeps M a { s with pair := x } where
  wf q := have g := h.wf q; { g with host := (w g).1, copy := (w g).2 }
  queue := h.queue
  parts q hq := by
    cases q <;> first | exact h.parts _ hq | (simp [Part.idx, hM] at hq)

theorem Keeps.hif {M : Nat} {a s : State} {x : _} (w : s.Wf → HifState.Full x) (hM : M.testBit 19 = true) (h : Keeps M a s) :
    Keeps M a { s with hif := x } where
  wf q := have g := h.wf q; { g with hif := w g }
  queue := h.queue
  parts q hq := by
    cases q <;> first | exact h.parts _ hq | (simp [Part.idx, hM] at hq)

theorem Keeps.con {M : Nat} {a s : State} {x : _} (w : s.Wf → ConState.Full x) (hM : M.testBit 20 = true) (h : Keeps M a s) :
    Keeps M a { s with con := x } where
  wf q := have g := h.wf q; { g with con := w g }
  queue := h.queue
  parts q hq := by
    cases q <;> first | exact h.parts _ hq | (simp [Part.idx, hM] at hq)

theorem Keeps.cat {M : Nat} {a s : State} {x : _} (hM : M.testBit 21 = true) (h : Keeps M a s) :
    Keeps M a { s with cat := x } where
  wf q := have g := h.wf q; { g with }
  queue := h.queue
  parts q hq := by
    cases q <;> first | exact h.parts _ hq | (simp [Part.idx, hM] at hq)

theorem Keeps.vit {M : Nat} {a s : State} {x : _} (hM : M.testBit 22 = true) (h : Keeps M a s) :
    Keeps M a { s with vit := x } where
  wf q := have g := h.wf q; { g with }
  queue := h.queue
  parts q hq := by
    cases q <;> first | exact h.parts _ hq | (simp [Part.idx, hM] at hq)

theorem TbState.reset_full : TbState.reset.Full := List.length_replicate

theorem EvtState.reset_full : EvtState.reset.Full := ⟨List.length_replicate, List.length_replicate⟩

theorem RgsState.reset_full : RgsState.reset.Full := ⟨List.length_replicate, List.length_replicate⟩

theorem EnsState.reset_full : EnsState.reset.Full := List.length_replicate

theorem OutState.reset_full : OutState.reset.Full := ⟨List.length_replicate, List.length_replicate⟩

theorem GnssState.reset_full : GnssState.reset.Full := ⟨List.length_replicate, List.length_replicate, List.length_replicate⟩

theorem AnsState.reset_full : AnsState.reset.Full := List.length_replicate

theorem PtpState.reset_full : PtpState.reset.Full := List.length_replicate

theorem BneState.reset_full : BneState.reset.Full := List.length_replicate

theorem LnkState.reset_full : LnkState.reset.Full := List.length_replicate

theorem HifState.reset_full : HifState.reset.Full := List.length_replicate

theorem ConState.reset_full : ConState.reset.Full := ⟨List.length_replicate, List.length_replicate⟩

theorem Keeps.free {M : Nat} {a s : State} {x : Nat} (h : Keeps M a s) : Keeps M a { s with free := x } where
  wf q := have g := h.wf q; { g with }
  queue := h.queue
  parts q hq := by cases q <;> exact h.parts _ hq

theorem Keeps.outbox {M : Nat} {a s : State} {x : List Out} (h : Keeps M a s) : Keeps M a { s with outbox := x } where
  wf q := have g := h.wf q; { g with }
  queue := h.queue
  parts q hq := by cases q <;> exact h.parts _ hq

theorem Keeps.rf {M : Nat} {a s : State} {x : RegFile} (hv : s.Wf → keysAbove none x.vals = true)
    (hs : s.Wf → keysAbove none x.staged = true) (h : Keeps M a s) : Keeps M a { s with rf := x } where
  wf q := have g := h.wf q; { g with vals := hv g, staged := hs g }
  queue := h.queue
  parts q hq := by cases q <;> exact h.parts _ hq

/-! ### The shared operations -/

theorem RegFile.set_staged (r : RegFile) (o : Nat) (v : Word) : (r.set o v).staged = r.staged := rfl

theorem RegFile.set_keys (r : RegFile) (o : Nat) (v : Word) (h : keysAbove none r.vals = true) :
    keysAbove none (r.set o v).vals = true := keysAbove_tableSet _ _ _ _ h (by simp)

/-- A register file whose tables are as another's, one written register after the other. -/
structure RegFile.Grown (r q : RegFile) : Prop where
  keys : keysAbove none r.vals = true → keysAbove none q.vals = true
  staged : q.staged = r.staged

theorem RegFile.Grown.refl (r : RegFile) : r.Grown r := ⟨id, rfl⟩

theorem RegFile.Grown.set {r q : RegFile} (o : Nat) (v : Word) (h : r.Grown q) : r.Grown (q.set o v) :=
  ⟨fun k => RegFile.set_keys _ _ _ (h.keys k), h.staged⟩

theorem RegFile.Grown.trans {r q p : RegFile} (h : r.Grown q) (k : q.Grown p) : r.Grown p :=
  ⟨k.keys ∘ h.keys, k.staged.trans h.staged⟩

theorem RegFile.Grown.put {r q : RegFile} (f : Fld) (x : Nat) (h : r.Grown q) : r.Grown (q.put f x) := h.set _ _

theorem RegFile.Grown.put64 {r q : RegFile} (o v : Nat) (h : r.Grown q) : r.Grown (q.put64 o v) := (h.set _ _).set _ _

theorem RegFile.Grown.irqUpdate {r : RegFile} (p : RegFile × List Out) (h : r.Grown p.1) : r.Grown (RegFile.irqUpdate p).1 := by
  have serve : ∀ (a : Nat) (l : List Nat) (p : RegFile × List Out), r.Grown p.1 → r.Grown (l.foldl (RegFile.serve a) p).1 := by
    intro a l
    induction l with
    | nil => exact fun _ h => h
    | cons v l ih =>
      intro p h
      refine ih _ ?_
      unfold RegFile.serve
      split
      · unfold RegFile.deliver
        split
        · exact (h.put64 _ _).put _ _
        · exact h.put64 _ _
      · exact h
  unfold RegFile.irqUpdate
  simp only
  split
  · exact h.put64 _ _
  · exact serve _ _ _ (h.put64 _ _)

theorem Keeps.grown {M : Nat} {a s : State} {x : RegFile} (g : s.rf.Grown x) (h : Keeps M a s) :
    Keeps M a { s with rf := x } :=
  .rf (fun w => g.keys w.vals) (fun w => by rw [g.staged]; exact w.staged) h

theorem State.setReg_keeps (o : Nat) (v : Word) (s : State) : Keeps 0 s (s.setReg o v) :=
  .grown (.set _ _ (.refl _)) (.refl _ _)

theorem State.put_keeps (f : Fld) (x : Nat) (s : State) : Keeps 0 s (s.put f x) := .grown (.put _ _ (.refl _)) (.refl _ _)

theorem State.putB_keeps (f : Fld) (b : Bool) (s : State) : Keeps 0 s (s.putB f b) := s.put_keeps _ _

theorem State.putI_keeps (f : Fld) (x : Int) (s : State) : Keeps 0 s (s.putI f x) := s.put_keeps _ _

theorem State.put64_keeps (o v : Nat) (s : State) : Keeps 0 s (s.put64 o v) := .grown (.put64 _ _ (.refl _)) (.refl _ _)

theorem State.putS_keeps (o : Nat) (x : Int) (s : State) : Keeps 0 s (s.putS o x) := s.put64_keeps _ _

theorem State.count_keeps (f : Fld) (n : Nat) (s : State) : Keeps 0 s (s.count f n) := s.put_keeps _ _

theorem State.countWrap_keeps (f : Fld) (n : Nat) (s : State) : Keeps 0 s (s.countWrap f n) := s.put_keeps _ _

theorem State.emit_keeps (o : Out) (s : State) : Keeps 0 s (s.emit o) := .outbox (.refl _ _)

theorem State.freeNext_keeps (s : State) : Keeps 0 s s.freeNext := .free (.refl _ _)

theorem State.raise_keeps (n : Nat) (s : State) : Keeps 0 s (s.raise n) :=
  .outbox (.grown (.irqUpdate _ (.put _ _ (.refl _))) (.refl _ _))

theorem State.setFlag_keeps (f : Fld) (n : Nat) (s : State) : Keeps 0 s (s.setFlag f n) :=
  .ite (.refl _ _) (.after rfl (s.put_keeps _ _) (State.raise_keeps _ _))

theorem State.setEvent_keeps (f : Fld) (n : Nat) (s : State) : Keeps 0 s (s.setEvent f n) :=
  .after rfl (s.put_keeps _ _) (State.raise_keeps _ _)

theorem State.revert_keeps (a b : Nat) (s : State) : Keeps 0 s (s.revert a b) :=
  .rf (fun w => keysAbove_filter _ _ _ w.vals) (fun w => w.staged) (.refl _ _)

theorem State.unstage_keeps (o : Nat) (s : State) : Keeps 0 s (s.unstage o) :=
  .rf (fun w => w.vals) (fun w => keysAbove_filter _ _ _ w.staged) (.refl _ _)

theorem State.countOpen_keeps (f : Fld) (n : Nat) (s : State) : Keeps 0 s (s.countOpen f n) :=
  .ite (s.put_keeps _ _) (.after rfl (s.put_keeps _ _) (State.freeNext_keeps _))

theorem State.putSat_keeps (o : Nat) (f : Fld) (n : Nat) (x : Int) (s : State) : Keeps 0 s (s.putSat o f n x) :=
  .ite (.after rfl (s.putS_keeps _ _) (State.setFlag_keeps _ _ _)) (s.putS_keeps _ _)

theorem State.deadline_keeps (d : Nat) (t : Int) (s : State) : Keeps 0x100000 s (s.deadline d t) :=
  .after rfl (.con (fun w => by exact w.con) rfl (.after rfl (.after rfl (.refl _ _) (State.count_keeps _ _ _)) (State.put_keeps _ _ _))) (State.raise_keeps _ _)

theorem hostCount_keeps (c : Bool) (s : State) : Keeps 0x10000 s (hostCount c s) := .ite (.prov rfl (.refl _ _)) (.refl _ _)

theorem Keeps.hostDo {M : Nat} {s a : State} {b : Blk} {i : Option (Nat × Nat)} {l : List Nat} {f : State → State}
    (hM : 0x10000 &&& M = 0x10000) (h : Keeps M s a) (hf : ∀ b, Keeps M s b → Keeps M s (f b)) :
    Keeps M s (State.hostDo b i l f a) := by
  unfold State.hostDo
  split
  · exact .after hM (hf a h) (hostCount_keeps _ _)
  · exact h

theorem Keeps.hostPop {M : Nat} {s a : State} {b : Blk} {i : Option (Nat × Nat)} {f : State → State}
    (hM : M.testBit 3 = true) (h : Keeps M s a) (hf : ∀ b, Keeps M s b → Keeps M s (f b)) :
    Keeps M s (State.hostPop b i f a) := by
  unfold State.hostPop
  split
  · exact hf a h
  · exact .sys hM h

end Sys2Proof.Machine
end

