-- ==== Sys2Proof/Laws/KeepsCrossing.lean ====
section
/-! SUPPORT. What the operations of Crossing.lean keep: the form of the state, the queue, and the parts outside their mask. -/

namespace Sys2Proof.Machine

theorem cdcFlag_keeps (f : Fld) (s : State) : Keeps 0 s (cdcFlag f s) := by
  unfold cdcFlag
  exact (.via (State.setFlag_keeps ..) rfl (.refl _ _))

theorem xsDrop_keeps (k n : Nat) (s : State) : Keeps 0 s (xsDrop k n s) := by
  unfold xsDrop
  exact (.ite (.refl _ _) (.via (cdcFlag_keeps ..) rfl (.via (State.count_keeps ..) rfl (.refl _ _))))

theorem xsHold_keeps (k n : Nat) (s : State) : Keeps 8 s (xsHold k n s) := by
  unfold xsHold
  lift_lets
  intro t0
  exact (.sys rfl (.refl _ _))

theorem Keeps.cross {M : Nat} {s a : State} {near : Bool} {k n : Nat} {f : State → State}
    (hM : 8 &&& M = 8) (h : Keeps M s a) (hf : ∀ b, Keeps M s b → Keeps M s (f b)) : Keeps M s (State.cross near k n f a) := by
  unfold State.cross
  split
  · exact hf a h
  · exact .after (by rw [Nat.zero_and]) h (xsDrop_keeps ..)
  · exact .after hM h (xsHold_keeps ..)
  · exact h

theorem xsWrite_keeps (k : Nat) (s : State) : Keeps 8 s (xsWrite k s) := by
  unfold xsWrite
  exact (.cross rfl (.refl _ _) fun _ g0 => g0)

end Sys2Proof.Machine
end

