-- ==== Sys2Proof/Laws/KeepsHif.lean ====
section
/-! SUPPORT. What the operations of Hif.lean keep: the form of the state, the queue, and the parts outside their mask. -/

namespace Sys2Proof.Machine

theorem hifDrop_keeps (q : Nat) (s : State) : Keeps 0 s (hifDrop q s) := by
  unfold hifDrop
  exact (.via (State.setEvent_keeps ..) rfl (.via (State.count_keeps ..) rfl (.refl _ _)))

theorem hifSetQueue_keeps (q : Nat) (f : HifQueue → HifQueue) (s : State) : Keeps 524288 s (hifSetQueue q f s) := by
  unfold hifSetQueue
  lift_lets
  intro t0
  exact (.hif (fun w => by exact (List.length_modify ..).trans w.hif) rfl (.refl _ _))

theorem hifAdvance_keeps (q : Nat) (s : State) : Keeps 524288 s (hifAdvance q s) := by
  unfold hifAdvance
  lift_lets
  intro t0
  have h0 : Keeps 524288 s t0 := (.via (State.count_keeps ..) rfl (.via (State.countWrap_keeps ..) rfl (.refl _ _)))
  intro t1 t2
  exact (.ite (.via (State.raise_keeps ..) rfl (.via (hifSetQueue_keeps ..) rfl h0)) (.via (hifSetQueue_keeps ..) rfl h0))

theorem hifPush_keeps (q : Nat) (bytes : List Byte) (s : State) : Keeps 524296 s (hifPush q bytes s) := by
  unfold hifPush
  exact (.cross rfl (.refl _ _) fun _ g0 => (.via (hifAdvance_keeps ..) rfl (.via (State.emit_keeps ..) rfl g0)))

theorem hifPushOrDrop_keeps (q : Nat) (bytes : List Byte) (s : State) : Keeps 524296 s (hifPushOrDrop q bytes s) := by
  unfold hifPushOrDrop
  exact (.ite (.via (hifPush_keeps ..) rfl (.refl _ _)) (.via (hifDrop_keeps ..) rfl (.refl _ _)))

theorem hifComplete_keeps (c : Nat) (bytes : List Byte) (s : State) : Keeps 524296 s (hifComplete c bytes s) := by
  unfold hifComplete
  exact (.via (hifPush_keeps ..) rfl (.via (hifSetQueue_keeps ..) rfl (.refl _ _)))

theorem hifConsume_keeps (q : Nat) (s : State) : Keeps 524288 s (hifConsume q s) := by
  unfold hifConsume
  exact (.via (hifAdvance_keeps ..) rfl (.via (hifSetQueue_keeps ..) rfl (.refl _ _)))

theorem hifWrite_keeps (addr : Nat) (bytes : List Byte) (s : State) : Keeps 8 s (hifWrite addr bytes s) := by
  unfold hifWrite
  exact (.cross rfl (.refl _ _) fun _ g0 => (.via (State.emit_keeps ..) rfl g0))

theorem hifBadDesc_keeps (q : Nat) (s : State) : Keeps 524288 s (hifBadDesc q s) := by
  unfold hifBadDesc
  exact (.via (State.setFlag_keeps ..) rfl (.via (State.count_keeps ..) rfl (.via (hifConsume_keeps ..) rfl (.refl _ _))))

theorem execDescriptorFetch_keeps (q : Fin 32) (bytes : List Byte) (s : State) :
    Runs 524288 s (execDescriptorFetch q bytes s) := by
  unfold execDescriptorFetch
  lift_lets
  intro t0
  have h0 : Keeps 524288 s t0 := (.via (hifSetQueue_keeps ..) rfl (.refl _ _))
  exact (.ite (.next (by
    split
    · exact (.via (hifSetQueue_keeps ..) rfl h0)
    · exact h0)) (.next (.refl _ _)))

theorem hifError_keeps (q : Nat) (s : State) : Keeps 0 s (hifError q s) := by
  unfold hifError
  exact (.via (State.setEvent_keeps ..) rfl (.via (State.put_keeps ..) rfl (.refl _ _)))

theorem execDmaError_keeps (q : Fin 32) (s : State) : Runs 524288 s (execDmaError q s) := by
  unfold execDmaError
  lift_lets
  intro t0 t1
  have h1 : Keeps 524288 s t1 := (.via (hifError_keeps ..) rfl (.via (State.put_keeps ..) rfl (.via (hifSetQueue_keeps ..) rfl (.refl _ _))))
  exact (.next (by
    split
    · exact (.via (hifSetQueue_keeps ..) rfl h1)
    · exact h1))

theorem hifTailWrite_keeps (q v : Nat) (s : State) : Keeps 0 s (hifTailWrite q v s) := by
  unfold hifTailWrite
  lift_lets
  intro t0 t1
  exact (.ite (.via (hifError_keeps ..) rfl (.refl _ _)) (.via (State.put_keeps ..) rfl (.refl _ _)))

theorem execQTailWrite_keeps (q : Fin 32) (v : Word) (s : State) : Runs 65536 s (execQTailWrite q v s) := by
  unfold execQTailWrite
  exact (.next (.hostDo rfl (.refl _ _) fun _ g0 => (.via (hifTailWrite_keeps ..) rfl g0)))

theorem execQueueEnable_keeps (q : Fin 32) (en : Bool) (s : State) : Runs 65536 s (execQueueEnable q en s) := by
  unfold execQueueEnable
  exact (.next (.hostDo rfl (.refl _ _) fun _ g0 => (.via (State.putB_keeps ..) rfl g0)))

theorem execQueueTimer_keeps (q : Fin 32) (s : State) : Runs 524288 s (execQueueTimer q s) := by
  unfold execQueueTimer
  exact (.next (.ite (.via (State.raise_keeps ..) rfl (.via (hifSetQueue_keeps ..) rfl (.refl _ _))) (.refl _ _)))

theorem hifCfgWrite_keeps (q : Nat) (w : Word) (s : State) : Keeps 0 s (hifCfgWrite q w s) := by
  unfold hifCfgWrite
  lift_lets
  intro t0
  have h0 : Keeps 0 s t0 := (.ite (.refl _ _) (.via (State.put_keeps ..) rfl (.refl _ _)))
  intro t1
  have h1 : Keeps 0 s t1 := (.via (State.putB_keeps ..) rfl h0)
  exact (.onlyIf h1 fun _ g2 => (.via (State.put_keeps ..) rfl g2))

theorem execWriteBack_keeps (q : Fin 32) (s : State) : Runs 8 s (execWriteBack q s) := by
  unfold execWriteBack
  exact (.next (.ite (.cross rfl (.refl _ _) fun _ g0 => (.via (State.emit_keeps ..) rfl (.via (State.emit_keeps ..) rfl g0))) (.refl _ _)))

end Sys2Proof.Machine
end

