-- ==== Sys2Proof/Laws/KeepsTimebase.lean ====
section
/-! SUPPORT. What the operations of Timebase.lean keep: the form of the state, the queue, and the parts outside their mask. -/

namespace Sys2Proof.Machine

theorem tbRepState_keeps (k state : Nat) (s : State) : Keeps 0 s (tbRepState k state s) := by
  unfold tbRepState
  exact (.via (State.putB_keeps ..) rfl (.via (State.put_keeps ..) rfl (.refl _ _)))

theorem tbSetReplica_keeps (k : Nat) (f : Replica → Replica) (s : State) : Keeps 16 s (tbSetReplica k f s) := by
  unfold tbSetReplica
  lift_lets
  intro t0
  exact (.tb (fun w => by exact (List.length_modify ..).trans w.tb) rfl (.refl _ _))

theorem tbRepOff_keeps (k : Nat) (s : State) : Keeps 16 s (tbRepOff k s) := by
  unfold tbRepOff
  exact (.via (tbRepState_keeps ..) rfl (.via (tbSetReplica_keeps ..) rfl (.refl _ _)))

theorem tbLapseLost_keeps (s : State) : Keeps 16 s (tbLapseLost s) := by
  unfold tbLapseLost
  lift_lets
  intro t0
  exact (.tb (fun w => by exact w.tb) rfl (.refl _ _))

theorem tbRefresh_keeps (s : State) : Keeps 0 s (tbRefresh s) := by
  unfold tbRefresh
  exact (.via (State.putB_keeps ..) rfl (.via (State.putB_keeps ..) rfl (.via (State.putB_keeps ..) rfl (.refl _ _))))

theorem tbRepLoad_keeps (k : Nat) (s : State) : Keeps 16 s (tbRepLoad k s) := by
  unfold tbRepLoad
  exact (.via (tbRepState_keeps ..) rfl (.via (tbSetReplica_keeps ..) rfl (.refl _ _)))

theorem tbRepStart_keeps (k : Nat) (s : State) : Keeps 16 s (tbRepStart k s) := by
  unfold tbRepStart
  exact (.ite (.via (tbRepLoad_keeps ..) rfl (.refl _ _)) (.refl _ _))

theorem tbSetVerified_keeps (s : State) : Keeps 16 s (tbSetVerified s) := by
  unfold tbSetVerified
  lift_lets
  intro t0
  have h0 : Keeps 16 s t0 := (.via (State.put_keeps ..) rfl (.refl _ _))
  intro t1
  exact (.tb (fun w => by exact w.tb) rfl h0)

theorem tbVerifyBy_keeps (x : Int) (s : State) : Keeps 16 s (tbVerifyBy x s) := by
  unfold tbVerifyBy
  exact (.ite (.via (State.put_keeps ..) rfl (.via (tbSetVerified_keeps ..) rfl (.refl _ _))) (.refl _ _))

theorem tbReport_keeps (loop : Option Nat) (x : Int) (s : State) : Keeps 16 s (tbReport loop x s) := by
  unfold tbReport
  lift_lets
  intro t0
  exact (.tb (fun w => by exact w.tb) rfl (.refl _ _))

theorem tbOwnerUpdate_keeps (x y : Int) (s : State) : Keeps 16 s (tbOwnerUpdate x y s) := by
  unfold tbOwnerUpdate
  lift_lets
  intro t0
  have h0 : Keeps 16 s t0 := (.via (tbVerifyBy_keeps ..) rfl (.via (tbReport_keeps ..) rfl (.refl _ _)))
  intro t1
  exact (.ite (.via (tbRefresh_keeps ..) rfl h0) (.via (tbRefresh_keeps ..) rfl (.tb (fun w => by exact w.tb) rfl h0)))

theorem tbDeclare_keeps (s : State) : Keeps 16 s (tbDeclare s) := by
  unfold tbDeclare
  exact (.ite (.via (tbSetVerified_keeps ..) rfl (.refl _ _)) (.refl _ _))

theorem execDeclareVerified_keeps (s : State) : Runs 65552 s (execDeclareVerified s) := by
  unfold execDeclareVerified
  exact (.next (.hostDo rfl (.refl _ _) fun _ g0 => (.via (tbDeclare_keeps ..) rfl g0)))

theorem tbWarn_keeps (at_ : Nat) (s : State) : Keeps 16 s (tbWarn at_ s) := by
  unfold tbWarn
  lift_lets
  intro t0
  exact (.tb (fun w => by exact w.tb) rfl (.refl _ _))

theorem tbArm_keeps (delete : Bool) (at_ : Nat) (s : State) : Keeps 16 s (tbArm delete at_ s) := by
  unfold tbArm
  lift_lets
  intro t0
  have h0 : Keeps 16 s t0 := (.via (State.putB_keeps ..) rfl (.refl _ _))
  intro t1
  have h1 : Keeps 16 s t1 := (.via (State.unstage_keeps ..) rfl (.via (State.put_keeps ..) rfl h0))
  intro t2
  exact (.ite (.refl _ _) (.ite (.via (State.setFlag_keeps ..) rfl h0) (.via (tbWarn_keeps ..) rfl (.tb (fun w => by exact w.tb) rfl h1))))

theorem execLeapArm_keeps (delete : Bool) (at_ : Nat) (s : State) : Runs 65552 s (execLeapArm delete at_ s) := by
  unfold execLeapArm
  exact (.next (.hostDo rfl (.refl _ _) fun _ g0 => (.via (tbArm_keeps ..) rfl g0)))

theorem tbDisarm_keeps (at_ : Nat) (s : State) : Keeps 16 s (tbDisarm at_ s) := by
  unfold tbDisarm
  lift_lets
  intro t0
  have h0 : Keeps 16 s t0 := (.via (State.put_keeps ..) rfl (.refl _ _))
  intro t1
  exact (.ite (.refl _ _) (.tb (fun w => by exact w.tb) rfl h0))

theorem execLeapDisarm_keeps (at_ : Nat) (s : State) : Runs 65552 s (execLeapDisarm at_ s) := by
  unfold execLeapDisarm
  exact (.next (.hostDo rfl (.refl _ _) fun _ g0 => (.onlyIf g0 fun _ g1 => (.via (tbDisarm_keeps ..) rfl g1))))

theorem tbLeapDone_keeps (at_ : Nat) (s : State) : Keeps 16 s (tbLeapDone at_ s) := by
  unfold tbLeapDone
  exact (by
    split
    · lift_lets
      intro t0
      have h0 : Keeps 16 s t0 := (.via (State.setFlag_keeps ..) rfl (.via (State.put_keeps ..) rfl (.via (State.putI_keeps ..) rfl (.refl _ _))))
      intro t1
      exact (.ite (.tb (fun w => by exact w.tb) rfl h0) (.refl _ _))
    · exact (.refl _ _))

theorem execLeapDone_keeps (at_ : Nat) (s : State) : Runs 16 s (execLeapDone at_ s) := by
  unfold execLeapDone
  exact (.next (.via (tbLeapDone_keeps ..) rfl (.refl _ _)))

theorem execLeapInsertedSecond_keeps (at_ : Nat) (s : State) : Runs 16 s (execLeapInsertedSecond at_ s) := by
  unfold execLeapInsertedSecond
  exact (.next (.via (tbWarn_keeps ..) rfl (.refl _ _)))

theorem execLeapWarning_keeps (at_ : Nat) (s : State) : Runs 16 s (execLeapWarning at_ s) := by
  unfold execLeapWarning
  exact (.next (.via (tbWarn_keeps ..) rfl (.refl _ _)))

theorem tbFollow_keeps (s : State) : Keeps 2048 s (tbFollow s) :=
  .mac (fun w => by exact (List.length_mapIdx ..).trans w.mac) rfl (.refl _ _)

theorem tbAdvance_keeps (s : State) : Keeps 16 s (tbAdvance s) := by
  unfold tbAdvance
  lift_lets
  intro t0 t1
  have h1 : Keeps 16 s t1 := (.tb (fun w => by exact w.tb) rfl (.refl _ _))
  intro t2
  have h2 : Keeps 16 s t2 := (.via (State.putI_keeps ..) rfl h1)
  intro t3 t4 t5
  exact (.step h2 (fun w => { w with tb := (fun w => by exact w.tb) w }) rfl fun p hp => by cases p <;> first | exact absurd hp (by decide) | rfl)

theorem tbTakeUpdate_keeps (s : State) : Keeps 16 s (tbTakeUpdate s) := by
  unfold tbTakeUpdate
  exact (by
    split
    · lift_lets
      intro t0
      have h0 : Keeps 16 s t0 := (.via (State.putSat_keeps ..) rfl (.refl _ _))
      intro t1
      exact (.tb (fun w => by exact w.tb) rfl h0)
    · exact (.refl _ _))

theorem tbMark_keeps (rule1 : Bool) (s : State) : Keeps 16 s (tbMark rule1 s) := by
  unfold tbMark
  lift_lets
  intro t0
  exact (.tb (fun w => by exact w.tb) rfl (.refl _ _))

theorem tbAuthorise_keeps (at_ : Nat) (s : State) : Keeps 16 s (tbAuthorise at_ s) := by
  unfold tbAuthorise
  lift_lets
  intro t0
  exact (.tb (fun w => by exact w.tb) rfl (.refl _ _))

theorem tbCountRefusal_keeps (s : State) : Keeps 16 s (tbCountRefusal s) := by
  unfold tbCountRefusal
  lift_lets
  intro t0
  have h0 : Keeps 16 s t0 := (.via (State.count_keeps ..) rfl (.via (State.put_keeps ..) rfl (.refl _ _)))
  exact (.ite (.via (tbAuthorise_keeps ..) rfl (.via (State.put_keeps ..) rfl h0)) h0)

theorem tbPend_keeps (r : Report) (s : State) : Keeps 16 s (tbPend r s) := by
  unfold tbPend
  lift_lets
  intro t0
  have h0 : Keeps 16 s t0 := (.via (State.putSat_keeps ..) rfl (.refl _ _))
  intro t1
  have h1 : Keeps 16 s t1 := (.via (State.putB_keeps ..) rfl h0)
  intro t2
  have h2 : Keeps 16 s t2 := (.via (State.put_keeps ..) rfl h1)
  intro t3
  have h3 : Keeps 16 s t3 := (.via (State.countWrap_keeps ..) rfl h2)
  intro t4
  exact (.ite (.tb (fun w => by exact w.tb) rfl h3) h3)

theorem tbReplace_keeps (r : Report) (s : State) : Keeps 16 s (tbReplace r s) := by
  unfold tbReplace
  exact (.via (tbCountRefusal_keeps ..) rfl (.via (tbPend_keeps ..) rfl (.refl _ _)))

theorem tbLoseVerified_keeps (s : State) : Keeps 0 s (tbLoseVerified s) := by
  unfold tbLoseVerified
  exact (.ite (.via (State.setFlag_keeps ..) rfl (.via (State.put_keeps ..) rfl (.refl _ _))) (.refl _ _))

theorem tbRefuse_keeps (r : Report) (s : State) : Keeps 16 s (tbRefuse r s) := by
  unfold tbRefuse
  lift_lets
  intro t0
  have h0 : Keeps 16 s t0 := (.via (State.put_keeps ..) rfl (.via (tbPend_keeps ..) rfl (.refl _ _)))
  exact (.via (tbCountRefusal_keeps ..) rfl (.via (tbLoseVerified_keeps ..) rfl (.via (State.raise_keeps ..) rfl h0)))

theorem tbEvaluate_keeps (s : State) : Keeps 16 s (tbEvaluate s) := by
  unfold tbEvaluate
  lift_lets
  intro t0 t1 t2
  have h2 : Keeps 16 s t2 := (.via (tbMark_keeps ..) rfl (.refl _ _))
  exact (.ite (.refl _ _) (.ite (by
    split
    · exact (.ite (.via (State.count_keeps ..) rfl h2) (.via (tbReplace_keeps ..) rfl h2))
    · exact h2) (.ite (.via (tbMark_keeps ..) rfl (.refl _ _)) (by
    split
    · exact (.via (tbRefuse_keeps ..) rfl (.via (tbMark_keeps ..) rfl (.refl _ _)))
    · exact (.via (tbMark_keeps ..) rfl (.refl _ _))))))

theorem tbCountdown_keeps (s : State) : Keeps 16 s (tbCountdown s) := by
  unfold tbCountdown
  lift_lets
  intro t0
  exact (by
    split
    · exact (.tb (fun w => by exact w.tb) rfl (.refl _ _))
    · exact (.refl _ _))

theorem execModelTick_keeps (s : State) : Runs 2064 s (execModelTick s) := by
  unfold execModelTick
  exact (.ite (.next (.via (tbFollow_keeps ..) rfl (.via (tbRefresh_keeps ..) rfl (.via (tbAdvance_keeps ..) rfl (.via (tbTakeUpdate_keeps ..) rfl (.via (tbEvaluate_keeps ..) rfl (.via (tbCountdown_keeps ..) rfl (.refl _ _)))))))) (.next (.refl _ _)))

theorem execOwnerUpdate_keeps (x y : Int) (s : State) : Runs 16 s (execOwnerUpdate x y s) := by
  unfold execOwnerUpdate
  exact (.ite (.next (.via (tbOwnerUpdate_keeps ..) rfl (.refl _ _))) (.next (.refl _ _)))

theorem tbDiscard_keeps (s : State) : Keeps 16 s (tbDiscard s) := by
  unfold tbDiscard
  lift_lets
  intro t0
  have h0 : Keeps 16 s t0 := (.via (State.put_keeps ..) rfl (.refl _ _))
  intro t1
  exact (by
    split
    · exact (.tb (fun w => by exact w.tb) rfl h0)
    · exact h0)

theorem execPreauthArm_keeps (s : State) : Runs 65536 s (execPreauthArm s) := by
  unfold execPreauthArm
  exact (.next (.hostDo rfl (.refl _ _) fun _ g0 => (.via (State.put_keeps ..) rfl g0)))

theorem execPreauthCancel_keeps (s : State) : Runs 65536 s (execPreauthCancel s) := by
  unfold execPreauthCancel
  exact (.next (.hostDo rfl (.refl _ _) fun _ g0 => (.via (State.put_keeps ..) rfl g0)))

theorem tbCapture_keeps (t : Int) (s : State) : Keeps 0 s (tbCapture t s) := by
  unfold tbCapture
  lift_lets
  intro t0 t1 t2 t3
  have h3 : Keeps 0 s t3 := (.via (State.put64_keeps ..) rfl (.refl _ _))
  intro t4
  have h4 : Keeps 0 s t4 := (.via (State.put_keeps ..) rfl (.via (State.put_keeps ..) rfl h3))
  intro t5
  have h5 : Keeps 0 s t5 := (.via (State.putI_keeps ..) rfl h4)
  intro t6
  have h6 : Keeps 0 s t6 := (.via (State.put_keeps ..) rfl (.via (State.put_keeps ..) rfl h5))
  intro t7
  have h7 : Keeps 0 s t7 := (.via (State.putB_keeps ..) rfl (.via (State.put_keeps ..) rfl h6))
  exact (.via (State.putB_keeps ..) rfl (.via (State.putB_keeps ..) rfl h7))

theorem tbSetGo_keeps (at_ : Nat) (s : State) : Keeps 16 s (tbSetGo at_ s) := by
  unfold tbSetGo
  lift_lets
  intro t0 t1
  have h1 : Keeps 16 s t1 := (.via (tbDiscard_keeps ..) rfl (.refl _ _))
  intro t2
  exact (.ite (.via (State.setFlag_keeps ..) rfl (.refl _ _)) (.via (tbRefresh_keeps ..) rfl (.tb (fun w => by exact w.tb) rfl h1)))

theorem tbCtrl_keeps (w : Word) (at_ : Nat) (s : State) : Keeps 16 s (tbCtrl w at_ s) := by
  unfold tbCtrl
  lift_lets
  intro t0
  have h0 : Keeps 16 s t0 := (.onlyIf (.refl _ _) fun _ g1 => (.via (State.put_keeps ..) rfl g1))
  intro t2
  have h2 : Keeps 16 s t2 := (.onlyIf h0 fun _ g3 => (.via (State.put_keeps ..) rfl g3))
  intro t4
  have h4 : Keeps 16 s t4 := (.onlyIf h2 fun _ g5 => (.via (tbSetGo_keeps ..) rfl g5))
  intro t6
  have h6 : Keeps 16 s t6 := (.onlyIf h4 fun _ g7 => (.via (tbDeclare_keeps ..) rfl g7))
  exact (.onlyIf h6 fun _ g8 => (.via (tbLoseVerified_keeps ..) rfl g8))

theorem setFlag_tbKept (f : Fld) (n : Nat) (s : State) : (s.setFlag f n).tb = s.tb := by
  unfold State.setFlag
  split <;> rfl

theorem tbMismatch_keeps (s : State) : Keeps 16 s (tbMismatch s) := by
  have h : Keeps 16 s (s.setFlag TB_FLAGS.AUTH_MISMATCH 33) := .via (State.setFlag_keeps ..) rfl (.refl _ _)
  exact .tb (fun w => by have := w.tb; rw [setFlag_tbKept] at this; exact this) rfl h

theorem tbStepAuth_keeps (seq : Nat) (auth rej : Bool) (at_ : Nat) (s : State) : Keeps 16 s (tbStepAuth seq auth rej at_ s) := by
  unfold tbStepAuth
  exact (.ite (.refl _ _) (.ite (.via (tbMismatch_keeps ..) rfl (.refl _ _)) (.ite (.ite (.refl _ _) (.via (tbAuthorise_keeps ..) rfl (.refl _ _))) (.ite (.via (tbRefresh_keeps ..) rfl (.via (tbDiscard_keeps ..) rfl (.refl _ _))) (.refl _ _)))))

theorem tbLeapCfg_keeps (w : Word) (at_ : Nat) (s : State) : Keeps 16 s (tbLeapCfg w at_ s) := by
  unfold tbLeapCfg
  exact (.ite (.via (tbArm_keeps ..) rfl (.refl _ _)) (.ite (.via (tbDisarm_keeps ..) rfl (.refl _ _)) (.via (State.putB_keeps ..) rfl (.refl _ _))))

theorem tbTempExt_keeps (v : Nat) (s : State) : Keeps 0 s (tbTempExt v s) := by
  unfold tbTempExt
  exact (.via (State.put_keeps ..) rfl (.via (State.put_keeps ..) rfl (.refl _ _)))

theorem tbLapse_keeps (loop : Option Nat) (s : State) : Keeps 16 s (tbLapse loop s) := by
  unfold tbLapse
  lift_lets
  intro t0
  exact (.via (tbRefresh_keeps ..) rfl (.tb (fun w => by exact w.tb) rfl (.refl _ _)))

theorem tbRepCompare_keeps (k : Nat) (err : Int) (s : State) : Keeps 16 s (tbRepCompare k err s) := by
  unfold tbRepCompare
  lift_lets
  intro t0 t1 t2 t3 t4
  have h4 : Keeps 16 s t4 := (.via (State.freeNext_keeps ..) rfl (.via (State.putI_keeps ..) rfl (.refl _ _)))
  intro t5
  have h5 : Keeps 16 s t5 := (.via (tbSetReplica_keeps ..) rfl h4)
  exact (.ite (.refl _ _) (.ite (.ite (.via (State.setEvent_keeps ..) rfl (.via (State.count_keeps ..) rfl (.via (tbSetReplica_keeps ..) rfl (.via (tbRepState_keeps ..) rfl h5)))) h5) (.ite (.via (tbRepLoad_keeps ..) rfl h5) (.ite (.via (tbRepState_keeps ..) rfl h5) h5))))

theorem execReplicaCompare_keeps (k : Fin 24) (err : Int) (s : State) : Runs 16 s (execReplicaCompare k err s) := by
  unfold execReplicaCompare
  exact (.next (.via (tbRepCompare_keeps ..) rfl (.refl _ _)))

theorem execReplicaStep_keeps (k : Fin 24) (s : State) : Runs 16 s (execReplicaStep k s) := by
  unfold execReplicaStep
  exact (.next (.via (tbSetReplica_keeps ..) rfl (.refl _ _)))

theorem execSetGo_keeps (at_ : Nat) (s : State) : Runs 65552 s (execSetGo at_ s) := by
  unfold execSetGo
  exact (.next (.hostDo rfl (.refl _ _) fun _ g0 => (.via (tbSetGo_keeps ..) rfl g0)))

theorem execStandingReportLapse_keeps (loop : Option (Fin 24)) (s : State) : Runs 16 s (execStandingReportLapse loop s) := by
  unfold execStandingReportLapse
  exact (.next (.via (tbLapse_keeps ..) rfl (.refl _ _)))

theorem tbApply_keeps (c : Change) (s : State) : Keeps 16 s (tbApply c s) := by
  unfold tbApply
  lift_lets
  intro t0 t1 t2 t3 t4
  have h4 : Keeps 16 s t4 := (.step (.refl _ _) (fun w => { w with tb := (fun w => by exact (List.length_map ..).trans w.tb) w }) rfl fun p hp => by cases p <;> first | exact absurd hp (by decide) | rfl)
  intro t5
  have h5 : Keeps 16 s t5 := (.via (State.count_keeps ..) rfl (.via (State.put_keeps ..) rfl h4))
  intro t6
  have h6 : Keeps 16 s t6 := by
    unfold t6
    exact (by
      split
      · exact (.via (State.setFlag_keeps ..) rfl h5)
      · exact (.via (tbLoseVerified_keeps ..) rfl (.via (State.put_keeps ..) rfl (.via (State.setFlag_keeps ..) rfl h5))))
  exact (.via (tbRefresh_keeps ..) rfl h6)

theorem execStepAuth_keeps (seq : BitVec 16) (at_ : Nat) (s : State) : Runs 65552 s (execStepAuth seq at_ s) := by
  unfold execStepAuth
  exact (.next (.hostDo rfl (.refl _ _) fun _ g0 => (.via (tbStepAuth_keeps ..) rfl g0)))

theorem execStepReject_keeps (seq : BitVec 16) (s : State) : Runs 65552 s (execStepReject seq s) := by
  unfold execStepReject
  exact (.next (.hostDo rfl (.refl _ _) fun _ g0 => (.via (tbStepAuth_keeps ..) rfl g0)))

theorem execTempExtWrite_keeps (v : BitVec 16) (s : State) : Runs 65536 s (execTempExtWrite v s) := by
  unfold execTempExtWrite
  exact (.next (.hostDo rfl (.refl _ _) fun _ g0 => (.via (tbTempExt_keeps ..) rfl g0)))

theorem execTempStale_keeps (s : State) : Runs 0 s (execTempStale s) := by
  unfold execTempStale
  exact (.next (.onlyIf (.refl _ _) fun _ g0 => (.via (State.put_keeps ..) rfl g0)))

theorem execUtcOfsInForce_keeps (s : State) : Runs 16 s (execUtcOfsInForce s) := by
  unfold execUtcOfsInForce
  lift_lets
  intro t0
  exact (.next (.tb (fun w => by exact w.tb) rfl (.refl _ _)))

theorem execUtcOfsWrite_keeps (v : BitVec 16) (s : State) : Runs 65536 s (execUtcOfsWrite v s) := by
  unfold execUtcOfsWrite
  exact (.next (.hostDo rfl (.refl _ _) fun _ g0 => (.via (State.put_keeps ..) rfl g0)))

theorem tbVerifyReport_keeps (k : Nat) (x : Int) (s : State) : Keeps 16 s (tbVerifyReport k x s) := by
  unfold tbVerifyReport
  exact (.ite (.via (tbRefresh_keeps ..) rfl (.via (tbVerifyBy_keeps ..) rfl (.via (tbReport_keeps ..) rfl (.refl _ _)))) (.refl _ _))

theorem execVerifyReport_keeps (k : Fin 24) (x : Int) (s : State) : Runs 16 s (execVerifyReport k x s) := by
  unfold execVerifyReport
  exact (.ite (.next (.via (tbVerifyReport_keeps ..) rfl (.refl _ _))) (.next (.refl _ _)))

theorem execWithdrawVerified_keeps (s : State) : Runs 65536 s (execWithdrawVerified s) := by
  unfold execWithdrawVerified
  exact (.next (.hostDo rfl (.refl _ _) fun _ g0 => (.via (tbLoseVerified_keeps ..) rfl g0)))

end Sys2Proof.Machine
end

