-- ==== Sys2Proof/Laws/KeepsRegistrar.lean ====
section
/-! SUPPORT. What the operations of Registrar.lean keep: the form of the state, the queue, and the parts outside their mask. -/

namespace Sys2Proof.Machine

theorem rgsDropDispute_keeps (d : Dispute) (s : State) : Keeps 64 s (rgsDropDispute d s) := by
  unfold rgsDropDispute
  lift_lets
  intro t0
  exact (.rgs (fun w => by exact w.rgs) rfl (.refl _ _))

theorem rgsEndHold_keeps (a0 b : Nat) (s : State) : Keeps 0 s (rgsEndHold a0 b s) := by
  unfold rgsEndHold
  exact (.foldl _ (.refl _ _) fun _ _ g0 => (.ite (.via (State.put_keeps ..) rfl g0) g0))

theorem rgsSetSlot_keeps (n : Nat) (f : RgsSlot → RgsSlot) (s : State) : Keeps 64 s (rgsSetSlot n f s) := by
  unfold rgsSetSlot
  lift_lets
  intro t0
  exact (.rgs (fun w => by exact ⟨(List.length_modify ..).trans w.rgs.1, w.rgs.2⟩) rfl (.refl _ _))

theorem rgsClearDisputed_keeps (n : Nat) (s : State) : Keeps 64 s (rgsClearDisputed n s) := by
  unfold rgsClearDisputed
  exact (.via (rgsSetSlot_keeps ..) rfl (.via (State.put_keeps ..) rfl (.refl _ _)))

theorem rgsEndDispute_keeps (s : State) (d : Dispute) : Keeps 64 s (rgsEndDispute s d) := by
  unfold rgsEndDispute
  exact (.via (rgsDropDispute_keeps ..) rfl (.via (rgsEndHold_keeps ..) rfl (.via (rgsClearDisputed_keeps ..) rfl (.via (rgsClearDisputed_keeps ..) rfl (.refl _ _)))))

theorem rgsLeaveDisputes_keeps (n : Nat) (s : State) : Keeps 64 s (rgsLeaveDisputes n s) := by
  unfold rgsLeaveDisputes
  exact (.foldl _ (.refl _ _) fun _ _ g0 => (.ite (.via (rgsEndDispute_keeps ..) rfl g0) (.ite (.via (rgsDropDispute_keeps ..) rfl g0) g0)))

theorem rgsForSource_keeps {M type index : Nat} {f : Nat → State → State} {a s : State} (_ : 0 &&& M = 0) (h : Keeps M a s)
    (hf : ∀ n b, Keeps M a b → Keeps M a (f n b)) : Keeps M a (rgsForSource type index f s) :=
  .foldl _ h fun b n => hf n b

theorem rgsSignal_keeps (n : Nat) (on : Bool) (s : State) : Keeps 64 s (rgsSignal n on s) := by
  unfold rgsSignal
  lift_lets
  intro t0
  have h0 : Keeps 64 s t0 := (.via (State.putB_keeps ..) rfl (.refl _ _))
  exact (.ite (.refl _ _) (.ite h0 (.via (rgsSetSlot_keeps ..) rfl h0)))

theorem rgsRefresh_keeps (s : State) : Keeps 16 s (rgsRefresh s) := by
  unfold rgsRefresh
  exact (.via (tbLapseLost_keeps ..) rfl (.via (State.putB_keeps ..) rfl (.via (State.putB_keeps ..) rfl (.refl _ _))))

theorem rgsEnter_keeps (n st : Nat) (s : State) : Keeps 80 s (rgsEnter n st s) := by
  unfold rgsEnter
  lift_lets
  intro t0 t1
  have h1 : Keeps 80 s t1 := (.via (State.put_keeps ..) rfl (.refl _ _))
  intro t2
  have h2 : Keeps 80 s t2 := (.ite (.via (State.put_keeps ..) rfl (.via (rgsLeaveDisputes_keeps ..) rfl h1)) h1)
  intro t3
  have h3 : Keeps 80 s t3 := (.ite (.via (State.put_keeps ..) rfl (.via (rgsSetSlot_keeps ..) rfl h2)) h2)
  exact (.via (rgsRefresh_keeps ..) rfl h3)

theorem rgsEnable_keeps (n : Nat) (en : Bool) (s : State) : Keeps 80 s (rgsEnable n en s) := by
  unfold rgsEnable
  lift_lets
  intro t0
  have h0 : Keeps 80 s t0 := (.via (State.putB_keeps ..) rfl (.refl _ _))
  exact (.ite (.via (State.put_keeps ..) rfl (.via (State.put_keeps ..) rfl (.via (rgsEnter_keeps ..) rfl h0))) (.ite (.via (rgsEnter_keeps ..) rfl h0) h0))

theorem rgsSwitch_keeps (k st : Nat) (s : State) : Keeps 0 s (rgsSwitch k st s) := by
  unfold rgsSwitch
  exact (.via (State.put_keeps ..) rfl (.refl _ _))

theorem rgsNoLine_keeps (n : Nat) (s : State) : Keeps 64 s (rgsNoLine n s) := by
  unfold rgsNoLine
  lift_lets
  intro t0 t1
  have h1 : Keeps 64 s t1 := (.via (rgsSetSlot_keeps ..) rfl (.refl _ _))
  exact (.onlyIf h1 fun _ g2 => (.via (rgsSignal_keeps ..) rfl g2))

theorem rgsSlotFlag_keeps (f : Fld) (s : State) : Keeps 0 s (rgsSlotFlag f s) := by
  unfold rgsSlotFlag
  exact (.via (State.setFlag_keeps ..) rfl (.refl _ _))

theorem rgsPulseOver_keeps (n : Nat) (s : State) : Keeps 64 s (rgsPulseOver n s) := by
  unfold rgsPulseOver
  exact (by
    split
    · exact (.via (rgsNoLine_keeps ..) rfl (.via (rgsSlotFlag_keeps ..) rfl (.via (rgsSetSlot_keeps ..) rfl (.refl _ _))))
    · exact (.refl _ _))

theorem rgsSample_keeps (n : Nat) (x : Int) (piv : Nat) (s : State) : Keeps 64 s (rgsSample n x piv s) := by
  unfold rgsSample
  lift_lets
  intro t0
  exact (.via (rgsSignal_keeps ..) rfl (.via (rgsSetSlot_keeps ..) rfl (.via (State.putS_keeps ..) rfl (.refl _ _))))

theorem rgsPulse_keeps (n : Nat) (t : Int) (piv : Nat) (s : State) : Keeps 64 s (rgsPulse n t piv s) := by
  unfold rgsPulse
  lift_lets
  intro t0
  exact (.ite (.via (rgsSetSlot_keeps ..) rfl (.via (rgsPulseOver_keeps ..) rfl (.refl _ _))) (.via (rgsSample_keeps ..) rfl (.via (rgsSetSlot_keeps ..) rfl (.refl _ _))))

theorem rgsCycle_keeps (n : Nat) (t : Int) (s : State) : Keeps 64 s (rgsCycle n t s) := by
  unfold rgsCycle
  exact (.via (rgsSetSlot_keeps ..) rfl (.refl _ _))

theorem rgsEdge_keeps (ch : Nat) (rising : Bool) (t : Int) (piv : Nat) (s : State) : Keeps 64 s (rgsEdge ch rising t piv s) := by
  unfold rgsEdge
  exact (.ite (rgsForSource_keeps rfl (.ite (rgsForSource_keeps rfl (.refl _ _) fun _ _ g1 => (.via (rgsCycle_keeps ..) rfl g1)) (.refl _ _)) fun _ _ g0 => (.via (rgsPulse_keeps ..) rfl g0)) (.refl _ _))

theorem rgsRegrade_keeps (n : Nat) (s : State) : Keeps 0 s (rgsRegrade n s) := by
  unfold rgsRegrade
  lift_lets
  intro t0
  exact (.ite (.refl _ _) (.via (rgsSlotFlag_keeps ..) rfl (.via (State.put_keeps ..) rfl (.refl _ _))))

theorem rgsMessage_keeps (n raw : Nat) (s : State) : Keeps 0 s (rgsMessage n raw s) := by
  unfold rgsMessage
  exact (.via (rgsRegrade_keeps ..) rfl (.via (State.put_keeps ..) rfl (.via (State.put_keeps ..) rfl (.refl _ _))))

theorem execAlignTimer_keeps (k : Fin 24) (s : State) : Runs 0 s (execAlignTimer k s) := by
  unfold execAlignTimer
  exact (.next (.ite (.via (rgsSwitch_keeps ..) rfl (.refl _ _)) (.refl _ _)))

theorem rgsPathStep_keeps (n : Nat) (s : State) : Keeps 80 s (rgsPathStep n s) := by
  unfold rgsPathStep
  exact (.ite (.via (rgsEnter_keeps ..) rfl (.refl _ _)) (.refl _ _))

theorem rgsPathOk_keeps (n : Nat) (s : State) : Keeps 80 s (rgsPathOk n s) := by
  unfold rgsPathOk
  exact (.ite (.via (rgsSetSlot_keeps ..) rfl (.via (rgsEnter_keeps ..) rfl (.refl _ _))) (.refl _ _))

theorem rgsPostY_keeps (s : State) : Keeps 0 s (rgsPostY s) := by
  unfold rgsPostY
  exact (.foldl _ (.refl _ _) fun _ _ g0 => (by
    split
    · exact (.via (State.putS_keeps ..) rfl g0)
    · exact g0))

theorem rgsTell_keeps (k : Nat) (f : LoopState → LoopState) (s : State) : Keeps 128 s (rgsTell k f s) := by
  unfold rgsTell
  exact (.loops (fun w => (List.length_modify ..).trans w.loops) rfl (.refl _ _))

theorem rgsHold_keeps (a0 b : Nat) (s : State) : Keeps 128 s (rgsHold a0 b s) := by
  unfold rgsHold
  exact (.foldl _ (.refl _ _) fun _ _ g0 => (.ite (.via (rgsTell_keeps ..) rfl (.via (State.put_keeps ..) rfl g0)) g0))

theorem rgsMark_keeps (n : Nat) (s : State) : Keeps 0 s (rgsMark n s) := by
  unfold rgsMark
  exact (.via (State.put_keeps ..) rfl (.refl _ _))

theorem rgsDispute_keeps (a0 b : Nat) (ya yb : Int) (s : State) : Keeps 192 s (rgsDispute a0 b ya yb s) := by
  unfold rgsDispute
  lift_lets
  intro t0 t1 t2
  have h2 : Keeps 192 s t2 := (.ite (.via (rgsHold_keeps ..) rfl (.via (rgsMark_keeps ..) rfl (.via (rgsMark_keeps ..) rfl (.refl _ _)))) (.via (rgsMark_keeps ..) rfl (.refl _ _)))
  intro t3 t4
  have h4 : Keeps 192 s t4 := (.rgs (fun w => by exact w.rgs) rfl h2)
  intro t5
  have h5 : Keeps 192 s t5 := (.via (State.putB_keeps ..) rfl (.via (State.put_keeps ..) rfl (.via (State.put_keeps ..) rfl h4)))
  exact (.via (State.setEvent_keeps ..) rfl h5)

theorem rgsCheckPair_keeps (s : State) (p : Nat × Nat) : Keeps 192 s (rgsCheckPair s p) := by
  unfold rgsCheckPair
  exact (.ite (by
    split
    · exact (.ite (.via (rgsDispute_keeps ..) rfl (.refl _ _)) (.refl _ _))
    · exact (.refl _ _)) (.refl _ _))

theorem rgsCheckDispute_keeps (s : State) (d : Dispute) : Keeps 64 s (rgsCheckDispute s d) := by
  unfold rgsCheckDispute
  lift_lets
  intro t0
  exact (by
    split
    · lift_lets
      intro t1 t2 t3
      have h3 : Keeps 64 s t3 := (.via (rgsEndHold_keeps ..) rfl (.via (rgsClearDisputed_keeps ..) rfl (.refl _ _)))
      intro t4
      exact (.ite (.via (rgsEndDispute_keeps ..) rfl (.refl _ _)) (.ite (.rgs (fun w => by exact w.rgs) rfl h3) (.refl _ _)))
    · exact (.refl _ _))

theorem rgsDisputeCheck_keeps (s : State) : Keeps 208 s (rgsDisputeCheck s) := by
  unfold rgsDisputeCheck
  lift_lets
  intro t0
  have h0 : Keeps 208 s t0 := (.via (rgsPostY_keeps ..) rfl (.refl _ _))
  exact (.ite (.ite (.via (rgsRefresh_keeps ..) rfl (.foldl _ (.foldl _ h0 fun _ _ g2 => (.via (rgsCheckDispute_keeps ..) rfl g2)) fun _ _ g1 => (.via (rgsCheckPair_keeps ..) rfl g1))) h0) (.refl _ _))

theorem execDisputeCheck_keeps (s : State) : Runs 208 s (execDisputeCheck s) := by
  unfold execDisputeCheck
  exact (.next (.via (rgsDisputeCheck_keeps ..) rfl (.refl _ _)))

theorem rgsHostClear_keeps (n : Nat) (s : State) : Keeps 80 s (rgsHostClear n s) := by
  unfold rgsHostClear
  lift_lets
  intro t0
  have h0 : Keeps 80 s t0 := (.foldl _ (.via (rgsClearDisputed_keeps ..) rfl (.refl _ _)) fun _ _ g1 => (.ite (.via (rgsDropDispute_keeps ..) rfl (.via (rgsEndHold_keeps ..) rfl g1)) (.ite (.via (rgsDropDispute_keeps ..) rfl g1) g1)))
  exact (.ite (.via (rgsRefresh_keeps ..) rfl h0) (.refl _ _))

theorem execDisputeClear_keeps (slot : Fin 64) (s : State) : Runs 65616 s (execDisputeClear slot s) := by
  unfold execDisputeClear
  exact (.next (.hostDo rfl (.refl _ _) fun _ g0 => (.via (rgsHostClear_keeps ..) rfl g0)))

theorem rgsMessageFailed_keeps (n : Nat) (s : State) : Keeps 0 s (rgsMessageFailed n s) := by
  unfold rgsMessageFailed
  exact (.via (rgsRegrade_keeps ..) rfl (.via (State.put_keeps ..) rfl (.refl _ _)))

theorem rgsDiverged_keeps (s : State) : Keeps 64 s (rgsDiverged s) := by
  unfold rgsDiverged
  exact (.foldl _ (.refl _ _) fun _ _ g0 => (.ite g0 (.via (rgsEndDispute_keeps ..) rfl g0)))

theorem rgsPresence_keeps (n : Nat) (s : State) : Keeps 64 s (rgsPresence n s) := by
  unfold rgsPresence
  lift_lets
  intro t0 t1 t2
  have h2 : Keeps 64 s t2 := (.ite (.via (rgsSignal_keeps ..) rfl (.refl _ _)) (.refl _ _))
  exact (.via (rgsSetSlot_keeps ..) rfl h2)

theorem rgsQualify_keeps (n : Nat) (s : State) : Keeps 80 s (rgsQualify n s) := by
  unfold rgsQualify
  lift_lets
  intro t0 t1
  exact (.via (rgsSetSlot_keeps ..) rfl (.via (State.put_keeps ..) rfl (.via (rgsEnter_keeps ..) rfl (.refl _ _))))

theorem rgsQualified_keeps (n : Nat) (s : State) : Keeps 80 s (rgsQualified n s) := by
  unfold rgsQualified
  lift_lets
  intro t0
  have h0 : Keeps 80 s t0 := (.via (State.put_keeps ..) rfl (.via (rgsEnter_keeps ..) rfl (.refl _ _)))
  intro t1
  have h1 : Keeps 80 s t1 := (.via (rgsSetSlot_keeps ..) rfl h0)
  exact (.via (rgsSlotFlag_keeps ..) rfl (.via (State.put_keeps ..) rfl h1))

theorem rgsQualDone_keeps (n : Nat) (s : State) : Keeps 80 s (rgsQualDone n s) := by
  unfold rgsQualDone
  exact (.ite (.ite (.via (rgsEnter_keeps ..) rfl (.refl _ _)) (.via (rgsQualified_keeps ..) rfl (.refl _ _))) (.refl _ _))

theorem rgsFail_keeps (n : Nat) (holdoff : Bool) (s : State) : Keeps 80 s (rgsFail n holdoff s) := by
  unfold rgsFail
  lift_lets
  intro t0 t1
  have h1 : Keeps 80 s t1 := (.via (State.count_keeps ..) rfl (.via (rgsEnter_keeps ..) rfl (.refl _ _)))
  exact (.ite (.via (State.setEvent_keeps ..) rfl h1) (.via (State.setFlag_keeps ..) rfl h1))

theorem rgsTimer_keeps (n : Nat) (s : State) : Keeps 0 s (rgsTimer n s) := by
  unfold rgsTimer
  lift_lets
  intro t0 t1
  exact (.via (State.put_keeps ..) rfl (.refl _ _))

theorem rgsEvalSlot_keeps (n : Nat) (s : State) : Keeps 80 s (rgsEvalSlot n s) := by
  unfold rgsEvalSlot
  lift_lets
  intro t0
  have h0 : Keeps 80 s t0 := (.via (rgsRegrade_keeps ..) rfl (.via (rgsPresence_keeps ..) rfl (.refl _ _)))
  intro t1 t2 t3 t4 t5
  have h5 : Keeps 80 s t5 := by
    unfold t5
    exact (by
      split
      · exact (.ite (.via (rgsQualify_keeps ..) rfl h0) h0)
      · exact (.ite (.via (rgsEnter_keeps ..) rfl h0) (.ite (.via (rgsQualDone_keeps ..) rfl h0) h0))
      · exact (.ite (.via (rgsEnter_keeps ..) rfl h0) (.ite (.via (rgsQualified_keeps ..) rfl h0) h0))
      · exact (.ite (.via (rgsFail_keeps ..) rfl h0) h0)
      · exact (.ite (.via (rgsFail_keeps ..) rfl h0) h0)
      · exact h0)
  exact (.via (rgsTimer_keeps ..) rfl h5)

theorem rgsNoteInc_keeps (k : Nat) (s : State) : Keeps 64 s (rgsNoteInc k s) := by
  unfold rgsNoteInc
  lift_lets
  intro t0
  exact (.rgs (fun w => by exact w.rgs) rfl (.refl _ _))

theorem rgsNone_keeps (k : Nat) (s : State) : Keeps 128 s (rgsNone k s) := by
  unfold rgsNone
  lift_lets
  intro t0 t1
  have h1 : Keeps 128 s t1 := (.via (rgsTell_keeps ..) rfl (.refl _ _))
  exact (.via (State.put_keeps ..) rfl (.via (State.put_keeps ..) rfl (.via (State.put_keeps ..) rfl (.via (rgsSwitch_keeps ..) rfl h1))))

theorem rgsAbandon_keeps (k : Nat) (s : State) : Keeps 0 s (rgsAbandon k s) := by
  unfold rgsAbandon
  exact (.via (State.count_keeps ..) rfl (.refl _ _))

theorem rgsSetAlign_keeps (k v : Nat) (s : State) : Keeps 64 s (rgsSetAlign k v s) := by
  unfold rgsSetAlign
  lift_lets
  intro t0
  exact (.rgs (fun w => by exact ⟨w.rgs.1, (List.length_modify ..).trans w.rgs.2⟩) rfl (.refl _ _))

theorem rgsAlign_keeps (k n : Nat) (s : State) : Keeps 64 s (rgsAlign k n s) := by
  unfold rgsAlign
  exact (.via (rgsSetAlign_keeps ..) rfl (.via (State.put_keeps ..) rfl (.via (rgsSwitch_keeps ..) rfl (.refl _ _))))

theorem rgsAbandonFlag_keeps (k : Nat) (s : State) : Keeps 0 s (rgsAbandonFlag k s) := by
  unfold rgsAbandonFlag
  exact (.via (State.setFlag_keeps ..) rfl (.via (rgsAbandon_keeps ..) rfl (.via (rgsSwitch_keeps ..) rfl (.refl _ _))))

theorem rgsEvalSwitch_keeps (k : Nat) (s : State) : Keeps 192 s (rgsEvalSwitch k s) := by
  unfold rgsEvalSwitch
  lift_lets
  intro t0 t1
  exact (by
    clear_value t0
    split
    · exact (.via (rgsSwitch_keeps ..) rfl (.refl _ _))
    · exact (.refl _ _)
    · exact (.via (rgsNone_keeps ..) rfl (.refl _ _))
    · exact (.via (rgsNone_keeps ..) rfl (.refl _ _))
    · exact (.ite (.refl _ _) (.via (rgsSwitch_keeps ..) rfl (.refl _ _)))
    · exact (.ite (.via (rgsAbandon_keeps ..) rfl (.via (rgsSwitch_keeps ..) rfl (.refl _ _))) (.via (rgsAlign_keeps ..) rfl (.refl _ _)))
    · exact (.ite (.via (rgsAbandonFlag_keeps ..) rfl (.refl _ _)) (.ite (.via (rgsSwitch_keeps ..) rfl (.refl _ _)) (.refl _ _)))
    · exact (.ite (.via (rgsAbandonFlag_keeps ..) rfl (.refl _ _)) (.refl _ _)))

theorem rgsEvalLoop_keeps (k : Nat) (s : State) : Keeps 192 s (rgsEvalLoop k s) := by
  unfold rgsEvalLoop
  lift_lets
  intro t0 t1
  have h1 : Keeps 192 s t1 := (.via (rgsNoteInc_keeps ..) rfl (.via (rgsEvalSwitch_keeps ..) rfl (.onlyIf (.refl _ _) fun _ g2 => (.via (State.setFlag_keeps ..) rfl g2))))
  exact (by
    split
    · exact (.via (State.put_keeps ..) rfl h1)
    · exact h1)

theorem rgsEvaluate_keeps (s : State) : Keeps 208 s (rgsEvaluate s) := by
  unfold rgsEvaluate
  lift_lets
  intro t0 t1
  have h1 : Keeps 208 s t1 := (.rgs (fun w => by exact w.rgs) rfl (.refl _ _))
  intro t2
  have h2 : Keeps 208 s t2 := (.via (rgsDiverged_keeps ..) rfl (.foldl _ h1 fun _ _ g3 => (.via (rgsEvalSlot_keeps ..) rfl g3)))
  exact (.ite (.via (rgsRefresh_keeps ..) rfl (.foldl _ h2 fun _ _ g4 => (.via (rgsEvalLoop_keeps ..) rfl g4))) (.refl _ _))

theorem rgsHoldoff_keeps (n : Nat) (s : State) : Keeps 80 s (rgsHoldoff n s) := by
  unfold rgsHoldoff
  exact (.ite (.via (rgsFail_keeps ..) rfl (.refl _ _)) (.refl _ _))

theorem execHoldoffExpiry_keeps (slot : Fin 64) (s : State) : Runs 80 s (execHoldoffExpiry slot s) := by
  unfold execHoldoffExpiry
  exact (.next (.via (rgsHoldoff_keeps ..) rfl (.refl _ _)))

theorem rgsDiscard_keeps (n : Nat) (f : Fld) (s : State) : Keeps 64 s (rgsDiscard n f s) := by
  unfold rgsDiscard
  exact (.via (rgsSlotFlag_keeps ..) rfl (.via (State.count_keeps ..) rfl (.via (rgsSetSlot_keeps ..) rfl (.refl _ _))))

theorem rgsAccept_keeps (n : Nat) (bs : List Byte) (s : State) : Keeps 64 s (rgsAccept n bs s) := by
  unfold rgsAccept
  cases (rgsSlot s n).pulse with
  | none => exact .refl _ _
  | some x =>
    exact (.via (rgsSample_keeps ..) rfl (.onlyIf (.via (State.setReg_keeps ..) rfl (.via (rgsMessage_keeps ..) rfl
      (.via (rgsSetSlot_keeps ..) rfl (.refl _ _)))) fun _ g => (.via (rgsSlotFlag_keeps ..) rfl g)))

theorem rgsLedgerLine_keeps (n : Nat) (bs : List Byte) (dur at_ : Nat) (s : State) :
    Keeps 64 s (rgsLedgerLine n bs dur at_ s) := by
  unfold rgsLedgerLine
  exact (.ite (.refl _ _) (.ite (.via (rgsDiscard_keeps ..) rfl (.refl _ _)) (.ite (.via (rgsDiscard_keeps ..) rfl (.refl _ _)) (.ite (.via (rgsDiscard_keeps ..) rfl (.refl _ _)) (.ite (.refl _ _) (.via (rgsAccept_keeps ..) rfl (.refl _ _)))))))

theorem execLedgerLine_keeps (slot : Fin 64) (bytes : List Byte) (dur at_ : Nat) (s : State) :
    Runs 64 s (execLedgerLine slot bytes dur at_ s) := by
  unfold execLedgerLine
  exact (.next (.via (rgsLedgerLine_keeps ..) rfl (.refl _ _)))

theorem execLedgerLineTimeout_keeps (slot : Fin 64) (s : State) : Runs 64 s (execLedgerLineTimeout slot s) := by
  unfold execLedgerLineTimeout
  exact (.next (.via (rgsPulseOver_keeps ..) rfl (.refl _ _)))

theorem execPulseAbsent_keeps (slot : Fin 64) (s : State) : Runs 64 s (execPulseAbsent slot s) := by
  unfold execPulseAbsent
  exact (.next (.ite (.via (rgsSignal_keeps ..) rfl (.via (rgsSetSlot_keeps ..) rfl (.refl _ _))) (.refl _ _)))

theorem execQualTimerDone_keeps (slot : Fin 64) (s : State) : Runs 80 s (execQualTimerDone slot s) := by
  unfold execQualTimerDone
  exact (.next (.via (rgsQualDone_keeps ..) rfl (.refl _ _)))

theorem rgsLineSample_keeps (n : Nat) (v t : Int) (piv : Nat) (s : State) : Keeps 64 s (rgsLineSample n v t piv s) := by
  unfold rgsLineSample
  exact (by
    split
    · exact (.via (rgsSample_keeps ..) rfl (.refl _ _))
    · exact (.via (rgsSample_keeps ..) rfl (.via (rgsSetSlot_keeps ..) rfl (.refl _ _))))

theorem rgsReferenceSample_keeps (n : Nat) (v : Int) (at_ : Nat) (s : State) : Keeps 64 s (rgsReferenceSample n v at_ s) := by
  unfold rgsReferenceSample
  lift_lets
  intro t0 t1
  exact (.ite (.refl _ _) (by
    split
    · exact (by
        split
        · exact (.ite (.refl _ _) (.via (rgsPulse_keeps ..) rfl (.refl _ _)))
        · exact (.refl _ _))
    · exact (by
        split
        · exact (.via (rgsSample_keeps ..) rfl (.refl _ _))
        · exact (.refl _ _))
    · exact (.onlyIf (.refl _ _) fun _ g2 => (.via (rgsLineSample_keeps ..) rfl g2))
    · exact (.via (rgsSample_keeps ..) rfl (.refl _ _))
    · exact (.via (rgsSample_keeps ..) rfl (.refl _ _))
    · exact (by
        split
        · exact (.via (rgsSample_keeps ..) rfl (.refl _ _))
        · exact (.refl _ _))
    · exact (.refl _ _)))

theorem execReferenceSample_keeps (slot : Fin 64) (v : Int) (at_ : Nat) (s : State) :
    Runs 64 s (execReferenceSample slot v at_ s) := by
  unfold execReferenceSample
  exact (.next (.via (rgsReferenceSample_keeps ..) rfl (.refl _ _)))

theorem rgsWtrEnd_keeps (n : Nat) (s : State) : Keeps 80 s (rgsWtrEnd n s) := by
  unfold rgsWtrEnd
  exact (.ite (.via (rgsQualified_keeps ..) rfl (.refl _ _)) (.refl _ _))

theorem execSlotEnable_keeps (slot : Fin 64) (en : Bool) (s : State) : Runs 65616 s (execSlotEnable slot en s) := by
  unfold execSlotEnable
  exact (.next (.hostDo rfl (.refl _ _) fun _ g0 => (.via (rgsEnable_keeps ..) rfl g0)))

theorem rgsStep_keeps (move : Int) (s : State) : Keeps 64 s (rgsStep move s) := by
  unfold rgsStep
  lift_lets
  intro t0 t1
  exact (.rgs (fun w => by exact ⟨(List.length_map ..).trans w.rgs.1, w.rgs.2⟩) rfl (.refl _ _))

theorem execWtrClear_keeps (slot : Fin 64) (s : State) : Runs 65616 s (execWtrClear slot s) := by
  unfold execWtrClear
  exact (.next (.hostDo rfl (.refl _ _) fun _ g0 => (.via (rgsWtrEnd_keeps ..) rfl g0)))

theorem execWtrExpiry_keeps (slot : Fin 64) (s : State) : Runs 80 s (execWtrExpiry slot s) := by
  unfold execWtrExpiry
  exact (.next (.via (rgsWtrEnd_keeps ..) rfl (.refl _ _)))

end Sys2Proof.Machine
end

