-- ==== Sys2Proof/Laws/KeepsRehearse.lean ====
section
/-! SUPPORT. What the operations of Rehearse.lean keep: the form of the state, the queue, and the parts outside their mask. -/

namespace Sys2Proof.Machine

theorem pairSet_wf {f : PairState → PairState} {s : State} (hf : s.Wf → Memory.wf 0 (f s.pair).host = true ∧
    ∀ e, (f s.pair).committed = some e → Memory.wf 0 e.host = true) : Keeps 262144 s (pairSet f s) :=
  .pair hf rfl (.refl _ _)

theorem pairSet_keeps {f : PairState → PairState} {s : State}
    (hf : ∀ p, (f p).host = p.host ∧ (f p).committed = p.committed) : Keeps 262144 s (pairSet f s) :=
  pairSet_wf fun w => ⟨by rw [(hf _).1]; exact w.host, by rw [(hf _).2]; exact w.copy⟩

theorem pairFlag_keeps (f : Fld) (s : State) : Keeps 0 s (pairFlag f s) := by
  unfold pairFlag
  exact (.via (State.setFlag_keeps ..) rfl (.refl _ _))

theorem pairCompared_keeps (bad : Bool) (s : State) : Keeps 262144 s (pairCompared bad s) := by
  unfold pairCompared
  lift_lets
  intro t0 t1
  have h1 : Keeps 262144 s t1 := (.via (pairSet_keeps fun _ => ⟨rfl, rfl⟩) rfl (.refl _ _))
  exact (.onlyIf h1 fun _ g2 => (.via (pairFlag_keeps ..) rfl (.via (State.count_keeps ..) rfl g2)))

theorem pairOwnDigest_keeps (d : List Byte) (s : State) : Keeps 262144 s (pairOwnDigest d s) := by
  unfold pairOwnDigest
  exact (by
    split
    · exact (.via (pairCompared_keeps ..) rfl (.via (pairSet_keeps fun _ => ⟨rfl, rfl⟩) rfl (.refl _ _)))
    · exact (.via (pairSet_keeps fun _ => ⟨rfl, rfl⟩) rfl (.refl _ _)))

theorem pairDigest_keeps (bs : List Byte) (outcome : Nat) (header : List Byte) (s : State) :
    Keeps 262144 s (pairDigest bs outcome header s) := by
  unfold pairDigest
  exact (by
    split
    · lift_lets
      intro t0 t1
      exact (.ite (.onlyIf (.via (State.emit_keeps ..) rfl (.refl _ _)) fun _ g2 => (.via (pairOwnDigest_keeps ..) rfl g2)) (.refl _ _))
    · exact (.refl _ _))

theorem pairKept_keeps (s : State) : Keeps 262144 s (pairKept s) := by
  unfold pairKept
  lift_lets
  intro t0
  exact (.ite (.via (State.count_keeps ..) rfl (.via (pairSet_keeps fun _ => ⟨rfl, rfl⟩) rfl (.refl _ _))) (.via (pairSet_keeps fun _ => ⟨rfl, rfl⟩) rfl (.refl _ _)))

end Sys2Proof.Machine
end

