-- ==== Sys2Proof/Laws/KeepsPorts.lean ====
section
/-! SUPPORT. What the operations of Ports.lean keep: the form of the state, the queue, and the parts outside their mask. -/

namespace Sys2Proof.Machine

theorem macSet_keeps (n : Nat) (f : MacPort → MacPort) (s : State) : Keeps 2048 s (macSet n f s) := by
  unfold macSet
  exact (.mac (fun w => (List.length_modify ..).trans w.mac) rfl (.refl _ _))

theorem depCancel_keeps (n : Nat) (o : ResvOwner) (s : State) : Keeps 2048 s (depCancel n o s) := by
  unfold depCancel
  exact (.via (macSet_keeps ..) rfl (.refl _ _))

theorem ptpSet_keeps (i : Nat) (f : PtpInst → PtpInst) (s : State) : Keeps 16384 s (ptpSet i f s) := by
  unfold ptpSet
  lift_lets
  intro t0
  exact (.ptp (fun w => by exact (List.length_modify ..).trans w.ptp) rfl (.refl _ _))

theorem ownerDropped_keeps (o : ResvOwner) (s : State) : Keeps 16384 s (ownerDropped o s) := by
  unfold ownerDropped
  exact (by
    split
    · exact (.refl _ _)
    · exact (.via (State.setFlag_keeps ..) rfl (.via (State.count_keeps ..) rfl (.refl _ _)))
    · exact (.via (ptpSet_keeps ..) rfl (.via (State.count_keeps ..) rfl (.refl _ _))))

theorem tsqCount_keeps (n : Nat) (s : State) : Keeps 0 s (tsqCount n s) := by
  unfold tsqCount
  exact (.via (State.put_keeps ..) rfl (.refl _ _))

theorem tsqAppend_keeps (n : Nat) (ts : Option TsReq) (dropped : Bool) (time : Int) (s : State) :
    Keeps 2048 s (tsqAppend n ts dropped time s) := by
  unfold tsqAppend
  lift_lets
  intro t0
  exact (by
    split
    · exact (.refl _ _)
    · lift_lets
      intro t1
      exact (.ite (.via (State.setEvent_keeps ..) rfl (.via (State.count_keeps ..) rfl (.via (macSet_keeps ..) rfl (.refl _ _)))) (.via (tsqCount_keeps ..) rfl (.via (macSet_keeps ..) rfl (.refl _ _)))))

theorem portFlag_keeps (n : Nat) (f : Fld) (s : State) : Keeps 0 s (portFlag n f s) := by
  unfold portFlag
  exact (.via (State.setFlag_keeps ..) rfl (.refl _ _))

theorem depDrop_keeps (n : Nat) (cause : Fld) (o : ResvOwner) (ts : Option TsReq) (line : Int) (s : State) :
    Keeps 1067008 s (depDrop n cause o ts line s) := by
  unfold depDrop
  exact (.via (ownerDropped_keeps ..) rfl (.via (tsqAppend_keeps ..) rfl (.via (portFlag_keeps ..) rfl (.via (State.deadline_keeps ..) rfl (.via (State.count_keeps ..) rfl (.refl _ _))))))

theorem depHandOver_keeps (n : Nat) (o : ResvOwner) (fr : EthFrame) (now : Int) (s : State) :
    Keeps 1067008 s (depHandOver n o fr now s) := by
  unfold depHandOver
  exact (by
    split
    · exact (.ite (.via (depDrop_keeps ..) rfl (.via (depCancel_keeps ..) rfl (.refl _ _))) (.via (macSet_keeps ..) rfl (.refl _ _)))
    · exact (.via (depDrop_keeps ..) rfl (.refl _ _)))

theorem depFill_keeps (n : Nat) (s : State) : Keeps 0 s (depFill n s) := by
  unfold depFill
  exact (.via (State.put_keeps ..) rfl (.refl _ _))

theorem depReserve_keeps (n : Nat) (o : ResvOwner) (td : Int) (len : Nat) (g : BlockGrid) (fr : Option EthFrame) (s : State) :
    Keeps 2048 s (depReserve n o td len g fr s) := by
  unfold depReserve
  lift_lets
  intro t0 t1
  exact (.via (depFill_keeps ..) rfl (.via (macSet_keeps ..) rfl (.refl _ _)))

theorem depRefuse_keeps (n : Nat) (o : ResvOwner) (line : Int) (s : State) : Keeps 1067008 s (depRefuse n o line s) := by
  unfold depRefuse
  exact (.via (depDrop_keeps ..) rfl (.refl _ _))

theorem putFree64_keeps (ofs : Nat) (s : State) : Keeps 0 s (putFree64 ofs s) := by
  unfold putFree64
  exact (.via (State.freeNext_keeps ..) rfl (.via (State.put64_keeps ..) rfl (.refl _ _)))

theorem portDelays_keeps (n : Nat) (s : State) : Keeps 0 s (portDelays n s) := by
  unfold portDelays
  exact (.via (putFree64_keeps ..) rfl (.via (putFree64_keeps ..) rfl (.refl _ _)))

theorem portLinkDown_keeps (n : Nat) (s : State) : Keeps 2064 s (portLinkDown n s) := by
  unfold portLinkDown
  lift_lets
  intro t0
  have h0 : Keeps 2064 s t0 := (.via (portFlag_keeps ..) rfl (.via (State.put_keeps ..) rfl (.via (State.put_keeps ..) rfl (.refl _ _))))
  intro t1 t2
  have h2 : Keeps 2064 s t2 := (.via (macSet_keeps ..) rfl h0)
  intro t3
  have h3 : Keeps 2064 s t3 := (.foldl _ h2 fun _ _ g4 => (.via (tsqAppend_keeps ..) rfl g4))
  exact (.via (tbRepOff_keeps ..) rfl (.via (portDelays_keeps ..) rfl h3))

theorem portQueue_keeps (n : Nat) (fr : EthFrame) (s : State) : Keeps 2048 s (portQueue n fr s) := by
  unfold portQueue
  exact (.via (macSet_keeps ..) rfl (.refl _ _))

theorem portCfgWrite_keeps (n : Nat) (v : Word) (s : State) : Keeps 2072 s (portCfgWrite n v s) := by
  unfold portCfgWrite
  lift_lets
  intro t0
  have h0 : Keeps 2072 s t0 := (.via (xsWrite_keeps ..) rfl (.refl _ _))
  intro t1 t2 t3 t4 t5 t6
  have h6 : Keeps 2072 s t6 := (.via (State.setReg_keeps ..) rfl (.onlyIf h0 fun _ g7 => (.via (portFlag_keeps ..) rfl g7)))
  intro t8 t9 t10
  have h10 : Keeps 2072 s t10 := (.onlyIf h6 fun _ g11 => (.via (portFlag_keeps ..) rfl g11))
  intro t12
  have h12 : Keeps 2072 s t12 := (.onlyIf h10 fun _ g13 => (.via (portLinkDown_keeps ..) rfl g13))
  intro t14
  have h14 : Keeps 2072 s t14 := (.onlyIf h12 fun _ g15 => (.via (portDelays_keeps ..) rfl g15))
  exact (.ite (.via (tbRepStart_keeps ..) rfl h14) (.ite (.via (tbRepOff_keeps ..) rfl (.via (tbRepOff_keeps ..) rfl h14)) h14))

theorem portKeep_keeps (n : Nat) (fr : EthFrame) (start txd : Int) (s : State) : Keeps 264192 s (portKeep n fr start txd s) := by
  unfold portKeep
  exact (.via (tsqAppend_keeps ..) rfl (.via (pairKept_keeps ..) rfl (.refl _ _)))

theorem portSend_keeps (n : Nat) (fr : EthFrame) (start txd : Int) (s : State) : Keeps 2056 s (portSend n fr start txd s) := by
  unfold portSend
  lift_lets
  intro t0 t1
  have h1 : Keeps 2056 s t1 := (.via (macSet_keeps ..) rfl (.refl _ _))
  exact (.ite (.via (tsqAppend_keeps ..) rfl (.via (State.emit_keeps ..) rfl h1)) (.via (tsqAppend_keeps ..) rfl (.cross rfl (.refl _ _) fun _ g2 => g2)))

theorem depDeparture_keeps (n : Nat) (s : State) : Keeps 1329160 s (depDeparture n s) := by
  unfold depDeparture
  exact (by
    split
    · exact (.refl _ _)
    · lift_lets
      intro t0
      have h0 : Keeps 1329160 s t0 := (.via (depFill_keeps ..) rfl (.via (macSet_keeps ..) rfl (.refl _ _)))
      exact (by
        split
        · exact (.via (State.count_keeps ..) rfl h0)
        · exact (.ite (.via (portKeep_keeps ..) rfl h0) (by
            split
            · exact (.via (depDrop_keeps ..) rfl h0)
            · exact (.via (portSend_keeps ..) rfl (.onlyIf h0 fun _ g1 => (.via (State.count_keeps ..) rfl g1)))))))

theorem esmcRx_keeps (n : Nat) (p : EsmcPdu) (s : State) : Keeps 0 s (esmcRx n p s) := by
  unfold esmcRx
  lift_lets
  intro t0 t1 t2 t3
  have h3 : Keeps 0 s t3 := (.via (State.put_keeps ..) rfl (.via (State.put_keeps ..) rfl (.refl _ _)))
  intro t4
  have h4 : Keeps 0 s t4 := (.via (State.put_keeps ..) rfl h3)
  intro t5
  have h5 : Keeps 0 s t5 := (.onlyIf h4 fun _ g6 => (.via (portFlag_keeps ..) rfl g6))
  exact (.ite (rgsForSource_keeps rfl h5 fun _ _ g7 => (.via (rgsMessage_keeps ..) rfl g7)) (.refl _ _))

theorem esmcSend_keeps (n : Nat) (event : Bool) (s : State) : Keeps 2048 s (esmcSend n event s) := by
  unfold esmcSend
  lift_lets
  intro t0 t1 t2
  have h2 : Keeps 2048 s t2 := (.via (State.put_keeps ..) rfl (.via (State.freeNext_keeps ..) rfl (.via (portQueue_keeps ..) rfl (.refl _ _))))
  exact (.onlyIf h2 fun _ g3 => (.via (State.put_keeps ..) rfl g3))

theorem execDeparture_keeps (n : Fin 8) (s : State) : Runs 1329160 s (execDeparture n s) := by
  unfold execDeparture
  exact (.next (.via (depDeparture_keeps ..) rfl (.refl _ _)))

theorem execEsmcEventTx_keeps (n : Fin 8) (s : State) : Runs 2048 s (execEsmcEventTx n s) := by
  unfold execEsmcEventTx
  exact (.next (.onlyIf (.refl _ _) fun _ g0 => (.via (esmcSend_keeps ..) rfl g0)))

theorem execEsmcInfoTx_keeps (n : Fin 8) (s : State) : Runs 2048 s (execEsmcInfoTx n s) := by
  unfold execEsmcInfoTx
  exact (.next (.onlyIf (.refl _ _) fun _ g0 => (.via (esmcSend_keeps ..) rfl g0)))

theorem execEsmcPduRx_keeps (n : Fin 8) (p : EsmcPdu) (s : State) : Runs 0 s (execEsmcPduRx n p s) := by
  unfold execEsmcPduRx
  exact (.next (.via (esmcRx_keeps ..) rfl (.refl _ _)))

theorem execEsmcTimeout_keeps (n : Fin 8) (s : State) : Runs 0 s (execEsmcTimeout n s) := by
  unfold execEsmcTimeout
  exact (.next (rgsForSource_keeps rfl (.via (State.put_keeps ..) rfl (.refl _ _)) fun _ _ g0 => (.via (rgsMessageFailed_keeps ..) rfl g0)))

theorem execEthLinkDown_keeps (n : Fin 8) (s : State) : Runs 2064 s (execEthLinkDown n s) := by
  unfold execEthLinkDown
  exact (.next (.onlyIf (.refl _ _) fun _ g0 => (.via (portLinkDown_keeps ..) rfl g0)))

theorem execEthLinkUp_keeps (n : Fin 8) (txDly rxDly : BitVec 64) (s : State) : Runs 16 s (execEthLinkUp n txDly rxDly s) := by
  unfold execEthLinkUp
  exact (.next (.onlyIf (.refl _ _) fun _ g0 => (by
    lift_lets
    intro t1
    have h1 : Keeps 16 s t1 := (.via (State.putB_keeps ..) rfl (.via (State.put_keeps ..) rfl g0))
    intro t2
    have h2 : Keeps 16 s t2 := (.via (State.put64_keeps ..) rfl (.via (State.put64_keeps ..) rfl h1))
    exact (.via (tbRepStart_keeps ..) rfl (.via (tbRepStart_keeps ..) rfl h2)))))

theorem gateState_keeps (n st : Nat) (s : State) : Keeps 0 s (gateState n st s) := by
  unfold gateState
  exact (.via (State.put_keeps ..) rfl (.refl _ _))

theorem gateChange_keeps (n at_ : Nat) (s : State) : Keeps 2048 s (gateChange n at_ s) := by
  unfold gateChange
  lift_lets
  intro t0 t1 t2 t3
  exact (.ite (.via (portFlag_keeps ..) rfl (.refl _ _)) (.via (gateState_keeps ..) rfl (.via (macSet_keeps ..) rfl (.refl _ _))))

theorem execGateChange_keeps (n : Fin 8) (at_ : Nat) (s : State) : Runs 67584 s (execGateChange n at_ s) := by
  unfold execGateChange
  exact (.next (.hostDo rfl (.refl _ _) fun _ g0 => (.via (gateChange_keeps ..) rfl g0)))

theorem gateRefresh_keeps (n : Nat) (x : Int) (s : State) : Keeps 0 s (gateRefresh n x s) := by
  unfold gateRefresh
  exact (.via (State.put_keeps ..) rfl (.refl _ _))

theorem gateChangeTime_keeps (n : Nat) (s : State) : Keeps 2048 s (gateChangeTime n s) := by
  unfold gateChangeTime
  exact (by
    split
    · lift_lets
      intro t0
      have h0 : Keeps 2048 s t0 := (.via (macSet_keeps ..) rfl (.refl _ _))
      intro t1
      have h1 : Keeps 2048 s t1 := (.via (gateState_keeps ..) rfl (.via (State.put_keeps ..) rfl (.via (State.put_keeps ..) rfl h0)))
      exact (.via (gateRefresh_keeps ..) rfl (.via (portFlag_keeps ..) rfl h1))
    · exact (.refl _ _))

theorem execGateChangeTime_keeps (n : Fin 8) (s : State) : Runs 2048 s (execGateChangeTime n s) := by
  unfold execGateChangeTime
  exact (.next (.via (gateChangeTime_keeps ..) rfl (.refl _ _)))

theorem gateEnable_keeps (n : Nat) (en : Bool) (at_ : Nat) (s : State) : Keeps 2048 s (gateEnable n en at_ s) := by
  unfold gateEnable
  lift_lets
  intro t0 t1
  have h1 : Keeps 2048 s t1 := (.via (State.putB_keeps ..) rfl (.refl _ _))
  intro t2
  have h2 : Keeps 2048 s t2 := (.ite (.ite (.via (gateState_keeps ..) rfl (.via (macSet_keeps ..) rfl h1)) h1) (.ite h1 (.via (gateState_keeps ..) rfl (.via (macSet_keeps ..) rfl h1))))
  exact (.via (gateRefresh_keeps ..) rfl h2)

theorem execGateEnable_keeps (n : Fin 8) (en : Bool) (at_ : Nat) (s : State) : Runs 67584 s (execGateEnable n en at_ s) := by
  unfold execGateEnable
  exact (.next (.hostDo rfl (.refl _ _) fun _ g0 => (.via (gateEnable_keeps ..) rfl g0)))

theorem execGateEntry_keeps (n : Fin 8) (at_ : Nat) (s : State) : Runs 0 s (execGateEntry n at_ s) := by
  unfold execGateEntry
  exact (.next (.via (gateRefresh_keeps ..) rfl (.refl _ _)))

theorem execPauseEnd_keeps (n : Fin 8) (at_ : Nat) (s : State) : Runs 0 s (execPauseEnd n at_ s) := by
  unfold execPauseEnd
  exact (.next (.onlyIf (.refl _ _) fun _ g0 => (.via (State.put_keeps ..) rfl g0)))

theorem portPauseRx_keeps (n opcode quanta at_ : Nat) (s : State) : Keeps 2048 s (portPauseRx n opcode quanta at_ s) := by
  unfold portPauseRx
  lift_lets
  intro t0
  have h0 : Keeps 2048 s t0 := (.via (State.count_keeps ..) rfl (.refl _ _))
  intro t1
  exact (.ite (.via (State.putB_keeps ..) rfl (.via (macSet_keeps ..) rfl h0)) h0)

theorem execPauseRx_keeps (n : Fin 8) (opcode quanta : BitVec 16) (at_ : Nat) (s : State) :
    Runs 2048 s (execPauseRx n opcode quanta at_ s) := by
  unfold execPauseRx
  exact (.next (.via (portPauseRx_keeps ..) rfl (.refl _ _)))

theorem tsqPop_keeps (n : Nat) (s : State) : Keeps 2056 s (tsqPop n s) := by
  unfold tsqPop
  lift_lets
  intro t0 t1
  have h1 : Keeps 2056 s t1 := (.sys rfl (.refl _ _))
  intro t2
  have h2 : Keeps 2056 s t2 := (.via (tsqCount_keeps ..) rfl (.via (macSet_keeps ..) rfl h1))
  exact (by
    split
    · lift_lets
      intro t3
      have h3 : Keeps 2056 s t3 := (.via (State.put64_keeps ..) rfl h2)
      exact (.via (State.put_keeps ..) rfl (.via (State.put_keeps ..) rfl h3))
    · exact h1)

theorem gateCfgWrite_keeps (n : Nat) (v : Word) (at_ : Nat) (s : State) : Keeps 2048 s (gateCfgWrite n v at_ s) := by
  unfold gateCfgWrite
  lift_lets
  intro t0
  have h0 : Keeps 2048 s t0 := (.via (State.put_keeps ..) rfl (.via (State.put_keeps ..) rfl (.refl _ _)))
  intro t1
  have h1 : Keeps 2048 s t1 := (.ite h0 (.via (gateEnable_keeps ..) rfl h0))
  exact (.onlyIf h1 fun _ g2 => (.via (gateChange_keeps ..) rfl g2))

theorem gateEntWrite_keeps (n e : Nat) (v : Word) (s : State) : Keeps 0 s (gateEntWrite n e v s) := by
  unfold gateEntWrite
  exact (.ite (.via (portFlag_keeps ..) rfl (.refl _ _)) (.via (State.setReg_keeps ..) rfl (.refl _ _)))

theorem portStep_keeps (t : Int) (n : Nat) (s : State) : Keeps 1067008 s (portStep t n s) := by
  unfold portStep
  lift_lets
  intro t0
  exact (.foldl _ (.refl _ _) fun _ _ g1 => (.via (depDrop_keeps ..) rfl (.via (depCancel_keeps ..) rfl g1)))

theorem execTsqPop_keeps (n : Fin 8) (s : State) : Runs 2056 s (execTsqPop n s) := by
  unfold execTsqPop
  exact (.next (.hostPop rfl (.refl _ _) fun _ g0 => (.via (tsqPop_keeps ..) rfl g0)))

theorem txDescriptor_keeps (n : Nat) (frame : List Byte) (s : State) : Keeps 526336 s (txDescriptor n frame s) := by
  unfold txDescriptor
  lift_lets
  intro t0
  have h0 : Keeps 526336 s t0 := (.via (hifConsume_keeps ..) rfl (.refl _ _))
  exact (by
    split
    · exact (.refl _ _)
    · lift_lets
      intro t1 t2 t3 t4
      exact (.ite (.via (hifBadDesc_keeps ..) rfl (.refl _ _)) (.ite (.via (portQueue_keeps ..) rfl h0) (.via (tsqAppend_keeps ..) rfl (.via (hifDrop_keeps ..) rfl h0)))))

theorem execTxDescriptor_keeps (port : Fin 8) (frame : List Byte) (s : State) :
    Runs 526336 s (execTxDescriptor port frame s) := by
  unfold execTxDescriptor
  exact (.next (.via (txDescriptor_keeps ..) rfl (.refl _ _)))

theorem portUnscheduled_keeps (n i at_ : Nat) (s : State) : Keeps 264200 s (portUnscheduled n i at_ s) := by
  unfold portUnscheduled
  lift_lets
  intro t0
  exact (by
    split
    · exact (.refl _ _)
    · lift_lets
      intro t1 t2
      have h2 : Keeps 264200 s t2 := (.via (macSet_keeps ..) rfl (.refl _ _))
      exact (.ite (.ite (.via (portKeep_keeps ..) rfl (.via (macSet_keeps ..) rfl (.refl _ _))) (.via (portSend_keeps ..) rfl h2)) (.refl _ _)))

theorem execUnscheduledTx_keeps (n : Fin 8) (i at_ : Nat) (s : State) : Runs 264200 s (execUnscheduledTx n i at_ s) := by
  unfold execUnscheduledTx
  exact (.next (.via (portUnscheduled_keeps ..) rfl (.refl _ _)))

end Sys2Proof.Machine
end

