-- ==== Sys2Proof/Laws/KeepsNts.lean ====
section
/-! SUPPORT. What the operations of Nts.lean keep: the form of the state, the queue, and the parts outside their mask. -/

namespace Sys2Proof.Machine

theorem pairDropped_keeps (r : AnsReq) (outcome : Nat) (s : State) : Keeps 262144 s (pairDropped r outcome s) := by
  unfold pairDropped
  exact (.onlyIf (.refl _ _) fun _ g0 => (.via (pairDigest_keeps ..) rfl g0))

theorem ansCount_keeps (p : Nat) (s : State) : Keeps 0 s (ansCount p s) := by
  unfold ansCount
  exact (.via (State.put_keeps ..) rfl (.refl _ _))

theorem ansSet_keeps (p : Nat) (f : AnsPipe → AnsPipe) (s : State) : Keeps 4096 s (ansSet p f s) := by
  unfold ansSet
  lift_lets
  intro t0
  exact (.ans (fun w => by exact (List.length_modify ..).trans w.ans) rfl (.refl _ _))

theorem ntsSetDrbg_keeps (u : Nat) (d : Drbg) (s : State) : Keeps 4096 s (ntsSetDrbg u d s) := by
  unfold ntsSetDrbg
  lift_lets
  intro t0
  exact (.ans (fun w => by exact w.ans) rfl (.refl _ _))

theorem ntsReseed_keeps (u : Nat) (s : State) : Keeps 4096 s (ntsReseed u s) := by
  unfold ntsReseed
  lift_lets
  intro t0 t1
  exact (.via (ntsSetDrbg_keeps ..) rfl (.via (State.freeNext_keeps ..) rfl (.refl _ _)))

theorem ntsBegin_keeps (u : Nat) (s : State) : Keeps 4096 s (ntsBegin u s) := by
  unfold ntsBegin
  lift_lets
  intro t0
  have h0 : Keeps 4096 s t0 := (.onlyIf (.refl _ _) fun _ g1 => (.via (ntsReseed_keeps ..) rfl g1))
  intro t2
  exact (.via (ntsSetDrbg_keeps ..) rfl h0)

theorem ansSetReq_keeps (p id : Nat) (f : AnsReq → AnsReq) (s : State) : Keeps 4096 s (ansSetReq p id f s) := by
  unfold ansSetReq
  exact (.via (ansSet_keeps ..) rfl (.refl _ _))

theorem ntsAssign_keeps (p : Nat) (s : State) : Keeps 4096 s (ntsAssign p s) := by
  unfold ntsAssign
  exact (.foldl _ (.refl _ _) fun _ _ g0 => (by
    split
    · exact (.onlyIf g0 fun _ g1 => (.via (ntsBegin_keeps ..) rfl (.via (ansSetReq_keeps ..) rfl g1)))
    · exact g0))

theorem ntsServe_keeps (s : State) : Keeps 4096 s (ntsServe s) := by
  unfold ntsServe
  exact (.foldl _ (.refl _ _) fun _ _ g0 => (.via (ntsAssign_keeps ..) rfl g0))

theorem ansRemove_keeps (p id : Nat) (s : State) : Keeps 4096 s (ansRemove p id s) := by
  unfold ansRemove
  exact (.via (ansCount_keeps ..) rfl (.via (ansSet_keeps ..) rfl (.refl _ _)))

theorem ansHandOver_keeps (p : Nat) (r : AnsReq) (payload : List Byte) (at_ : Nat) (s : State) :
    Keeps 1071104 s (ansHandOver p r payload at_ s) := by
  unfold ansHandOver
  lift_lets
  intro t0
  exact (.via (depHandOver_keeps ..) rfl (.via (ntsServe_keeps ..) rfl (.via (ansRemove_keeps ..) rfl (.refl _ _))))

theorem ansFlag_keeps (p : Nat) (f : Fld) (s : State) : Keeps 0 s (ansFlag p f s) := by
  unfold ansFlag
  exact (.via (State.setFlag_keeps ..) rfl (.refl _ _))

theorem ansDrop_keeps (p : Nat) (r : AnsReq) (s : State) : Keeps 6144 s (ansDrop p r s) := by
  unfold ansDrop
  exact (.via (ntsServe_keeps ..) rfl (.via (depCancel_keeps ..) rfl (.via (ansRemove_keeps ..) rfl (.refl _ _))))

theorem ntsFlag_keeps (f : Fld) (s : State) : Keeps 0 s (ntsFlag f s) := by
  unfold ntsFlag
  exact (.via (State.setFlag_keeps ..) rfl (.refl _ _))

theorem ntsPoolLate_keeps (p : Nat) (r : AnsReq) (line : Int) (s : State) : Keeps 1316864 s (ntsPoolLate p r line s) := by
  unfold ntsPoolLate
  exact (.via (pairDropped_keeps ..) rfl (.via (ansDrop_keeps ..) rfl (.via (ntsFlag_keeps ..) rfl (.via (State.deadline_keeps ..) rfl (.via (State.count_keeps ..) rfl (.refl _ _))))))

theorem ntsNoUnit_keeps (p : Nat) (r : AnsReq) (s : State) : Keeps 268288 s (ntsNoUnit p r s) := by
  unfold ntsNoUnit
  exact (.via (pairDropped_keeps ..) rfl (.via (ansDrop_keeps ..) rfl (.via (State.count_keeps ..) rfl (.refl _ _))))

theorem ntsFlagLow_keeps (f : Fld) (s : State) : Keeps 0 s (ntsFlagLow f s) := by
  unfold ntsFlagLow
  exact (.via (State.setFlag_keeps ..) rfl (.refl _ _))

theorem ntsState_keeps (st : Nat) (s : State) : Keeps 0 s (ntsState st s) := by
  unfold ntsState
  exact (.via (State.put_keeps ..) rfl (.refl _ _))

theorem ntsRest_keeps (s : State) : Keeps 0 s (ntsRest s) := by
  unfold ntsRest
  exact (.via (ntsState_keeps ..) rfl (.refl _ _))

theorem ntsRefresh_keeps (s : State) : Keeps 0 s (ntsRefresh s) := by
  unfold ntsRefresh
  lift_lets
  intro t0 t1
  have h1 : Keeps 0 s t1 := (.via (State.put_keeps ..) rfl (.via (State.put_keeps ..) rfl (.via (State.put_keeps ..) rfl (.refl _ _))))
  exact (.via (State.put_keeps ..) rfl h1)

theorem ntsRotated_keeps (s : State) : Keeps 8192 s (ntsRotated s) := by
  unfold ntsRotated
  lift_lets
  intro t0
  exact (by
    split
    · lift_lets
      intro t1
      have h1 : Keeps 8192 s t1 := (.nts rfl (.refl _ _))
      exact (.via (ntsFlagLow_keeps ..) rfl (.via (ntsRest_keeps ..) rfl (.via (ntsRefresh_keeps ..) rfl h1)))
    · exact (.refl _ _))

theorem ntsDraw_keeps (s : State) : Keeps 1056768 s (ntsDraw s) := by
  unfold ntsDraw
  lift_lets
  intro t0 t1 t2 t3
  have h3 : Keeps 1056768 s t3 := (.step (.refl _ _) (fun w => { w with con := (fun w => by exact w.con) w }) rfl fun p hp => by cases p <;> first | exact absurd hp (by decide) | rfl)
  exact (.via (ntsState_keeps ..) rfl (.via (State.put_keeps ..) rfl h3))

theorem execMintCompletion_keeps (s : State) : Runs 532488 s (execMintCompletion s) := by
  unfold execMintCompletion
  lift_lets
  intro t0
  exact (.next (by
    split
    · exact (.via (hifComplete_keeps ..) rfl (.nts rfl (.refl _ _)))
    · exact (.refl _ _)))

theorem ntsRandomDone_keeps (u n : Nat) (s : State) : Keeps 4096 s (ntsRandomDone u n s) := by
  unfold ntsRandomDone
  lift_lets
  intro t0 t1
  exact (.via (ntsSetDrbg_keeps ..) rfl (.refl _ _))

theorem ntsSealMany_keeps (u : Nat) (k : NtsKey) (c2s s2c : List Byte) (n : Nat) (s : State) :
    Keeps 4096 s (ntsSealMany u k c2s s2c n s).2 := by
  induction n generalizing s with
  | zero => exact .refl _ _
  | succ n ih => exact .after rfl (ntsRandomDone_keeps ..) (ih _)

theorem mintJob_keeps (d : List Byte) (s : State) : Keeps 12296 s (mintJob d s) := by
  unfold mintJob
  lift_lets
  intro t0 t1 t2 t3
  have h3 : Keeps 12296 s t3 := (.via (ntsFlagLow_keeps ..) rfl (.via (State.count_keeps ..) rfl (.refl _ _)))
  intro t4
  exact (by
    clear_value t0
    split
    · lift_lets
      intro t5
      have h5 : Keeps 12296 s t5.2 := (.via (ntsSealMany_keeps ..) rfl (.via (ntsBegin_keeps ..) rfl (.refl _ _)))
      intro t6
      have h6 : Keeps 12296 s t6 := (.via (State.count_keeps ..) rfl (.via (hifWrite_keeps ..) rfl h5))
      intro t7
      exact (.nts rfl h6)
    · exact (.nts rfl h3))

theorem execMintJob_keeps (s : State) : Runs 536584 s (execMintJob s) := by
  unfold execMintJob
  exact (.next (by
    split
    · exact (.ite (.refl _ _) (.via (ntsServe_keeps ..) rfl (.via (mintJob_keeps ..) rfl (.via (hifConsume_keeps ..) rfl (.refl _ _)))))
    · exact (.refl _ _)))

theorem ntsFirst_keeps (s : State) : Keeps 1056768 s (ntsFirst s) := by
  unfold ntsFirst
  exact (.onlyIf (.refl _ _) fun _ g0 => (.via (ntsDraw_keeps ..) rfl g0))

theorem execNtsEnable_keeps (s : State) : Runs 1056768 s (execNtsEnable s) := by
  unfold execNtsEnable
  exact (.next (.onlyIf (.refl _ _) fun _ g0 => (.via (ntsFirst_keeps ..) rfl g0)))

theorem ntsPhase1_keeps (p : Nat) (r : AnsReq) (s : State) : Keeps 268288 s (ntsPhase1 p r s) := by
  unfold ntsPhase1
  simp only
  cases ntsParse s (parseFrame r.bytes) with
  | none => exact .via (ansDrop_keeps ..) rfl (.refl _ _)
  | some q =>
    dsimp only
    cases ntsCheck s (parseFrame r.bytes) q with
    | keys c2s s2c =>
      cases s.nts.cur with
      | none => exact .via (ansDrop_keeps ..) rfl (.refl _ _)
      | some k =>
        refine .via (ntsServe_keeps ..) rfl (.via (ansSetReq_keeps ..) rfl ?_)
        exact .via (ntsSealMany_keeps _ _ _ _ _ _) rfl (.refl _ _)
    | nak c =>
      have h : Keeps 268288 s (s.count (c p) 1) := .via (State.count_keeps ..) rfl (.refl _ _)
      exact .ite (.via (ntsServe_keeps ..) rfl (.via (ansSetReq_keeps ..) rfl h))
        (.via (pairDropped_keeps ..) rfl (.via (ansDrop_keeps ..) rfl h))

theorem execNtsPhase1_keeps (u : Fin 16) (s : State) : Runs 268288 s (execNtsPhase1 u s) := by
  unfold execNtsPhase1
  exact (.next (by
    split
    · exact (.via (ntsPhase1_keeps ..) rfl (.refl _ _))
    · exact (.refl _ _)))

theorem ntsPhase2_keeps (p at_ : Nat) (r : AnsReq) (s : State) : Keeps 1333248 s (ntsPhase2 p at_ r s) := by
  unfold ntsPhase2
  lift_lets
  intro t0 t1
  exact (by
    split
    · lift_lets
      intro t2
      have h2 : Keeps 1333248 s t2 := (.via (State.count_keeps ..) rfl (.via (State.count_keeps ..) rfl (.via (ntsRandomDone_keeps ..) rfl (.refl _ _))))
      intro t3
      have h3 : Keeps 1333248 s t3 := (.onlyIf h2 fun _ g4 => (.via (State.count_keeps ..) rfl g4))
      exact (.ite (.via (ntsPoolLate_keeps ..) rfl (.refl _ _)) (.via (ansHandOver_keeps ..) rfl h3))
    · exact (.refl _ _))

theorem execNtsPhase2_keeps (u : Fin 16) (at_ : Nat) (s : State) : Runs 1333248 s (execNtsPhase2 u at_ s) := by
  unfold execNtsPhase2
  exact (.next (by
    split
    · exact (.via (ntsPhase2_keeps ..) rfl (.refl _ _))
    · exact (.refl _ _)))

theorem ntsSelftest_keeps (u : Nat) (force : Bool) (s : State) : Keeps 0 s (ntsSelftest u force s) := by
  unfold ntsSelftest
  exact (.ite (.via (ntsFlagLow_keeps ..) rfl (.refl _ _)) (.via (State.put_keeps ..) rfl (.onlyIf (.refl _ _) fun _ g0 => (.via (ntsFlagLow_keeps ..) rfl g0))))

theorem execNtsSelftest_keeps (u : Fin 16) (force : Bool) (s : State) : Runs 65536 s (execNtsSelftest u force s) := by
  unfold execNtsSelftest
  exact (.next (.hostDo rfl (.refl _ _) fun _ g0 => (.via (ntsSelftest_keeps ..) rfl g0)))

theorem ntsTested_keeps (u : Nat) (ok : Bool) (s : State) : Keeps 4096 s (ntsTested u ok s) := by
  unfold ntsTested
  lift_lets
  intro t0
  have h0 : Keeps 4096 s t0 := (.via (State.put_keeps ..) rfl (.refl _ _))
  intro t1
  have h1 : Keeps 4096 s t1 := (.onlyIf h0 fun _ g2 => (.via (ntsFlag_keeps ..) rfl (.via (State.put_keeps ..) rfl g2)))
  intro t3
  have h3 : Keeps 4096 s t3 := (.onlyIf h1 fun _ g4 => (.via (State.put_keeps ..) rfl g4))
  exact (.via (ntsServe_keeps ..) rfl h3)

theorem execNtsSelftestDone_keeps (u : Fin 16) (ok : Bool) (s : State) : Runs 4096 s (execNtsSelftestDone u ok s) := by
  unfold execNtsSelftestDone
  exact (.next (.onlyIf (.refl _ _) fun _ g0 => (.via (ntsTested_keeps ..) rfl g0)))

theorem ntsDue_keeps (s : State) : Keeps 1056768 s (ntsDue s) := by
  unfold ntsDue
  exact (.onlyIf (.refl _ _) fun _ g0 => (.via (ntsDraw_keeps ..) rfl g0))

theorem ntsZeroise_keeps (confirm : Nat) (s : State) : Keeps 1056768 s (ntsZeroise confirm s) := by
  unfold ntsZeroise
  lift_lets
  intro t0 t1 t2
  have h2 : Keeps 1056768 s t2 := (.step (.refl _ _) (fun w => { w with con := (fun w => by exact w.con) w }) rfl fun p hp => by cases p <;> first | exact absurd hp (by decide) | rfl)
  exact (.ite (.via (ntsFlag_keeps ..) rfl (.via (ntsRest_keeps ..) rfl (.via (ntsRefresh_keeps ..) rfl h2))) (.via (ntsFlagLow_keeps ..) rfl (.refl _ _)))

theorem execRotate_keeps (s : State) : Runs 1122304 s (execRotate s) := by
  unfold execRotate
  exact (.next (.hostDo rfl (.refl _ _) fun _ g0 => (.via (ntsDue_keeps ..) rfl g0)))

theorem execRotationDue_keeps (s : State) : Runs 1056768 s (execRotationDue s) := by
  unfold execRotationDue
  exact (.next (.via (ntsDue_keeps ..) rfl (.refl _ _)))

theorem execRotationTimeout_keeps (s : State) : Runs 8192 s (execRotationTimeout s) := by
  unfold execRotationTimeout
  exact (.next (.onlyIf (.refl _ _) fun _ g0 => (by
    lift_lets
    intro t1
    exact (.via (State.setEvent_keeps ..) rfl (.via (ntsRest_keeps ..) rfl (.nts rfl g0))))))

theorem execZeroise_keeps (confirm : Byte) (s : State) : Runs 1122304 s (execZeroise confirm s) := by
  unfold execZeroise
  exact (.next (.hostDo rfl (.refl _ _) fun _ g0 => (.via (ntsZeroise_keeps ..) rfl g0)))

end Sys2Proof.Machine
end

