-- ==== Sys2Proof/Laws/KeepsVisitor.lean ====
section
/-! SUPPORT. What the operations of Visitor.lean keep: the form of the state, the queue, and the parts outside their mask. -/

namespace Sys2Proof.Machine

theorem vbFind_keeps (v6 : Bool) (addr : List Byte) (now : Nat) (s : State) : Keeps 0 s (vbFind v6 addr now s).2.2 := by
  unfold vbFind
  simp only
  split
  · exact .refl _ _
  · split
    · exact s.count_keeps _ _
    · exact .via (State.count_keeps ..) rfl (s.count_keeps _ _)

theorem vbPut_keeps (i : Nat) (e : BitVec 64) (s : State) : Keeps 4096 s (vbPut i e s) := by
  unfold vbPut
  lift_lets
  intro t0
  exact (.ans (fun w => by exact w.ans) rfl (.refl _ _))

theorem vbUpdate_keeps (v6 nts : Bool) (addr : List Byte) (now : Nat) (s : State) :
    Keeps 4096 s (vbUpdate v6 nts addr now s).2 :=
  .via (vbPut_keeps ..) rfl (.via (vbFind_keeps ..) rfl (.refl _ _))

theorem vbRenew_keeps (s : State) : Keeps 4096 s (vbRenew s) := by
  unfold vbRenew
  lift_lets
  intro t0
  exact (.step (.refl _ _) (fun w => { w with ans := (fun w => by exact w.ans) w }) rfl fun p hp => by cases p <;> first | exact absurd hp (by decide) | rfl)

theorem vbClear_keeps (s : State) : Keeps 4096 s (vbClear s) := by
  unfold vbClear
  exact (.via (State.put_keeps ..) rfl (.via (vbRenew_keeps ..) rfl (.refl _ _)))

theorem vbResult_keeps (b w : Nat) (hit : Bool) (e : BitVec 64) (s : State) : Keeps 0 s (vbResult b w hit e s) := by
  unfold vbResult
  lift_lets
  intro t0
  have h0 : Keeps 0 s t0 := (.via (State.put_keeps ..) rfl (.via (State.put_keeps ..) rfl (.refl _ _)))
  exact (.via (State.put64_keeps ..) rfl (.via (State.put_keeps ..) rfl (.via (State.putB_keeps ..) rfl h0)))

theorem vbServe_keeps (s : State) : Keeps 0 s (vbServe s) := by
  unfold vbServe
  lift_lets
  intro t0 t1 t2
  exact (.ite (by
    split
    · exact (.via (vbResult_keeps ..) rfl (.refl _ _))
    · exact (.via (State.freeNext_keeps ..) rfl (.via (vbResult_keeps ..) rfl (.refl _ _)))) (.via (vbResult_keeps ..) rfl (.refl _ _)))

theorem vbCommand_keeps (op v6 : Bool) (i : Nat) (s : State) : Keeps 0 s (vbCommand op v6 i s) := by
  unfold vbCommand
  lift_lets
  intro t0 t1
  have h1 : Keeps 0 s t1 := (.via (State.putB_keeps ..) rfl (.via (State.putB_keeps ..) rfl (.via (State.put_keeps ..) rfl (.refl _ _))))
  exact (.ite h1 (.ite (.via (State.put_keeps ..) rfl h1) (.via (vbServe_keeps ..) rfl h1)))

theorem execVbClear_keeps (s : State) : Runs 69632 s (execVbClear s) := by
  unfold execVbClear
  exact (.next (.hostDo rfl (.refl _ _) fun _ g0 => (.via (vbClear_keeps ..) rfl g0)))

theorem execVbClearDone_keeps (s : State) : Runs 0 s (execVbClearDone s) := by
  unfold execVbClearDone
  exact (.next (.onlyIf (.refl _ _) fun _ g0 => (by
    lift_lets
    intro t1
    have h1 : Keeps 0 s t1 := (.via (State.put_keeps ..) rfl g0)
    exact (.onlyIf h1 fun _ g2 => (.via (vbServe_keeps ..) rfl g2)))))

theorem execVbLookup_keeps (v6 : Bool) (s : State) : Runs 65536 s (execVbLookup v6 s) := by
  unfold execVbLookup
  exact (.next (.hostDo rfl (.refl _ _) fun _ g0 => (.via (vbCommand_keeps ..) rfl g0)))

theorem execVbReadIndex_keeps (i : BitVec 22) (s : State) : Runs 65536 s (execVbReadIndex i s) := by
  unfold execVbReadIndex
  exact (.next (.hostDo rfl (.refl _ _) fun _ g0 => (.via (vbCommand_keeps ..) rfl g0)))

theorem vbSweep_keeps (at_ : Nat) (s : State) : Keeps 4096 s (vbSweep at_ s) := by
  unfold vbSweep
  lift_lets
  intro t0 t1 t2
  exact (.ans (fun w => by exact w.ans) rfl (.refl _ _))

theorem execVbSweep_keeps (at_ : Nat) (s : State) : Runs 4096 s (execVbSweep at_ s) := by
  unfold execVbSweep
  exact (.next (.onlyIf (.refl _ _) fun _ g0 => (.via (vbSweep_keeps ..) rfl g0)))

end Sys2Proof.Machine
end

