-- ==== Sys2Proof/Laws/KeepsAnswer.lean ====
section
/-! SUPPORT. What the operations of Answer.lean keep: the form of the state, the queue, and the parts outside their mask. -/

namespace Sys2Proof.Machine

theorem ansLoad_keeps (p : Nat) (s : State) : Keeps 4096 s (ansLoad p s) := by
  unfold ansLoad
  lift_lets
  intro t0 t1
  exact (.via (ansSet_keeps ..) rfl (.refl _ _))

theorem ansAbort_keeps (p : Nat) (s : State) : Keeps 268288 s (ansAbort p s) := by
  unfold ansAbort
  lift_lets
  intro t0 t1
  have h1 : Keeps 268288 s t1 := (.foldl _ (.refl _ _) fun _ _ g2 => (.via (pairDropped_keeps ..) rfl (.via (depCancel_keeps ..) rfl g2)))
  intro t3
  have h3 : Keeps 268288 s t3 := (.via (ansCount_keeps ..) rfl (.via (ansSet_keeps ..) rfl h1))
  intro t4
  have h4 : Keeps 268288 s t4 := (.via (State.revert_keeps ..) rfl h3)
  intro t5
  have h5 : Keeps 268288 s t5 := (.via (State.revert_keeps ..) rfl h4)
  exact (.via (ansLoad_keeps ..) rfl (.via (State.count_keeps ..) rfl (.via (State.put_keeps ..) rfl h5)))

theorem ansAddrCommit_keeps (p a1 : Nat) (v : Word) (s : State) : Keeps 4096 s (ansAddrCommit p a1 v s) := by
  unfold ansAddrCommit
  lift_lets
  intro t0
  have h0 : Keeps 4096 s t0 := (.via (State.putB_keeps ..) rfl (.via (State.putB_keeps ..) rfl (.refl _ _)))
  intro t1
  exact (.via (ansSet_keeps ..) rfl h0)

theorem ansEnter_keeps (p : Nat) (nts kod : Bool) (x : RxFrame) (f : Parsed) (s : State) :
    Keeps 266240 s (ansEnter p nts kod x f s) := by
  unfold ansEnter
  lift_lets
  intro t0 t1
  have h1 : Keeps 266240 s t1 := (.via (ansCount_keeps ..) rfl (.via (ansSet_keeps ..) rfl (.refl _ _)))
  exact (.ite (.via (pairDigest_keeps ..) rfl (.via (State.count_keeps ..) rfl (.refl _ _))) (.ite (.via (pairDigest_keeps ..) rfl (.via (State.count_keeps ..) rfl (.refl _ _))) (.onlyIf h1 fun _ g2 => (.via (ntsAssign_keeps ..) rfl g2))))

theorem ansAdmit_keeps (p : Nat) (nts noLimit : Bool) (x : RxFrame) (f : Parsed) (now : Int) (s : State) :
    Keeps 266240 s (ansAdmit p nts noLimit x f now s) := by
  unfold ansAdmit
  lift_lets
  intro t0
  have h0 : Keeps 266240 s t0.2 := (.via (vbUpdate_keeps ..) rfl (.refl _ _))
  exact (.ite (.via (ansEnter_keeps ..) rfl (.refl _ _)) (by
    split
    · exact (.via (ansEnter_keeps ..) rfl h0)
    · exact (.via (ansEnter_keeps ..) rfl h0)
    · exact (.via (pairDigest_keeps ..) rfl (.via (State.count_keeps ..) rfl h0))))

theorem ansBuilt_keeps (p id at_ : Nat) (s : State) : Keeps 1071104 s (ansBuilt p id at_ s) := by
  unfold ansBuilt
  exact (by
    split
    · lift_lets
      intro t0
      have h0 : Keeps 1071104 s t0 := (.ite (.via (State.count_keeps ..) rfl (.refl _ _)) (.ite (.refl _ _) (.via (State.count_keeps ..) rfl (.refl _ _))))
      intro t1
      have h1 : Keeps 1071104 s t1 := (.onlyIf h0 fun _ g2 => (.via (State.count_keeps ..) rfl g2))
      exact (.ite (.refl _ _) (.via (ansHandOver_keeps ..) rfl h1))
    · exact (.refl _ _))

theorem ansCfgWrite_keeps (p : Nat) (v : Word) (s : State) : Keeps 268288 s (ansCfgWrite p v s) := by
  unfold ansCfgWrite
  lift_lets
  intro t0 t1
  have h1 : Keeps 268288 s t1 := (.via (State.setReg_keeps ..) rfl (.refl _ _))
  exact (.onlyIf h1 fun _ g2 => (.via (ansAbort_keeps ..) rfl g2))

theorem ansToHost_keeps (p queue rule : Nat) (x : RxFrame) (s : State) : Keeps 524296 s (ansToHost p queue rule x s) := by
  unfold ansToHost
  lift_lets
  intro t0
  have h0 : Keeps 524296 s t0 := (.via (State.count_keeps ..) rfl (.refl _ _))
  intro t1
  exact (.ite (.via (hifDrop_keeps ..) rfl h0) (.via (hifPushOrDrop_keeps ..) rfl h0))

theorem ptpHandOver_keeps (n : Nat) (s : State) (r : PtpRx) : Keeps 16384 s (ptpHandOver n s r) := by
  unfold ptpHandOver
  exact (.foldl _ (.refl _ _) fun _ _ g0 => (.onlyIf g0 fun _ g1 => (.via (ptpSet_keeps ..) rfl g1)))

theorem ansPtp_keeps (p queue rule at_ : Nat) (x : RxFrame) (f : Parsed) (s : State) :
    Keeps 540680 s (ansPtp p queue rule at_ x f s) := by
  unfold ansPtp
  lift_lets
  intro t0
  have h0 : Keeps 540680 s t0 := (.via (State.count_keeps ..) rfl (.refl _ _))
  exact (by
    split
    · exact h0
    · lift_lets
      intro t1
      exact (.ite (.via (ansToHost_keeps ..) rfl h0) (.foldl _ h0 fun _ _ g2 => (.via (ptpHandOver_keeps ..) rfl g2))))

theorem ansRequest_keeps (p : Nat) (nts noLimit : Bool) (x : RxFrame) (f : Parsed) (now : Int) (s : State) :
    Keeps 266240 s (ansRequest p nts noLimit x f now s) := by
  unfold ansRequest
  lift_lets
  intro t0
  have f0 : ∀ x0 a, Keeps 266240 s a → Keeps 266240 s (t0 x0 a) := by
    intro _ a g1
    unfold t0
    exact (.via (pairDigest_keeps ..) rfl g1)
  exact (.ite (f0 _ _ (.via (State.count_keeps ..) rfl (.refl _ _))) (.ite (f0 _ _ (.via (State.count_keeps ..) rfl (.refl _ _))) (.ite (f0 _ _ (.via (State.count_keeps ..) rfl (.refl _ _))) (.ite (f0 _ _ (.via (ansFlag_keeps ..) rfl (.via (State.count_keeps ..) rfl (.refl _ _)))) (.ite (f0 _ _ (.via (ansFlag_keeps ..) rfl (.via (State.count_keeps ..) rfl (.refl _ _)))) (.via (ansAdmit_keeps ..) rfl (.refl _ _)))))))

theorem ansReserved_keeps (p rule : Nat) (s : State) : Keeps 4096 s (ansReserved p rule s) := by
  unfold ansReserved
  exact (.ite (.refl _ _) (.via (ansFlag_keeps ..) rfl (.via (ansSet_keeps ..) rfl (.refl _ _))))

theorem ansClassify_keeps (p : Nat) (x : RxFrame) (at_ : Nat) (s : State) : Keeps 806920 s (ansClassify p x at_ s) := by
  unfold ansClassify
  lift_lets
  intro t0 t1
  have h1 : Keeps 806920 s t1 := (.via (State.count_keeps ..) rfl (.refl _ _))
  intro t2 t3 t4 t5 t6 t7 t8
  have h8 : Keeps 806920 s t8 := by
    unfold t8
    exact (by
      clear_value t4
      split
      · exact (.via (State.count_keeps ..) rfl h1)
      · exact h1)
  exact (by
    clear_value t6
    split
    · exact (.via (State.count_keeps ..) rfl h8)
    · exact (.via (ansToHost_keeps ..) rfl h8)
    · exact (.via (ansPtp_keeps ..) rfl h8)
    · exact (.via (ansRequest_keeps ..) rfl h8)
    · exact (.via (ansRequest_keeps ..) rfl h8)
    · exact (.via (State.count_keeps ..) rfl (.via (ansReserved_keeps ..) rfl h8)))

theorem ansCommit_keeps (p : Nat) (s : State) : Keeps 4096 s (ansCommit p s) := by
  unfold ansCommit
  exact (.ite (.via (ansFlag_keeps ..) rfl (.refl _ _)) (.via (ansSet_keeps ..) rfl (.refl _ _)))

theorem ansPutRule_keeps (p r : Nat) (w : RuleWords) (s : State) : Keeps 0 s (ansPutRule p r w s) := by
  unfold ansPutRule
  exact (.via (State.setReg_keeps ..) rfl (.via (State.setReg_keeps ..) rfl (.via (State.setReg_keeps ..) rfl (.via (State.setReg_keeps ..) rfl (.refl _ _)))))

theorem ansPutShadow_keeps (p r : Nat) (ws : List RuleWords) (s : State) : Keeps 0 s (ansPutShadow p r ws s) := by
  induction ws generalizing r s with
  | nil => exact .refl _ _
  | cons w ws ih => exact .after rfl (ansPutRule_keeps ..) (ih _ _)

theorem ansCopied_keeps (p : Nat) (s : State) : Keeps 0 s (ansCopied p s) := by
  unfold ansCopied
  exact (.ite (.via (ansFlag_keeps ..) rfl (.via (State.put_keeps ..) rfl (.via (ansPutShadow_keeps ..) rfl (.refl _ _)))) (.refl _ _))

theorem ansReserve_keeps (p : Nat) (r : AnsReq) (td : Int) (g : BlockGrid) (s : State) :
    Keeps 268288 s (ansReserve p r td g s) := by
  unfold ansReserve
  lift_lets
  intro t0 t1 t2 t3 t4 t5
  exact (.via (pairDigest_keeps ..) rfl (.via (depReserve_keeps ..) rfl (.via (ansSetReq_keeps ..) rfl (.refl _ _))))

theorem ansReserveNext_keeps (p : Nat) (g : BlockGrid) (s : State) : Keeps 1333248 s (ansReserveNext p g s) := by
  unfold ansReserveNext
  exact (by
    split
    · exact (.refl _ _)
    · lift_lets
      intro t0
      exact (.ite (.ite (.via (ntsPoolLate_keeps ..) rfl (.refl _ _)) (.via (ntsNoUnit_keeps ..) rfl (.refl _ _))) (by
        split
        · exact (.via (pairDropped_keeps ..) rfl (.via (ansDrop_keeps ..) rfl (.via (ansFlag_keeps ..) rfl (.via (State.deadline_keeps ..) rfl (.via (State.count_keeps ..) rfl (.refl _ _))))))
        · exact (.ite (.via (ansReserve_keeps ..) rfl (.refl _ _)) (.via (pairDropped_keeps ..) rfl (.via (depRefuse_keeps ..) rfl (.via (ansDrop_keeps ..) rfl (.refl _ _))))))))

theorem ansRuleWrite_keeps (p ofs : Nat) (v : Word) (s : State) : Keeps 0 s (ansRuleWrite p ofs v s) := by
  unfold ansRuleWrite
  exact (.ite (.via (ansFlag_keeps ..) rfl (.refl _ _)) (.via (State.setReg_keeps ..) rfl (.refl _ _)))

theorem ansStepDrop_keeps (p : Nat) (s : State) : Keeps 0 s (ansStepDrop p s) := by
  unfold ansStepDrop
  exact (.via (ansFlag_keeps ..) rfl (.via (State.count_keeps ..) rfl (.refl _ _)))

theorem ansStep_keeps (p : Nat) (s : State) : Keeps 268288 s (ansStep p s) := by
  unfold ansStep
  lift_lets
  intro t0 t1 t2
  have h2 : Keeps 268288 s t2 := (.foldl _ (.refl _ _) fun _ _ g3 => (.via (pairDropped_keeps ..) rfl (.via (ansStepDrop_keeps ..) rfl (.via (ansDrop_keeps ..) rfl g3))))
  exact (.foldl _ h2 fun _ _ g4 => (.via (ansStepDrop_keeps ..) rfl (.via (depCancel_keeps ..) rfl g4)))

theorem ansSwap_keeps (p : Nat) (s : State) : Keeps 4096 s (ansSwap p s) := by
  unfold ansSwap
  lift_lets
  intro t0 t1 t2
  have h2 : Keeps 4096 s t2 := (.via (ansPutShadow_keeps ..) rfl (.via (ansSet_keeps ..) rfl (.refl _ _)))
  exact (.ite (.via (State.put_keeps ..) rfl (.via (State.put_keeps ..) rfl h2)) (.refl _ _))

theorem execAddressCommit_keeps (p : Fin 4) (a1 : Fin 16) (v : Word) (s : State) :
    Runs 69632 s (execAddressCommit p a1 v s) := by
  unfold execAddressCommit
  exact (.next (.hostDo rfl (.refl _ _) fun _ g0 => (.via (ansAddrCommit_keeps ..) rfl g0)))

theorem execAnswerBuilt_keeps (p : Fin 4) (id at_ : Nat) (s : State) : Runs 1071104 s (execAnswerBuilt p id at_ s) := by
  unfold execAnswerBuilt
  exact (.next (.via (ansBuilt_keeps ..) rfl (.refl _ _)))

theorem execBankCopyDone_keeps (p : Fin 4) (s : State) : Runs 0 s (execBankCopyDone p s) := by
  unfold execBankCopyDone
  exact (.next (.via (ansCopied_keeps ..) rfl (.refl _ _)))

theorem execBankSwap_keeps (p : Fin 4) (s : State) : Runs 4096 s (execBankSwap p s) := by
  unfold execBankSwap
  exact (.next (.via (ansSwap_keeps ..) rfl (.refl _ _)))

theorem frameRx_keeps (n : Nat) (bytes : List Byte) (at_ : Nat) (s : State) : Keeps 806920 s (frameRx n bytes at_ s) := by
  unfold frameRx
  exact (.ite (.refl _ _) (.cross rfl (.refl _ _) fun _ g0 => (by
    lift_lets
    intro t1
    exact (.ite (.via (State.count_keeps ..) rfl g0) (.onlyIf g0 fun _ g2 => (.via (ansClassify_keeps ..) rfl g2))))))

theorem execFrameRx_keeps (n : Fin 8) (bytes : List Byte) (at_ : Nat) (s : State) :
    Runs 806920 s (execFrameRx n bytes at_ s) := by
  unfold execFrameRx
  exact (.next (.via (frameRx_keeps ..) rfl (.refl _ _)))

theorem execPipelineDisable_keeps (p : Fin 4) (s : State) : Runs 333824 s (execPipelineDisable p s) := by
  unfold execPipelineDisable
  exact (.next (.hostDo rfl (.refl _ _) fun _ g0 => (.via (ansCfgWrite_keeps ..) rfl g0)))

theorem execReserve_keeps (p : Fin 4) (g : BlockGrid) (s : State) : Runs 1333248 s (execReserve p g s) := by
  unfold execReserve
  exact (.next (.via (ansReserveNext_keeps ..) rfl (.refl _ _)))

theorem execRuleCommit_keeps (p : Fin 4) (s : State) : Runs 69632 s (execRuleCommit p s) := by
  unfold execRuleCommit
  exact (.next (.hostDo rfl (.refl _ _) fun _ g0 => (.via (ansCommit_keeps ..) rfl g0)))

end Sys2Proof.Machine
end

