-- ==== Sys2Proof/Laws/KeepsBne.lean ====
section
/-! SUPPORT. What the operations of Bne.lean keep: the form of the state, the queue, and the parts outside their mask. -/

namespace Sys2Proof.Machine

theorem bneSetSlot_keeps (j : Nat) (f : BneSlot → BneSlot) (s : State) : Keeps 32768 s (bneSetSlot j f s) := by
  unfold bneSetSlot
  lift_lets
  intro t0
  exact (.bne (fun w => by exact (List.length_modify ..).trans w.bne) rfl (.refl _ _))

theorem bneRefresh_keeps (s : State) : Keeps 0 s (bneRefresh s) := by
  unfold bneRefresh
  exact (.via (State.putB_keeps ..) rfl (.via (State.put_keeps ..) rfl (.refl _ _)))

theorem bnePutBit_keeps (f : Fld) (c v : Nat) (s : State) : Keeps 0 s (bnePutBit f c v s) := by
  unfold bnePutBit
  exact (.via (State.put_keeps ..) rfl (.refl _ _))

theorem bneTestStart_keeps (s : State) (c : Nat) : Keeps 32768 s (bneTestStart s c) := by
  unfold bneTestStart
  lift_lets
  intro t0 t1 t2
  exact (.ite (.via (bnePutBit_keeps ..) rfl (.bne (fun w => by exact w.bne) rfl (.refl _ _))) (.refl _ _))

theorem bneTests_keeps (s : State) : Keeps 32768 s (bneTests s) := by
  unfold bneTests
  exact (.via (bneRefresh_keeps ..) rfl (.foldl _ (.refl _ _) fun _ _ g0 => (.via (bneTestStart_keeps ..) rfl g0)))

theorem bneFreeCore_keeps (c : Nat) (s : State) : Keeps 32768 s (bneFreeCore c s) := by
  unfold bneFreeCore
  exact (.via (bneTests_keeps ..) rfl (.via (bnePutBit_keeps ..) rfl (.refl _ _)))

theorem bneIdle_keeps (j : Nat) (s : State) : Keeps 32768 s (bneIdle j s) := by
  unfold bneIdle
  lift_lets
  intro t0 t1 t2 t3
  have h3 : Keeps 32768 s t3 := (.bne (fun w => by exact w.bne) rfl (.refl _ _))
  intro t4
  have h4 : Keeps 32768 s t4 := (.via (State.put_keeps ..) rfl (.via (State.put_keeps ..) rfl h3))
  exact (.onlyIf h4 fun _ g5 => (.via (bneFreeCore_keeps ..) rfl g5))

theorem bneAbort_keeps (j at_ : Nat) (s : State) : Keeps 32768 s (bneAbort j at_ s) := by
  unfold bneAbort
  lift_lets
  intro t0 t1 t2
  have h2 : Keeps 32768 s t2 := (.via (bneSetSlot_keeps ..) rfl (.refl _ _))
  exact (by
    split
    · exact (.via (State.put_keeps ..) rfl (.via (bneSetSlot_keeps ..) rfl (.refl _ _)))
    · exact (.refl _ _)
    · exact (.via (State.put_keeps ..) rfl (.via (bneIdle_keeps ..) rfl h2)))

theorem bneFlag_keeps (f : Fld) (s : State) : Keeps 0 s (bneFlag f s) := by
  unfold bneFlag
  exact (.via (State.setFlag_keeps ..) rfl (.refl _ _))

theorem bneCount_keeps (status : Nat) (s : State) : Keeps 0 s (bneCount status s) := by
  unfold bneCount
  exact (by
    split
    · exact (.via (State.count_keeps ..) rfl (.refl _ _))
    · exact (.via (State.count_keeps ..) rfl (.refl _ _))
    · exact (.via (State.count_keeps ..) rfl (.refl _ _))
    · exact (.via (State.count_keeps ..) rfl (.refl _ _))
    · exact (.via (State.count_keeps ..) rfl (.refl _ _))
    · exact (.via (State.count_keeps ..) rfl (.refl _ _))
    · exact (.via (bneFlag_keeps ..) rfl (.via (State.count_keeps ..) rfl (.refl _ _)))
    · exact (.via (bneFlag_keeps ..) rfl (.via (State.count_keeps ..) rfl (.refl _ _)))
    · exact (.via (bneFlag_keeps ..) rfl (.via (State.count_keeps ..) rfl (.refl _ _)))
    · exact (.via (State.count_keeps ..) rfl (.refl _ _))
    · exact (.via (State.count_keeps ..) rfl (.refl _ _)))

theorem bneComplete_keeps (desc : List Byte) (status : Nat) (record : List Byte) (s : State) :
    Keeps 524296 s (bneComplete desc status record s) := by
  unfold bneComplete
  lift_lets
  intro t0 t1
  have h1 : Keeps 524296 s t1 := (.via (bneCount_keeps ..) rfl (.via (hifComplete_keeps ..) rfl (.refl _ _)))
  intro t2
  have h2 : Keeps 524296 s t2 := (.onlyIf h1 fun _ g3 => (.via (State.put_keeps ..) rfl g3))
  exact (.onlyIf h2 fun _ g4 => (.via (State.raise_keeps ..) rfl g4))

theorem bneValidated_keeps (j : Nat) (s : State) : Keeps 557064 s (bneValidated j s) := by
  unfold bneValidated
  lift_lets
  intro t0 t1
  exact (.ite (by
    split
    · exact (.via (bneSetSlot_keeps ..) rfl (.refl _ _))
    · exact (.via (bneComplete_keeps ..) rfl (.via (bneIdle_keeps ..) rfl (.refl _ _)))) (.refl _ _))

theorem bneWrite_keeps (j ofs : Nat) (bs : List Byte) (s : State) : Keeps 4 s (bneWrite j ofs bs s) := by
  unfold bneWrite
  exact (.bar2 (fun w => memWrite_wf _ _ _ _ w.bar2) rfl (.refl _ _))

theorem bneCompleted_keeps (j : Nat) (s : State) : Keeps 557068 s (bneCompleted j s) := by
  unfold bneCompleted
  lift_lets
  intro t0 t1 t2 t3 t4
  have h4 : Keeps 557068 s t4 := (.onlyIf (.refl _ _) fun _ g5 => (.via (State.freeNext_keeps ..) rfl g5))
  intro t6
  have h6 : Keeps 557068 s t6 := (.onlyIf h4 fun _ g7 => (.via (bneWrite_keeps ..) rfl (.via (bneWrite_keeps ..) rfl g7)))
  exact (.ite (.via (bneComplete_keeps ..) rfl (.via (bneIdle_keeps ..) rfl h6)) (.refl _ _))

theorem bneCarry_keeps (j at_ : Nat) (s : State) : Keeps 557068 s (bneCarry j at_ s) := by
  unfold bneCarry
  lift_lets
  intro t0 t1
  have h1 : Keeps 557068 s t1 := (.onlyIf (.refl _ _) fun _ g2 => (.via (bneValidated_keeps ..) rfl g2))
  exact (.onlyIf h1 fun _ g3 => (.via (bneCompleted_keeps ..) rfl g3))

theorem bneStop_keeps (j at_ : Nat) (s : State) : Keeps 557068 s (bneStop j at_ s) := by
  unfold bneStop
  exact (.via (bneAbort_keeps ..) rfl (.via (bneCarry_keeps ..) rfl (.refl _ _)))

theorem bneEndRequest_keeps (s : State) : Keeps 32768 s (bneEndRequest s) := by
  unfold bneEndRequest
  lift_lets
  intro t0
  exact (by
    split
    · exact (.via (bneFreeCore_keeps ..) rfl (.bne (fun w => by exact w.bne) rfl (.refl _ _)))
    · exact (.refl _ _))

theorem bneWithdraw_keeps (f : BneRequest → Bool) (s : State) : Keeps 32768 s (bneWithdraw f s) := by
  unfold bneWithdraw
  lift_lets
  intro t0 t1
  have h1 : Keeps 32768 s t1 := (.bne (fun w => by exact w.bne) rfl (.refl _ _))
  exact (by
    split
    · exact (.ite (.via (bneEndRequest_keeps ..) rfl h1) h1)
    · exact h1)

theorem bneStart_keeps (s : State) : Keeps 32772 s (bneStart s) := by
  have h : Keeps 32772 s
      { s with bne := { BneState.reset with starting := 0xFFFF }, bar2 := memClear s.bar2 0 (16 * bneWindow) } :=
    .step (.refl _ _) (fun w => { w with bar2 := memClear_wf _ _ _ _ w.bar2, bne := BneState.reset_full }) rfl
      fun p hp => by cases p <;> first | exact absurd hp (by decide) | rfl
  exact (.via (bneRefresh_keeps ..) rfl (.via (State.put_keeps ..) rfl h))

theorem bneDispatch_keeps (c at_ : Nat) (s : State) : Keeps 32768 s (bneDispatch c at_ s) := by
  unfold bneDispatch
  cases s.bne.running with
  | none =>
    cases s.bne.waiting with
    | nil =>
      cases s.bne.queue with
      | nil => exact .refl _ _
      | cons j rest =>
        exact .via (State.put_keeps ..) rfl (.via (State.put_keeps ..) rfl (.via (bnePutBit_keeps ..) rfl
          (.via (bneSetSlot_keeps ..) rfl (.bne (fun w => by exact w.bne) rfl (.refl _ _)))))
    | cons r rest =>
      exact .via (bneRefresh_keeps ..) rfl (.via (State.count_keeps ..) rfl (.via (bnePutBit_keeps ..) rfl (.bne (fun w => by exact w.bne) rfl (.refl _ _))))
  | some x =>
    cases s.bne.queue with
    | nil => exact .refl _ _
    | cons j rest =>
      exact .via (State.put_keeps ..) rfl (.via (State.put_keeps ..) rfl (.via (bnePutBit_keeps ..) rfl
        (.via (bneSetSlot_keeps ..) rfl (.bne (fun w => by exact w.bne) rfl (.refl _ _)))))

theorem bneMemoryError_keeps (j at_ : Nat) (s : State) : Keeps 32768 s (bneMemoryError j at_ s) := by
  unfold bneMemoryError
  exact (.via (bneAbort_keeps ..) rfl (.refl _ _))

theorem bneNoCore_keeps (s : State) : Keeps 557064 s (bneNoCore s) := by
  unfold bneNoCore
  exact (.ite (.foldl _ (.refl _ _) fun _ _ g0 => (by
    lift_lets
    intro t1
    exact (.via (bneComplete_keeps ..) rfl (.via (bneIdle_keeps ..) rfl g0)))) (.refl _ _))

theorem bnePfailRecord_keeps (j at_ : Nat) (s : State) : Keeps 557064 s (bnePfailRecord j at_ s) := by
  unfold bnePfailRecord
  lift_lets
  intro t0 t1 t2
  have h2 : Keeps 557064 s t2 := (.via (State.put_keeps ..) rfl (.via (bneIdle_keeps ..) rfl (.refl _ _)))
  exact (.ite (.via (bneComplete_keeps ..) rfl h2) (.via (bneCount_keeps ..) rfl h2))

theorem bneZero_keeps (j : Nat) (s : State) : Keeps 4 s (bneZero j s) := by
  unfold bneZero
  exact (.bar2 (fun w => memClear_wf _ _ _ _ w.bar2) rfl (.refl _ _))

theorem bneZeroised_keeps (j : Nat) (s : State) : Keeps 557068 s (bneZeroised j s) := by
  unfold bneZeroised
  lift_lets
  intro t0 t1 t2
  have h2 : Keeps 557068 s t2 := (.via (State.put_keeps ..) rfl (.via (State.put_keeps ..) rfl (.via (bneZero_keeps ..) rfl (.refl _ _))))
  intro t3
  have h3 : Keeps 557068 s t3 := (.via (bneSetSlot_keeps ..) rfl h2)
  exact (by
    clear_value t0
    split
    · exact (.via (bneComplete_keeps ..) rfl h3)
    · exact (.via (State.count_keeps ..) rfl h3))

theorem bnePfail_keeps (at_ : Nat) (s : State) : Keeps 557068 s (bnePfail at_ s) := by
  unfold bnePfail
  lift_lets
  intro t0
  have h0 : Keeps 557068 s t0 := by
    unfold t0
    exact (.foldl _ (.refl _ _) fun _ _ g1 => (by
      split
      · exact (.via (bnePfailRecord_keeps ..) rfl g1)
      · exact (.via (bnePfailRecord_keeps ..) rfl g1)
      · exact (.via (bneZeroised_keeps ..) rfl g1)
      · exact (.via (State.put_keeps ..) rfl g1)))
  exact (.via (bneFlag_keeps ..) rfl (.bar2 (fun w => memClear_wf _ _ _ _ w.bar2) rfl h0))

theorem bneReady_keeps (s : State) : Keeps 0 s (bneReady s) := by
  unfold bneReady
  exact (.onlyIf (.via (State.put_keeps ..) rfl (.via (State.put_keeps ..) rfl (.refl _ _))) fun _ g0 => (.via (State.putB_keeps ..) rfl g0))

theorem bneStopCore_keeps (c at_ : Nat) (s : State) : Keeps 32768 s (bneStopCore c at_ s) := by
  unfold bneStopCore
  lift_lets
  intro t0 t1
  have h1 : Keeps 32768 s t1 := by
    unfold t1
    exact (by
      split
      · exact (.ite (.via (bnePutBit_keeps ..) rfl (.bne (fun w => by exact w.bne) rfl (.refl _ _))) (.refl _ _))
      · exact (.refl _ _))
  exact (by
    split
    · exact (.via (bneAbort_keeps ..) rfl h1)
    · exact h1)

theorem bneSelftest_keeps (c : Nat) (force : Bool) (at_ : Nat) (s : State) : Keeps 32768 s (bneSelftest c force at_ s) := by
  unfold bneSelftest
  lift_lets
  intro t0 t1
  have f1 : ∀ a, Keeps 32768 s a → Keeps 32768 s (t1 a) := by
    intro a g2
    unfold t1
    lift_lets
    intro t3
    exact (.via (bneTests_keeps ..) rfl (.bne (fun w => by exact w.bne) rfl g2))
  exact (.ite (.via (bneFlag_keeps ..) rfl (f1 _ (.via (bneStopCore_keeps ..) rfl (.refl _ _)))) (.ite (.via (bneFlag_keeps ..) rfl (.refl _ _)) (f1 _ (.refl _ _))))

theorem bneSubmit_keeps (r : BneRequest) (s : State) : Keeps 32768 s (bneSubmit r s) := by
  unfold bneSubmit
  lift_lets
  intro t0
  exact (.ite (.refl _ _) (.bne (fun w => by exact w.bne) rfl (.refl _ _)))

theorem bneTake_keeps (raw : List Byte) (s : State) : Keeps 557064 s (bneTake raw s) := by
  unfold bneTake
  lift_lets
  intro t0 t1
  have f1 : ∀ x0, Keeps 557064 s (t1 x0) := by
    intro _ 
    unfold t1
    exact (.via (bneComplete_keeps ..) rfl (.refl _ _))
  intro t2
  have h2 : Keeps 557064 s t2 := (.via (State.put_keeps ..) rfl (.via (State.put_keeps ..) rfl (.refl _ _)))
  intro t3
  have h3 : Keeps 557064 s t3 := (.via (bneSetSlot_keeps ..) rfl h2)
  intro t4
  exact (.ite (f1 _) (.ite (f1 _) (.ite (f1 _) (.via (bneNoCore_keeps ..) rfl (.bne (fun w => by exact w.bne) rfl h3)))))

theorem execBneSelftest_keeps (c : Fin 16) (force : Bool) (at_ : Nat) (s : State) :
    Runs 98304 s (execBneSelftest c force at_ s) := by
  unfold execBneSelftest
  exact (.next (.hostDo rfl (.refl _ _) fun _ g0 => (.via (bneSelftest_keeps ..) rfl g0)))

theorem execCoreSelftestDue_keeps (c : Fin 16) (s : State) : Runs 32768 s (execCoreSelftestDue c s) := by
  unfold execCoreSelftestDue
  lift_lets
  intro t0
  exact (.next (.ite (.via (bneTests_keeps ..) rfl (.bne (fun w => by exact w.bne) rfl (.refl _ _))) (.refl _ _)))

theorem execJobComplete_keeps (j : Fin 16) (s : State) : Runs 557068 s (execJobComplete j s) := by
  unfold execJobComplete
  exact (.next (.via (bneCompleted_keeps ..) rfl (.refl _ _)))

theorem execJobDescriptor_keeps (s : State) : Runs 557064 s (execJobDescriptor s) := by
  unfold execJobDescriptor
  exact (.next (by
    split
    · exact (.via (bneTake_keeps ..) rfl (.via (hifConsume_keeps ..) rfl (.refl _ _)))
    · exact (.refl _ _)))

theorem execJobDispatch_keeps (at_ : Nat) (s : State) : Runs 557064 s (execJobDispatch at_ s) := by
  unfold execJobDispatch
  exact (.next (.ite (by
    split
    · exact (.via (bneDispatch_keeps ..) rfl (.refl _ _))
    · exact (.via (bneNoCore_keeps ..) rfl (.refl _ _))) (.refl _ _)))

theorem execJobValidation_keeps (j : Fin 16) (s : State) : Runs 557064 s (execJobValidation j s) := by
  unfold execJobValidation
  exact (.next (.via (bneValidated_keeps ..) rfl (.refl _ _)))

theorem execSelftestPassDone_keeps (c : Fin 16) (ok : Bool) (s : State) : Runs 557064 s (execSelftestPassDone c ok s) := by
  unfold execSelftestPassDone
  lift_lets
  intro t0 t1 t2
  have h2 : Keeps 557064 s t2 := (.via (bnePutBit_keeps ..) rfl (.bne (fun w => by exact w.bne) rfl (.refl _ _)))
  intro t3
  have h3 : Keeps 557064 s t3 := (.onlyIf (.via (State.count_keeps ..) rfl h2) fun _ g4 => (.via (bneFlag_keeps ..) rfl (.via (State.count_keeps ..) rfl (.via (bnePutBit_keeps ..) rfl g4))))
  intro t5
  have h5 : Keeps 557064 s t5 := (.onlyIf h3 fun _ g6 => (.via (bneReady_keeps ..) rfl g6))
  exact (.next (.ite (.via (bneNoCore_keeps ..) rfl (.via (bneTests_keeps ..) rfl h5)) (.refl _ _)))

theorem execSlotAbort_keeps (j : Fin 16) (at_ : Nat) (s : State) : Runs 622604 s (execSlotAbort j at_ s) := by
  unfold execSlotAbort
  exact (.next (.hostDo rfl (.refl _ _) fun _ g0 => (.via (bneStop_keeps ..) rfl g0)))

theorem execZeroiseDone_keeps (j : Fin 16) (s : State) : Runs 557068 s (execZeroiseDone j s) := by
  unfold execZeroiseDone
  exact (.next (.ite (.via (bneZeroised_keeps ..) rfl (.refl _ _)) (.refl _ _)))

end Sys2Proof.Machine
end

