-- ==== Sys2Proof/Laws/KeepsLoops.lean ====
section
/-! SUPPORT. What the operations of Loops.lean keep: the form of the state, the queue, and the parts outside their mask. -/

namespace Sys2Proof.Machine

theorem loopSet_keeps (k : Nat) (f : LoopState → LoopState) (s : State) : Keeps 128 s (loopSet k f s) := by
  unfold loopSet
  exact (.loops (fun w => (List.length_modify ..).trans w.loops) rfl (.refl _ _))

theorem loopAdvance_keeps (k : Nat) (t : Int) (s : State) : Keeps 128 s (loopAdvance k t s) := by
  unfold loopAdvance
  lift_lets
  intro t0
  exact (.via (loopSet_keeps ..) rfl (.refl _ _))

theorem loopPutS_keeps (k ofs : Nat) (x : Int) (s : State) : Keeps 0 s (loopPutS k ofs x s) := by
  unfold loopPutS
  exact (.via (State.putSat_keeps ..) rfl (.refl _ _))

theorem loopPutR_keeps (k : Nat) (r : Int) (s : State) : Keeps 128 s (loopPutR k r s) := by
  unfold loopPutR
  exact (.via (State.putB_keeps ..) rfl (.via (loopPutS_keeps ..) rfl (.via (loopSet_keeps ..) rfl (.refl _ _))))

theorem loopRefresh_keeps (s : State) : Keeps 0 s (loopRefresh s) := by
  unfold loopRefresh
  lift_lets
  intro t0 t1 t2
  have h2 : Keeps 0 s t2 := (.via (State.putB_keeps ..) rfl (.via (State.putB_keeps ..) rfl (.refl _ _)))
  exact (.via (tbRefresh_keeps ..) rfl (.via (State.putB_keeps ..) rfl (.via (State.put_keeps ..) rfl h2)))

theorem loopPublish_keeps (k : Nat) (s : State) : Keeps 0 s (loopPublish k s) := by
  unfold loopPublish
  lift_lets
  intro t0
  exact (.onlyIf (.refl _ _) fun _ g1 => (.via (State.put_keeps ..) rfl g1))

theorem loopRecommit_keeps (k : Nat) (s : State) : Keeps 0 s (loopRecommit k s) := by
  unfold loopRecommit
  exact (by
    split
    · exact (.ite (.via (rgsSwitch_keeps ..) rfl (.via (State.put_keeps ..) rfl (.refl _ _))) (.refl _ _))
    · exact (.refl _ _))

theorem loopEnter_keeps (k st : Nat) (s : State) : Keeps 0 s (loopEnter k st s) := by
  unfold loopEnter
  exact (.via (State.put_keeps ..) rfl (.refl _ _))

theorem loopInstReset_keeps (k : Nat) (s : State) : Keeps 128 s (loopInstReset k s) := by
  unfold loopInstReset
  lift_lets
  intro t0
  have h0 : Keeps 128 s t0 := (.via (loopPutR_keeps ..) rfl (.via (loopSet_keeps ..) rfl (.refl _ _)))
  intro t1
  have h1 : Keeps 128 s t1 := (.via (State.put_keeps ..) rfl h0)
  exact (.via (loopRefresh_keeps ..) rfl (.via (loopPublish_keeps ..) rfl (.ite (.via (loopRecommit_keeps ..) rfl (.via (loopEnter_keeps ..) rfl h1)) (.via (loopEnter_keeps ..) rfl h1))))

theorem loopNumFF_keeps (k : Nat) (old v : Int) (at_ : Nat) (s : State) : Keeps 128 s (loopNumFF k old v at_ s) := by
  unfold loopNumFF
  exact (.via (loopSet_keeps ..) rfl (.refl _ _))

theorem loopNumPh_keeps (k : Nat) (v : Int) (at_ : Nat) (s : State) : Keeps 128 s (loopNumPh k v at_ s) := by
  unfold loopNumPh
  exact (.ite (.via (loopSet_keeps ..) rfl (.refl _ _)) (.refl _ _))

theorem execEvaluationCycle_keeps (s : State) : Runs 208 s (execEvaluationCycle s) := by
  unfold execEvaluationCycle
  exact (.next (.ite (.foldl _ (.via (rgsEvaluate_keeps ..) rfl (.refl _ _)) fun _ _ g0 => (.via (loopPublish_keeps ..) rfl g0)) (.refl _ _)))

theorem loopFlag_keeps (k : Nat) (f : Fld) (s : State) : Keeps 0 s (loopFlag k f s) := by
  unfold loopFlag
  exact (.via (State.setFlag_keeps ..) rfl (.refl _ _))

theorem loopAuthWrite_keeps (k : Nat) (w : Word) (at_ : Nat) (s : State) : Keeps 128 s (loopAuthWrite k w at_ s) := by
  unfold loopAuthWrite
  exact (.ite (.via (loopSet_keeps ..) rfl (.refl _ _)) (.via (loopFlag_keeps ..) rfl (.refl _ _)))

theorem execLoopAlign_keeps (k : Fin 24) (seq : BitVec 16) (at_ : Nat) (s : State) :
    Runs 65664 s (execLoopAlign k seq at_ s) := by
  unfold execLoopAlign
  exact (.next (.hostDo rfl (.refl _ _) fun _ g0 => (.via (loopAuthWrite_keeps ..) rfl g0)))

theorem execLoopAuth_keeps (k : Fin 24) (seq : BitVec 16) (at_ : Nat) (s : State) : Runs 65664 s (execLoopAuth k seq at_ s) := by
  unfold execLoopAuth
  exact (.next (.hostDo rfl (.refl _ _) fun _ g0 => (.via (loopAuthWrite_keeps ..) rfl g0)))

theorem execLoopDeadlineMiss_keeps (k : Fin 24) (at_ : Nat) (s : State) : Runs 1048576 s (execLoopDeadlineMiss k at_ s) := by
  unfold execLoopDeadlineMiss
  exact (.next (.via (State.deadline_keeps ..) rfl (.via (loopFlag_keeps ..) rfl (.refl _ _))))

theorem loopEnable_keeps (k : Nat) (en : Bool) (s : State) : Keeps 128 s (loopEnable k en s) := by
  unfold loopEnable
  lift_lets
  intro t0
  have h0 : Keeps 128 s t0 := (.via (State.putB_keeps ..) rfl (.refl _ _))
  intro t1
  have h1 : Keeps 128 s t1 := (.ite (.via (loopEnter_keeps ..) rfl h0) (.ite (.via (loopRecommit_keeps ..) rfl (.via (State.put_keeps ..) rfl (.via (loopEnter_keeps ..) rfl (.via (loopSet_keeps ..) rfl h0)))) h0))
  exact (.via (loopRefresh_keeps ..) rfl (.via (loopPublish_keeps ..) rfl h1))

theorem execLoopEnable_keeps (k : Fin 24) (en : Bool) (s : State) : Runs 65664 s (execLoopEnable k en s) := by
  unfold execLoopEnable
  exact (.next (.hostDo rfl (.refl _ _) fun _ g0 => (.via (loopEnable_keeps ..) rfl g0)))

theorem loopHoldover_keeps (k : Nat) (t : Int) (s : State) : Keeps 128 s (loopHoldover k t s) := by
  unfold loopHoldover
  lift_lets
  intro t0 t1 t2 t3 t4 t5
  have h5 : Keeps 128 s t5 := (.via (loopPutS_keeps ..) rfl (.via (loopPutS_keeps ..) rfl (.refl _ _)))
  intro t6
  have h6 : Keeps 128 s t6 := (.via (State.count_keeps ..) rfl (.via (State.putB_keeps ..) rfl h5))
  intro t7
  have h7 : Keeps 128 s t7 := (.via (loopSet_keeps ..) rfl h6)
  exact (.via (loopFlag_keeps ..) rfl (.via (State.put_keeps ..) rfl (.via (loopEnter_keeps ..) rfl h7)))

theorem loopHoldEnds_keeps (k : Nat) (s : State) : Keeps 128 s (loopHoldEnds k s) := by
  unfold loopHoldEnds
  exact (.ite (.via (loopEnter_keeps ..) rfl (.via (loopSet_keeps ..) rfl (.refl _ _))) (.refl _ _))

theorem loopEvents_keeps (k : Nat) (t : Int) (s : State) : Keeps 128 s (loopEvents k t s) := by
  unfold loopEvents
  lift_lets
  intro t0 t1 t2 t3
  have h3 : Keeps 128 s t3 := (.via (loopSet_keeps ..) rfl (.refl _ _))
  exact (.ite (.via (loopHoldover_keeps ..) rfl h3) (.via (loopHoldEnds_keeps ..) rfl (.ite (.via (loopEnter_keeps ..) rfl (.via (loopPublish_keeps ..) rfl h3)) h3)))

theorem rgsCommit_keeps (k n : Nat) (step : Int) (s : State) : Keeps 16 s (rgsCommit k n step s) := by
  unfold rgsCommit
  lift_lets
  intro t0
  have h0 : Keeps 16 s t0 := (.via (State.put_keeps ..) rfl (.via (State.put_keeps ..) rfl (.via (State.put_keeps ..) rfl (.refl _ _))))
  intro t1
  have h1 : Keeps 16 s t1 := (.via (State.put_keeps ..) rfl (.via (State.put_keeps ..) rfl h0))
  exact (.via (rgsRefresh_keeps ..) rfl (.via (State.setFlag_keeps ..) rfl (.via (State.count_keeps ..) rfl (.via (State.putS_keeps ..) rfl h1))))

theorem loopSteer_keeps (k : Nat) (v : Int) (s : State) : Keeps 0 s (loopSteer k v s) := by
  unfold loopSteer
  exact (.via (loopPutS_keeps ..) rfl (.refl _ _))

theorem loopDeliver_keeps (k : Nat) (x y : Int) (s : State) : Keeps 272 s (loopDeliver k x y s) := by
  unfold loopDeliver
  lift_lets
  intro t0
  have h0 : Keeps 272 s t0 := (.via (loopSteer_keeps ..) rfl (.refl _ _))
  intro t1
  exact (.ite (.ens (fun w => by exact w.ens) rfl h0) (.ite (.via (tbOwnerUpdate_keeps ..) rfl h0) h0))

theorem loopFreeze_keeps (k : Nat) (s : State) : Keeps 0 s (loopFreeze k s) := by
  unfold loopFreeze
  exact (.ite (.refl _ _) (.via (loopSteer_keeps ..) rfl (.refl _ _)))

theorem loopPend_keeps (k : Nat) (s : State) : Keeps 128 s (loopPend k s) := by
  unfold loopPend
  exact (.via (loopFreeze_keeps ..) rfl (.via (loopEnter_keeps ..) rfl (.via (loopSet_keeps ..) rfl (.via (loopPublish_keeps ..) rfl (.refl _ _)))))

theorem loopAlign_keeps (k : Nat) (x : Int) (s : State) : Keeps 128 s (loopAlign k x s) := by
  unfold loopAlign
  exact (.via (State.put_keeps ..) rfl (.via (loopPutR_keeps ..) rfl (.via (loopSet_keeps ..) rfl (.refl _ _))))

theorem loopPendOffset_keeps (k : Nat) (e : Int) (s : State) : Keeps 0 s (loopPendOffset k e s) := by
  unfold loopPendOffset
  exact (.via (State.put_keeps ..) rfl (.via (State.countWrap_keeps ..) rfl (.via (loopPutS_keeps ..) rfl (.refl _ _))))

theorem loopRefuse_keeps (k : Nat) (e : Int) (s : State) : Keeps 128 s (loopRefuse k e s) := by
  unfold loopRefuse
  exact (.via (loopPend_keeps ..) rfl (.via (State.raise_keeps ..) rfl (.via (loopPendOffset_keeps ..) rfl (.refl _ _))))

theorem loopCommitWork_keeps (k n : Nat) (x : Int) (s : State) : Keeps 400 s (loopCommitWork k n x s) := by
  unfold loopCommitWork
  lift_lets
  intro t0 t1 t2 t3
  have h3 : Keeps 400 s t3 := (.via (loopDeliver_keeps ..) rfl (.via (loopPutS_keeps ..) rfl (.via (State.putS_keeps ..) rfl (.refl _ _))))
  intro t4
  have h4 : Keeps 400 s t4 := (.via (loopPutS_keeps ..) rfl (.refl _ _))
  intro t5
  exact (.ite (.refl _ _) (.ite (.onlyIf h3 fun _ g6 => (.via (loopPend_keeps ..) rfl g6)) (.ite (.via (loopAlign_keeps ..) rfl h4) (.ite (.via (loopRefuse_keeps ..) rfl h4) (.via (loopPutR_keeps ..) rfl h4)))))

theorem loopCommit_keeps (k : Nat) (meas : Option Int) (s : State) : Keeps 400 s (loopCommit k meas s) := by
  unfold loopCommit
  lift_lets
  intro t0 t1 t2
  have h2 : Keeps 400 s t2 := (.via (rgsCommit_keeps ..) rfl (.refl _ _))
  intro t3
  have h3 : Keeps 400 s t3 := (.via (loopSet_keeps ..) rfl h2)
  intro t4
  have h4 : Keeps 400 s t4 := (.onlyIf h3 fun _ g5 => (.via (loopFlag_keeps ..) rfl g5))
  exact (.via (loopCommitWork_keeps ..) rfl (.via (loopEnter_keeps ..) rfl h4))

theorem loopResolved_keeps (k : Nat) (s : State) : Keeps 128 s (loopResolved k s) := by
  unfold loopResolved
  exact (.via (loopEnter_keeps ..) rfl (.via (loopSet_keeps ..) rfl (.refl _ _)))

theorem loopAct_keeps (k : Nat) (w : Word) (x : Option Int) (s : State) : Keeps 128 s (loopAct k w x s) := by
  unfold loopAct
  lift_lets
  intro t0
  exact (.ite (.via (loopFlag_keeps ..) rfl (.via (loopResolved_keeps ..) rfl (.via (loopPutR_keeps ..) rfl (.refl _ _)))) (.ite (.via (loopFlag_keeps ..) rfl (.via (loopResolved_keeps ..) rfl (.via (loopAlign_keeps ..) rfl (.refl _ _)))) (.via (loopResolved_keeps ..) rfl (.refl _ _))))

theorem loopResolve_keeps (k piv : Nat) (x : Option Int) (s : State) : Keeps 128 s (loopResolve k piv x s) := by
  unfold loopResolve
  lift_lets
  intro t0 t1 t2
  have h2 : Keeps 128 s t2 := (.via (loopSet_keeps ..) rfl (.refl _ _))
  intro t3
  have h3 : Keeps 128 s t3 := (.via (loopSet_keeps ..) rfl (.refl _ _))
  exact (.ite (.ite (.ite (.via (loopResolved_keeps ..) rfl h2) h2) (.refl _ _)) (by
    split
    · exact (.ite (.ite (.via (loopAct_keeps ..) rfl h3) (.via (loopFlag_keeps ..) rfl h3)) (.refl _ _))
    · exact (.refl _ _)))

theorem loopTakeNum_keeps (k piv : Nat) (s : State) : Keeps 128 s (loopTakeNum k piv s).2 := by
  unfold loopTakeNum
  lift_lets
  intro t0 t1 t2 t3
  exact (.onlyIf (.via (loopSet_keeps ..) rfl (.refl _ _)) fun _ g4 => (.via (loopFlag_keeps ..) rfl g4))

theorem loopTook_keeps (k : Nat) (x : Option Int) (s : State) : Keeps 128 s (loopTook k x s) := by
  unfold loopTook
  exact (by
    split
    · exact (.via (loopSet_keeps ..) rfl (.refl _ _))
    · exact (.refl _ _))

theorem loopPostU_keeps (k : Nat) (s : State) : Keeps 128 s (loopPostU k s) := by
  unfold loopPostU
  lift_lets
  intro t0
  exact (.via (loopPutS_keeps ..) rfl (.via (loopSet_keeps ..) rfl (.refl _ _)))

theorem loopLock_keeps (k : Nat) (e : Int) (r0 : Bool) (s : State) : Keeps 128 s (loopLock k e r0 s) := by
  unfold loopLock
  lift_lets
  intro t0 t1 t2 t3
  have h3 : Keeps 128 s t3 := (.via (loopSet_keeps ..) rfl (.refl _ _))
  intro t4 t5
  have h5 : Keeps 128 s t5 := (.via (loopSet_keeps ..) rfl (.refl _ _))
  exact (.ite (.ite (.via (loopFlag_keeps ..) rfl (.via (loopEnter_keeps ..) rfl h3)) h3) (.ite (.via (loopFlag_keeps ..) rfl (.via (State.count_keeps ..) rfl (.via (loopEnter_keeps ..) rfl (.via (loopSet_keeps ..) rfl h5)))) h5))

theorem loopKeepE_keeps (k : Nat) (e : Int) (s : State) : Keeps 128 s (loopKeepE k e s) := by
  unfold loopKeepE
  exact (.via (loopSet_keeps ..) rfl (.refl _ _))

theorem loopPostE_keeps (k : Nat) (e : Int) (s : State) : Keeps 0 s (loopPostE k e s) := by
  unfold loopPostE
  exact (.via (loopPutS_keeps ..) rfl (.refl _ _))

theorem loopPutI_keeps (k : Nat) (i : Int) (s : State) : Keeps 0 s (loopPutI k i s) := by
  unfold loopPutI
  lift_lets
  intro t0 t1
  exact (.via (State.putS_keeps ..) rfl (.onlyIf (.refl _ _) fun _ g2 => (.via (loopFlag_keeps ..) rfl g2)))

theorem loopSlew_keeps (k : Nat) (s : State) : Keeps 128 s (loopSlew k s).2 := by
  unfold loopSlew
  lift_lets
  intro t0 t1 t2 t3
  exact (by
    split
    · exact (.via (loopPutR_keeps ..) rfl (.refl _ _))
    · exact (.via (loopPutR_keeps ..) rfl (.refl _ _)))

theorem loopCoast_keeps (k : Nat) (base : Int) (s : State) : Keeps 128 s (loopCoast k base s) := by
  unfold loopCoast
  lift_lets
  intro t0
  have h0 : Keeps 128 s t0.2 := (.via (loopSlew_keeps ..) rfl (.refl _ _))
  exact (.ite (.refl _ _) (.via (loopSteer_keeps ..) rfl h0))

theorem loopFilter_keeps (k : Nat) (x : Int) (s : State) : Keeps 400 s (loopFilter k x s) := by
  unfold loopFilter
  lift_lets
  intro t0 t1 t2 t3
  have h3 : Keeps 400 s t3 := (.via (loopPostE_keeps ..) rfl (.onlyIf (.refl _ _) fun _ g4 => (.via (loopFlag_keeps ..) rfl g4)))
  intro t5 t6 t7
  have h7 : Keeps 400 s t7 := (.via (loopPutI_keeps ..) rfl h3)
  intro t8 t9
  have h9 : Keeps 400 s t9 := (.ite (.via (loopDeliver_keeps ..) rfl h7) (.via (loopCoast_keeps ..) rfl h7))
  exact (.ite (.ite (.via (loopPend_keeps ..) rfl (.via (loopDeliver_keeps ..) rfl h3)) (.via (loopRefuse_keeps ..) rfl h3)) (.via (loopPostU_keeps ..) rfl (.via (loopLock_keeps ..) rfl (.via (loopKeepE_keeps ..) rfl h9))))

theorem loopTrack_keeps (k : Nat) (x : Int) (s : State) : Keeps 400 s (loopTrack k x s) := by
  unfold loopTrack
  lift_lets
  intro t0
  exact (.ite (.via (loopPostU_keeps ..) rfl (.via (loopLock_keeps ..) rfl (.via (loopKeepE_keeps ..) rfl (.via (loopPostE_keeps ..) rfl (.refl _ _))))) (.via (loopFilter_keeps ..) rfl (.refl _ _)))

theorem loopBin_keeps (k : Nat) (t : Int) (s : State) : Keeps 128 s (loopBin k t s) := by
  unfold loopBin
  lift_lets
  intro t0 t1
  exact (.via (loopSet_keeps ..) rfl (.refl _ _))

theorem loopTrackBin_keeps (k : Nat) (t x : Int) (s : State) : Keeps 400 s (loopTrackBin k t x s) := by
  unfold loopTrackBin
  lift_lets
  intro t0
  have h0 : Keeps 400 s t0 := (.via (loopTrack_keeps ..) rfl (.refl _ _))
  exact (.onlyIf h0 fun _ g1 => (.via (loopBin_keeps ..) rfl g1))

theorem loopHoEpoch_keeps (k : Nat) (t : Int) (s : State) : Keeps 0 s (loopHoEpoch k t s) := by
  unfold loopHoEpoch
  lift_lets
  intro t0 t1 t2 t3
  have h3 : Keeps 0 s t3 := (.via (loopPutS_keeps ..) rfl (.via (State.put_keeps ..) rfl (.refl _ _)))
  intro t4
  exact (.onlyIf h3 fun _ g5 => (.via (State.setEvent_keeps ..) rfl (.via (State.put_keeps ..) rfl g5)))

theorem loopWork_keeps (k : Nat) (t : Int) (x : Option Int) (s : State) : Keeps 400 s (loopWork k t x s) := by
  unfold loopWork
  lift_lets
  intro t0 t1 t2
  have h2 : Keeps 400 s t2 := (.via (loopHoEpoch_keeps ..) rfl (.refl _ _))
  exact (by
    split
    · exact (.via (loopTrackBin_keeps ..) rfl (.refl _ _))
    · exact (.via (loopTrackBin_keeps ..) rfl (.refl _ _))
    · exact (.via (loopTrackBin_keeps ..) rfl (.via (loopEnter_keeps ..) rfl (.refl _ _)))
    · exact (.ite (.refl _ _) (.via (loopCoast_keeps ..) rfl (.refl _ _)))
    · exact (.ite h2 (.via (loopCoast_keeps ..) rfl h2))
    · lift_lets
      intro t3
      have h3 : Keeps 400 s t3 := (.via (loopPutS_keeps ..) rfl (.refl _ _))
      exact (.ite h3 (.via (loopFreeze_keeps ..) rfl h3))
    · exact (.ite (.refl _ _) (.via (loopFreeze_keeps ..) rfl (.refl _ _)))
    · lift_lets
      intro t4 t5
      have h5 : Keeps 400 s t5 := (.via (loopPutS_keeps ..) rfl (.refl _ _))
      exact (.ite h5 (.via (loopFreeze_keeps ..) rfl (.onlyIf h5 fun _ g6 => (.via (loopPendOffset_keeps ..) rfl g6))))
    · exact (.ite (.refl _ _) (.via (loopFreeze_keeps ..) rfl (.refl _ _)))
    · exact (.refl _ _)
    · exact (.refl _ _)
    · lift_lets
      intro t7
      have h7 : Keeps 400 s t7 := (.via (loopEnter_keeps ..) rfl (.via (loopSet_keeps ..) rfl (.via (loopPublish_keeps ..) rfl (.refl _ _))))
      exact (.ite h7 (.via (loopCoast_keeps ..) rfl h7))
    · exact (.refl _ _))

theorem loopNumeric_keeps (k : Nat) (ff : Int) (ph : Option Int) (s : State) : Keeps 400 s (loopNumeric k ff ph s) := by
  unfold loopNumeric
  lift_lets
  intro t0
  have h0 : Keeps 400 s t0 := (.via (loopPutI_keeps ..) rfl (.refl _ _))
  intro t1
  exact (.ite (.refl _ _) (.ite (.via (loopDeliver_keeps ..) rfl h0) (.via (loopCoast_keeps ..) rfl (.via (loopPutR_keeps ..) rfl h0))))

theorem loopEpoch_keeps (k : Nat) (meas : Option Int) (at_ : Nat) (s : State) : Keeps 400 s (loopEpoch k meas at_ s) := by
  unfold loopEpoch
  lift_lets
  intro t0 t1 t2
  have h2 : Keeps 400 s t2 := (.via (loopEvents_keeps ..) rfl (.via (loopAdvance_keeps ..) rfl (.refl _ _)))
  intro t3 t4
  have h4 : Keeps 400 s t4 := (.onlyIf h2 fun _ g5 => (.via (loopCommit_keeps ..) rfl g5))
  intro t6 t7
  have h7 : Keeps 400 s t7 := (.onlyIf h4 fun _ g8 => (.via (loopSet_keeps ..) rfl g8))
  intro t9
  have h9 : Keeps 400 s t9 := (.via (loopResolve_keeps ..) rfl h7)
  intro t10
  have h10 : Keeps 400 s t10.2 := (.via (loopTakeNum_keeps ..) rfl h9)
  intro t11
  have h11 : Keeps 400 s t11 := (.via (loopTook_keeps ..) rfl h10)
  intro t12
  have h12 : Keeps 400 s t12 := (.ite (.onlyIf h11 fun _ g13 => (.via (loopPostU_keeps ..) rfl g13)) (.via (loopWork_keeps ..) rfl h11))
  intro t14
  have h14 : Keeps 400 s t14 := (.ite (.via (loopNumeric_keeps ..) rfl h12) h12)
  exact (.ite (.refl _ _) (.via (loopRefresh_keeps ..) rfl (.via (loopPublish_keeps ..) rfl h14)))

theorem execLoopReject_keeps (k : Fin 24) (seq : BitVec 16) (at_ : Nat) (s : State) :
    Runs 65664 s (execLoopReject k seq at_ s) := by
  unfold execLoopReject
  exact (.next (.hostDo rfl (.refl _ _) fun _ g0 => (.via (loopAuthWrite_keeps ..) rfl g0)))

theorem execNumPhWrite_keeps (k : Fin 24) (v : BitVec 64) (at_ : Nat) (s : State) : Runs 65664 s (execNumPhWrite k v at_ s) := by
  unfold execNumPhWrite
  exact (.next (.hostDo rfl (.refl _ _) fun _ g0 => (.via (loopNumPh_keeps ..) rfl g0)))

theorem loopOpen_keeps (k : Nat) (open_ : Bool) (s : State) : Keeps 128 s (loopOpen k open_ s) := by
  unfold loopOpen
  lift_lets
  intro t0 t1
  have h1 : Keeps 128 s t1 := (.via (State.putB_keeps ..) rfl (.refl _ _))
  intro t2
  exact (.ite (.via (loopSet_keeps ..) rfl (.via (State.putS_keeps ..) rfl h1)) (.ite (.via (State.putS_keeps ..) rfl h1) h1))

theorem execOpenChange_keeps (k : Fin 24) (open_ : Bool) (s : State) : Runs 65664 s (execOpenChange k open_ s) := by
  unfold execOpenChange
  exact (.next (.hostDo rfl (.refl _ _) fun _ g0 => (.via (loopOpen_keeps ..) rfl g0)))

theorem loopStep_keeps (move : Int) (s : State) : Keeps 128 s (loopStep move s) := by
  unfold loopStep
  exact (.loops (fun w => (List.length_map ..).trans w.loops) rfl (.refl _ _))

end Sys2Proof.Machine
end

