-- ==== Sys2Proof/Laws/KeepsEnsemble.lean ====
section
/-! SUPPORT. What the operations of Ensemble.lean keep: the form of the state, the queue, and the parts outside their mask. -/

namespace Sys2Proof.Machine

theorem ensSet_keeps (i : Nat) (f : EnsMember → EnsMember) (s : State) : Keeps 256 s (ensSet i f s) := by
  unfold ensSet
  lift_lets
  intro t0
  exact (.ens (fun w => by exact (List.length_modify ..).trans w.ens) rfl (.refl _ _))

theorem ensRefresh_keeps (s : State) : Keeps 0 s (ensRefresh s) := by
  unfold ensRefresh
  exact (.via (State.put_keeps ..) rfl (.refl _ _))

theorem ensTrial_keeps (i : Nat) (s : State) : Keeps 256 s (ensTrial i s) := by
  unfold ensTrial
  lift_lets
  intro t0
  have h0 : Keeps 256 s t0 := (.via (State.put_keeps ..) rfl (.via (State.put_keeps ..) rfl (.via (State.put_keeps ..) rfl (.refl _ _))))
  exact (.via (ensRefresh_keeps ..) rfl (.via (ensSet_keeps ..) rfl (.via (State.setReg_keeps ..) rfl h0)))

theorem ensOff_keeps (i : Nat) (s : State) : Keeps 0 s (ensOff i s) := by
  unfold ensOff
  exact (.via (ensRefresh_keeps ..) rfl (.via (State.setReg_keeps ..) rfl (.via (State.put_keeps ..) rfl (.refl _ _))))

theorem ensInstReset_keeps (i : Nat) (s : State) : Keeps 256 s (ensInstReset i s) := by
  unfold ensInstReset
  lift_lets
  intro t0
  have h0 : Keeps 256 s t0 := (.via (ensSet_keeps ..) rfl (.refl _ _))
  exact (.ite (.via (ensTrial_keeps ..) rfl h0) (.via (ensOff_keeps ..) rfl h0))

theorem ensManPh_keeps (v : Int) (s : State) : Keeps 256 s (ensManPh v s) := by
  unfold ensManPh
  lift_lets
  intro t0 t1
  exact (.ite (.refl _ _) (.onlyIf (.ens (fun w => by exact w.ens) rfl (.refl _ _)) fun _ g2 => (.via (State.setFlag_keeps ..) rfl g2)))

theorem ensEdge_keeps (ch : Nat) (t : Int) (piv : Nat) (s : State) : Keeps 256 s (ensEdge ch t piv s) := by
  unfold ensEdge
  exact (.foldl _ (.refl _ _) fun _ _ g0 => (.ite (.via (ensSet_keeps ..) rfl g0) g0))

theorem ensSuspend_keeps (i : Nat) (s : State) : Keeps 256 s (ensSuspend i s) := by
  unfold ensSuspend
  lift_lets
  intro t0
  have h0 : Keeps 256 s t0 := (.via (State.setReg_keeps ..) rfl (.via (State.put_keeps ..) rfl (.refl _ _)))
  exact (.via (ensRefresh_keeps ..) rfl (.via (State.setFlag_keeps ..) rfl (.via (ensSet_keeps ..) rfl h0)))

theorem ensAdvance_keeps (m : EnsRow) (rejected past active : Bool) (s : State) :
    Keeps 256 s (ensAdvance m rejected past active s) := by
  unfold ensAdvance
  lift_lets
  intro t0
  have h0 : Keeps 256 s t0 := (.via (State.put_keeps ..) rfl (.via (State.put_keeps ..) rfl (.refl _ _)))
  intro t1
  have h1 : Keeps 256 s t1 := (.via (State.setReg_keeps ..) rfl h0)
  intro t2
  have h2 : Keeps 256 s t2 := (.via (State.count_keeps ..) rfl (.via (State.count_keeps ..) rfl (.via (State.count_keeps ..) rfl h0)))
  intro t3
  have h3 : Keeps 256 s t3 := (.via (State.setEvent_keeps ..) rfl h2)
  intro t4 t5
  have h5 : Keeps 256 s t5 := (.via (ensSet_keeps ..) rfl h0)
  exact (by
    split
    · exact (.ite (.via (State.setFlag_keeps ..) rfl (.via (State.setReg_keeps ..) rfl h0)) (.ite (.via (State.setFlag_keeps ..) rfl (.via (State.put_keeps ..) rfl h1)) h1))
    · exact (.ite (.onlyIf h3 fun _ g6 => (.via (ensSuspend_keeps ..) rfl g6)) (.via (State.put_keeps ..) rfl h0))
    · exact (.onlyIf h5 fun _ g7 => (.via (ensTrial_keeps ..) rfl g7)))

theorem ensPostWeights_keeps (set : List EnsRow) (s : State) : Keeps 0 s (ensPostWeights set s) := by
  unfold ensPostWeights
  lift_lets
  intro t0
  exact (.foldl _ (.refl _ _) fun _ _ g1 => (by
    lift_lets
    intro t2
    exact (.via (State.setReg_keeps ..) rfl g1)))

theorem ensPutVar_keeps (i v : Nat) (s : State) : Keeps 256 s (ensPutVar i v s) := by
  unfold ensPutVar
  exact (.via (State.setReg_keeps ..) rfl (.via (ensSet_keeps ..) rfl (.refl _ _)))

theorem ensPutS_keeps (ofs : Nat) (x : Int) (s : State) : Keeps 0 s (ensPutS ofs x s) := by
  unfold ensPutS
  exact (.via (State.putSat_keeps ..) rfl (.refl _ _))

theorem ensUpdate_keeps (r : EnsTest) (active : Bool) (s : State) (m : EnsRow) : Keeps 256 s (ensUpdate r active s m) := by
  unfold ensUpdate
  lift_lets
  intro t0 t1 t2 t3
  have h3 : Keeps 256 s t3 := (.ite (.via (ensPutVar_keeps ..) rfl (.via (State.putS_keeps ..) rfl (.refl _ _))) (.ite (.via (ensPutVar_keeps ..) rfl (.via (ensPutS_keeps ..) rfl (.refl _ _))) (.refl _ _)))
  intro t4
  have h4 : Keeps 256 s t4 := (.ite h3 (.via (ensPutS_keeps ..) rfl h3))
  intro t5
  exact (.via (ensAdvance_keeps ..) rfl (.via (ensPutS_keeps ..) rfl h4))

theorem ensApply_keeps (rows : List EnsRow) (r : EnsTest) (rho : Int) (s : State) : Keeps 256 s (ensApply rows r rho s) := by
  unfold ensApply
  lift_lets
  intro t0 t1 t2
  have h2 : Keeps 256 s t2 := (.via (ensPostWeights_keeps ..) rfl (.refl _ _))
  intro t3
  have h3 : Keeps 256 s t3 := (.foldl _ h2 fun _ _ g4 => (.via (ensUpdate_keeps ..) rfl g4))
  intro t5
  have h5 : Keeps 256 s t5 := (.onlyIf (.via (State.putB_keeps ..) rfl h3) fun _ g6 => (.via (State.setFlag_keeps ..) rfl g6))
  intro t7
  have h7 : Keeps 256 s t7 := (.via (ensPutS_keeps ..) rfl h5)
  intro t8 t9
  exact (.ite h7 (.via (ensPutS_keeps ..) rfl h7))

theorem ensBudget_keeps (set : List EnsRow) (s : State) : Keeps 0 s (ensBudget set s) := by
  unfold ensBudget
  lift_lets
  intro t0 t1 t2 t3 t4 t5 t6 t7
  have h7 : Keeps 0 s t7 := (.via (State.put_keeps ..) rfl (.via (State.putB_keeps ..) rfl (.refl _ _)))
  intro t8
  have h8 : Keeps 0 s t8 := (.via (State.put_keeps ..) rfl h7)
  intro t9
  have h9 : Keeps 0 s t9 := (.via (ensPutS_keeps ..) rfl (.via (ensPutS_keeps ..) rfl (.via (ensPutS_keeps ..) rfl h8)))
  exact (.via (ensPutS_keeps ..) rfl h9)

theorem ensClose_keeps (tk : Int) (piv : Nat) (dev : Int) (s : State) : Keeps 256 s (ensClose tk piv dev s) := by
  unfold ensClose
  lift_lets
  intro t0
  exact (.ens (fun w => by exact (List.length_map ..).trans w.ens) rfl (.refl _ _))

theorem ensCmdSuspend_keeps (i : Nat) (s : State) : Keeps 256 s (ensCmdSuspend i s) := by
  unfold ensCmdSuspend
  exact (.ite (.via (ensSuspend_keeps ..) rfl (.refl _ _)) (.refl _ _))

theorem ensDeliver_keeps (active : Nat) (carried : Bool) (xout : Int) (s : State) :
    Keeps 144 s (ensDeliver active carried xout s) := by
  unfold ensDeliver
  lift_lets
  intro t0 t1
  have h1 : Keeps 144 s t1 := (.via (State.putB_keeps ..) rfl (.refl _ _))
  intro t2 t3
  have h3 : Keeps 144 s t3 := (.via (tbOwnerUpdate_keeps ..) rfl h1)
  exact (.ite (by
    split
    · exact (.ite (.via (loopSet_keeps ..) rfl h3) h3)
    · exact h3) (.via (tbRefresh_keeps ..) rfl h1))

theorem ensEnable_keeps (i : Nat) (en : Bool) (s : State) : Keeps 256 s (ensEnable i en s) := by
  unfold ensEnable
  lift_lets
  intro t0
  have h0 : Keeps 256 s t0 := (.via (State.putB_keeps ..) rfl (.refl _ _))
  exact (.ite (.via (ensOff_keeps ..) rfl h0) (.ite (.via (ensTrial_keeps ..) rfl h0) h0))

theorem ensMissing_keeps (i : Nat) (s : State) : Keeps 256 s (ensMissing i s) := by
  unfold ensMissing
  lift_lets
  intro t0 t1
  have h1 : Keeps 256 s t1 := (.ite (.via (ensSet_keeps ..) rfl (.refl _ _)) (.via (ensPutS_keeps ..) rfl (.refl _ _)))
  intro t2
  have h2 : Keeps 256 s t2 := (.via (State.count_keeps ..) rfl (.via (State.count_keeps ..) rfl (.via (State.put_keeps ..) rfl h1)))
  exact (.ite (.refl _ _) (.onlyIf h2 fun _ g3 => (.via (State.raise_keeps ..) rfl (.via (ensSuspend_keeps ..) rfl g3))))

theorem ensExtra_keeps (tk : Int) (s : State) : Keeps 0 s (ensExtra tk s) := by
  unfold ensExtra
  exact (.foldl _ (.refl _ _) fun _ _ g0 => (.via (State.putB_keeps ..) rfl g0))

theorem ensRebase_keeps (rows : List EnsRow) (s : State) : Keeps 256 s (ensRebase rows s) := by
  unfold ensRebase
  lift_lets
  intro t0
  have h0 : Keeps 256 s t0 := (.via (State.putS_keeps ..) rfl (.refl _ _))
  intro t1 t2
  have h2 : Keeps 256 s t2 := (.ens (fun w => by exact w.ens) rfl h0)
  intro t3
  have h3 : Keeps 256 s t3 := by
    unfold t3
    exact (.foldl _ h2 fun _ _ g4 => (by
      lift_lets
      intro t5
      have h5 : Keeps 256 s t5 := (.via (ensPutS_keeps ..) rfl g4)
      intro t6
      have h6 : Keeps 256 s t6 := (.ite (.via (ensPutVar_keeps ..) rfl (.via (State.putS_keeps ..) rfl h5)) h5)
      exact (.via (ensAdvance_keeps ..) rfl h6)))
  exact (.via (State.setFlag_keeps ..) rfl h3)

theorem ensSteer_keeps (s : State) : Keeps 256 s (ensSteer s).1 := by
  unfold ensSteer
  lift_lets
  intro t0 t1 t2
  have h2 : Keeps 256 s t2 := (.via (ensPutS_keeps ..) rfl (.via (ensPutS_keeps ..) rfl (.refl _ _)))
  intro t3 t4 t5 t6 t7 t8
  have h8 : Keeps 256 s t8 := (.ens (fun w => by exact w.ens) rfl h2)
  exact (by
    clear_value t6
    split
    · exact (by
        split
        · exact (.ens (fun w => by exact w.ens) rfl h2)
        · exact (.via (ensPutS_keeps ..) rfl (.via (ensPutS_keeps ..) rfl h8)))
    · exact (by
        split
        · exact (.ens (fun w => by exact w.ens) rfl h2)
        · exact (.via (ensPutS_keeps ..) rfl (.via (State.putS_keeps ..) rfl h8))))

theorem ensStart_keeps (s : State) : Keeps 256 s (ensStart s) := by
  unfold ensStart
  lift_lets
  intro t0 t1
  have h1 : Keeps 256 s t1 := (.ens (fun w => by exact w.ens) rfl (.refl _ _))
  exact (.ite (.refl _ _) (.via (State.putS_keeps ..) rfl (.via (State.putS_keeps ..) rfl h1)))

theorem ensHist_keeps (l : List (Int × Int)) (s : State) : Keeps 256 s { s with ens := { s.ens with hist := l } } :=
  .ens (fun w => w.ens) rfl (.refl _ _)

theorem ensEpoch_keeps (at_ : Nat) (s : State) : Keeps 400 s (ensEpoch at_ s) := by
  unfold ensEpoch
  lift_lets
  intro t0 t1 t2 t3 t4 t5 t6 t7 t8 t9 t10
  have h10 : Keeps 400 s t10 := (.foldl _ (.via (ensExtra_keeps ..) rfl (.refl _ _)) fun _ _ g11 => (.via (ensMissing_keeps ..) rfl g11))
  intro t12
  have h12 : Keeps 400 s t12 := (.ite (.via (ensRebase_keeps ..) rfl h10) (.via (ensApply_keeps ..) rfl h10))
  intro t13 t14
  have h14 : Keeps 400 s t14.1 := (.via (ensSteer_keeps ..) rfl (.via (ensStart_keeps ..) rfl h12))
  intro t15
  have h15 : Keeps 400 s t15 := (.via (ensPutS_keeps ..) rfl h14)
  intro t16
  have h16 : Keeps 400 s t16 := (.via (State.put_keeps ..) rfl h15)
  intro t17
  have h17 : Keeps 400 s t17 := (.via (ensDeliver_keeps ..) rfl h16)
  intro t18
  have h18 : Keeps 400 s t18 := (.via (State.countWrap_keeps ..) rfl h17)
  intro t19
  have h19 : Keeps 400 s t19 := (.via (ensPutS_keeps ..) rfl h18)
  intro t20 t21
  have h21 : Keeps 400 s t21 := (.after rfl h19 (ensHist_keeps _ _))
  exact (.ite (.refl _ _) (.via (ensClose_keeps ..) rfl (.via (ensRefresh_keeps ..) rfl (.via (ensBudget_keeps ..) rfl h21))))

theorem ensOver_keeps (s : State) : Keeps 256 s { s with ens := { s.ens with pair := none, manPh := 0 } } :=
  .ens (fun w => w.ens) rfl (.refl _ _)

theorem ensLate_keeps (at_ : Nat) (s : State) : Keeps 1048832 s (ensLate at_ s) := by
  unfold ensLate
  lift_lets
  intro t0 t1
  have h1 : Keeps 1048832 s t1 := (.foldl _ (.refl _ _) fun _ _ g2 => (.ite g2 (.via (ensPutS_keeps ..) rfl g2)))
  intro t3
  have h3 : Keeps 1048832 s t3 := (.via (State.put_keeps ..) rfl (.via (State.count_keeps ..) rfl (.via (State.setFlag_keeps ..) rfl h1)))
  intro t4 t5
  have h5 : Keeps 1048832 s t5 := (.via (ensClose_keeps ..) rfl (.after rfl h3 (ensOver_keeps _)))
  exact (.via (tbRefresh_keeps ..) rfl (.via (State.deadline_keeps ..) rfl h5))

theorem ensRetry_keeps (i : Nat) (s : State) : Keeps 256 s (ensRetry i s) := by
  unfold ensRetry
  exact (.ite (.via (ensTrial_keeps ..) rfl (.refl _ _)) (.refl _ _))

theorem ensStep_keeps (piv : Nat) (move : Int) (s : State) : Keeps 256 s (ensStep piv move s) := by
  unfold ensStep
  lift_lets
  intro t0
  exact (.ens (fun w => by exact w.ens) rfl (.refl _ _))

theorem execEnsembleEpoch_keeps (at_ : Nat) (s : State) : Runs 400 s (execEnsembleEpoch at_ s) := by
  unfold execEnsembleEpoch
  exact (.next (.via (ensEpoch_keeps ..) rfl (.refl _ _)))

theorem execEpochLate_keeps (at_ : Nat) (s : State) : Runs 1048832 s (execEpochLate at_ s) := by
  unfold execEpochLate
  exact (.next (.via (ensLate_keeps ..) rfl (.refl _ _)))

theorem execManPhWrite_keeps (v : BitVec 64) (s : State) : Runs 65792 s (execManPhWrite v s) := by
  unfold execManPhWrite
  exact (.next (.hostDo rfl (.refl _ _) fun _ g0 => (.via (ensManPh_keeps ..) rfl g0)))

theorem execMemberEnable_keeps (i : Fin 32) (en : Bool) (s : State) : Runs 65792 s (execMemberEnable i en s) := by
  unfold execMemberEnable
  exact (.next (.hostDo rfl (.refl _ _) fun _ g0 => (.via (ensEnable_keeps ..) rfl g0)))

theorem execMemberRetry_keeps (i : Fin 32) (s : State) : Runs 65792 s (execMemberRetry i s) := by
  unfold execMemberRetry
  exact (.next (.hostDo rfl (.refl _ _) fun _ g0 => (.via (ensRetry_keeps ..) rfl g0)))

theorem execMemberSuspend_keeps (i : Fin 32) (s : State) : Runs 65792 s (execMemberSuspend i s) := by
  unfold execMemberSuspend
  exact (.next (.hostDo rfl (.refl _ _) fun _ g0 => (.via (ensCmdSuspend_keeps ..) rfl g0)))

end Sys2Proof.Machine
end

