-- ==== Sys2Proof/Laws/KeepsEventTimer.lean ====
section
/-! SUPPORT. What the operations of EventTimer.lean keep: the form of the state, the queue, and the parts outside their mask. -/

namespace Sys2Proof.Machine

theorem evtFill_keeps (n : Nat) (s : State) : Keeps 0 s (evtFill n s) := by
  unfold evtFill
  exact (.via (State.put_keeps ..) rfl (.refl _ _))

theorem evtSetChan_keeps (n : Nat) (f : EvtChan → EvtChan) (s : State) : Keeps 32 s (evtSetChan n f s) := by
  unfold evtSetChan
  lift_lets
  intro t0
  exact (.evt (fun w => by exact ⟨(List.length_modify ..).trans w.evt.1, w.evt.2⟩) rfl (.refl _ _))

theorem evtResetChan_keeps (s : State) (n : Nat) : Keeps 32 s (evtResetChan s n) := by
  unfold evtResetChan
  lift_lets
  intro t0
  have h0 : Keeps 32 s t0 := (.via (evtSetChan_keeps ..) rfl (.refl _ _))
  intro t1
  exact (.evt (fun w => by exact w.evt) rfl h0)

theorem evtDestroy_keeps (n i : Nat) (s : State) : Keeps 32 s (evtDestroy n i s) := by
  unfold evtDestroy
  lift_lets
  intro t0 t1 t2
  exact (by
    split
    · lift_lets
      intro t3
      have h3 : Keeps 32 s t3 := (.ite (.via (evtSetChan_keeps ..) rfl (.refl _ _)) (.refl _ _))
      intro t4
      have h4 : Keeps 32 s t4 := (.via (evtSetChan_keeps ..) rfl h3)
      exact (.via (State.countOpen_keeps ..) rfl (.via (evtFill_keeps ..) rfl h4))
    · exact (.refl _ _))

theorem evtHold_keeps (x : EvtCross) (s : State) : Keeps 32 s (evtHold x s) := by
  unfold evtHold
  lift_lets
  intro t0
  exact (.ite (.via (xsDrop_keeps ..) rfl (.refl _ _)) (.evt (fun w => by exact w.evt) rfl (.refl _ _)))

theorem evtRaw_keeps (n piv : Nat) (relief : Bool) (s : State) : Keeps 0 s (evtRaw n piv relief s) := by
  unfold evtRaw
  lift_lets
  intro t0
  have h0 : Keeps 0 s t0 := (.via (State.put64_keeps ..) rfl (.refl _ _))
  exact (.via (State.putB_keeps ..) rfl (.via (State.put_keeps ..) rfl h0))

theorem evtLose_keeps {M n : Nat} {f : State → State} {a s : State} (hM : 32 &&& M = 32) (h : Keeps M a s)
    (hf : ∀ b, Keeps M a b → Keeps M a (f b)) : Keeps M a (evtLose n f s) :=
  hf _ (.via (evtSetChan_keeps ..) hM h)

theorem evtReleaseOldest_keeps (n flags : Nat) (s : State) : Keeps 32 s (evtReleaseOldest n flags s) := by
  unfold evtReleaseOldest
  exact (by
    split
    · exact (.refl _ _)
    · exact (.via (evtSetChan_keeps ..) rfl (.refl _ _)))

theorem evtReleaseUnpaired_keeps (n k : Nat) (s : State) : Keeps 32 s (evtReleaseUnpaired n k s) := by
  induction k generalizing s with
  | zero => exact .refl _ _
  | succ k ih => exact .after rfl (.via (State.countOpen_keeps ..) rfl (.via (evtReleaseOldest_keeps ..) rfl (.refl _ _))) (ih _)

theorem evtExpire_keeps (n : Nat) (now : Int) (s : State) : Keeps 32 s (evtExpire n now s) := by
  unfold evtExpire
  lift_lets
  intro t0 t1 t2
  have h2 : Keeps 32 s t2 := (.via (State.countOpen_keeps ..) rfl (.via (evtSetChan_keeps ..) rfl (.refl _ _)))
  exact (.via (evtReleaseUnpaired_keeps ..) rfl h2)

theorem evtPaired_keeps (n : Nat) (d : Int) (s : State) : Keeps 0 s (evtPaired n d s) := by
  unfold evtPaired
  lift_lets
  intro t0
  have h0 : Keeps 0 s t0 := (.via (State.countOpen_keeps ..) rfl (.via (State.putS_keeps ..) rfl (.refl _ _)))
  intro t1
  have h1 : Keeps 0 s t1 := (.onlyIf h0 fun _ g2 => (.via (State.countOpen_keeps ..) rfl g2))
  exact (.onlyIf h1 fun _ g3 => (.via (State.countOpen_keeps ..) rfl g3))

theorem evtOnStart_keeps (n : Nat) (t : Int) (s : State) : Keeps 32 s (evtOnStart n t s) := by
  unfold evtOnStart
  lift_lets
  intro t0
  have h0 : Keeps 32 s t0 := (.via (evtExpire_keeps ..) rfl (.refl _ _))
  intro t1
  exact (by
    split
    · exact (.via (evtPaired_keeps ..) rfl (.via (evtReleaseOldest_keeps ..) rfl h0))
    · exact (.via (State.countOpen_keeps ..) rfl (.via (evtSetChan_keeps ..) rfl h0)))

theorem evtOnStop_keeps (n : Nat) (p : Int) (stored : Bool) (s : State) : Keeps 32 s (evtOnStop n p stored s) := by
  have h : Keeps 32 s (evtExpire n p s) := .via (evtExpire_keeps ..) rfl (.refl _ _)
  unfold evtOnStop
  simp only
  cases (evtChan (evtExpire n p s) n).starts with
  | cons t ts => exact .via (evtPaired_keeps ..) rfl (.via (evtSetChan_keeps ..) rfl h)
  | nil => exact .via (evtSetChan_keeps ..) rfl (.via (evtReleaseUnpaired_keeps ..) rfl h)

theorem evtPairRun_keeps (n : Nat) (hs hp : Int) (l : List (Int × Option Bool)) (s : State) :
    Keeps 32 s (evtPairRun n hs hp l s) := by
  induction l generalizing s with
  | nil => exact evtSetChan_keeps ..
  | cons x l ih =>
    obtain ⟨t, e⟩ := x
    simp only [evtPairRun]
    split
    · refine .after rfl ?_ (ih _)
      cases e with
      | none => exact evtOnStart_keeps ..
      | some b => exact evtOnStop_keeps ..
    · exact evtSetChan_keeps ..

theorem evtPairTo_keeps (n at_ : Nat) (s : State) : Keeps 32 s (evtPairTo n at_ s) := by
  unfold evtPairTo
  exact (.via (evtPairRun_keeps ..) rfl (.refl _ _))

theorem evtPairIn_keeps (n : Nat) (t : Int) (e : Option Bool) (at_ : Nat) (s : State) : Keeps 32 s (evtPairIn n t e at_ s) := by
  unfold evtPairIn
  exact (.via (evtPairTo_keeps ..) rfl (.via (evtSetChan_keeps ..) rfl (.refl _ _)))

theorem evtStore_keeps (n : Nat) (r : EvtRec) (s : State) : Keeps 32 s (evtStore n r s) := by
  unfold evtStore
  lift_lets
  intro t0 t1
  have h1 : Keeps 32 s t1 := (.via (evtSetChan_keeps ..) rfl (.refl _ _))
  exact (.ite (.via (State.countOpen_keeps ..) rfl (.via (evtSetChan_keeps ..) rfl (.refl _ _))) (.via (evtFill_keeps ..) rfl (.via (State.count_keeps ..) rfl h1)))

theorem evtAccept_keeps (x : EvtStamp) (at_ : Nat) (s : State) : Keeps 32 s (evtAccept x at_ s) := by
  unfold evtAccept
  lift_lets
  intro t0 t1
  have h1 : Keeps 32 s t1 := (.via (evtSetChan_keeps ..) rfl (.via (evtRaw_keeps ..) rfl (.refl _ _)))
  intro t2 t3
  have h3 : Keeps 32 s t3 := (.foldl _ h1 fun _ _ g4 => (.via (evtPairIn_keeps ..) rfl g4))
  intro t5 t6 t7
  have h7 : Keeps 32 s t7 := (.ite (.via (evtStore_keeps ..) rfl h3) h3)
  exact (.ite (evtLose_keeps rfl h1 fun _ g8 => (.via (State.countOpen_keeps ..) rfl g8)) (.ite (.via (evtPairIn_keeps ..) rfl h7) h7))

theorem evtLost_keeps (x : EvtCross) (s : State) : Keeps 32 s (evtLost x s) := by
  unfold evtLost
  exact (by
    split
    · exact (.refl _ _)
    · exact (evtLose_keeps rfl (.refl _ _) fun _ g0 => (.via (State.count_keeps ..) rfl g0))
    · exact (evtLose_keeps rfl (.refl _ _) fun _ g1 => (.via (State.countOpen_keeps ..) rfl g1)))

theorem evtStorePulses_keeps (l : List EvtStamp) (s : State) : Keeps 32 s (evtStorePulses l s) := by
  unfold evtStorePulses
  exact (.foldl _ (.refl _ _) fun _ _ g0 => (.via (evtStore_keeps ..) rfl g0))

theorem evtBankFlag_keeps (b : Nat) (f : Fld) (s : State) : Keeps 0 s (evtBankFlag b f s) := by
  unfold evtBankFlag
  exact (.via (State.setFlag_keeps ..) rfl (.refl _ _))

theorem evtSetBank_keeps (b : Nat) (f : EvtBank → EvtBank) (s : State) : Keeps 32 s (evtSetBank b f s) := by
  unfold evtSetBank
  lift_lets
  intro t0
  exact (.evt (fun w => by exact ⟨w.evt.1, (List.length_modify ..).trans w.evt.2⟩) rfl (.refl _ _))

theorem evtRetry_keeps (b : Nat) (s : State) : Keeps 32 s (evtRetry b s) := by
  unfold evtRetry
  exact (by
    split
    · exact (.via (evtSetBank_keeps ..) rfl (.refl _ _))
    · exact (.via (State.put_keeps ..) rfl (.via (State.put_keeps ..) rfl (.refl _ _)))
    · exact (.refl _ _))

theorem evtStartSlot_keeps (b : Nat) (s : State) : Keeps 0 s (evtStartSlot b s) := by
  unfold evtStartSlot
  exact (.via (State.put_keeps ..) rfl (.refl _ _))

theorem evtRequest_keeps (b pos : Nat) (force : Bool) (s : State) : Keeps 32 s (evtRequest b pos force s) := by
  unfold evtRequest
  lift_lets
  intro t0
  exact (.ite (.via (evtStartSlot_keeps ..) rfl (.via (State.put_keeps ..) rfl (.refl _ _))) (.ite (.via (evtSetBank_keeps ..) rfl (.refl _ _)) (.ite (.via (evtRetry_keeps ..) rfl (.refl _ _)) (.ite (.ite (.via (evtBankFlag_keeps ..) rfl (.via (evtSetBank_keeps ..) rfl (.refl _ _))) (.via (evtBankFlag_keeps ..) rfl (.refl _ _))) (.onlyIf (.refl _ _) fun _ g1 => (.via (evtSetBank_keeps ..) rfl g1))))))

theorem evtCalCmd_keeps (b : Nat) (w : Word) (s : State) : Keeps 40 s (evtCalCmd b w s) := by
  unfold evtCalCmd
  exact (.cross rfl (.refl _ _) fun _ g0 => (by
    lift_lets
    intro t1
    have h1 : Keeps 40 s t1 := (.onlyIf g0 fun _ g2 => (.via (evtRetry_keeps ..) rfl g2))
    exact (.onlyIf h1 fun _ g3 => (.via (evtRequest_keeps ..) rfl g3))))

theorem evtChanPassed_keeps (n : Nat) (delay : Int) (at_ : Nat) (s : State) : Keeps 32 s (evtChanPassed n delay at_ s) := by
  unfold evtChanPassed
  lift_lets
  intro t0 t1
  have h1 : Keeps 32 s t1 := (.via (State.put_keeps ..) rfl (.refl _ _))
  exact (.via (evtSetChan_keeps ..) rfl (.via (State.putS_keeps ..) rfl h1))

theorem evtPulses_keeps (n : Nat) (relief : Bool) (pulses : List (Bool × Nat)) (s : State) :
    Keeps 40 s (evtPulses n relief pulses s) := by
  unfold evtPulses
  lift_lets
  intro t0 t1 t2
  exact (.ite (.ite (.via (xsDrop_keeps ..) rfl (.evt (fun w => by exact w.evt) rfl (.refl _ _))) (.cross rfl (.refl _ _) fun _ g3 => (.via (evtStorePulses_keeps ..) rfl g3))) (.refl _ _))

theorem evtIdle_keeps (b : Nat) (s : State) : Keeps 32 s (evtIdle b s) := by
  unfold evtIdle
  lift_lets
  intro t0
  have h0 : Keeps 32 s t0 := (.via (State.put_keeps ..) rfl (.refl _ _))
  intro t1
  have h1 : Keeps 32 s t1 := (.via (evtSetBank_keeps ..) rfl h0)
  exact (by
    split
    · exact (.via (evtStartSlot_keeps ..) rfl (.via (evtSetBank_keeps ..) rfl (.via (State.put_keeps ..) rfl h1)))
    · exact h1)

theorem evtNextPos_keeps (b : Nat) (s : State) : Keeps 32 s (evtNextPos b s) := by
  unfold evtNextPos
  exact (.via (evtIdle_keeps ..) rfl (.via (State.put_keeps ..) rfl (.refl _ _)))

theorem evtRejoin_keeps (b at_ : Nat) (s : State) : Keeps 32 s (evtRejoin b at_ s) := by
  unfold evtRejoin
  exact (.ite (.via (evtSetBank_keeps ..) rfl (.via (State.put_keeps ..) rfl (.refl _ _))) (.via (evtNextPos_keeps ..) rfl (.via (State.put_keeps ..) rfl (.refl _ _))))

theorem evtChannelDone_keeps (b : Nat) (complete : Bool) (delay : Int) (pulses : List (Bool × Nat)) (at_ : Nat) (s : State) :
    Keeps 40 s (evtChannelDone b complete delay pulses at_ s) := by
  unfold evtChannelDone
  lift_lets
  intro t0 t1 t2
  have h2 : Keeps 40 s t2 := (.via (evtPulses_keeps ..) rfl (.refl _ _))
  intro t3
  have h3 : Keeps 40 s t3 := (.via (State.put_keeps ..) rfl (.via (State.put_keeps ..) rfl (.via (State.put_keeps ..) rfl h2)))
  intro t4
  have h4 : Keeps 40 s t4 := (.via (State.put_keeps ..) rfl (.via (State.put_keeps ..) rfl h2))
  exact (by
    split
    · lift_lets
      intro t5 t6
      have h6 : Keeps 40 s t6 := (.via (evtSetBank_keeps ..) rfl (.via (evtPulses_keeps ..) rfl (.refl _ _)))
      exact (.ite (.via (evtChanPassed_keeps ..) rfl h6) (.via (State.setEvent_keeps ..) rfl (.via (State.put_keeps ..) rfl h6)))
    · exact (by
        split
        · exact (.ite (.via (evtRejoin_keeps ..) rfl (.via (evtChanPassed_keeps ..) rfl h2)) (.via (State.setEvent_keeps ..) rfl h3))
        · exact (.ite (.ite (.via (evtRejoin_keeps ..) rfl (.via (evtChanPassed_keeps ..) rfl h4)) (.via (State.setEvent_keeps ..) rfl (.via (evtSetBank_keeps ..) rfl h2))) (.refl _ _))
        · exact (.refl _ _)))

theorem evtFlushAhead_keeps (n : Nat) (s : State) : Keeps 32 s (evtFlushAhead n s) := by
  unfold evtFlushAhead
  exact (.via (evtSetChan_keeps ..) rfl (.refl _ _))

theorem evtClearPairing_keeps (n : Nat) (s : State) : Keeps 32 s (evtClearPairing n s) := by
  unfold evtClearPairing
  lift_lets
  intro t0
  have h0 : Keeps 32 s t0 := (.via (evtFlushAhead_keeps ..) rfl (.refl _ _))
  exact (.via (evtReleaseUnpaired_keeps ..) rfl h0)

theorem evtCommit_keeps (n : Nat) (s : State) : Keeps 524328 s (evtCommit n s) := by
  unfold evtCommit
  lift_lets
  intro t0
  have h0 : Keeps 524328 s t0 := (.via (evtSetChan_keeps ..) rfl (.refl _ _))
  exact (by
    split
    · exact (.ite (.via (hifPush_keeps ..) rfl (.via (evtFill_keeps ..) rfl h0)) (.refl _ _))
    · exact (.refl _ _))

theorem evtDrain_keeps (s : State) (n : Nat) : Keeps 524328 s (evtDrain s n) := by
  unfold evtDrain
  exact (.foldl _ (.refl _ _) fun _ _ g0 => (.via (evtCommit_keeps ..) rfl g0))

theorem evtFrontWrite_keeps (n : Nat) (thresh : Bool) (v : Word) (s : State) : Keeps 8 s (evtFrontWrite n thresh v s) := by
  unfold evtFrontWrite
  lift_lets
  intro t0
  have h0 : Keeps 8 s t0 := (.via (xsWrite_keeps ..) rfl (.refl _ _))
  intro t1 t2 t3
  have h3 : Keeps 8 s t3 := (.via (State.put_keeps ..) rfl (.via (State.put_keeps ..) rfl h0))
  intro t4 t5 t6
  have h6 : Keeps 8 s t6 := (.onlyIf h0 fun _ g7 => (.via (State.putB_keeps ..) rfl g7))
  intro t8
  have h8 : Keeps 8 s t8 := (.via (State.putB_keeps ..) rfl (.via (State.putB_keeps ..) rfl h6))
  intro t9
  have h9 : Keeps 8 s t9 := (.via (State.putB_keeps ..) rfl (.via (State.put_keeps ..) rfl h8))
  exact (.ite (.onlyIf h3 fun _ g10 => (.via (State.put_keeps ..) rfl g10)) (.onlyIf h9 fun _ g11 => (.via (State.put_keeps ..) rfl g11)))

theorem evtHandover_keeps (b : Nat) (s : State) : Keeps 32 s (evtHandover b s) := by
  unfold evtHandover
  lift_lets
  intro t0
  exact (by
    split
    · exact (.via (State.put_keeps ..) rfl (.via (evtSetBank_keeps ..) rfl (.via (State.put_keeps ..) rfl (.refl _ _))))
    · exact (.via (evtNextPos_keeps ..) rfl (.via (State.put_keeps ..) rfl (.refl _ _)))
    · exact (.refl _ _))

theorem evtPairWrite_keeps (n : Nat) (window : Bool) (v : Word) (s : State) : Keeps 32 s (evtPairWrite n window v s) := by
  unfold evtPairWrite
  lift_lets
  intro t0
  have h0 : Keeps 32 s t0 := (.via (evtClearPairing_keeps ..) rfl (.refl _ _))
  intro t1 t2
  have h2 : Keeps 32 s t2 := (.via (State.putB_keeps ..) rfl (.via (State.put_keeps ..) rfl h0))
  intro t3
  have h3 : Keeps 32 s t3 := (.via (State.putB_keeps ..) rfl h2)
  exact (.ite (.via (State.put_keeps ..) rfl h0) (.ite (.via (evtBankFlag_keeps ..) rfl (.via (State.put_keeps ..) rfl h3)) (.via (State.putB_keeps ..) rfl h3)))

theorem evtPfailChan_keeps (s : State) (n : Nat) : Keeps 32 s (evtPfailChan s n) := by
  unfold evtPfailChan
  lift_lets
  intro t0 t1
  exact (.via (State.countOpen_keeps ..) rfl (.via (evtSetChan_keeps ..) rfl (.refl _ _)))

theorem evtPfailHigh_keeps (s : State) : Keeps 32 s (evtPfailHigh s) := by
  unfold evtPfailHigh
  lift_lets
  intro t0
  have h0 : Keeps 32 s t0 := (.via (State.put_keeps ..) rfl (.refl _ _))
  intro t1
  exact (.evt (fun w => by exact ⟨(List.length_map ..).trans w.evt.1, w.evt.2⟩) rfl h0)

theorem evtPfailLow_keeps (s : State) : Keeps 524328 s (evtPfailLow s) := by
  unfold evtPfailLow
  exact (.foldl _ (.foldl _ (.via (State.put_keeps ..) rfl (.refl _ _)) fun _ _ g1 => (.via (evtPfailChan_keeps ..) rfl g1)) fun _ _ g0 => (.via (evtDrain_keeps ..) rfl g0))

theorem evtReliefDone_keeps (b : Nat) (complete : Bool) (delay : Int) (pulses : List (Bool × Nat)) (at_ : Nat) (s : State) :
    Keeps 40 s (evtReliefDone b complete delay pulses at_ s) := by
  unfold evtReliefDone
  lift_lets
  intro t0 t1
  have h1 : Keeps 40 s t1 := (.via (evtPulses_keeps ..) rfl (.refl _ _))
  intro t2
  have h2 : Keeps 40 s t2 := (.via (evtSetBank_keeps ..) rfl h1)
  intro t3
  have h3 : Keeps 40 s t3 := (.via (State.put_keeps ..) rfl (.via (State.put_keeps ..) rfl h1))
  exact (.ite (.ite (.ite (.via (evtSetBank_keeps ..) rfl (.via (State.put_keeps ..) rfl h2)) (.via (State.put_keeps ..) rfl h2)) (.via (State.setEvent_keeps ..) rfl h3)) (.refl _ _))

theorem execCalAgeExpiry_keeps (bank : Fin 8) (pos : Option (Fin 16)) (s : State) : Runs 32 s (execCalAgeExpiry bank pos s) := by
  unfold execCalAgeExpiry
  exact (.next (by
    split
    · lift_lets
      intro t0
      exact (.ite (.via (State.put_keeps ..) rfl (.refl _ _)) (.refl _ _))
    · exact (.ite (.via (evtSetBank_keeps ..) rfl (.refl _ _)) (.refl _ _))))

theorem execCalRequest_keeps (bank : Fin 8) (pos : Fin 16) (force : Bool) (s : State) :
    Runs 65576 s (execCalRequest bank pos force s) := by
  unfold execCalRequest
  exact (.next (.hostDo rfl (.refl _ _) fun _ g0 => (.cross rfl g0 fun _ g1 => (.via (evtRequest_keeps ..) rfl g1))))

theorem execCalRetry_keeps (bank : Fin 8) (s : State) : Runs 65576 s (execCalRetry bank s) := by
  unfold execCalRetry
  exact (.next (.hostDo rfl (.refl _ _) fun _ g0 => (.cross rfl g0 fun _ g1 => (.via (evtRetry_keeps ..) rfl g1))))

theorem execCommitLate_keeps (ch : Fin 128) (at_ : Nat) (s : State) : Runs 1048576 s (execCommitLate ch at_ s) := by
  unfold execCommitLate
  exact (.next (.ite (.via (State.deadline_keeps ..) rfl (.via (State.setFlag_keeps ..) rfl (.via (State.count_keeps ..) rfl (.refl _ _)))) (.refl _ _)))

theorem execFrontEndWrite_keeps (ch : Fin 128) (thresh : Bool) (v : Word) (s : State) :
    Runs 65544 s (execFrontEndWrite ch thresh v s) := by
  unfold execFrontEndWrite
  exact (.next (.hostDo rfl (.refl _ _) fun _ g0 => (.via (evtFrontWrite_keeps ..) rfl g0)))

theorem execHandoverSwitch_keeps (bank : Fin 8) (s : State) : Runs 32 s (execHandoverSwitch bank s) := by
  unfold execHandoverSwitch
  exact (.next (.via (evtHandover_keeps ..) rfl (.refl _ _)))

theorem execPairConfigWrite_keeps (ch : Fin 128) (window : Bool) (v : Word) (s : State) :
    Runs 65568 s (execPairConfigWrite ch window v s) := by
  unfold execPairConfigWrite
  exact (.next (.hostDo rfl (.refl _ _) fun _ g0 => (.via (evtPairWrite_keeps ..) rfl g0)))

theorem execPairExpiry_keeps (ch : Fin 128) (at_ : Nat) (s : State) : Runs 32 s (execPairExpiry ch at_ s) := by
  unfold execPairExpiry
  lift_lets
  intro t0
  have h0 : Keeps 32 s t0 := (.via (evtPairTo_keeps ..) rfl (.refl _ _))
  exact (.next (.ite (.ite (.via (evtExpire_keeps ..) rfl h0) h0) (.refl _ _)))

theorem execRecordCommit_keeps (ch : Fin 128) (s : State) : Runs 524328 s (execRecordCommit ch s) := by
  unfold execRecordCommit
  exact (.next (.via (evtCommit_keeps ..) rfl (.refl _ _)))

theorem execSettlingDone_keeps (ch : Fin 128) (s : State) : Runs 0 s (execSettlingDone ch s) := by
  unfold execSettlingDone
  exact (.next (.via (State.put_keeps ..) rfl (.refl _ _)))

theorem execSlotInstant_keeps (bank : Fin 8) (s : State) : Runs 0 s (execSlotInstant bank s) := by
  unfold execSlotInstant
  exact (.next (.ite (.refl _ _) (.ite (.via (State.count_keeps ..) rfl (.refl _ _)) (.ite (.via (evtStartSlot_keeps ..) rfl (.refl _ _)) (.refl _ _)))))

end Sys2Proof.Machine
end

