-- ==== Sys2Proof/Laws/KeepsGnss.lean ====
section
/-! SUPPORT. What the operations of Gnss.lean keep: the form of the state, the queue, and the parts outside their mask. -/

namespace Sys2Proof.Machine

theorem gnssCounts_keeps (s : State) : Keeps 0 s (gnssCounts s) := by
  unfold gnssCounts
  lift_lets
  intro t0
  have h0 : Keeps 0 s t0 := (.foldl _ (.refl _ _) fun _ _ g1 => (.via (State.put_keeps ..) rfl g1))
  exact (.via (State.put_keeps ..) rfl h0)

theorem gnssEnter_keeps (k st : Nat) (s : State) : Keeps 0 s (gnssEnter k st s) := by
  unfold gnssEnter
  exact (.via (gnssCounts_keeps ..) rfl (.via (State.put_keeps ..) rfl (.refl _ _)))

theorem gnssSetTk_keeps (k : Nat) (f : TkSt → TkSt) (s : State) : Keeps 1024 s (gnssSetTk k f s) := by
  unfold gnssSetTk
  lift_lets
  intro t0
  exact (.gnss (fun w => by exact ⟨(List.length_modify ..).trans w.gnss.1, w.gnss.2.1, w.gnss.2.2⟩) rfl (.refl _ _))

theorem gnssClear_keeps (k : Nat) (s : State) : Keeps 1024 s (gnssClear k s) := by
  unfold gnssClear
  exact (.via (State.put_keeps ..) rfl (.via (gnssSetTk_keeps ..) rfl (.refl _ _)))

theorem gnssFree_keeps (k : Nat) (s : State) : Keeps 1024 s (gnssFree k s) := by
  unfold gnssFree
  exact (.via (gnssEnter_keeps ..) rfl (.via (gnssClear_keeps ..) rfl (.refl _ _)))

theorem gnssFreePort_keeps (n : Nat) (s : State) : Keeps 1024 s (gnssFreePort n s) := by
  unfold gnssFreePort
  exact (.foldl _ (.refl _ _) fun _ _ g0 => (.ite (.via (gnssFree_keeps ..) rfl g0) g0))

theorem gnssCommit_keeps (n z : Nat) (s : State) : Keeps 0 s (gnssCommit n z s) := by
  unfold gnssCommit
  exact (.ite (.via (State.put_keeps ..) rfl (.via (State.put64_keeps ..) rfl (.refl _ _))) (.refl _ _))

theorem gnssFrom_keeps {M st k : Nat} {f : State → State} {a s : State} (_ : 0 &&& M = 0) (h : Keeps M a s)
    (hf : ∀ b, Keeps M a b → Keeps M a (f b)) : Keeps M a (gnssFrom st k f s) :=
  .ite (hf _ h) h

theorem gnssGiveUp_keeps (k : Nat) (s : State) : Keeps 1024 s (gnssGiveUp k s) := by
  unfold gnssGiveUp
  exact (.ite (.via (gnssEnter_keeps ..) rfl (.via (gnssClear_keeps ..) rfl (.refl _ _))) (.via (gnssFree_keeps ..) rfl (.refl _ _)))

theorem execAcquisitionTimeout_keeps (k : Fin 256) (s : State) : Runs 1024 s (execAcquisitionTimeout k s) := by
  unfold execAcquisitionTimeout
  exact (.next (gnssFrom_keeps rfl (.refl _ _) fun _ g0 => (.via (gnssGiveUp_keeps ..) rfl g0)))

theorem gnssSetSol_keeps (n : Nat) (f : GnssSol → GnssSol) (s : State) : Keeps 1024 s (gnssSetSol n f s) := by
  unfold gnssSetSol
  lift_lets
  intro t0
  exact (.gnss (fun w => by exact ⟨w.gnss.1, w.gnss.2.1, (List.length_modify ..).trans w.gnss.2.2⟩) rfl (.refl _ _))

theorem gnssFitReset_keeps (n : Nat) (s : State) : Keeps 1024 s (gnssFitReset n s) := by
  unfold gnssFitReset
  exact (.via (gnssSetSol_keeps ..) rfl (.refl _ _))

theorem execFitReset_keeps (sol : Fin 4) (s : State) : Runs 66560 s (execFitReset sol s) := by
  unfold execFitReset
  exact (.next (.hostDo rfl (.refl _ _) fun _ g0 => (.via (gnssFitReset_keeps ..) rfl g0)))

theorem snapMap_keeps (f : SnapSec → SnapSec) (s : State) : Keeps 1024 s (snapMap f s) := by
  unfold snapMap
  lift_lets
  intro t0
  exact (by
    split
    · exact (.gnss (fun w => by exact w.gnss) rfl (.refl _ _))
    · exact (.refl _ _))

theorem gnssSetPort_keeps (n : Nat) (f : GnssPort → GnssPort) (s : State) : Keeps 1024 s (gnssSetPort n f s) := by
  unfold gnssSetPort
  lift_lets
  intro t0
  exact (.gnss (fun w => by exact ⟨w.gnss.1, (List.length_modify ..).trans w.gnss.2.1, w.gnss.2.2⟩) rfl (.refl _ _))

theorem gnssClockFault_keeps (n : Nat) (s : State) : Keeps 1024 s (gnssClockFault n s) := by
  unfold gnssClockFault
  lift_lets
  intro t0
  have h0 : Keeps 1024 s t0 := (.via (State.count_keeps ..) rfl (.via (State.setFlag_keeps ..) rfl (.via (State.put_keeps ..) rfl (.refl _ _))))
  exact (.via (snapMap_keeps ..) rfl (.via (gnssFreePort_keeps ..) rfl (.via (gnssSetPort_keeps ..) rfl h0)))

theorem execGnssClockFault_keeps (port : Fin 4) (s : State) : Runs 1024 s (execGnssClockFault port s) := by
  unfold execGnssClockFault
  exact (.next (.via (gnssClockFault_keeps ..) rfl (.refl _ _)))

theorem execGnssClockOk_keeps (port : Fin 4) (s : State) : Runs 0 s (execGnssClockOk port s) := by
  unfold execGnssClockOk
  exact (.next (.via (State.put_keeps ..) rfl (.refl _ _)))

theorem snapGo_keeps (start : Option Int) (at_ : Nat) (s : State) : Keeps 1024 s (snapGo start at_ s) := by
  unfold snapGo
  lift_lets
  intro t0 t1 t2 t3 t4
  have h4 : Keeps 1024 s t4 := (.gnss (fun w => by exact w.gnss) rfl (.refl _ _))
  exact (.ite (.via (State.setFlag_keeps ..) rfl (.via (State.put_keeps ..) rfl (.refl _ _))) (.via (State.countWrap_keeps ..) rfl (.via (State.put_keeps ..) rfl h4)))

theorem execGoAt_keeps (at_ : Nat) (s : State) : Runs 66560 s (execGoAt at_ s) := by
  unfold execGoAt
  exact (.next (.hostDo rfl (.refl _ _) fun _ g0 => (.via (snapGo_keeps ..) rfl g0)))

theorem execGoNow_keeps (at_ : Nat) (s : State) : Runs 66560 s (execGoNow at_ s) := by
  unfold execGoNow
  exact (.next (.hostDo rfl (.refl _ _) fun _ g0 => (.via (snapGo_keeps ..) rfl g0)))

theorem gnssIntegrate_keeps (k : Nat) (m : TkMeas) (s : State) : Keeps 1024 s (gnssIntegrate k m s) := by
  unfold gnssIntegrate
  lift_lets
  intro t0
  have h0 : Keeps 1024 s t0 := (.via (gnssSetTk_keeps ..) rfl (.refl _ _))
  exact (.ite (.refl _ _) (.via (State.put_keeps ..) rfl h0))

theorem execIntegration_keeps (k : Fin 256) (m : TkMeas) (s : State) : Runs 1024 s (execIntegration k m s) := by
  unfold execIntegration
  exact (.next (.via (gnssIntegrate_keeps ..) rfl (.refl _ _)))

theorem execIntegrationLate_keeps (k : Fin 256) (at_ : Nat) (s : State) : Runs 1049600 s (execIntegrationLate k at_ s) := by
  unfold execIntegrationLate
  exact (.next (.via (State.deadline_keeps ..) rfl (.via (State.count_keeps ..) rfl (.via (State.setFlag_keeps ..) rfl (.via (gnssSetTk_keeps ..) rfl (.refl _ _))))))

theorem gnssObserve_keeps (at_ : Nat) (s : State) : Keeps 525320 s (gnssObserve at_ s) := by
  unfold gnssObserve
  lift_lets
  intro t0 t1 t2
  exact (.ite (.refl _ _) (.foldl _ (.refl _ _) fun _ _ g3 => (by
    lift_lets
    intro t4 t5
    have h5 : Keeps 525320 s t5 := (.onlyIf g3 fun _ g6 => (.via (State.freeNext_keeps ..) rfl g6))
    exact (.ite (.via (gnssSetTk_keeps ..) rfl (.via (hifPushOrDrop_keeps ..) rfl h5)) g3))))

theorem execObservableEpoch_keeps (at_ : Nat) (s : State) : Runs 525320 s (execObservableEpoch at_ s) := by
  unfold execObservableEpoch
  exact (.next (.via (gnssObserve_keeps ..) rfl (.refl _ _)))

theorem snapLayout_wf (l : List (List Byte)) (a : Nat) (m : Memory) (h : m.wf bar2Zero = true) :
    (snapLayout l a m).wf bar2Zero = true := by
  induction l generalizing a m with
  | nil => exact h
  | cons b bs ih => exact ih _ _ (memWrite_wf _ _ _ _ (memClear_wf _ _ _ _ h))

theorem snapEndCapture_keeps (s : State) : Keeps 1028 s (snapEndCapture s) := by
  unfold snapEndCapture
  split
  · exact (.via (State.setEvent_keeps ..) rfl (.via (State.put_keeps ..) rfl
      (.step (.refl _ _) (fun w => { w with bar2 := snapLayout_wf _ _ _ w.bar2 }) rfl
        fun p hp => by cases p <;> first | exact absurd hp (by decide) | rfl)))
  · exact .refl _ _

theorem gnssPfail_keeps (s : State) : Keeps 1028 s (gnssPfail s) := by
  unfold gnssPfail
  exact (.via (snapEndCapture_keeps ..) rfl (.refl _ _))

theorem execPositionCommit_keeps (sol : Fin 4) (z : BitVec 64) (s : State) : Runs 65536 s (execPositionCommit sol z s) := by
  unfold execPositionCommit
  exact (.next (.hostDo rfl (.refl _ _) fun _ g0 => (.via (gnssCommit_keeps ..) rfl g0)))

theorem execPullinLock_keeps (k : Fin 256) (s : State) : Runs 1024 s (execPullinLock k s) := by
  unfold execPullinLock
  exact (.next (gnssFrom_keeps rfl (.refl _ _) fun _ g0 => (.via (gnssEnter_keeps ..) rfl (.via (gnssSetTk_keeps ..) rfl g0))))

theorem execPullinTimeout_keeps (k : Fin 256) (s : State) : Runs 0 s (execPullinTimeout k s) := by
  unfold execPullinTimeout
  exact (.next (gnssFrom_keeps rfl (.refl _ _) fun _ g0 => (.via (gnssEnter_keeps ..) rfl g0)))

theorem execReacqLock_keeps (k : Fin 256) (s : State) : Runs 1024 s (execReacqLock k s) := by
  unfold execReacqLock
  exact (.next (gnssFrom_keeps rfl (.refl _ _) fun _ g0 => (.via (gnssEnter_keeps ..) rfl (.via (gnssSetTk_keeps ..) rfl g0))))

theorem execReacqTimeout_keeps (k : Fin 256) (s : State) : Runs 1024 s (execReacqTimeout k s) := by
  unfold execReacqTimeout
  exact (.next (gnssFrom_keeps rfl (.refl _ _) fun _ g0 => (.via (gnssGiveUp_keeps ..) rfl g0)))

theorem gnssCfgBad_keeps (s : State) : Keeps 0 s (gnssCfgBad s) := by
  unfold gnssCfgBad
  exact (.via (State.setFlag_keeps ..) rfl (.refl _ _))

theorem gnssPortCfg_keeps (n : Nat) (v : Word) (s : State) : Keeps 1032 s (gnssPortCfg n v s) := by
  unfold gnssPortCfg
  lift_lets
  intro t0 t1 t2
  have h2 : Keeps 1032 s t2 := (.via (xsWrite_keeps ..) rfl (.refl _ _))
  intro t3
  have h3 : Keeps 1032 s t3 := (.via (State.put_keeps ..) rfl h2)
  intro t4
  have h4 : Keeps 1032 s t4 := (.via (State.putB_keeps ..) rfl (.via (State.putB_keeps ..) rfl h3))
  intro t5
  have h5 : Keeps 1032 s t5 := (.via (State.putB_keeps ..) rfl h4)
  intro t6
  exact (.ite (.via (gnssCfgBad_keeps ..) rfl (.refl _ _)) (.ite (.via (gnssFreePort_keeps ..) rfl (.via (State.put_keeps ..) rfl h5)) (.ite (.via (gnssCfgBad_keeps ..) rfl h5) (.via (State.put_keeps ..) rfl h5))))

theorem gnssPortRate_keeps (n : Nat) (v : Word) (s : State) : Keeps 1032 s (gnssPortRate n v s) := by
  unfold gnssPortRate
  lift_lets
  intro t0 t1
  have h1 : Keeps 1032 s t1 := (.via (State.put_keeps ..) rfl (.via (xsWrite_keeps ..) rfl (.refl _ _)))
  exact (.ite (.via (gnssFreePort_keeps ..) rfl (.via (State.put_keeps ..) rfl (.via (gnssCfgBad_keeps ..) rfl h1))) h1)

theorem gnssJam_keeps (n : Nat) (s : State) : Keeps 0 s (gnssJam n s) := by
  unfold gnssJam
  exact (.onlyIf (.refl _ _) fun _ g0 => (.via (State.putB_keeps ..) rfl g0))

theorem gnssJamWrite_keeps (n : Nat) (v : Word) (s : State) : Keeps 0 s (gnssJamWrite n v s) := by
  unfold gnssJamWrite
  exact (.via (gnssJam_keeps ..) rfl (.via (State.put_keeps ..) rfl (.refl _ _)))

theorem gnssUnhold_keeps (n : Nat) (s : State) : Keeps 1024 s (gnssUnhold n s) := by
  unfold gnssUnhold
  exact (.via (gnssFitReset_keeps ..) rfl (.via (gnssSetSol_keeps ..) rfl (.via (State.put_keeps ..) rfl (.refl _ _))))

theorem gnssMark_keeps (n : Nat) (gs kept : List Sig) (group : List Con) (s : State) :
    Keeps 1024 s (gnssMark n gs kept group s) := by
  unfold gnssMark
  exact (.foldl _ (.refl _ _) fun _ _ g0 => (by
    lift_lets
    intro t1 t2 t3
    exact (.ite (.via (State.putB_keeps ..) rfl (.via (gnssSetTk_keeps ..) rfl g0)) g0)))

theorem gnssSolCfg_keeps (n : Nat) (v : Word) (s : State) : Keeps 1088 s (gnssSolCfg n v s) := by
  unfold gnssSolCfg
  lift_lets
  intro t0 t1 t2
  have h2 : Keeps 1088 s t2 := (.onlyIf (.refl _ _) fun _ g3 => (.via (gnssCfgBad_keeps ..) rfl g3))
  intro t4 t5
  have h5 : Keeps 1088 s t5 := (.via (State.putB_keeps ..) rfl (.via (State.put_keeps ..) rfl h2))
  intro t6
  have h6 : Keeps 1088 s t6 := (.via (State.putB_keeps ..) rfl (.via (State.putB_keeps ..) rfl h5))
  intro t7
  have h7 : Keeps 1088 s t7 := (.via (State.put_keeps ..) rfl h6)
  intro t8
  have h8 : Keeps 1088 s t8 := (.onlyIf h7 fun _ g9 => (.via (gnssUnhold_keeps ..) rfl g9))
  intro t10
  have h10 : Keeps 1088 s t10 := (.onlyIf h8 fun _ g11 => (.via (gnssFitReset_keeps ..) rfl g11))
  exact (.onlyIf h10 fun _ g12 => (.via (gnssMark_keeps ..) rfl (rgsForSource_keeps rfl g12 fun _ _ g13 => (.via (rgsSignal_keeps ..) rfl g13))))

theorem gnssRelease_keeps (k : Nat) (s : State) : Keeps 1024 s (gnssRelease k s) := by
  unfold gnssRelease
  exact (.via (gnssFree_keeps ..) rfl (.via (State.put_keeps ..) rfl (.refl _ _)))

theorem gnssPlace_keeps (k port sys sv sig : Nat) (s : State) : Keeps 1024 s (gnssPlace k port sys sv sig s) := by
  unfold gnssPlace
  lift_lets
  intro t0
  have h0 : Keeps 1024 s t0 := (.via (State.put_keeps ..) rfl (.via (State.put_keeps ..) rfl (.via (State.put_keeps ..) rfl (.refl _ _))))
  exact (.via (gnssEnter_keeps ..) rfl (.via (gnssClear_keeps ..) rfl (.via (State.put_keeps ..) rfl h0)))

theorem gnssPin_keeps (k port sys sv sig : Nat) (s : State) : Keeps 1024 s (gnssPin k port sys sv sig s) := by
  unfold gnssPin
  lift_lets
  intro t0
  exact (.ite (.via (gnssCfgBad_keeps ..) rfl (.refl _ _)) (.via (State.put_keeps ..) rfl (.via (gnssPlace_keeps ..) rfl (.refl _ _))))

theorem gnssTkCmd_keeps (k : Nat) (v : Word) (s : State) : Keeps 1024 s (gnssTkCmd k v s) := by
  unfold gnssTkCmd
  exact (.ite (.via (gnssRelease_keeps ..) rfl (.refl _ _)) (.ite (.via (gnssPin_keeps ..) rfl (.refl _ _)) (.refl _ _)))

theorem snapCtrl_keeps (v : Word) (at_ : Nat) (s : State) : Keeps 1028 s (snapCtrl v at_ s) := by
  unfold snapCtrl
  lift_lets
  intro t0
  have h0 : Keeps 1028 s t0 := (.onlyIf (.refl _ _) fun _ g1 => (.via (snapEndCapture_keeps ..) rfl g1))
  exact (.ite (.via (snapGo_keeps ..) rfl h0) (.ite (.via (snapGo_keeps ..) rfl h0) h0))

theorem execResurvey_keeps (sol : Fin 4) (s : State) : Runs 66560 s (execResurvey sol s) := by
  unfold execResurvey
  exact (.next (.hostDo rfl (.refl _ _) fun _ g0 => (.via (gnssUnhold_keeps ..) rfl g0)))

theorem gnssNoise_keeps (n : Nat) (samples : List Byte) (dt : Int) (s : State) : Keeps 1024 s (gnssNoise n samples dt s) := by
  unfold gnssNoise
  lift_lets
  intro t0 t1
  exact (.ite (.refl _ _) (.ite (.via (gnssSetPort_keeps ..) rfl (.refl _ _)) (.via (gnssJam_keeps ..) rfl (.via (State.put_keeps ..) rfl (.refl _ _)))))

theorem gnssCompare_keeps (n : Nat) (samples : List Byte) (at_ : Nat) (s : State) :
    Keeps 1032 s (gnssCompare n samples at_ s) := by
  unfold gnssCompare
  lift_lets
  intro t0
  exact (.ite (.refl _ _) (.cross rfl (.refl _ _) fun _ g1 => (by
    lift_lets
    intro t2
    exact (by
      split
      · exact (.via (gnssSetPort_keeps ..) rfl g1)
      · lift_lets
        intro t3 t4
        have h4 : Keeps 1032 s t4 := (.via (gnssSetPort_keeps ..) rfl g1)
        intro t5 t6
        have h6 : Keeps 1032 s t6 := (.via (gnssNoise_keeps ..) rfl h4)
        exact (.ite (.ite (.via (gnssClockFault_keeps ..) rfl h4) h4) (by
          split
          · exact (.ite (.via (snapMap_keeps ..) rfl h6) h6)
          · exact h6))))))

theorem execSampleClockCompare_keeps (port : Fin 4) (samples : List Byte) (at_ : Nat) (s : State) :
    Runs 1032 s (execSampleClockCompare port samples at_ s) := by
  unfold execSampleClockCompare
  exact (.next (.via (gnssCompare_keeps ..) rfl (.refl _ _)))

theorem execSatelliteSet_keeps (k : Fin 256) (s : State) : Runs 1024 s (execSatelliteSet k s) := by
  unfold execSatelliteSet
  exact (.next (.ite (.refl _ _) (gnssFrom_keeps rfl (.refl _ _) fun _ g0 => (.via (gnssFree_keeps ..) rfl g0))))

theorem execSignalFound_keeps (k : Fin 256) (s : State) : Runs 0 s (execSignalFound k s) := by
  unfold execSignalFound
  exact (.next (gnssFrom_keeps rfl (.refl _ _) fun _ g0 => (.via (gnssEnter_keeps ..) rfl g0)))

theorem execSnapshotAbort_keeps (s : State) : Runs 66564 s (execSnapshotAbort s) := by
  unfold execSnapshotAbort
  exact (.next (.hostDo rfl (.refl _ _) fun _ g0 => (.via (snapEndCapture_keeps ..) rfl g0)))

theorem execSnapshotDone_keeps (s : State) : Runs 1028 s (execSnapshotDone s) := by
  unfold execSnapshotDone
  exact (.next (.ite (.via (snapEndCapture_keeps ..) rfl (.refl _ _)) (.refl _ _)))

theorem execSnapshotStart_keeps (at_ : Nat) (s : State) : Runs 1024 s (execSnapshotStart at_ s) := by
  unfold execSnapshotStart
  lift_lets
  intro t0
  exact (.next (by
    split
    · exact (.ite (.gnss (fun w => by exact w.gnss) rfl (.refl _ _)) (.refl _ _))
    · exact (.refl _ _)))

theorem gnssSolFlag_keeps (n : Nat) (f : Fld) (s : State) : Keeps 0 s (gnssSolFlag n f s) := by
  unfold gnssSolFlag
  exact (.via (State.setFlag_keeps ..) rfl (.refl _ _))

theorem gnssClkRef_keeps (n : Nat) (s : State) : Keeps 1024 s (gnssClkRef n s) := by
  unfold gnssClkRef
  lift_lets
  intro t0 t1
  have h1 : Keeps 1024 s t1 := (.ite (.refl _ _) (.via (gnssFitReset_keeps ..) rfl (.refl _ _)))
  exact (.via (State.putB_keeps ..) rfl h1)

theorem gnssTkExcl_keeps (k : Nat) (e : Option (Excl × Nat)) (s : State) : Keeps 1024 s (gnssTkExcl k e s) := by
  unfold gnssTkExcl
  exact (.via (State.putB_keeps ..) rfl (.via (gnssSetTk_keeps ..) rfl (.refl _ _)))

theorem gnssTestSig_keeps (n : Nat) (kind : Excl) (flag : Fld) (fails : Sig → Bool) (s : State) (g : Sig) :
    Keeps 1024 s (gnssTestSig n kind flag fails s g) := by
  unfold gnssTestSig
  exact (by
    split
    · exact (.ite (.via (gnssSolFlag_keeps ..) rfl (.via (State.count_keeps ..) rfl (.via (gnssTkExcl_keeps ..) rfl (.refl _ _)))) (.refl _ _))
    · exact (.ite (.refl _ _) (.ite (.via (gnssTkExcl_keeps ..) rfl (.refl _ _)) (.ite (.via (gnssTkExcl_keeps ..) rfl (.refl _ _)) (.via (gnssTkExcl_keeps ..) rfl (.refl _ _))))))

theorem gnssMedianTest_keeps (n : Nat) (gs : List Sig) (s : State) : Keeps 1024 s (gnssMedianTest n gs s) := by
  unfold gnssMedianTest
  lift_lets
  intro t0
  exact (.foldl _ (.refl _ _) fun _ _ g1 => (by
    lift_lets
    intro t2 t3 t4
    exact (.ite g1 (.foldl _ g1 fun _ _ g5 => (.via (gnssTestSig_keeps ..) rfl g5)))))

theorem gnssVerdict_keeps (n v : Nat) (x : Int) (s : State) : Keeps 64 s (gnssVerdict n v x s) := by
  unfold gnssVerdict
  lift_lets
  intro t0
  have h0 : Keeps 64 s t0 := (.ite (.refl _ _) (.via (State.setEvent_keeps ..) rfl (.via (State.put_keeps ..) rfl (.refl _ _))))
  intro t1
  have h1 : Keeps 64 s t1 := (rgsForSource_keeps rfl h0 fun _ _ g2 => (.via (rgsMessage_keeps ..) rfl g2))
  exact (.ite (rgsForSource_keeps rfl (.via (State.putS_keeps ..) rfl h1) fun _ _ g3 => (.via (rgsSample_keeps ..) rfl g3)) (rgsForSource_keeps rfl h1 fun _ _ g4 => (.via (rgsSignal_keeps ..) rfl g4)))

theorem gnssUse_keeps (n : Nat) (sec : Int) (gs kept : List Sig) (group : List Con) (s : State) :
    Keeps 1024 s (gnssUse n sec gs kept group s) := by
  unfold gnssUse
  lift_lets
  intro t0
  have h0 : Keeps 1024 s t0 := (.via (State.put_keeps ..) rfl (.refl _ _))
  intro t1
  have h1 : Keeps 1024 s t1 := (.via (State.put_keeps ..) rfl h0)
  exact (.foldl _ (.via (gnssMark_keeps ..) rfl h1) fun _ _ g2 => (.via (gnssSetSol_keeps ..) rfl g2))

theorem gnssSurveyDone_keeps (n : Nat) (s : State) : Keeps 0 s (gnssSurveyDone n s) := by
  unfold gnssSurveyDone
  lift_lets
  intro t0 t1
  have f1 : ∀ x0 x1 a, Keeps 0 s a → Keeps 0 s (t1 x0 x1 a) := by
    intro _ _ a g2
    unfold t1
    exact (.via (State.putS_keeps ..) rfl g2)
  intro t3
  have h3 : Keeps 0 s t3 := (f1 _ _ _ (f1 _ _ _ (f1 _ _ _ (.refl _ _))))
  exact (.ite (.refl _ _) (.via (gnssSolFlag_keeps ..) rfl (.via (State.put_keeps ..) rfl h3)))

theorem gnssSurvey_keeps (n : Nat) (fix : Int × Int × Int) (s : State) : Keeps 1024 s (gnssSurvey n fix s) := by
  unfold gnssSurvey
  lift_lets
  intro t0
  have h0 : Keeps 1024 s t0 := (.via (gnssSetSol_keeps ..) rfl (.refl _ _))
  exact (.ite (.via (gnssSurveyDone_keeps ..) rfl h0) h0)

theorem gnssConExcl_keeps (n k : Nat) (e : Option (Excl × Nat)) (s : State) : Keeps 1024 s (gnssConExcl n k e s) := by
  unfold gnssConExcl
  exact (.via (State.putB_keeps ..) rfl (.via (gnssSetSol_keeps ..) rfl (.refl _ _)))

theorem gnssExclude_keeps (n k : Nat) (kind : Excl) (s : State) : Keeps 1024 s (gnssExclude n k kind s) := by
  unfold gnssExclude
  lift_lets
  intro t0
  exact (.via (gnssSolFlag_keeps ..) rfl (.via (State.count_keeps ..) rfl (.via (gnssConExcl_keeps ..) rfl (.refl _ _))))

theorem gnssClockTest_keeps (n : Nat) (tol : Int) (s : State) (c : Con) : Keeps 1024 s (gnssClockTest n tol s c) := by
  unfold gnssClockTest
  exact (by
    split
    · exact (.onlyIf (.refl _ _) fun _ g0 => (.via (gnssExclude_keeps ..) rfl g0))
    · exact (.via (gnssConExcl_keeps ..) rfl (.refl _ _))
    · exact (.refl _ _))

theorem gnssRejoin_keeps (n : Nat) (tol sys : Int) (part : List Con) (s : State) (c : Con) :
    Keeps 1024 s (gnssRejoin n tol sys part s c) := by
  unfold gnssRejoin
  lift_lets
  intro t0
  exact (by
    split
    · exact (.refl _ _)
    · exact (.onlyIf (.refl _ _) fun _ g1 => (.via (gnssConExcl_keeps ..) rfl g1))
    · exact (.ite (.via (gnssConExcl_keeps ..) rfl (.refl _ _)) (.ite (.via (gnssConExcl_keeps ..) rfl (.refl _ _)) (.ite (.via (gnssExclude_keeps ..) rfl (.refl _ _)) (.via (gnssConExcl_keeps ..) rfl (.refl _ _))))))

theorem gnssJudge_keeps (n : Nat) (sec : Int) (gs kept : List Sig) (xclk : Int) (s : State) :
    Keeps 1088 s (gnssJudge n sec gs kept xclk s) := by
  unfold gnssJudge
  lift_lets
  intro t0 t1 t2 t3 t4
  have h4 : Keeps 1088 s t4 := by
    unfold t4
    exact (.foldl _ (.refl _ _) fun _ _ g5 => (by
      split
      · exact (.via (State.putS_keeps ..) rfl g5)
      · exact g5))
  intro t6
  have h6 : Keeps 1088 s t6 := (.via (State.putB_keeps ..) rfl h4)
  intro t7 t8
  have h8 : Keeps 1088 s t8 := (.foldl _ h6 fun _ _ g9 => (.via (gnssClockTest_keeps ..) rfl g9))
  intro t10 t11
  have h11 : Keeps 1088 s t11 := (.foldl _ h8 fun _ _ g12 => (.via (gnssRejoin_keeps ..) rfl g12))
  intro t13 t14 t15 t16
  have h16 : Keeps 1088 s t16 := (.foldl _ h11 fun _ _ g17 => (.ite g17 (.via (gnssExclude_keeps ..) rfl g17)))
  intro t18
  have h18 : Keeps 1088 s t18 := (.via (gnssUse_keeps ..) rfl h16)
  intro t19 t20 t21
  exact (.via (gnssVerdict_keeps ..) rfl h18)

theorem gnssSolve_keeps (n : Nat) (sigs : List SigEst) (leap : Option Int) (fix : Int × Int × Int) (at_ : Nat) (s : State) :
    Keeps 1088 s (gnssSolve n sigs leap fix at_ s) := by
  unfold gnssSolve
  lift_lets
  intro t0 t1 t2 t3 t4
  have h4 : Keeps 1088 s t4 := (.onlyIf (.refl _ _) fun _ g5 => (.via (gnssSolFlag_keeps ..) rfl g5))
  intro t6
  have h6 : Keeps 1088 s t6 := (.onlyIf h4 fun _ g7 => (.via (gnssSolFlag_keeps ..) rfl g7))
  intro t8 t9
  have h9 : Keeps 1088 s t9 := (.via (gnssClkRef_keeps ..) rfl h6)
  intro t10 t11
  have h11 : Keeps 1088 s t11 := (.foldl _ h9 fun _ _ g12 => (.via (gnssTestSig_keeps ..) rfl g12))
  intro t13 t14
  have h14 : Keeps 1088 s t14 := (.via (gnssMedianTest_keeps ..) rfl h11)
  intro t15 t16
  have h16 : Keeps 1088 s t16 := (.via (gnssUse_keeps ..) rfl h14)
  intro t17
  have h17 : Keeps 1088 s t17 := (.ite (.via (gnssSurvey_keeps ..) rfl h16) h16)
  exact (.ite (.refl _ _) (.ite (.via (gnssVerdict_keeps ..) rfl (.via (gnssUse_keeps ..) rfl h14)) (.ite (.via (gnssVerdict_keeps ..) rfl h17) (.via (gnssJudge_keeps ..) rfl h14))))

theorem execSolutionEpoch_keeps (sol : Fin 4) (sigs : List SigEst) (leap : Option Int) (fix : Int × Int × Int) (at_ : Nat) (s : State) :
    Runs 1088 s (execSolutionEpoch sol sigs leap fix at_ s) := by
  unfold execSolutionEpoch
  exact (.next (.via (gnssSolve_keeps ..) rfl (.refl _ _)))

theorem gnssStep_keeps (move : Int) (s : State) : Keeps 1024 s (gnssStep move s) := by
  unfold gnssStep
  lift_lets
  intro t0 t1
  exact (.gnss (fun w => by exact ⟨w.gnss.1, (List.length_map ..).trans w.gnss.2.1, (List.length_map ..).trans w.gnss.2.2⟩) rfl (.refl _ _))

theorem execSurveyDone_keeps (sol : Fin 4) (s : State) : Runs 0 s (execSurveyDone sol s) := by
  unfold execSurveyDone
  exact (.next (.via (gnssSurveyDone_keeps ..) rfl (.refl _ _)))

theorem gnssTurn_keeps (c : TrackCand) (s : State) : Keeps 1024 s (gnssTurn c s) := by
  unfold gnssTurn
  exact (.onlyIf (.refl _ _) fun _ g0 => (.via (gnssSetPort_keeps ..) rfl g0))

theorem gnssAllocate_keeps (cands : List TrackCand) (s : State) : Keeps 1024 s (gnssAllocate cands s) := by
  unfold gnssAllocate
  exact (.foldl _ (.refl _ _) fun _ _ g0 => (by
    split
    · exact (.ite (.via (gnssTurn_keeps ..) rfl (.via (gnssPlace_keeps ..) rfl g0)) g0)
    · exact g0))

theorem execTrackAllocation_keeps (cands : List TrackCand) (s : State) : Runs 1024 s (execTrackAllocation cands s) := by
  unfold execTrackAllocation
  exact (.next (.ite (.via (gnssAllocate_keeps ..) rfl (.refl _ _)) (.refl _ _)))

theorem execTrackLoss_keeps (k : Fin 256) (s : State) : Runs 0 s (execTrackLoss k s) := by
  unfold execTrackLoss
  exact (.next (gnssFrom_keeps rfl (.refl _ _) fun _ g0 => (.via (gnssEnter_keeps ..) rfl g0)))

theorem execTrackPin_keeps (k : Fin 256) (v : Word) (s : State) : Runs 66560 s (execTrackPin k v s) := by
  unfold execTrackPin
  exact (.next (.hostDo rfl (.refl _ _) fun _ g0 => (.via (gnssPin_keeps ..) rfl g0)))

theorem execTrackRelease_keeps (k : Fin 256) (s : State) : Runs 66560 s (execTrackRelease k s) := by
  unfold execTrackRelease
  exact (.next (.hostDo rfl (.refl _ _) fun _ g0 => (.via (gnssRelease_keeps ..) rfl g0)))

end Sys2Proof.Machine
end

