-- ==== Sys2Proof/Laws/KeepsLinks.lean ====
section
/-! SUPPORT. What the operations of Links.lean keep: the form of the state, the queue, and the parts outside their mask. -/

namespace Sys2Proof.Machine

theorem lkSet_keeps (n : Nat) (f : LkLink → LkLink) (s : State) : Keeps 131072 s (lkSet n f s) := by
  unfold lkSet
  lift_lets
  intro t0
  exact (.lnk (fun w => by exact (List.length_modify ..).trans w.lnk) rfl (.refl _ _))

theorem lkClearPath_keeps (n : Nat) (s : State) : Keeps 131072 s (lkClearPath n s) := by
  unfold lkClearPath
  lift_lets
  intro t0
  have h0 : Keeps 131072 s t0 := (.via (lkSet_keeps ..) rfl (.refl _ _))
  exact (.via (State.put_keeps ..) rfl (.via (State.putS_keeps ..) rfl h0))

theorem lkForget_keeps (n : Nat) (s : State) : Keeps 131072 s (lkForget n s) := by
  unfold lkForget
  exact (.via (lkSet_keeps ..) rfl (.refl _ _))

theorem lnkFlag_keeps (f : Fld) (s : State) : Keeps 0 s (lnkFlag f s) := by
  unfold lnkFlag
  exact (.via (State.setFlag_keeps ..) rfl (.refl _ _))

theorem lnkReleased_keeps (id : Nat) (part : Bool) (s : State) : Keeps 131072 s (lnkReleased id part s) := by
  unfold lnkReleased
  lift_lets
  intro t0 t1
  have h1 : Keeps 131072 s t1 := (.lnk (fun w => by exact (List.length_map ..).trans w.lnk) rfl (.refl _ _))
  intro t2
  have h2 : Keeps 131072 s t2 := (.via (State.put_keeps ..) rfl (.via (State.put_keeps ..) rfl h1))
  exact (.via (lnkFlag_keeps ..) rfl (.onlyIf h2 fun _ g3 => (.via (lnkFlag_keeps ..) rfl g3)))

theorem lkSend_keeps (n : Nat) (c : Control) (s : State) : Keeps 8 s (lkSend n c s) := by
  unfold lkSend
  exact (.cross rfl (.refl _ _) fun _ g0 => (.via (State.emit_keeps ..) rfl (.via (State.emit_keeps ..) rfl g0)))

theorem lnkSendAll_keeps (role : Nat) (c : Control) (s : State) : Keeps 8 s (lnkSendAll role c s) := by
  unfold lnkSendAll
  exact (.foldl _ (.refl _ _) fun _ _ g0 => (.via (lkSend_keeps ..) rfl g0))

theorem lnkNextSeq_keeps (s : State) : Keeps 131072 s (lnkNextSeq s) := by
  unfold lnkNextSeq
  lift_lets
  intro t0
  exact (.lnk (fun w => by exact w.lnk) rfl (.refl _ _))

theorem lnkRelease_keeps (id : Nat) (part : Bool) (s : State) : Keeps 131080 s (lnkRelease id part s) := by
  unfold lnkRelease
  lift_lets
  intro t0
  exact (.via (lnkReleased_keeps ..) rfl (.via (lnkSendAll_keeps ..) rfl (.via (lnkNextSeq_keeps ..) rfl (.refl _ _))))

theorem lnkSendUp_keeps (c : Control) (s : State) : Keeps 8 s (lnkSendUp c s) := by
  unfold lnkSendUp
  exact (.foldl _ (.refl _ _) fun _ _ g0 => (.via (lkSend_keeps ..) rfl g0))

theorem lnkBarrier_keeps (s : State) : Keeps 131080 s (lnkBarrier s) := by
  unfold lnkBarrier
  lift_lets
  intro t0
  exact (by
    split
    · lift_lets
      intro t1
      exact (.ite (.refl _ _) (.ite (.via (lnkRelease_keeps ..) rfl (.refl _ _)) (.ite (.refl _ _) (.via (lnkSendUp_keeps ..) rfl (.lnk (fun w => by exact w.lnk) rfl (.refl _ _))))))
    · exact (.refl _ _))

theorem lnkLeaves_keeps (n : Nat) (s : State) : Keeps 131080 s (lnkLeaves n s) := by
  unfold lnkLeaves
  lift_lets
  intro t0
  exact (.via (lnkBarrier_keeps ..) rfl (.lnk (fun w => by exact w.lnk) rfl (.refl _ _)))

theorem lkEnter_keeps (n st : Nat) (s : State) : Keeps 131144 s (lkEnter n st s) := by
  unfold lkEnter
  lift_lets
  intro t0 t1
  have h1 : Keeps 131144 s t1 := (.via (State.put_keeps ..) rfl (.refl _ _))
  exact (.ite (.via (lnkLeaves_keeps ..) rfl (rgsForSource_keeps rfl h1 fun _ _ g2 => (.via (rgsSignal_keeps ..) rfl g2))) h1)

theorem lkDown_keeps (n : Nat) (s : State) : Keeps 131160 s (lkDown n s) := by
  unfold lkDown
  exact (.via (lkClearPath_keeps ..) rfl (.via (lkForget_keeps ..) rfl (.via (tbRepOff_keeps ..) rfl (.via (lkEnter_keeps ..) rfl (.refl _ _)))))

theorem lkLock_keeps (n : Nat) (s : State) : Keeps 131160 s (lkLock n s) := by
  unfold lkLock
  exact (.ite (.via (tbRepStart_keeps ..) rfl (.via (lkEnter_keeps ..) rfl (.refl _ _))) (.refl _ _))

theorem lnkGlobal_keeps (s : State) : Keeps 131160 s (lnkGlobal s) := by
  unfold lnkGlobal
  exact (.foldl _ (.refl _ _) fun _ _ g0 => (.ite (.via (lkLock_keeps ..) rfl g0) (.via (lkDown_keeps ..) rfl g0)))

theorem lkEnable_keeps (n : Nat) (en : Bool) (s : State) : Keeps 131160 s (lkEnable n en s) := by
  unfold lkEnable
  lift_lets
  intro t0
  have h0 : Keeps 131160 s t0 := (.via (State.putB_keeps ..) rfl (.via (xsWrite_keeps ..) rfl (.refl _ _)))
  exact (.ite (.via (lkLock_keeps ..) rfl h0) (.via (lkDown_keeps ..) rfl h0))

theorem lnkArrive_keeps (id : Nat) (s : State) : Keeps 131080 s (lnkArrive id s) := by
  unfold lnkArrive
  lift_lets
  intro t0 t1
  exact (.ite (.via (lnkFlag_keeps ..) rfl (.refl _ _)) (.via (lnkBarrier_keeps ..) rfl (.via (State.put_keeps ..) rfl (.lnk (fun w => by exact w.lnk) rfl (.refl _ _)))))

theorem execBarrierArrive_keeps (id : BitVec 8) (s : State) : Runs 196616 s (execBarrierArrive id s) := by
  unfold execBarrierArrive
  exact (.next (.hostDo rfl (.refl _ _) fun _ g0 => (.via (lnkArrive_keeps ..) rfl g0)))

theorem execBarrierTimeout_keeps (s : State) : Runs 131080 s (execBarrierTimeout s) := by
  unfold execBarrierTimeout
  exact (.next (by
    split
    · exact (.ite (.via (lnkRelease_keeps ..) rfl (.refl _ _)) (.refl _ _))
    · exact (.refl _ _)))

theorem lnkPop_keeps (s : State) : Keeps 131072 s (lnkPop s) := by
  unfold lnkPop
  lift_lets
  intro t0
  exact (by
    split
    · lift_lets
      intro t1
      have h1 : Keeps 131072 s t1 := (.lnk (fun w => by exact w.lnk) rfl (.refl _ _))
      intro t2
      have h2 : Keeps 131072 s t2 := (.via (State.put_keeps ..) rfl h1)
      exact (.foldl _ h2 fun _ _ g3 => (.via (State.setReg_keeps ..) rfl g3))
    · exact (.refl _ _))

theorem execBcPop_keeps (s : State) : Runs 131080 s (execBcPop s) := by
  unfold execBcPop
  exact (.next (.hostPop rfl (.refl _ _) fun _ g0 => (by
    lift_lets
    intro t1
    have h1 : Keeps 131080 s t1 := (.via (lnkPop_keeps ..) rfl g0)
    intro t2
    exact (.sys rfl h1))))

theorem lnkMail_keeps (c : Control) (s : State) : Keeps 131072 s (lnkMail c s) := by
  unfold lnkMail
  lift_lets
  intro t0 t1
  have h1 : Keeps 131072 s t1 := (.lnk (fun w => by exact w.lnk) rfl (.refl _ _))
  exact (.ite (.via (State.setEvent_keeps ..) rfl (.via (State.put_keeps ..) rfl h1)) (.via (lnkFlag_keeps ..) rfl (.via (State.count_keeps ..) rfl (.refl _ _))))

theorem lnkBroadcast_keeps (c : Control) (s : State) : Keeps 131072 s (lnkBroadcast c s) := by
  unfold lnkBroadcast
  lift_lets
  intro t0
  have h0 : Keeps 131072 s t0 := (.onlyIf (.refl _ _) fun _ g1 => (.via (State.put_keeps ..) rfl g1))
  exact (.onlyIf h0 fun _ g2 => (.via (lnkMail_keeps ..) rfl g2))

theorem lnkRootBroadcast_keeps (c : Control) (s : State) : Keeps 131080 s (lnkRootBroadcast c s) := by
  unfold lnkRootBroadcast
  lift_lets
  intro t0
  exact (.via (lnkBroadcast_keeps ..) rfl (.via (lnkSendAll_keeps ..) rfl (.via (lnkNextSeq_keeps ..) rfl (.refl _ _))))

theorem lnkBcSend_keeps (s : State) : Keeps 131080 s (lnkBcSend s) := by
  unfold lnkBcSend
  lift_lets
  intro t0 t1
  exact (.ite (.refl _ _) (.ite (.via (lnkRootBroadcast_keeps ..) rfl (.refl _ _)) (.via (lnkSendUp_keeps ..) rfl (.via (State.put_keeps ..) rfl (.refl _ _)))))

theorem execBcSend_keeps (s : State) : Runs 196616 s (execBcSend s) := by
  unfold execBcSend
  exact (.next (.hostDo rfl (.refl _ _) fun _ g0 => (.via (lnkBcSend_keeps ..) rfl g0)))

theorem lkFlag_keeps (n : Nat) (f : Fld) (s : State) : Keeps 0 s (lkFlag n f s) := by
  unfold lkFlag
  exact (.via (State.setFlag_keeps ..) rfl (.refl _ _))

theorem ttoRefresh_keeps (s : State) : Keeps 0 s (ttoRefresh s) := by
  unfold ttoRefresh
  exact (.via (State.put_keeps ..) rfl (.refl _ _))

theorem ttoTake_keeps (c : Control) (now : Int) (s : State) : Keeps 131080 s (ttoTake c now s) := by
  unfold ttoTake
  lift_lets
  intro t0 t1
  have h1 : Keeps 131080 s t1 := (.via (lnkFlag_keeps ..) rfl (.refl _ _))
  intro t2
  exact (.ite (.ite (.via (State.count_keeps ..) rfl h1) (.via (lnkSendUp_keeps ..) rfl h1)) (.via (ttoRefresh_keeps ..) rfl (.lnk (fun w => by exact w.lnk) rfl (.refl _ _))))

theorem lnkFromUp_keeps (c : Control) (now : Int) (s : State) : Keeps 131080 s (lnkFromUp c now s) := by
  unfold lnkFromUp
  lift_lets
  intro t0
  have h0 : Keeps 131080 s t0 := (.via (lnkSendAll_keeps ..) rfl (.refl _ _))
  exact (by
    split
    · exact (.via (lnkBroadcast_keeps ..) rfl (.via (lnkSendAll_keeps ..) rfl (.refl _ _)))
    · exact (.via (lnkReleased_keeps ..) rfl (.via (lnkSendAll_keeps ..) rfl (.refl _ _)))
    · exact (.ite (.via (ttoTake_keeps ..) rfl h0) h0)
    · exact (.refl _ _))

theorem lnkFromDown_keeps (n : Nat) (c : Control) (s : State) : Keeps 131080 s (lnkFromDown n c s) := by
  unfold lnkFromDown
  exact (by
    split
    · exact (.ite (.via (lnkRootBroadcast_keeps ..) rfl (.refl _ _)) (.via (lnkSendUp_keeps ..) rfl (.refl _ _)))
    · exact (.via (lnkBarrier_keeps ..) rfl (.via (lkSet_keeps ..) rfl (.refl _ _)))
    · exact (.ite (.via (State.count_keeps ..) rfl (.refl _ _)) (.via (lnkSendUp_keeps ..) rfl (.refl _ _)))
    · exact (.refl _ _))

theorem lnkControl_keeps (n : Nat) (first second : List Byte) (at_ : Nat) (s : State) :
    Keeps 131080 s (lnkControl n first second at_ s) := by
  unfold lnkControl
  lift_lets
  intro t0 t1
  have h1 : Keeps 131080 s t1 := (.ite (.refl _ _) (.via (State.count_keeps ..) rfl (.refl _ _)))
  intro t2
  exact (.ite (.refl _ _) (.ite (.via (lkFlag_keeps ..) rfl h1) (.ite (.via (lnkFromUp_keeps ..) rfl h1) (.via (lnkFromDown_keeps ..) rfl h1))))

theorem execControlFrame_keeps (n : Fin 8) (first second : List Byte) (at_ : Nat) (s : State) :
    Runs 131080 s (execControlFrame n first second at_ s) := by
  unfold execControlFrame
  exact (.next (.via (lnkControl_keeps ..) rfl (.refl _ _)))

theorem execLinkBlockLock_keeps (n : Fin 8) (s : State) : Runs 131160 s (execLinkBlockLock n s) := by
  unfold execLinkBlockLock
  exact (.next (.via (lkLock_keeps ..) rfl (.via (lkSet_keeps ..) rfl (.refl _ _))))

theorem execLinkEnable_keeps (n : Fin 8) (en : Bool) (s : State) : Runs 196696 s (execLinkEnable n en s) := by
  unfold execLinkEnable
  exact (.next (.hostDo rfl (.refl _ _) fun _ g0 => (.via (lkEnable_keeps ..) rfl g0)))

theorem lkLost_keeps (n : Nat) (s : State) : Keeps 131160 s (lkLost n s) := by
  unfold lkLost
  lift_lets
  intro t0
  have h0 : Keeps 131160 s t0 := (.via (lkSet_keeps ..) rfl (.refl _ _))
  exact (.ite h0 (.via (lkFlag_keeps ..) rfl (.via (State.count_keeps ..) rfl (.via (lkForget_keeps ..) rfl (.via (tbRepOff_keeps ..) rfl (.via (lkEnter_keeps ..) rfl h0))))))

theorem execLinkLockLost_keeps (n : Fin 8) (s : State) : Runs 131160 s (execLinkLockLost n s) := by
  unfold execLinkLockLost
  exact (.next (.via (lkLost_keeps ..) rfl (.refl _ _)))

theorem lkPeer_keeps (n addr role : Nat) (s : State) : Keeps 131144 s (lkPeer n addr role s) := by
  unfold lkPeer
  exact (.ite (.refl _ _) (.ite (.via (lkEnter_keeps ..) rfl (.refl _ _)) (.via (lkFlag_keeps ..) rfl (.via (lkClearPath_keeps ..) rfl (.via (lkEnter_keeps ..) rfl (.refl _ _))))))

theorem execLinkPeerCheck_keeps (n : Fin 8) (addr : BitVec 12) (role : Fin 4) (s : State) :
    Runs 131144 s (execLinkPeerCheck n addr role s) := by
  unfold execLinkPeerCheck
  exact (.next (.via (lkPeer_keeps ..) rfl (.refl _ _)))

theorem lkReaccept_keeps (n : Nat) (s : State) : Keeps 131152 s (lkReaccept n s) := by
  unfold lkReaccept
  lift_lets
  intro t0
  have h0 : Keeps 131152 s t0 := (.via (lkSet_keeps ..) rfl (.via (State.put_keeps ..) rfl (.via (State.putS_keeps ..) rfl (.refl _ _))))
  exact (rgsForSource_keeps rfl (.via (lkFlag_keeps ..) rfl h0) fun _ _ g1 => (.via (rgsPathOk_keeps ..) rfl g1))

theorem lkAsymFix_keeps (n : Nat) (s : State) : Keeps 0 s (lkAsymFix n s) := by
  unfold lkAsymFix
  lift_lets
  intro t0 t1 t2
  exact (.via (State.freeNext_keeps ..) rfl (.via (State.putS_keeps ..) rfl (.refl _ _)))

theorem lkHeld_keeps (n : Nat) (s : State) : Keeps 131152 s (lkHeld n s) := by
  unfold lkHeld
  exact (.via (lkReaccept_keeps ..) rfl (.via (lkAsymFix_keeps ..) rfl (.refl _ _)))

theorem lkCommand_keeps (n : Nat) (raw held : Bool) (s : State) : Keeps 131152 s (lkCommand n raw held s) := by
  unfold lkCommand
  exact (.ite (.refl _ _) (.ite (.via (lkReaccept_keeps ..) rfl (.refl _ _)) (.via (lkHeld_keeps ..) rfl (.refl _ _))))

theorem execLinkReacceptHeld_keeps (n : Fin 8) (s : State) : Runs 196688 s (execLinkReacceptHeld n s) := by
  unfold execLinkReacceptHeld
  exact (.next (.hostDo rfl (.refl _ _) fun _ g0 => (.via (lkCommand_keeps ..) rfl g0)))

theorem execLinkReacceptRaw_keeps (n : Fin 8) (s : State) : Runs 196688 s (execLinkReacceptRaw n s) := by
  unfold execLinkReacceptRaw
  exact (.next (.hostDo rfl (.refl _ _) fun _ g0 => (.via (lkCommand_keeps ..) rfl g0)))

theorem lkConfirm_keeps (n : Nat) (raw : Int) (s : State) : Keeps 131152 s (lkConfirm n raw s) := by
  unfold lkConfirm
  lift_lets
  intro t0 t1 t2 t3 t4 t5 t6
  have h6 : Keeps 131152 s t6 := (.via (lkSet_keeps ..) rfl (.refl _ _))
  exact (.ite (.via (lkReaccept_keeps ..) rfl h6) (.ite (.via (lkHeld_keeps ..) rfl h6) h6))

theorem lkSample_keeps (n : Nat) (s : State) : Keeps 131152 s (lkSample n s) := by
  unfold lkSample
  lift_lets
  intro t0 t1 t2
  have h2 : Keeps 131152 s t2 := (.via (State.putS_keeps ..) rfl (.via (State.putS_keeps ..) rfl (.refl _ _)))
  intro t3
  have h3 : Keeps 131152 s t3 := (.via (lkSet_keeps ..) rfl h2)
  intro t4
  have h4 : Keeps 131152 s t4 := (.ite h3 (rgsForSource_keeps rfl h3 fun _ _ g5 => (.via (rgsSample_keeps ..) rfl g5)))
  exact (.ite (.refl _ _) (.onlyIf h4 fun _ g6 => (.via (lkConfirm_keeps ..) rfl g6)))

theorem execLinkSample_keeps (n : Fin 8) (s : State) : Runs 131152 s (execLinkSample n s) := by
  unfold execLinkSample
  exact (.next (.via (lkSample_keeps ..) rfl (.refl _ _)))

theorem ttoIssue_keeps (op kind scope at_ : Nat) (s : State) : Keeps 131080 s (ttoIssue op kind scope at_ s) := by
  unfold ttoIssue
  lift_lets
  intro t0 t1 t2 t3
  have h3 : Keeps 131080 s t3 := (.via (lnkSendAll_keeps ..) rfl (.via (lnkNextSeq_keeps ..) rfl (.refl _ _)))
  intro t4
  exact (.ite (.via (lnkFlag_keeps ..) rfl (.refl _ _)) (.ite (.via (ttoTake_keeps ..) rfl h3) (.lnk (fun w => by exact w.lnk) rfl h3)))

theorem lnkStep_keeps (move : Int) (s : State) : Keeps 131072 s (lnkStep move s) := by
  unfold lnkStep
  lift_lets
  intro t0 t1
  exact (.lnk (fun w => by exact (List.length_map ..).trans w.lnk) rfl (.refl _ _))

theorem lkTagRx_keeps (n tag : Nat) (s : State) : Keeps 0 s (lkTagRx n tag s) := by
  unfold lkTagRx
  lift_lets
  intro t0
  have h0 : Keeps 0 s t0 := (.via (State.putB_keeps ..) rfl (.via (State.put_keeps ..) rfl (.refl _ _)))
  intro t1
  have h1 : Keeps 0 s t1 := (rgsForSource_keeps rfl h0 fun _ _ g2 => (.via (rgsMessage_keeps ..) rfl g2))
  exact (.onlyIf h1 fun _ g3 => (.via (State.setEvent_keeps ..) rfl g3))

theorem lkAccept_keeps (n : Nat) (f raw : Int) (s : State) : Keeps 131072 s (lkAccept n f raw s) := by
  unfold lkAccept
  lift_lets
  intro t0 t1 t2
  have h2 : Keeps 131072 s t2 := (.via (lkSet_keeps ..) rfl (.refl _ _))
  exact (.onlyIf h2 fun _ g3 => (.via (State.putS_keeps ..) rfl g3))

theorem lkWithhold_keeps (n : Nat) (f raw : Int) (s : State) : Keeps 131152 s (lkWithhold n f raw s) := by
  unfold lkWithhold
  lift_lets
  intro t0
  have h0 : Keeps 131152 s t0 := (.via (lkSet_keeps ..) rfl (.refl _ _))
  intro t1 t2 t3
  have h3 : Keeps 131152 s t3 := (.via (lkSet_keeps ..) rfl (.via (State.putS_keeps ..) rfl h0))
  intro t4
  have h4 : Keeps 131152 s t4 := (.via (lkFlag_keeps ..) rfl (.via (State.put_keeps ..) rfl h3))
  exact (.ite h0 (.ite (.via (lkFlag_keeps ..) rfl (.via (lkSet_keeps ..) rfl h0)) (.ite h3 (rgsForSource_keeps rfl (.via (lkSet_keeps ..) rfl h4) fun _ _ g5 => (.via (rgsPathStep_keeps ..) rfl g5)))))

theorem lkMeasure_keeps (n : Nat) (ms sm : Int) (b : LinkBlock) (s : State) : Keeps 131152 s (lkMeasure n ms sm b s) := by
  unfold lkMeasure
  lift_lets
  intro t0 t1 t2 t3 t4
  have h4 : Keeps 131152 s t4 := (.onlyIf (.refl _ _) fun _ g5 => (.via (lkFlag_keeps ..) rfl g5))
  intro t6
  have h6 : Keeps 131152 s t6 := (.via (lkSet_keeps ..) rfl h4)
  exact (.ite (.via (lkAccept_keeps ..) rfl h6) (.via (lkWithhold_keeps ..) rfl h6))

theorem lkRx_keeps (n : Nat) (stamp : Int) (b : LinkBlock) (s : State) : Keeps 131152 s (lkRx n stamp b s) := by
  unfold lkRx
  lift_lets
  intro t0 t1
  have h1 : Keeps 131152 s t1 := (.via (lkSet_keeps ..) rfl (.refl _ _))
  intro t2
  have h2 : Keeps 131152 s t2 := (.via (lkTagRx_keeps ..) rfl h1)
  exact (.ite h1 (by
    split
    · exact (.via (lkMeasure_keeps ..) rfl h2)
    · exact h2))

theorem execTimingBlockRx_keeps (n : Fin 8) (mix : Nat) (b : LinkBlock) (at_ : Nat) (s : State) :
    Runs 131160 s (execTimingBlockRx n mix b at_ s) := by
  unfold execTimingBlockRx
  exact (.next (.ite (.refl _ _) (.cross rfl (.refl _ _) fun _ g0 => (.via (lkRx_keeps ..) rfl g0))))

theorem lkTx_keeps (n : Nat) (stamp : Int) (s : State) : Keeps 131072 s (lkTx n stamp s) := by
  unfold lkTx
  lift_lets
  intro t0 t1 t2
  have h2 : Keeps 131072 s t2 := (.via (State.freeNext_keeps ..) rfl (.via (State.emit_keeps ..) rfl (.refl _ _)))
  exact (.via (lkSet_keeps ..) rfl (.via (State.put_keeps ..) rfl h2))

theorem execTimingBlockTx_keeps (n : Fin 8) (mix at_ : Nat) (s : State) : Runs 131080 s (execTimingBlockTx n mix at_ s) := by
  unfold execTimingBlockTx
  exact (.next (.ite (.refl _ _) (.cross rfl (.refl _ _) fun _ g0 => (.via (lkTx_keeps ..) rfl g0))))

theorem execTtoIssue_keeps (op kind : Fin 4) (scope : BitVec 12) (at_ : Nat) (s : State) :
    Runs 196616 s (execTtoIssue op kind scope at_ s) := by
  unfold execTtoIssue
  exact (.next (.hostDo rfl (.refl _ _) fun _ g0 => (.via (ttoIssue_keeps ..) rfl g0)))

end Sys2Proof.Machine
end

