-- ==== Sys2Proof/Laws/KeepsOutputs.lean ====
section
/-! SUPPORT. What the operations of Outputs.lean keep: the form of the state, the queue, and the parts outside their mask. -/

namespace Sys2Proof.Machine

theorem outSet_keeps (n : Nat) (f : OutSt → OutSt) (s : State) : Keeps 512 s (outSet n f s) := by
  unfold outSet
  lift_lets
  intro t0
  exact (.out (fun w => by exact ⟨(List.length_modify ..).trans w.out.1, w.out.2⟩) rfl (.refl _ _))

theorem outFlag_keeps (n : Nat) (f : Fld) (s : State) : Keeps 0 s (outFlag n f s) := by
  unfold outFlag
  exact (.via (State.setFlag_keeps ..) rfl (.refl _ _))

theorem outAdopt_keeps (n : Nat) (s : State) : Keeps 512 s (outAdopt n s) := by
  unfold outAdopt
  lift_lets
  intro t0 t1
  have h1 : Keeps 512 s t1 := (.via (outSet_keeps ..) rfl (.refl _ _))
  exact (.onlyIf h1 fun _ g2 => (.via (outFlag_keeps ..) rfl g2))

theorem calReject_keeps (s : State) : Keeps 0 s (calReject s) := by
  unfold calReject
  exact (.via (State.setFlag_keeps ..) rfl (.refl _ _))

theorem outputCal_keeps (n : Nat) (delay : Int) (at_ : Nat) (s : State) : Keeps 1048576 s (outputCal n delay at_ s) := by
  unfold outputCal
  lift_lets
  intro t0 t1 t2
  have h2 : Keeps 1048576 s t2 := (.con (fun w => by exact ⟨(List.length_set ..).trans w.con.1, w.con.2⟩) rfl (.refl _ _))
  exact (by
    split
    · exact (.ite h2 (.via (calReject_keeps ..) rfl (.refl _ _)))
    · exact h2)

theorem calServe_keeps (at_ : Nat) (s : State) : Keeps 1048576 s (calServe at_ s) := by
  unfold calServe
  lift_lets
  intro t0 t1
  exact (.ite (.refl _ _) (.foldl _ (.con (fun w => by exact w.con) rfl (.refl _ _)) fun _ _ g2 => (.via (outputCal_keeps ..) rfl g2)))

theorem outCarry_keeps (n : Nat) (s : State) : Keeps 8 s (outCarry n s) := by
  unfold outCarry
  exact (.ite (.via (xsWrite_keeps ..) rfl (.refl _ _)) (.via (xsWrite_keeps ..) rfl (.refl _ _)))

theorem outRealign_keeps (n : Nat) (s : State) : Keeps 512 s (outRealign n s) := by
  unfold outRealign
  exact (.via (outSet_keeps ..) rfl (.via (State.put_keeps ..) rfl (.via (State.put_keeps ..) rfl (.refl _ _))))

theorem outCmdRealign_keeps (n : Nat) (s : State) : Keeps 0 s (outCmdRealign n s) := by
  unfold outCmdRealign
  exact (.ite (.via (State.put_keeps ..) rfl (.refl _ _)) (.refl _ _))

theorem outChanged_keeps (n : Nat) (s : State) : Keeps 512 s (outChanged n s) := by
  unfold outChanged
  exact (.ite (.refl _ _) (.ite (.via (outAdopt_keeps ..) rfl (.refl _ _)) (.via (outSet_keeps ..) rfl (.refl _ _))))

theorem outCfgWrite_keeps (n : Nat) (v : Word) (s : State) : Keeps 512 s (outCfgWrite n v s) := by
  unfold outCfgWrite
  lift_lets
  intro t0
  have h0 : Keeps 512 s t0 := (.via (State.putB_keeps ..) rfl (.via (State.putB_keeps ..) rfl (.refl _ _)))
  intro t1
  have h1 : Keeps 512 s t1 := (.via (State.putB_keeps ..) rfl (.via (State.putB_keeps ..) rfl h0))
  intro t2
  have h2 : Keeps 512 s t2 := (.via (State.put_keeps ..) rfl (.via (State.putB_keeps ..) rfl h1))
  intro t3
  have h3 : Keeps 512 s t3 := (.onlyIf h2 fun _ g4 => (.via (outRealign_keeps ..) rfl g4))
  intro t5
  have h5 : Keeps 512 s t5 := (.onlyIf h3 fun _ g6 => (.via (outCmdRealign_keeps ..) rfl g6))
  exact (.via (outChanged_keeps ..) rfl h5)

theorem outRegWrite_keeps (n : Nat) (r : OutReg) (v : BitVec 64) (s : State) : Keeps 520 s (outRegWrite n r v s) := by
  unfold outRegWrite
  lift_lets
  intro t0
  have h0 : Keeps 520 s t0 := (.via (outCarry_keeps ..) rfl (.refl _ _))
  exact (by
    split
    · exact (.via (outCfgWrite_keeps ..) rfl h0)
    · exact (.via (outChanged_keeps ..) rfl (.via (State.put64_keeps ..) rfl h0))
    · exact (.via (outChanged_keeps ..) rfl (.via (State.setReg_keeps ..) rfl h0))
    · exact (.via (outChanged_keeps ..) rfl (.via (State.setReg_keeps ..) rfl h0))
    · exact (.via (outChanged_keeps ..) rfl (.via (State.put64_keeps ..) rfl h0)))

theorem outFix_keeps (n : Nat) (o : OutSt) (a2 b : Int) (next : Option OutNext) (s : State) :
    Keeps 512 s (outFix n o a2 b next s) := by
  unfold outFix
  lift_lets
  intro t0 t1 t2
  have h2 : Keeps 512 s t2 := (.via (outSet_keeps ..) rfl (.refl _ _))
  intro t3
  have h3 : Keeps 512 s t3 := (.onlyIf h2 fun _ g4 => (.via (outFlag_keeps ..) rfl (.via (State.count_keeps ..) rfl g4)))
  exact (.via (outFlag_keeps ..) rfl (.via (State.count_keeps ..) rfl h3))

theorem outOfsWrite_keeps (n : Nat) (v : Int) (at_ : Nat) (s : State) : Keeps 520 s (outOfsWrite n v at_ s) := by
  unfold outOfsWrite
  lift_lets
  intro t0
  have h0 : Keeps 520 s t0 := (.via (outCarry_keeps ..) rfl (.refl _ _))
  intro t1 t2 t3 t4 t5 t6 t7
  have h7 : Keeps 520 s t7 := (.via (State.putS_keeps ..) rfl h0)
  exact (.ite h7 (.via (outFix_keeps ..) rfl h7))

theorem outMove_keeps (n : Nat) (t a2 b : Int) (s : State) : Keeps 512 s (outMove n t a2 b s) := by
  unfold outMove
  exact (.ite (.refl _ _) (.via (outFix_keeps ..) rfl (.refl _ _)))

theorem outStamp_keeps (n : Nat) (t : Int) (s : State) : Keeps 512 s (outStamp n t s) := by
  unfold outStamp
  lift_lets
  intro t0 t1 t2 t3 t4
  have h4 : Keeps 512 s t4 := (.via (State.putS_keeps ..) rfl (.refl _ _))
  intro t5
  have h5 : Keeps 512 s t5 := (.via (outSet_keeps ..) rfl h4)
  intro t6
  have h6 : Keeps 512 s t6 := (.via (outSet_keeps ..) rfl h4)
  exact (by
    split
    · exact (.via (State.put_keeps ..) rfl (.via (outMove_keeps ..) rfl (.via (State.put_keeps ..) rfl h5)))
    · exact (.ite (.via (outSet_keeps ..) rfl h4) (.via (State.setEvent_keeps ..) rfl (.via (State.put_keeps ..) rfl h6)))
    · exact h4)

theorem outEdge_keeps (ch : Nat) (t : Int) (s : State) : Keeps 512 s (outEdge ch t s) := by
  unfold outEdge
  exact (.ite (.foldl _ (.refl _ _) fun _ _ g0 => (.ite (.via (outStamp_keeps ..) rfl g0) g0)) (.refl _ _))

theorem stampAll_keeps (x : EvtStamp) (at_ : Nat) (s : State) : Keeps 263008 s (stampAll x at_ s) := by
  unfold stampAll
  lift_lets
  intro t0
  have h0 : Keeps 263008 s t0 := (.via (evtAccept_keeps ..) rfl (.refl _ _))
  intro t1
  have h1 : Keeps 263008 s t1 := by
    unfold t1
    exact (.onlyIf h0 fun _ g2 => (by
      lift_lets
      intro t3
      exact (.pair (fun w => ⟨w.host, w.copy⟩) rfl g2)))
  exact (.via (outEdge_keeps ..) rfl (.via (ensEdge_keeps ..) rfl (.via (rgsEdge_keeps ..) rfl h1)))

theorem edgeDeliver_keeps (at_ : Nat) (x : EvtCross) (s : State) : Keeps 263008 s (edgeDeliver at_ x s) := by
  unfold edgeDeliver
  exact (by
    split
    · exact (.via (stampAll_keeps ..) rfl (.refl _ _))
    · exact (.via (evtLost_keeps ..) rfl (.refl _ _)))

theorem edgeCross_keeps (at_ : Nat) (x : EvtCross) (s : State) : Keeps 263016 s (edgeCross at_ x s) := by
  unfold edgeCross
  exact (.ite (.via (evtHold_keeps ..) rfl (.refl _ _)) (.cross rfl (.refl _ _) fun _ g0 => (.via (edgeDeliver_keeps ..) rfl g0)))

theorem edgeAll_keeps (ch : Nat) (rising : Bool) (at_ : Nat) (s : State) : Keeps 263016 s (edgeAll ch rising at_ s) := by
  unfold edgeAll
  exact (by
    split
    · exact (.refl _ _)
    · lift_lets
      intro t0
      have h0 : Keeps 263016 s t0 := by
        unfold t0
        exact (by
          split
          · exact (.via (evtSetChan_keeps ..) rfl (.refl _ _))
          · exact (.refl _ _))
      exact (.via (edgeCross_keeps ..) rfl h0))

theorem edgeRelease_keeps (s : State) : Keeps 263008 s (edgeRelease s) := by
  unfold edgeRelease
  lift_lets
  intro t0 t1 t2
  exact (.via (evtStorePulses_keeps ..) rfl (.foldl _ (.evt (fun w => by exact w.evt) rfl (.refl _ _)) fun _ _ g3 => (.via (edgeDeliver_keeps ..) rfl g3)))

theorem execChannelPassDone_keeps (bank : Fin 8) (complete : Bool) (delay : Int) (pulses : List (Bool × Nat)) (at_ : Nat) (s : State) :
    Runs 1048616 s (execChannelPassDone bank complete delay pulses at_ s) := by
  unfold execChannelPassDone
  exact (.next (.via (calServe_keeps ..) rfl (.via (evtChannelDone_keeps ..) rfl (.refl _ _))))

theorem outPutMuted_keeps (n : Nat) (m : Bool) (s : State) : Keeps 0 s (outPutMuted n m s) := by
  unfold outPutMuted
  exact (.via (State.putB_keeps ..) rfl (.refl _ _))

theorem outMuteNow_keeps (n : Nat) (s : State) : Keeps 512 s (outMuteNow n s) := by
  unfold outMuteNow
  lift_lets
  intro t0
  have h0 : Keeps 512 s t0 := (.via (outSet_keeps ..) rfl (.via (outPutMuted_keeps ..) rfl (.refl _ _)))
  exact (.onlyIf h0 fun _ g1 => (.via (outAdopt_keeps ..) rfl g1))

theorem outFaultMute_keeps (s : State) : Keeps 512 s (outFaultMute s) := by
  unfold outFaultMute
  exact (.foldl _ (.refl _ _) fun _ _ g0 => (.via (outMuteNow_keeps ..) rfl g0))

theorem execEdge_keeps (ch : Fin 128) (rising : Bool) (at_ : Nat) (s : State) : Runs 263016 s (execEdge ch rising at_ s) := by
  unfold execEdge
  exact (.next (.via (edgeAll_keeps ..) rfl (.refl _ _)))

theorem trgSet_keeps (j : Nat) (f : TrgSt → TrgSt) (s : State) : Keeps 512 s (trgSet j f s) := by
  unfold trgSet
  lift_lets
  intro t0
  exact (.out (fun w => by exact ⟨w.out.1, (List.length_modify ..).trans w.out.2⟩) rfl (.refl _ _))

theorem outLoopMoved_keeps (k : Nat) (t : Int) (s : State) : Keeps 512 s (outLoopMoved k t s) := by
  unfold outLoopMoved
  lift_lets
  intro t0
  exact (.foldl _ (.refl _ _) fun _ _ g1 => (by
    lift_lets
    intro t2
    exact (.ite (.via (outMove_keeps ..) rfl g1) g1)))

theorem execLoopEpoch_keeps (k : Fin 24) (meas : Option Int) (at_ : Nat) (s : State) :
    Runs 912 s (execLoopEpoch k meas at_ s) := by
  unfold execLoopEpoch
  exact (.next (.ite (.refl _ _) (.via (outLoopMoved_keeps ..) rfl (.via (loopEpoch_keeps ..) rfl (.refl _ _)))))

theorem execOutputConfigWrite_keeps (n : Fin 16) (r : OutReg) (v : BitVec 64) (s : State) :
    Runs 66056 s (execOutputConfigWrite n r v s) := by
  unfold execOutputConfigWrite
  exact (.next (.hostDo rfl (.refl _ _) fun _ g0 => (.via (outRegWrite_keeps ..) rfl g0)))

theorem outMute_keeps (n : Nat) (s : State) : Keeps 512 s (outMute n s) := by
  unfold outMute
  exact (.ite (.refl _ _) (.via (outMuteNow_keeps ..) rfl (.refl _ _)))

theorem execOutputMute_keeps (n : Fin 16) (s : State) : Runs 512 s (execOutputMute n s) := by
  unfold execOutputMute
  exact (.next (.via (outMute_keeps ..) rfl (.refl _ _)))

theorem execOutputOffsetWrite_keeps (n : Fin 16) (v : BitVec 64) (at_ : Nat) (s : State) :
    Runs 66056 s (execOutputOffsetWrite n v at_ s) := by
  unfold execOutputOffsetWrite
  exact (.next (.hostDo rfl (.refl _ _) fun _ g0 => (.via (outOfsWrite_keeps ..) rfl g0)))

theorem outUnmute_keeps (n : Nat) (s : State) : Keeps 0 s (outUnmute n s) := by
  unfold outUnmute
  exact (.ite (.via (State.setEvent_keeps ..) rfl (.via (outPutMuted_keeps ..) rfl (.refl _ _))) (.refl _ _))

theorem execOutputUnmute_keeps (n : Fin 16) (s : State) : Runs 0 s (execOutputUnmute n s) := by
  unfold execOutputUnmute
  exact (.next (.via (outUnmute_keeps ..) rfl (.refl _ _)))

theorem execRealign_keeps (n : Fin 16) (s : State) : Runs 65536 s (execRealign n s) := by
  unfold execRealign
  exact (.next (.hostDo rfl (.refl _ _) fun _ g0 => (.via (outCmdRealign_keeps ..) rfl g0)))

theorem trgFlag_keeps (j : Nat) (f : Fld) (s : State) : Keeps 0 s (trgFlag j f s) := by
  unfold trgFlag
  exact (.via (State.setFlag_keeps ..) rfl (.refl _ _))

theorem trgCfgWrite_keeps (j : Nat) (v : Word) (s : State) : Keeps 0 s (trgCfgWrite j v s) := by
  unfold trgCfgWrite
  lift_lets
  intro t0
  have h0 : Keeps 0 s t0 := (.ite (.via (trgFlag_keeps ..) rfl (.refl _ _)) (.via (State.put_keeps ..) rfl (.refl _ _)))
  intro t1
  have h1 : Keeps 0 s t1 := (.via (State.putB_keeps ..) rfl (.via (State.putB_keeps ..) rfl h0))
  intro t2
  have h2 : Keeps 0 s t2 := (.via (State.putB_keeps ..) rfl (.via (State.putB_keeps ..) rfl h1))
  exact (.onlyIf h2 fun _ g3 => (.via (State.emit_keeps ..) rfl g3))

theorem trgDisarm_keeps (j : Nat) (s : State) : Keeps 512 s (trgDisarm j s) := by
  unfold trgDisarm
  exact (.via (trgSet_keeps ..) rfl (.via (State.put_keeps ..) rfl (.via (State.put_keeps ..) rfl (.refl _ _))))

theorem trgPlan_keeps (j : Nat) (p : TrgPlan) (s : State) : Keeps 512 s (trgPlan j p s) := by
  unfold trgPlan
  exact (.ite (.via (trgFlag_keeps ..) rfl (.via (trgSet_keeps ..) rfl (.via (State.put_keeps ..) rfl (.via (State.put_keeps ..) rfl (.refl _ _))))) (.via (trgSet_keeps ..) rfl (.via (State.put_keeps ..) rfl (.via (State.put_keeps ..) rfl (.refl _ _)))))

theorem trgArm_keeps (j at_ : Nat) (s : State) : Keeps 512 s (trgArm j at_ s) := by
  unfold trgArm
  lift_lets
  intro t0 t1 t2 t3 t4
  exact (.ite (.refl _ _) (.ite (.via (trgFlag_keeps ..) rfl (.refl _ _)) (.via (trgPlan_keeps ..) rfl (.via (trgSet_keeps ..) rfl (.refl _ _)))))

theorem execReliefPassDone_keeps (bank : Fin 8) (complete : Bool) (delay : Int) (pulses : List (Bool × Nat)) (at_ : Nat) (s : State) :
    Runs 1048616 s (execReliefPassDone bank complete delay pulses at_ s) := by
  unfold execReliefPassDone
  exact (.next (.via (calServe_keeps ..) rfl (.via (evtReliefDone_keeps ..) rfl (.refl _ _))))

theorem trgStep_keeps (t : Int) (s : State) : Keeps 512 s (trgStep t s) := by
  unfold trgStep
  exact (.foldl _ (.refl _ _) fun _ _ g0 => (by
    lift_lets
    intro t1 t2 t3
    have h3 : Keeps 512 s t3 := (.via (trgSet_keeps ..) rfl g0)
    intro t4 t5
    have h5 : Keeps 512 s t5 := (.onlyIf h3 fun _ g6 => (.via (trgFlag_keeps ..) rfl (.via (State.count_keeps ..) rfl g6)))
    exact (by
      split
      · exact (.onlyIf h5 fun _ g7 => (.via (trgPlan_keeps ..) rfl g7))
      · exact h5)))

theorem outStep_keeps (t move : Int) (s : State) : Keeps 512 s (outStep t move s) := by
  unfold outStep
  lift_lets
  intro t0
  have h0 : Keeps 512 s t0 := by
    unfold t0
    exact (.foldl _ (.refl _ _) fun _ _ g1 => (by
      lift_lets
      intro t2
      exact (.ite (.via (outMove_keeps ..) rfl (.via (outSet_keeps ..) rfl g1)) g1)))
  exact h0

theorem execTriggerArm_keeps (j : Fin 32) (at_ : Nat) (s : State) : Runs 66048 s (execTriggerArm j at_ s) := by
  unfold execTriggerArm
  exact (.next (.hostDo rfl (.refl _ _) fun _ g0 => (.via (trgArm_keeps ..) rfl g0)))

theorem execTriggerDisarm_keeps (j : Fin 32) (s : State) : Runs 66048 s (execTriggerDisarm j s) := by
  unfold execTriggerDisarm
  exact (.next (.hostDo rfl (.refl _ _) fun _ g0 => (.via (trgDisarm_keeps ..) rfl g0)))

theorem trgFire_keeps (j : Nat) (x : Int) (s : State) : Keeps 512 s (trgFire j x s) := by
  unfold trgFire
  lift_lets
  intro t0 t1 t2 t3
  have h3 : Keeps 512 s t3 := (.via (trgSet_keeps ..) rfl (.via (State.count_keeps ..) rfl (.refl _ _)))
  exact (.ite (.via (trgFlag_keeps ..) rfl (.via (State.count_keeps ..) rfl (.refl _ _))) (.via (State.emit_keeps ..) rfl (.via (State.emit_keeps ..) rfl h3)))

theorem trgInstant_keeps (j : Nat) (s : State) : Keeps 512 s (trgInstant j s) := by
  unfold trgInstant
  exact (.ite (.refl _ _) (by
    split
    · exact (.via (trgFire_keeps ..) rfl (.via (trgSet_keeps ..) rfl (.refl _ _)))
    · exact (by
        split
        · exact (.via (trgPlan_keeps ..) rfl (.via (trgFire_keeps ..) rfl (.refl _ _)))
        · exact (.refl _ _))))

theorem execTriggerInstant_keeps (j : Fin 32) (s : State) : Runs 512 s (execTriggerInstant j s) := by
  unfold execTriggerInstant
  exact (.next (.via (trgInstant_keeps ..) rfl (.refl _ _)))

end Sys2Proof.Machine
end

