-- ==== Sys2Proof/Laws/KeepsLedger.lean ====
section
/-! SUPPORT. What the operations of Ledger.lean keep: the form of the state, the queue, and the parts outside their mask. -/

namespace Sys2Proof.Machine

theorem provRefresh_keeps (s : State) : Keeps 0 s (provRefresh s) := by
  unfold provRefresh
  exact (.via (State.put_keeps ..) rfl (.via (State.put_keeps ..) rfl (.refl _ _)))

theorem provCapture_keeps (kind at_ : Nat) (s : State) : Keeps 65536 s (provCapture kind at_ s) := by
  unfold provCapture
  lift_lets
  intro t0 t1 t2
  exact (.via (provRefresh_keeps ..) rfl (.prov rfl (.refl _ _)))

theorem provLatch_keeps (kind at_ : Nat) (s : State) : Keeps 65536 s (provLatch kind at_ s) := by
  unfold provLatch
  lift_lets
  intro t0
  exact (by
    split
    · exact (.via (provCapture_keeps ..) rfl (.refl _ _))
    · lift_lets
      intro t1
      exact (.via (provCapture_keeps ..) rfl (.prov rfl (.refl _ _))))

theorem provCommitted_keeps (at_ : Nat) (s : State) : Keeps 65536 s (provCommitted at_ s) := by
  unfold provCommitted
  lift_lets
  intro t0
  exact (.ite (.via (provLatch_keeps ..) rfl (.prov rfl (.refl _ _))) (.refl _ _))

theorem setFlag_conKept (f : Fld) (n : Nat) (s : State) : (s.setFlag f n).con = s.con := by
  unfold State.setFlag
  split <;> rfl

theorem execBootTimeout_keeps (s : State) : Runs 1048576 s (execBootTimeout s) := by
  have h : Keeps 1048576 s (s.setFlag PROV_FLAGS.BOOT_FAIL 210) := .via (State.setFlag_keeps ..) rfl (.refl _ _)
  exact .next (.ite (.con (fun w => by have := w.con; rw [setFlag_conKept] at this; exact this) rfl h) (.refl _ _))

theorem provSubmit_keeps (s : State) : Keeps 32768 s (provSubmit s) := by
  unfold provSubmit
  exact (.onlyIf (.refl _ _) fun _ g0 => (.via (bneSubmit_keeps ..) rfl g0))

theorem provExtra_keeps (kind at_ : Nat) (s : State) : Keeps 65536 s (provExtra kind at_ s) := by
  unfold provExtra
  exact (.onlyIf (.refl _ _) fun _ g0 => (.via (provLatch_keeps ..) rfl g0))

theorem execIssueNow_keeps (at_ : Nat) (s : State) : Runs 65536 s (execIssueNow at_ s) := by
  unfold execIssueNow
  exact (.next (.hostDo rfl (.refl _ _) fun _ g0 => (.via (provExtra_keeps ..) rfl g0)))

theorem provPeriodic_keeps (at_ : Nat) (s : State) : Keeps 65536 s (provPeriodic at_ s) := by
  unfold provPeriodic
  lift_lets
  intro t0
  have h0 : Keeps 65536 s t0 := (.via (State.setFlag_keeps ..) rfl (.via (State.count_keeps ..) rfl (.refl _ _)))
  intro t1
  exact (.ite (.refl _ _) (.ite (.via (provLatch_keeps ..) rfl (.refl _ _)) (.prov rfl h0)))

theorem execLedgerPeriod_keeps (at_ : Nat) (s : State) : Runs 65536 s (execLedgerPeriod at_ s) := by
  unfold execLedgerPeriod
  exact (.next (.via (provPeriodic_keeps ..) rfl (.refl _ _)))

theorem execLedgerRingWrite_keeps (s : State) : Runs 589832 s (execLedgerRingWrite s) := by
  unfold execLedgerRingWrite
  lift_lets
  intro t0
  exact (.next (by
    split
    · exact (.ite (.via (provRefresh_keeps ..) rfl (.via (hifPush_keeps ..) rfl (.prov rfl (.refl _ _)))) (.refl _ _))
    · exact (.refl _ _)))

theorem provPfail_keeps (s : State) : Keeps 98304 s (provPfail s) := by
  unfold provPfail
  lift_lets
  intro t0
  exact (.via (provRefresh_keeps ..) rfl (.via (bneWithdraw_keeps ..) rfl (.prov rfl (.refl _ _))))

theorem provChain_keeps (s : State) : Keeps 0 s (provChain s) := by
  unfold provChain
  exact (.ite (.via (State.setFlag_keeps ..) rfl (.via (State.freeNext_keeps ..) rfl (.via (State.put64_keeps ..) rfl (.refl _ _)))) (.refl _ _))

theorem provPutHash_keeps (h : List Byte) (s : State) : Keeps 0 s (provPutHash h s) := by
  unfold provPutHash
  exact (.foldl _ (.refl _ _) fun _ _ g0 => (.via (State.setReg_keeps ..) rfl g0))

theorem provWait_keeps (bytes : List Byte) (s : State) : Keeps 65536 s (provWait bytes s) := by
  unfold provWait
  lift_lets
  intro t0 t1 t2
  have h2 : Keeps 65536 s t2 := (.prov rfl (.refl _ _))
  exact (.ite (.prov rfl (.refl _ _)) (.via (State.setFlag_keeps ..) rfl (.via (State.count_keeps ..) rfl h2)))

theorem provIssue_keeps (r : ProvRecord) (at_ : Nat) (s : State) : Keeps 65536 s (provIssue r at_ s) := by
  unfold provIssue
  lift_lets
  intro t0
  have h0 : Keeps 65536 s t0 := (.via (provChain_keeps ..) rfl (.refl _ _))
  intro t1 t2 t3 t4 t5 t6
  have h6 : Keeps 65536 s t6 := (.prov rfl h0)
  intro t7
  have h7 : Keeps 65536 s t7 := (.via (provPutHash_keeps ..) rfl (.via (State.put_keeps ..) rfl (.via (State.put64_keeps ..) rfl h6)))
  intro t8
  have h8 : Keeps 65536 s t8 := (.via (State.put_keeps ..) rfl (.via (State.count_keeps ..) rfl h7))
  exact (.via (provRefresh_keeps ..) rfl (.via (provWait_keeps ..) rfl h8))

theorem execRecordIssue_keeps (at_ : Nat) (s : State) : Runs 98304 s (execRecordIssue at_ s) := by
  unfold execRecordIssue
  exact (.next (by
    split
    · exact (.ite (.via (provIssue_keeps ..) rfl (.via (bneEndRequest_keeps ..) rfl (.refl _ _))) (.refl _ _))
    · exact (.refl _ _)))

theorem provBoot_keeps (ck : Option (Nat × Nat × Option (Nat × List Byte))) (s : State) : Keeps 1114112 s (provBoot ck s) := by
  unfold provBoot
  lift_lets
  intro t0 t1 t2
  have h2 : Keeps 1114112 s t2 := (.prov rfl (.refl _ _))
  intro t3
  have h3 : Keeps 1114112 s t3 := (.via (State.put64_keeps ..) rfl h2)
  intro t4
  exact (.ite (.con (fun w => by exact w.con) rfl h3) (.via (State.setFlag_keeps ..) rfl h3))

theorem provStep_keeps (move : Int) (s : State) : Keeps 65536 s (provStep move s) := by
  unfold provStep
  lift_lets
  intro t0
  exact (.via (provExtra_keeps ..) rfl (.prov rfl (.refl _ _)))

end Sys2Proof.Machine
end

