-- ==== Sys2Proof/Laws/KeepsPair.lean ====
section
/-! SUPPORT. What the operations of Pair.lean keep: the form of the state, the queue, and the parts outside their mask. -/

namespace Sys2Proof.Machine

theorem pairMismatch_keeps (s : State) : Keeps 0 s (pairMismatch s) := by
  unfold pairMismatch
  exact (.onlyIf (.refl _ _) fun _ g0 => (.via (pairFlag_keeps ..) rfl g0))

theorem pairGo_keeps (st : Nat) (s : State) : Keeps 0 s (pairGo st s) := by
  unfold pairGo
  exact (.via (pairMismatch_keeps ..) rfl (.via (State.put_keeps ..) rfl (.refl _ _)))

theorem pairKeyBegin_keeps (s : State) : Keeps 294912 s (pairKeyBegin s) := by
  unfold pairKeyBegin
  exact (.via (pairSet_keeps fun _ => ⟨rfl, rfl⟩) rfl (.via (bneWithdraw_keeps ..) rfl (.refl _ _)))

theorem pairKeying_keeps (s : State) : Keeps 294912 s (pairKeying s) := by
  unfold pairKeying
  exact (.via (pairGo_keeps ..) rfl (.via (pairKeyBegin_keeps ..) rfl (.via (pairSet_keeps fun _ => ⟨rfl, rfl⟩) rfl (.via (State.put_keeps ..) rfl (.refl _ _)))))

theorem pairStart_keeps (s : State) : Keeps 294912 s (pairStart s) := by
  unfold pairStart
  exact (.onlyIf (.refl _ _) fun _ g0 => (.via (pairKeying_keeps ..) rfl g0))

theorem pairRotate_keeps (s : State) : Keeps 270336 s (pairRotate s) := by
  unfold pairRotate
  lift_lets
  intro t0
  exact (by
    split
    · exact (.ite (.via (ntsRotated_keeps ..) rfl (.via (pairSet_keeps fun _ => ⟨rfl, rfl⟩) rfl (.refl _ _))) (.refl _ _))
    · exact (.refl _ _))

theorem pairSaved_keeps (gen : Nat) (s : State) : Keeps 270336 s (pairSaved gen s) := by
  unfold pairSaved
  exact (.via (pairRotate_keeps ..) rfl (.via (pairSet_keeps fun _ => ⟨rfl, rfl⟩) rfl (.refl _ _)))

theorem execActiveNChange_keeps (level : Bool) (s : State) : Runs 8 s (execActiveNChange level s) := by
  unfold execActiveNChange
  lift_lets
  intro t0
  exact (.next (.via (pairMismatch_keeps ..) rfl (.via (State.putB_keeps ..) rfl (.sys rfl (.refl _ _)))))

theorem pairAdoptKey_keeps (s : State) : Keeps 262144 s (pairAdoptKey s) := by
  unfold pairAdoptKey
  exact (by
    split
    · exact (.via (pairSet_keeps fun _ => ⟨rfl, rfl⟩) rfl (.refl _ _))
    · exact (.refl _ _))

theorem execCopyEpoch_keeps (at_ : Nat) (s : State) : Runs 262144 s (execCopyEpoch at_ s) := by
  unfold execCopyEpoch
  lift_lets
  intro t0
  have h0 : Keeps 262144 s t0 := (.via (pairAdoptKey_keeps ..) rfl (.refl _ _))
  intro t1 t2
  exact (.next (.ite (by
    split
    · exact h0
    · lift_lets
      intro t3
      exact (.via (State.emit_keeps ..) rfl (.via (pairSet_keeps fun _ => ⟨rfl, rfl⟩) rfl (.via (State.put_keeps ..) rfl h0)))) (.refl _ _)))

theorem execCopyLate_keeps (at_ : Nat) (s : State) : Runs 1048576 s (execCopyLate at_ s) := by
  unfold execCopyLate
  exact (.next (.onlyIf (.refl _ _) fun _ g0 => (.via (pairFlag_keeps ..) rfl (.via (State.deadline_keeps ..) rfl g0))))

theorem pairFail_keeps (s : State) : Keeps 262144 s (pairFail s) := by
  unfold pairFail
  exact (.via (State.setEvent_keeps ..) rfl (.via (pairGo_keeps ..) rfl (.via (pairSet_keeps fun _ => ⟨rfl, rfl⟩) rfl (.refl _ _))))

theorem pairDemote_keeps (s : State) : Keeps 262144 s (pairDemote s) := by
  unfold pairDemote
  exact (.onlyIf (.refl _ _) fun _ g0 => (.via (pairFail_keeps ..) rfl g0))

theorem execDemote_keeps (s : State) : Runs 327680 s (execDemote s) := by
  unfold execDemote
  exact (.next (.hostDo rfl (.refl _ _) fun _ g0 => (.via (pairDemote_keeps ..) rfl g0)))

theorem execDigestTimeout_keeps (own : Bool) (s : State) : Runs 262144 s (execDigestTimeout own s) := by
  unfold execDigestTimeout
  refine .next (.ite (.refl _ _) (.via (State.count_keeps ..) rfl (.via (pairSet_keeps fun p => ?_) rfl (.refl _ _))))
  cases own <;> exact ⟨rfl, rfl⟩

theorem pairBadFrame_keeps (s : State) : Keeps 0 s (pairBadFrame s) := by
  unfold pairBadFrame
  exact (.via (State.count_keeps ..) rfl (.refl _ _))

theorem execEpochAck_keeps (num : BitVec 32) (tagOk : Bool) (s : State) : Runs 270336 s (execEpochAck num tagOk s) := by
  unfold execEpochAck
  exact (.next (.ite (.refl _ _) (.ite (.via (pairBadFrame_keeps ..) rfl (.refl _ _)) (by
    split
    · exact (.via (pairRotate_keeps ..) rfl (.via (pairSet_keeps fun _ => ⟨rfl, rfl⟩) rfl (.refl _ _)))
    · exact (.refl _ _)))))

theorem pairLoadKeys_keeps (plain : List Byte) (s : State) : Keeps 8192 s (pairLoadKeys plain s) := by
  unfold pairLoadKeys
  lift_lets
  intro t0
  exact (.via (ntsRest_keeps ..) rfl (.via (ntsRefresh_keeps ..) rfl (.nts rfl (.refl _ _))))

theorem pairArea_wf (cells : List (Nat × Byte)) : Memory.wf 0 (pairArea cells) = true := by
  unfold pairArea
  have : ∀ (l : List (Nat × Byte)) (m : Memory), m.wf 0 = true →
      Memory.wf 0 (l.foldl (fun m c => if c.1 < 65536 then memSet 0 m c.1 c.2 else m) m) = true := by
    intro l
    induction l with
    | nil => exact fun _ h => h
    | cons c l ih =>
      intro m h
      refine ih _ ?_
      show Memory.wf 0 (if c.1 < 65536 then memSet 0 m c.1 c.2 else m) = true
      split
      · exact memSet_wf _ _ _ _ h
      · exact h
  exact this _ _ rfl

theorem pairCommit_keeps (e : PairEpoch) (plain : List Byte) (s : State) : Keeps 270336 s (pairCommit e plain s) := by
  have h : Keeps 270336 s (pairSet (fun (p : PairState) => { p with committed := some { e with host := pairArea e.host } }) s) :=
    .via (pairSet_wf fun w => ⟨w.host, fun x hx => by cases hx; exact pairArea_wf _⟩) rfl (.refl _ _)
  exact .onlyIf (.via (State.emit_keeps ..) rfl (.via (pairLoadKeys_keeps ..) rfl (.via (State.put_keeps ..) rfl h)))
    fun _ g => .via (pairGo_keeps ..) rfl g

theorem pairArrived_keeps (e : PairEpoch) (s : State) : Keeps 270336 s (pairArrived e s) := by
  unfold pairArrived
  lift_lets
  intro t0
  have h0 : Keeps 270336 s t0 := (.via (pairAdoptKey_keeps ..) rfl (.refl _ _))
  intro t1
  exact (by
    clear_value t1
    split
    · exact (by
        split
        · exact (.via (pairCommit_keeps ..) rfl h0)
        · exact h0)
    · exact h0)

theorem execEpochCommit_keeps (e : PairEpoch) (how : EpochEnd) (s : State) : Runs 270336 s (execEpochCommit e how s) := by
  unfold execEpochCommit
  exact (.next (.ite (by
    split
    · exact (.via (pairArrived_keeps ..) rfl (.refl _ _))
    · exact (.refl _ _)
    · exact (.via (pairBadFrame_keeps ..) rfl (.refl _ _))
    · exact (.via (State.count_keeps ..) rfl (.refl _ _))) (.refl _ _)))

theorem execHandoverGapExpiry_keeps (s : State) : Runs 262144 s (execHandoverGapExpiry s) := by
  unfold execHandoverGapExpiry
  exact (.next (.via (pairSet_keeps fun _ => ⟨rfl, rfl⟩) rfl (.refl _ _)))

theorem execHeartbeatLoss_keeps (s : State) : Runs 262144 s (execHeartbeatLoss s) := by
  unfold execHeartbeatLoss
  lift_lets
  intro t0
  have h0 : Keeps 262144 s t0 := (.via (State.put_keeps ..) rfl (.refl _ _))
  exact (.next (.ite (.ite (.via (pairFlag_keeps ..) rfl (.via (pairSet_keeps fun _ => ⟨rfl, rfl⟩) rfl h0)) (.onlyIf h0 fun _ g1 => (.via (pairGo_keeps ..) rfl g1))) (.refl _ _)))

theorem pairSyncing_keeps (s : State) : Keeps 262144 s (pairSyncing s) :=
  .via (pairGo_keeps ..) rfl (.via (pairSet_wf fun w => ⟨w.host, fun _ h => nomatch h⟩) rfl (.refl _ _))

theorem pairLeaveKeying_keeps (s : State) : Keeps 262144 s (pairLeaveKeying s) := by
  unfold pairLeaveKeying
  lift_lets
  intro t0 t1 t2
  exact (.ite (.ite (.via (pairSyncing_keeps ..) rfl (.refl _ _)) (.ite (.ite (.via (pairGo_keeps ..) rfl (.refl _ _)) (.via (pairSyncing_keeps ..) rfl (.refl _ _))) (.refl _ _))) (.refl _ _))

theorem pairLoadStaged_keeps (plain : List Byte) (s : State) : Keeps 1056768 s (pairLoadStaged plain s) := by
  unfold pairLoadStaged
  lift_lets
  intro t0
  have h0 : Keeps 1056768 s t0 := (.via (State.put_keeps ..) rfl (.refl _ _))
  intro t1 t2
  exact (by
    split
    · exact (.via (ntsState_keeps ..) rfl (.step h0 (fun w => { w with con := (fun w => by exact w.con) w }) rfl fun p hp => by cases p <;> first | exact absurd hp (by decide) | rfl))
    · exact h0)

theorem pairNtsEmpty_keeps (s : State) : Keeps 1056768 s (pairNtsEmpty s) := by
  unfold pairNtsEmpty
  lift_lets
  intro t0 t1
  have h1 : Keeps 1056768 s t1 := (.via (ntsRest_keeps ..) rfl (.via (ntsRefresh_keeps ..) rfl (.nts rfl (.refl _ _))))
  exact (.onlyIf h1 fun _ g2 => (.via (ntsDraw_keeps ..) rfl g2))

theorem pairTakeCopy_keeps (now : Int) (s : State) : Keeps 1318912 s (pairTakeCopy now s) := by
  unfold pairTakeCopy
  split
  · rename_i e k _ he _
    have h0 : Keeps 1318912 s ((s.put (PAIR_STATE_AGE.AGE) (pairAge s now e.time)).freeNext) :=
      .via (State.freeNext_keeps ..) rfl (.via (State.put_keeps ..) rfl (.refl _ _))
    have h : Keeps 1318912 s (pairSet (fun (p : PairState) => { p with host := e.host })
        ((s.put (PAIR_STATE_AGE.AGE) (pairAge s now e.time)).freeNext)) :=
      .via (pairSet_wf fun w => ⟨w.copy e he, w.copy⟩) rfl h0
    cases pairUnwrap k e.nts with
    | none => exact h
    | some plain => exact .via (pairLoadStaged_keeps ..) rfl h
  · exact .via (pairNtsEmpty_keeps ..) rfl (.via (State.put_keeps ..) rfl (.refl _ _))

theorem pairPromote_keeps (st : Nat) (now : Int) (s : State) : Keeps 1318912 s (pairPromote st now s) := by
  unfold pairPromote
  lift_lets
  intro t0
  have h0 : Keeps 1318912 s t0 := (.via (pairTakeCopy_keeps ..) rfl (.refl _ _))
  intro t1
  have h1 : Keeps 1318912 s t1 := (.onlyIf h0 fun _ g2 => (.via (State.emit_keeps ..) rfl g2))
  intro t3 t4
  have h4 : Keeps 1318912 s t4 := (.via (pairGo_keeps ..) rfl (.via (pairSet_keeps fun _ => ⟨rfl, rfl⟩) rfl h1))
  exact (.via (pairFlag_keeps ..) rfl (.via (State.count_keeps ..) rfl h4))

theorem pairTrigger_keeps (now : Int) (s : State) : Keeps 1318912 s (pairTrigger now s) := by
  unfold pairTrigger
  exact (.ite (.ite (.via (pairPromote_keeps ..) rfl (.refl _ _)) (.via (pairFlag_keeps ..) rfl (.refl _ _))) (.refl _ _))

theorem pairByBeat_keeps (b : PairBeat) (now : Int) (s : State) : Keeps 1318912 s (pairByBeat b now s) := by
  unfold pairByBeat
  exact (by
    split
    · exact (.via (pairLeaveKeying_keeps ..) rfl (.refl _ _))
    · exact (.onlyIf (.refl _ _) fun _ g0 => (.via (pairTrigger_keeps ..) rfl g0))
    · exact (.onlyIf (.refl _ _) fun _ g1 => (.via (pairTrigger_keeps ..) rfl g1))
    · exact (.onlyIf (.refl _ _) fun _ g2 => (.via (pairGo_keeps ..) rfl g2))
    · exact (.refl _ _))

theorem pairUndecided_keeps (s : State) : Keeps 262144 s (pairUndecided s) := by
  unfold pairUndecided
  exact (.via (pairFlag_keeps ..) rfl (.via (pairSet_keeps fun _ => ⟨rfl, rfl⟩) rfl (.refl _ _)))

theorem pairVerdict_keeps (peer : Option Int) (now : Int) (s : State) : Keeps 1318912 s (pairVerdict peer now s) := by
  unfold pairVerdict
  lift_lets
  intro t0
  have h0 : Keeps 1318912 s t0 := (.via (pairSet_keeps fun _ => ⟨rfl, rfl⟩) rfl (.refl _ _))
  intro t1
  exact (by
    split
    · exact (.ite (.onlyIf h0 fun _ g2 => (.via (pairFail_keeps ..) rfl g2)) (.ite (.via (pairTrigger_keeps ..) rfl h0) (.via (pairUndecided_keeps ..) rfl h0)))
    · exact (.via (pairUndecided_keeps ..) rfl h0))

theorem pairBeatRx_keeps (b : PairBeat) (tagOk : Bool) (now : Int) (s : State) : Keeps 1318912 s (pairBeatRx b tagOk now s) := by
  unfold pairBeatRx
  lift_lets
  intro t0
  have h0 : Keeps 1318912 s t0 := (.via (State.put_keeps ..) rfl (.via (State.put_keeps ..) rfl (.via (State.put_keeps ..) rfl (.refl _ _))))
  intro t1
  have h1 : Keeps 1318912 s t1 := (.via (pairSet_keeps fun _ => ⟨rfl, rfl⟩) rfl h0)
  intro t2 t3
  have h3 : Keeps 1318912 s t3 := by
    unfold t3
    exact (by
      clear_value t2
      split
      · exact (.via (State.putS_keeps ..) rfl h1)
      · exact h1)
  intro t4
  have h4 : Keeps 1318912 s t4 := (.via (pairByBeat_keeps ..) rfl h3)
  exact (.ite (.refl _ _) (.ite (.via (pairBadFrame_keeps ..) rfl (.refl _ _)) (.via (pairRotate_keeps ..) rfl (.onlyIf h4 fun _ g5 => (.via (pairVerdict_keeps ..) rfl g5)))))

theorem execHeartbeatRx_keeps (b : PairBeat) (tagOk : Bool) (at_ : Nat) (s : State) :
    Runs 1318912 s (execHeartbeatRx b tagOk at_ s) := by
  unfold execHeartbeatRx
  exact (.next (.via (pairBeatRx_keeps ..) rfl (.refl _ _)))

theorem execHeartbeatTx_keeps (at_ : Nat) (s : State) : Runs 0 s (execHeartbeatTx at_ s) := by
  unfold execHeartbeatTx
  exact (.next (.onlyIf (.refl _ _) fun _ g0 => (.via (State.emit_keeps ..) rfl g0)))

theorem pairNextIdx_keeps (s : State) : Keeps 0 s (pairNextIdx s) := by
  unfold pairNextIdx
  exact (.via (State.put_keeps ..) rfl (.refl _ _))

theorem pairHostAccess_keeps (write : Bool) (v : Word) (s : State) : Keeps 262152 s (pairHostAccess write v s) := by
  unfold pairHostAccess
  split
  · exact .via (pairNextIdx_keeps ..) rfl (.onlyIf (.refl _ _) fun _ g =>
      .via (pairSet_wf fun w => ⟨memWrite_wf _ _ _ _ w.host, w.copy⟩) rfl g)
  · exact .via (pairNextIdx_keeps ..) rfl (.sys rfl (.refl _ _))

theorem execHostStateAccess_keeps (write : Bool) (v : Word) (s : State) : Runs 327688 s (execHostStateAccess write v s) := by
  unfold execHostStateAccess
  exact (.next (.ite (.hostDo rfl (.refl _ _) fun _ g0 => (.via (pairHostAccess_keeps ..) rfl g0)) (.hostPop rfl (.refl _ _) fun _ g1 => (.via (pairHostAccess_keeps ..) rfl g1))))

theorem execInternalRequest_keeps (pair : Bool) (s : State) : Runs 32768 s (execInternalRequest pair s) := by
  unfold execInternalRequest
  exact (.next (.ite (by
    split
    · exact (.via (bneSubmit_keeps ..) rfl (.refl _ _))
    · exact (.refl _ _)) (.via (provSubmit_keeps ..) rfl (.refl _ _))))

theorem pairDrawn_keeps (s : State) : Keeps 262144 s (pairDrawn s) := by
  unfold pairDrawn
  lift_lets
  intro t0 t1
  have h1 : Keeps 262144 s t1 := (.via (State.freeNext_keeps ..) rfl (.refl _ _))
  intro t2 t3
  exact (.via (pairSet_keeps fun _ => ⟨rfl, rfl⟩) rfl (.via (State.freeNext_keeps ..) rfl h1))

theorem pairWantSecret_keeps (s : State) : Keeps 262144 s (pairWantSecret s) := by
  unfold pairWantSecret
  exact (by
    split
    · exact (.ite (.via (pairSet_keeps fun _ => ⟨rfl, rfl⟩) rfl (.refl _ _)) (.refl _ _))
    · exact (.refl _ _))

theorem pairSend_keeps (s : State) : Keeps 262144 s (pairSend s) := by
  unfold pairSend
  exact (by
    split
    · lift_lets
      intro t0 t1
      have h1 : Keeps 262144 s t1 := (.via (pairSet_keeps fun _ => ⟨rfl, rfl⟩) rfl (.via (State.emit_keeps ..) rfl (.refl _ _)))
      exact (.via (pairWantSecret_keeps ..) rfl h1)
    · exact (.refl _ _))

theorem pairKeyBad_keeps (s : State) : Keeps 262144 s (pairKeyBad s) := by
  unfold pairKeyBad
  exact (.via (pairFlag_keeps ..) rfl (.via (pairSet_keeps fun _ => ⟨rfl, rfl⟩) rfl (.refl _ _)))

theorem pairKeyed_keeps (k : List Byte) (s : State) : Keeps 262144 s (pairKeyed k s) := by
  unfold pairKeyed
  exact (.ite (.via (pairSet_keeps fun _ => ⟨rfl, rfl⟩) rfl (.refl _ _)) (.via (pairLeaveKeying_keeps ..) rfl (.via (State.put_keeps ..) rfl (.via (pairSet_keeps fun _ => ⟨rfl, rfl⟩) rfl (.refl _ _)))))

theorem pairDerive_keeps (s : State) : Keeps 262144 s (pairDerive s) := by
  unfold pairDerive
  split
  · exact .ite (.via (pairKeyBad_keeps ..) rfl (.refl _ _)) (.via (pairKeyed_keeps ..) rfl (.refl _ _))
  · exact .refl _ _

theorem execInternalRequestDone_keeps (s : State) : Runs 294912 s (execInternalRequestDone s) := by
  unfold execInternalRequestDone
  exact (.next (.ite (.via (pairDrawn_keeps ..) rfl (.via (bneEndRequest_keeps ..) rfl (.refl _ _))) (.ite (.via (pairSend_keeps ..) rfl (.via (bneEndRequest_keeps ..) rfl (.refl _ _))) (.ite (.via (pairDerive_keeps ..) rfl (.via (bneEndRequest_keeps ..) rfl (.refl _ _))) (.refl _ _)))))

theorem pairKeyMessage_keeps (pub nonce hash sig : List Byte) (s : State) :
    Keeps 294912 s (pairKeyMessage pub nonce hash sig s) := by
  unfold pairKeyMessage
  lift_lets
  intro t0
  have h0 : Keeps 294912 s t0 := (.onlyIf (.refl _ _) fun _ g1 => (.via (pairFlag_keeps ..) rfl g1))
  intro t2
  have h2 : Keeps 294912 s t2 := (.onlyIf h0 fun _ g3 => (.via (pairKeyBegin_keeps ..) rfl g3))
  exact (.ite (.refl _ _) (.ite (.via (pairKeyBad_keeps ..) rfl (.refl _ _)) (.via (pairWantSecret_keeps ..) rfl (.via (pairSet_keeps fun _ => ⟨rfl, rfl⟩) rfl h2))))

theorem execKeyMessage_keeps (bytes : List Byte) (s : State) : Runs 294912 s (execKeyMessage bytes s) := by
  unfold execKeyMessage
  exact (.next (.via (pairKeyMessage_keeps ..) rfl (.refl _ _)))

theorem execKeyRetry_keeps (s : State) : Runs 294912 s (execKeyRetry s) := by
  unfold execKeyRetry
  exact (.next (.onlyIf (.refl _ _) fun _ g0 => (.via (pairKeyBegin_keeps ..) rfl g0)))

theorem pairArbitrate_keeps (now : Int) (s : State) : Keeps 1318912 s (pairArbitrate now s) := by
  unfold pairArbitrate
  lift_lets
  intro t0 t1
  have h1 : Keeps 1318912 s t1 := (.via (pairSet_keeps fun _ => ⟨rfl, rfl⟩) rfl (.refl _ _))
  intro t2
  have h2 : Keeps 1318912 s t2 := by
    unfold t2
    exact (by
      clear_value t0
      split
      · exact (.via (State.putS_keeps ..) rfl h1)
      · exact h1)
  exact (.ite h2 (.via (pairVerdict_keeps ..) rfl h2))

theorem pairCompare_keeps (now : Int) (s : State) : Keeps 1318912 s (pairCompare now s) := by
  unfold pairCompare
  lift_lets
  intro t0 t1
  have h1 : Keeps 1318912 s t1 := (.via (pairSet_keeps fun _ => ⟨rfl, rfl⟩) rfl (.refl _ _))
  intro t2
  have h2 : Keeps 1318912 s t2 := by
    unfold t2
    exact (by
      clear_value t0
      split
      · exact (.via (State.putS_keeps ..) rfl h1)
      · exact h1)
  intro t3 t4 t5
  have h5 : Keeps 1318912 s t5 := (.via (pairSet_keeps fun _ => ⟨rfl, rfl⟩) rfl h2)
  intro t6
  exact (.ite (.via (pairSet_keeps fun _ => ⟨rfl, rfl⟩) rfl h5) (.ite (.onlyIf h5 fun _ g7 => (.via (pairArbitrate_keeps ..) rfl g7)) (.ite (.via (pairArbitrate_keeps ..) rfl (.via (pairFlag_keeps ..) rfl (.via (pairSet_keeps fun _ => ⟨rfl, rfl⟩) rfl h5))) h5)))

theorem execPairCompare_keeps (at_ : Nat) (s : State) : Runs 1318912 s (execPairCompare at_ s) := by
  unfold execPairCompare
  exact (.next (.onlyIf (.refl _ _) fun _ g0 => (.via (pairCompare_keeps ..) rfl g0)))

theorem pairOff_keeps (s : State) : Keeps 294912 s (pairOff s) := by
  have h : Keeps 294912 s (bneWithdraw (fun r => r != .ledger) s) := .via (bneWithdraw_keeps ..) rfl (.refl _ _)
  exact (.via (State.put_keeps ..) rfl (.via (State.put_keeps ..) rfl (.via (State.put_keeps ..) rfl
    (.via (pairSet_wf fun w => ⟨w.host, fun _ h => nomatch h⟩) rfl h))))

theorem pairEnable_keeps (en : Bool) (s : State) : Keeps 294912 s (pairEnable en s) := by
  unfold pairEnable
  lift_lets
  intro t0 t1
  have h1 : Keeps 294912 s t1 := (.via (State.putB_keeps ..) rfl (.refl _ _))
  exact (.ite h1 (.ite (.ite (.via (pairKeying_keeps ..) rfl h1) h1) (.via (pairOff_keeps ..) rfl h1)))

theorem execPairEnable_keeps (en : Bool) (s : State) : Runs 360448 s (execPairEnable en s) := by
  unfold execPairEnable
  exact (.next (.hostDo rfl (.refl _ _) fun _ g0 => (.via (pairEnable_keeps ..) rfl g0)))

theorem execPairWaitExpiry_keeps (s : State) : Runs 0 s (execPairWaitExpiry s) := by
  unfold execPairWaitExpiry
  exact (.next (.onlyIf (.refl _ _) fun _ g0 => (.via (pairGo_keeps ..) rfl g0)))

theorem execPartnerOkChange_keeps (level cut : Bool) (at_ : Nat) (s : State) :
    Runs 1318920 s (execPartnerOkChange level cut at_ s) := by
  unfold execPartnerOkChange
  lift_lets
  intro t0 t1
  have h1 : Keeps 1318920 s t1 := (.via (State.putB_keeps ..) rfl (.sys rfl (.refl _ _)))
  exact (.next (.ite h1 (by
    split
    · exact (.via (pairPromote_keeps ..) rfl (.onlyIf h1 fun _ g2 => (.via (State.count_keeps ..) rfl g2)))
    · exact (.via (pairPromote_keeps ..) rfl (.onlyIf h1 fun _ g3 => (.via (State.count_keeps ..) rfl g3)))
    · exact (.onlyIf h1 fun _ g4 => (.via (pairGo_keeps ..) rfl g4))
    · exact h1)))

theorem execPartnerPromoted_keeps (tagOk : Bool) (s : State) : Runs 262144 s (execPartnerPromoted tagOk s) := by
  unfold execPartnerPromoted
  exact (.next (.ite (.refl _ _) (.ite (.via (pairBadFrame_keeps ..) rfl (.refl _ _)) (.onlyIf (.refl _ _) fun _ g0 => (.via (pairSyncing_keeps ..) rfl g0)))))

theorem pairPivotFault_keeps (s : State) : Keeps 262144 s (pairPivotFault s) := by
  unfold pairPivotFault
  exact (.onlyIf (.refl _ _) fun _ g0 => (.via (pairFail_keeps ..) rfl g0))

theorem pairHostPromote_keeps (force : Bool) (now : Int) (s : State) : Keeps 1318912 s (pairHostPromote force now s) := by
  unfold pairHostPromote
  exact (.ite (.ite (.via (pairFlag_keeps ..) rfl (.refl _ _)) (.via (pairPromote_keeps ..) rfl (.refl _ _))) (.refl _ _))

theorem execPromote_keeps (force : Bool) (at_ : Nat) (s : State) : Runs 1384448 s (execPromote force at_ s) := by
  unfold execPromote
  exact (.next (.hostDo rfl (.refl _ _) fun _ g0 => (.via (pairHostPromote_keeps ..) rfl g0)))

theorem pairCfgWrite_keeps (v : Word) (s : State) : Keeps 294912 s (pairCfgWrite v s) := by
  unfold pairCfgWrite
  exact (.via (pairEnable_keeps ..) rfl (.via (State.setReg_keeps ..) rfl (.refl _ _)))

theorem pairRekey_keeps (periodic : Bool) (s : State) : Keeps 294912 s (pairRekey periodic s) := by
  unfold pairRekey
  exact (.onlyIf (.refl _ _) fun _ g0 => (.via (pairKeyBegin_keeps ..) rfl g0))

theorem pairRepaired_keeps (s : State) : Keeps 294912 s (pairRepaired s) := by
  unfold pairRepaired
  exact (.onlyIf (.refl _ _) fun _ g0 => (.via (pairKeying_keeps ..) rfl g0))

theorem pairCtrlWrite_keeps (v : Word) (now : Int) (s : State) : Keeps 1351680 s (pairCtrlWrite v now s) := by
  unfold pairCtrlWrite
  lift_lets
  intro t0
  have h0 : Keeps 1351680 s t0 := (.onlyIf (.refl _ _) fun _ g1 => (.via (pairHostPromote_keeps ..) rfl g1))
  exact (.onlyIf (.onlyIf (.onlyIf h0 fun _ g4 => (.via (pairDemote_keeps ..) rfl g4)) fun _ g3 => (.via (pairRepaired_keeps ..) rfl g3)) fun _ g2 => (.via (pairRekey_keeps ..) rfl g2))

theorem execRehearsalDigest_keeps (digest : List Byte) (tagOk : Bool) (s : State) :
    Runs 262144 s (execRehearsalDigest digest tagOk s) := by
  unfold execRehearsalDigest
  exact (.next (.ite (.refl _ _) (.ite (.via (pairBadFrame_keeps ..) rfl (.refl _ _)) (.ite (.refl _ _) (by
    split
    · exact (.via (pairCompared_keeps ..) rfl (.via (pairSet_keeps fun _ => ⟨rfl, rfl⟩) rfl (.refl _ _)))
    · exact (.via (pairSet_keeps fun _ => ⟨rfl, rfl⟩) rfl (.refl _ _)))))))

theorem execRekey_keeps (periodic : Bool) (s : State) : Runs 360448 s (execRekey periodic s) := by
  unfold execRekey
  exact (.next (.hostDo rfl (.refl _ _) fun _ g0 => (.via (pairRekey_keeps ..) rfl g0)))

theorem execRepaired_keeps (s : State) : Runs 360448 s (execRepaired s) := by
  unfold execRepaired
  exact (.next (.hostDo rfl (.refl _ _) fun _ g0 => (.via (pairRepaired_keeps ..) rfl g0)))

end Sys2Proof.Machine
end

