-- ==== Sys2Proof/Laws/KeepsPtp.lean ====
section
/-! SUPPORT. What the operations of Ptp.lean keep: the form of the state, the queue, and the parts outside their mask. -/

namespace Sys2Proof.Machine

theorem ptpSlots_keeps {M i : Nat} {f : Nat → State → State} {a s : State} (hM : 0 &&& M = 0) (h : Keeps M a s)
    (hf : ∀ n b, Keeps M a b → Keeps M a (f n b)) : Keeps M a (ptpSlots i f s) :=
  rgsForSource_keeps hM h hf

theorem ptpQueue_keeps (i : Nat) (d : PtpDest) (event : Bool) (ts : Option TsReq) (msg : List Byte) (s : State) :
    Keeps 2048 s (ptpQueue i d event ts msg s) := by
  unfold ptpQueue
  lift_lets
  intro t0
  exact (.via (portQueue_keeps ..) rfl (.via (State.freeNext_keeps ..) rfl (.refl _ _)))

theorem ptpSignal_keeps (i : Nat) (d : PtpDest) (target : PtpPort) (tlv : List Byte) (s : State) :
    Keeps 18432 s (ptpSignal i d target tlv s) := by
  unfold ptpSignal
  lift_lets
  intro t0
  exact (.via (ptpQueue_keeps ..) rfl (.via (ptpSet_keeps ..) rfl (.refl _ _)))

theorem ptpAsk_keeps (i : Nat) (ask : Bool) (u : Option (List Byte × Nat)) (s : State) : Keeps 18432 s (ptpAsk i ask u s) := by
  unfold ptpAsk
  lift_lets
  intro t0 t1
  exact (by
    split
    · exact (.refl _ _)
    · lift_lets
      intro t2
      exact (.via (ptpSignal_keeps ..) rfl (.refl _ _)))

theorem ptpUmWrite_keeps (i m : Nat) (v : Word) (s : State) : Keeps 18432 s (ptpUmWrite i m v s) := by
  unfold ptpUmWrite
  lift_lets
  intro t0
  have h0 : Keeps 18432 s t0 := (.via (State.setReg_keeps ..) rfl (.refl _ _))
  intro t1 t2 t3 t4
  have h4 : Keeps 18432 s t4 := (.via (ptpSet_keeps ..) rfl h0)
  exact (.onlyIf h4 fun _ g5 => (.via (ptpAsk_keeps ..) rfl g5))

theorem ptpEnter_keeps (i st : Nat) (s : State) : Keeps 0 s (ptpEnter i st s) := by
  unfold ptpEnter
  exact (.via (State.put_keeps ..) rfl (.refl _ _))

theorem ptpClearPath_keeps (i : Nat) (s : State) : Keeps 16384 s (ptpClearPath i s) := by
  unfold ptpClearPath
  lift_lets
  intro t0
  have h0 : Keeps 16384 s t0 := (.via (ptpSet_keeps ..) rfl (.refl _ _))
  exact (.via (State.putS_keeps ..) rfl (.via (State.put_keeps ..) rfl h0))

theorem ptpEnable_keeps (i : Nat) (en : Bool) (s : State) : Keeps 18496 s (ptpEnable i en s) := by
  unfold ptpEnable
  lift_lets
  intro t0 t1 t2
  have f2 : ∀ x0 a, Keeps 18496 s a → Keeps 18496 s (t2 x0 a) := by
    intro _ a g3
    unfold t2
    exact (.onlyIf g3 fun _ g4 => (.foldl _ g4 fun _ _ g5 => (.via (ptpAsk_keeps ..) rfl g5)))
  intro t6
  have h6 : Keeps 18496 s t6 := (.via (ptpEnter_keeps ..) rfl (.via (State.put_keeps ..) rfl (f2 _ _ (.refl _ _))))
  exact (.ite (.via (State.setFlag_keeps ..) rfl (.refl _ _)) (.ite (f2 _ _ (.via (ptpEnter_keeps ..) rfl (.via (State.put_keeps ..) rfl (.refl _ _)))) (.ite (.ite (ptpSlots_keeps rfl (.via (ptpClearPath_keeps ..) rfl (.via (ptpSet_keeps ..) rfl h6)) fun _ _ g7 => (.via (rgsSignal_keeps ..) rfl g7)) (.via (ptpSet_keeps ..) rfl h6)) (.refl _ _))))

theorem ptpPutTable_keeps (t : List (Nat × PtpClient)) (s : State) : Keeps 16384 s (ptpPutTable t s) := by
  unfold ptpPutTable
  lift_lets
  intro t0
  exact (.via (State.put_keeps ..) rfl (.ptp (fun w => by exact w.ptp) rfl (.refl _ _)))

theorem ptpFlag_keeps (i : Nat) (f : Fld) (s : State) : Keeps 0 s (ptpFlag i f s) := by
  unfold ptpFlag
  exact (.via (State.setFlag_keeps ..) rfl (.refl _ _))

theorem ptpPostGrade_keeps (i : Nat) (f : Foreign) (s : State) : Keeps 0 s (ptpPostGrade i f s) := by
  unfold ptpPostGrade
  exact (ptpSlots_keeps rfl (.refl _ _) fun _ _ g0 => (.via (rgsMessage_keeps ..) rfl g0))

theorem ptpChoose_keeps (i : Nat) (s : State) : Keeps 16384 s (ptpChoose i s) := by
  unfold ptpChoose
  lift_lets
  intro t0
  exact (by
    split
    · exact (.refl _ _)
    · lift_lets
      intro t1
      have h1 : Keeps 16384 s t1 := (.via (State.put64_keeps ..) rfl (.via (ptpSet_keeps ..) rfl (.refl _ _)))
      intro t2
      have h2 : Keeps 16384 s t2 := (.ite (.via (ptpClearPath_keeps ..) rfl (.via (ptpEnter_keeps ..) rfl h1)) (.ite h1 (.via (ptpFlag_keeps ..) rfl (.via (ptpClearPath_keeps ..) rfl (.via (ptpEnter_keeps ..) rfl h1)))))
      exact (.via (ptpPostGrade_keeps ..) rfl h2))

theorem ptpAnnounceRx_keeps (i : Nat) (m : PtpMsg) (d : PtpData) (at_ : Nat) (s : State) :
    Keeps 16384 s (ptpAnnounceRx i m d at_ s) := by
  unfold ptpAnnounceRx
  lift_lets
  intro t0 t1
  exact (.via (ptpChoose_keeps ..) rfl (.via (ptpSet_keeps ..) rfl (.refl _ _)))

theorem ptpTaken_keeps (i : Nat) (is : PtpRx → Bool) (s : State) : Keeps 16384 s (ptpTaken i is s) := by
  unfold ptpTaken
  exact (.via (ptpSet_keeps ..) rfl (.refl _ _))

theorem execAnnounceRx_keeps (i : Fin 16) (m : PtpMsg) (d : PtpData) (at_ : Nat) (s : State) :
    Runs 16384 s (execAnnounceRx i m d at_ s) := by
  unfold execAnnounceRx
  exact (.next (.onlyIf (.refl _ _) fun _ g0 => (.via (ptpAnnounceRx_keeps ..) rfl (.via (ptpTaken_keeps ..) rfl g0))))

theorem execAnnounceTimeout_keeps (i : Fin 16) (s : State) : Runs 16448 s (execAnnounceTimeout i s) := by
  unfold execAnnounceTimeout
  exact (.next (.onlyIf (.refl _ _) fun _ g0 => (by
    lift_lets
    intro t1 t2
    have h2 : Keeps 16448 s t2 := (.via (ptpSet_keeps ..) rfl g0)
    exact (ptpSlots_keeps rfl (.via (ptpEnter_keeps ..) rfl h2) fun _ _ g3 => (.via (rgsSignal_keeps ..) rfl g3)))))

theorem ptpAnnounceTx_keeps (i : Nat) (client : Option Nat) (at_ : Nat) (s : State) :
    Keeps 18432 s (ptpAnnounceTx i client at_ s) := by
  unfold ptpAnnounceTx
  lift_lets
  intro t0 t1
  have h1 : Keeps 18432 s t1 := (.via (State.put_keeps ..) rfl (.via (State.put_keeps ..) rfl (.refl _ _)))
  exact (.ite (.via (ptpSet_keeps ..) rfl (.via (ptpQueue_keeps ..) rfl h1)) (.refl _ _))

theorem execAnnounceTx_keeps (i : Fin 16) (client : Option (Fin 16384)) (at_ : Nat) (s : State) :
    Runs 18432 s (execAnnounceTx i client at_ s) := by
  unfold execAnnounceTx
  exact (.next (.via (ptpAnnounceTx_keeps ..) rfl (.refl _ _)))

theorem ptpDeliver_keeps (i : Nat) (x : Int) (s : State) : Keeps 16448 s (ptpDeliver i x s) := by
  unfold ptpDeliver
  lift_lets
  intro t0
  have h0 : Keeps 16448 s t0 := (.via (ptpSet_keeps ..) rfl (.via (State.putS_keeps ..) rfl (.refl _ _)))
  exact (ptpSlots_keeps rfl h0 fun _ _ g1 => (.via (rgsSample_keeps ..) rfl g1))

theorem ptpPathStep_keeps (i : Nat) (run : List (Int × Int)) (s : State) : Keeps 16464 s (ptpPathStep i run s) := by
  unfold ptpPathStep
  lift_lets
  intro t0 t1 t2 t3 t4
  have h4 : Keeps 16464 s t4 := (.via (State.putS_keeps ..) rfl (.refl _ _))
  intro t5
  have h5 : Keeps 16464 s t5 := (.via (ptpSet_keeps ..) rfl h4)
  intro t6
  have h6 : Keeps 16464 s t6 := (.via (ptpSet_keeps ..) rfl (.via (State.put_keeps ..) rfl h5))
  exact (.ite h5 (ptpSlots_keeps rfl (.via (ptpFlag_keeps ..) rfl h6) fun _ _ g7 => (.via (rgsPathStep_keeps ..) rfl g7)))

theorem ptpPath_keeps (i : Nat) (raw rt : Int) (s : State) : Keeps 16464 s (ptpPath i raw rt s) := by
  unfold ptpPath
  lift_lets
  intro t0 t1 t2
  have h2 : Keeps 16464 s t2 := (.via (ptpSet_keeps ..) rfl (.refl _ _))
  intro t3
  exact (.ite (.via (ptpDeliver_keeps ..) rfl h2) (.ite (.via (ptpPathStep_keeps ..) rfl (.refl _ _)) (.via (ptpSet_keeps ..) rfl (.refl _ _))))

theorem ptpReaccept_keeps (i : Nat) (s : State) : Keeps 16464 s (ptpReaccept i s) := by
  unfold ptpReaccept
  lift_lets
  intro t0
  have h0 : Keeps 16464 s t0 := (.via (State.put_keeps ..) rfl (.via (State.putS_keeps ..) rfl (.refl _ _)))
  intro t1
  have h1 : Keeps 16464 s t1 := (.via (ptpSet_keeps ..) rfl h0)
  exact (ptpSlots_keeps rfl (.via (ptpFlag_keeps ..) rfl h1) fun _ _ g2 => (.via (rgsPathOk_keeps ..) rfl g2))

theorem ptpHold_keeps (i : Nat) (s : State) : Keeps 0 s (ptpHold i s) := by
  unfold ptpHold
  lift_lets
  intro t0
  exact (.via (State.putS_keeps ..) rfl (.refl _ _))

theorem ptpConfirm_keeps (i : Nat) (raw : Int) (s : State) : Keeps 16464 s (ptpConfirm i raw s) := by
  unfold ptpConfirm
  lift_lets
  intro t0 t1 t2
  have h2 : Keeps 16464 s t2 := (.via (ptpSet_keeps ..) rfl (.refl _ _))
  intro t3
  exact (.ite (.via (ptpReaccept_keeps ..) rfl h2) (.ite (.via (ptpReaccept_keeps ..) rfl (.via (ptpHold_keeps ..) rfl h2)) h2))

theorem ptpSample_keeps (i : Nat) (s : State) : Keeps 16464 s (ptpSample i s) := by
  unfold ptpSample
  lift_lets
  intro t0 t1
  have h1 : Keeps 16464 s t1 := (.via (ptpSet_keeps ..) rfl (.refl _ _))
  intro t2
  exact (.ite (.refl _ _) (by
    split
    · exact h1
    · lift_lets
      intro t3 t4 t5 t6
      have h6 : Keeps 16464 s t6 := (.via (State.count_keeps ..) rfl (.via (State.putS_keeps ..) rfl (.via (State.putS_keeps ..) rfl h1)))
      intro t7
      have h7 : Keeps 16464 s t7 := (.onlyIf h6 fun _ g8 => (.via (ptpEnter_keeps ..) rfl g8))
      intro t9
      have h9 : Keeps 16464 s t9 := (ptpSlots_keeps rfl h7 fun _ _ g10 => (.via (rgsSignal_keeps ..) rfl g10))
      intro t11 t12
      have h12 : Keeps 16464 s t12 := (.via (ptpPath_keeps ..) rfl h9)
      exact (.onlyIf h12 fun _ g13 => (.via (ptpConfirm_keeps ..) rfl g13))))

theorem execClientSample_keeps (i : Fin 16) (s : State) : Runs 16464 s (execClientSample i s) := by
  unfold execClientSample
  exact (.next (.via (ptpSample_keeps ..) rfl (.refl _ _)))

theorem ptpDelayResp_keeps (i : Nat) (m : PtpMsg) (t4 : Int) (s : State) : Keeps 2048 s (ptpDelayResp i m t4 s) := by
  unfold ptpDelayResp
  lift_lets
  intro t0 t1
  exact (.via (ptpQueue_keeps ..) rfl (.refl _ _))

theorem ptpDelayReq_keeps (i : Nat) (m : PtpMsg) (x : PtpRx) (s : State) : Keeps 2048 s (ptpDelayReq i m x s) := by
  unfold ptpDelayReq
  exact (.ite (.via (State.count_keeps ..) rfl (.refl _ _)) (.ite (.via (State.count_keeps ..) rfl (.refl _ _)) (.via (ptpDelayResp_keeps ..) rfl (.refl _ _))))

theorem execDelayReq_keeps (i : Fin 16) (m : PtpMsg) (at_ : Nat) (s : State) : Runs 18432 s (execDelayReq i m at_ s) := by
  unfold execDelayReq
  exact (.next (by
    split
    · exact (.via (ptpDelayReq_keeps ..) rfl (.via (ptpTaken_keeps ..) rfl (.refl _ _)))
    · exact (.refl _ _)))

theorem ptpReqTx_keeps (i k : Nat) (g : BlockGrid) (s : State) : Keeps 1067008 s (ptpReqTx i k g s) := by
  unfold ptpReqTx
  lift_lets
  intro t0 t1 t2 t3
  have h3 : Keeps 1067008 s t3 := (.via (ptpSet_keeps ..) rfl (.refl _ _))
  intro t4 t5 t6
  exact (.ite (.refl _ _) (by
    split
    · exact (.via (State.deadline_keeps ..) rfl (.via (ownerDropped_keeps ..) rfl h3))
    · lift_lets
      intro t7 t8 t9 t10
      have h10 : Keeps 1067008 s t10 := (.via (ptpSet_keeps ..) rfl h3)
      exact (.ite (.via (depReserve_keeps ..) rfl (.via (State.freeNext_keeps ..) rfl h10)) (.via (depRefuse_keeps ..) rfl h3))))

theorem execDelayReqInstant_keeps (i : Fin 16) (k : Nat) (g : BlockGrid) (s : State) :
    Runs 1067008 s (execDelayReqInstant i k g s) := by
  unfold execDelayReqInstant
  exact (.next (.via (ptpReqTx_keeps ..) rfl (.refl _ _)))

theorem ptpRespRx_keeps (i : Nat) (m : PtpMsg) (t4 : Int) (s : State) : Keeps 16384 s (ptpRespRx i m t4 s) := by
  unfold ptpRespRx
  exact (by
    split
    · exact (.refl _ _)
    · lift_lets
      intro t0
      have h0 : Keeps 16384 s t0 := (.via (ptpSet_keeps ..) rfl (.refl _ _))
      intro t1
      exact (by
        split
        · exact h0
        · lift_lets
          intro t2
          exact (.ite (.via (State.count_keeps ..) rfl h0) (.via (ptpSet_keeps ..) rfl h0))))

theorem execDelayRespRx_keeps (i : Fin 16) (m : PtpMsg) (sec : BitVec 48) (ns : BitVec 32) (s : State) :
    Runs 16384 s (execDelayRespRx i m sec ns s) := by
  unfold execDelayRespRx
  exact (.next (.onlyIf (.refl _ _) fun _ g0 => (.via (ptpRespRx_keeps ..) rfl (.via (ptpTaken_keeps ..) rfl g0))))

theorem execExchangeTimeout_keeps (i : Fin 16) (s : State) : Runs 64 s (execExchangeTimeout i s) := by
  unfold execExchangeTimeout
  exact (.next (.onlyIf (.refl _ _) fun _ g0 => (ptpSlots_keeps rfl g0 fun _ _ g1 => (.via (rgsSignal_keeps ..) rfl g1))))

theorem ptpMiss_keeps (i : Nat) (s : State) : Keeps 0 s (ptpMiss i s) := by
  unfold ptpMiss
  exact (.via (ptpFlag_keeps ..) rfl (.via (State.count_keeps ..) rfl (.refl _ _)))

theorem ptpFollowUp_keeps (i : Nat) (a1 : PtpAwait) (e : TsEntry) (s : State) : Keeps 2048 s (ptpFollowUp i a1 e s) := by
  unfold ptpFollowUp
  exact (.ite (.via (ptpMiss_keeps ..) rfl (.refl _ _)) (.via (ptpQueue_keeps ..) rfl (.refl _ _)))

theorem ptpTakeEntry_keeps (i : Nat) (s : State) : Keeps 18432 s (ptpTakeEntry i s) := by
  unfold ptpTakeEntry
  lift_lets
  intro t0 t1
  have h1 : Keeps 18432 s t1 := (.via (tsqCount_keeps ..) rfl (.via (macSet_keeps ..) rfl (.refl _ _)))
  exact (by
    split
    · exact (.refl _ _)
    · lift_lets
      intro t2
      exact (by
        split
        · exact (.via (ptpFollowUp_keeps ..) rfl (.via (ptpSet_keeps ..) rfl h1))
        · exact h1))

theorem execFollowUp_keeps (i : Fin 16) (s : State) : Runs 18432 s (execFollowUp i s) := by
  unfold execFollowUp
  exact (.next (.via (ptpTakeEntry_keeps ..) rfl (.refl _ _)))

theorem ptpExpire_keeps (at_ : Nat) (s : State) : Keeps 16384 s (ptpExpire at_ s) := by
  unfold ptpExpire
  lift_lets
  intro t0 t1 t2
  exact (.via (ptpPutTable_keeps ..) rfl (.refl _ _))

theorem execGrantExpiry_keeps (at_ : Nat) (s : State) : Runs 16384 s (execGrantExpiry at_ s) := by
  unfold execGrantExpiry
  exact (.next (.via (ptpExpire_keeps ..) rfl (.refl _ _)))

theorem execGrantRenew_keeps (i : Fin 16) (master : Fin 4) (s : State) : Runs 18432 s (execGrantRenew i master s) := by
  unfold execGrantRenew
  exact (.next (.onlyIf (.refl _ _) fun _ g0 => (.via (ptpAsk_keeps ..) rfl g0)))

theorem execPtpInstanceEnable_keeps (i : Fin 16) (en : Bool) (s : State) : Runs 84032 s (execPtpInstanceEnable i en s) := by
  unfold execPtpInstanceEnable
  exact (.next (.hostDo rfl (.refl _ _) fun _ g0 => (.via (ptpEnable_keeps ..) rfl g0)))

theorem ptpCommand_keeps (i : Nat) (raw held : Bool) (s : State) : Keeps 16464 s (ptpCommand i raw held s) := by
  unfold ptpCommand
  exact (.ite (.ite (.via (ptpReaccept_keeps ..) rfl (.refl _ _)) (.via (ptpReaccept_keeps ..) rfl (.via (ptpHold_keeps ..) rfl (.refl _ _)))) (.refl _ _))

theorem execPtpReacceptHeld_keeps (i : Fin 16) (s : State) : Runs 82000 s (execPtpReacceptHeld i s) := by
  unfold execPtpReacceptHeld
  exact (.next (.hostDo rfl (.refl _ _) fun _ g0 => (.via (ptpCommand_keeps ..) rfl g0)))

theorem execPtpReacceptRaw_keeps (i : Fin 16) (s : State) : Runs 82000 s (execPtpReacceptRaw i s) := by
  unfold execPtpReacceptRaw
  exact (.next (.hostDo rfl (.refl _ _) fun _ g0 => (.via (ptpCommand_keeps ..) rfl g0)))

theorem ptpCfgWrite_keeps (i : Nat) (v : Word) (s : State) : Keeps 18496 s (ptpCfgWrite i v s) := by
  unfold ptpCfgWrite
  lift_lets
  intro t0
  have h0 : Keeps 18496 s t0 := (.onlyIf (.refl _ _) fun _ g1 => (.via (ptpEnable_keeps ..) rfl g1))
  exact (.ite (.via (ptpEnable_keeps ..) rfl (.via (State.setReg_keeps ..) rfl h0)) (.via (State.setFlag_keeps ..) rfl (.refl _ _)))

theorem ptpShow_keeps (idx at_ : Nat) (s : State) : Keeps 0 s (ptpShow idx at_ s) := by
  unfold ptpShow
  lift_lets
  intro t0
  have h0 : Keeps 0 s t0 := (.via (State.put_keeps ..) rfl (.refl _ _))
  exact (by
    split
    · exact (.foldl _ (.via (State.setReg_keeps ..) rfl h0) fun _ _ g1 => (.via (State.setReg_keeps ..) rfl g1))
    · lift_lets
      intro t2 t3 t4
      have h4 : Keeps 0 s t4 := (.via (State.put_keeps ..) rfl (.via (State.putB_keeps ..) rfl (.via (State.put_keeps ..) rfl h0)))
      intro t5
      have h5 : Keeps 0 s t5 := (.via (State.put_keeps ..) rfl h4)
      intro t6
      have h6 : Keeps 0 s t6 := (.via (State.putI_keeps ..) rfl h5)
      intro t7
      have h7 : Keeps 0 s t7 := (.via (State.put_keeps ..) rfl h6)
      exact (.foldl _ h7 fun _ _ g8 => (.via (State.setReg_keeps ..) rfl g8)))

theorem ptpStep_keeps (s : State) : Keeps 16384 s (ptpStep s) := by
  unfold ptpStep
  lift_lets
  intro t0 t1 t2 t3
  have h3 : Keeps 16384 s t3 := (.ptp (fun w => by exact w.ptp) rfl (.refl _ _))
  exact (.foldl _ h3 fun _ _ g4 => (.via (ptpSet_keeps ..) rfl g4))

theorem ptpNextSync_keeps (i : Nat) (s : State) : Keeps 16384 s (ptpNextSync i s) := by
  unfold ptpNextSync
  exact (.via (ptpSet_keeps ..) rfl (.refl _ _))

theorem ptpTwoStep_keeps (i : Nat) (client : Option Nat) (s : State) : Keeps 18432 s (ptpTwoStep i client s) := by
  unfold ptpTwoStep
  lift_lets
  intro t0 t1
  exact (.via (ptpQueue_keeps ..) rfl (.via (ptpSet_keeps ..) rfl (.refl _ _)))

theorem ptpOneStep_keeps (i : Nat) (client : Option Nat) (t : Int) (g : BlockGrid) (s : State) :
    Keeps 1067008 s (ptpOneStep i client t g s) := by
  unfold ptpOneStep
  lift_lets
  intro t0 t1 t2 t3 t4
  exact (by
    split
    · exact (.via (State.deadline_keeps ..) rfl (.via (ownerDropped_keeps ..) rfl (.refl _ _)))
    · lift_lets
      intro t5
      exact (.ite (.via (depReserve_keeps ..) rfl (.via (State.freeNext_keeps ..) rfl (.refl _ _))) (.via (depRefuse_keeps ..) rfl (.refl _ _))))

theorem ptpSyncTx_keeps (i : Nat) (client : Option Nat) (k : Nat) (g : BlockGrid) (s : State) :
    Keeps 1067008 s (ptpSyncTx i client k g s) := by
  unfold ptpSyncTx
  exact (by
    split
    · exact (.via (ptpNextSync_keeps ..) rfl (.ite (.via (ptpTwoStep_keeps ..) rfl (.refl _ _)) (.via (ptpOneStep_keeps ..) rfl (.refl _ _))))
    · exact (.refl _ _))

theorem execSyncInstant_keeps (i : Fin 16) (client : Option (Fin 16384)) (k : Nat) (g : BlockGrid) (s : State) :
    Runs 1067008 s (execSyncInstant i client k g s) := by
  unfold execSyncInstant
  exact (.next (.via (ptpSyncTx_keeps ..) rfl (.refl _ _)))

theorem ptpSyncRx_keeps (i : Nat) (m : PtpMsg) (t1 fu : Int) (x : PtpRx) (s : State) :
    Keeps 16384 s (ptpSyncRx i m t1 fu x s) := by
  unfold ptpSyncRx
  lift_lets
  intro t0 t1
  exact (.via (ptpSet_keeps ..) rfl (.refl _ _))

theorem execSyncRx_keeps (i : Fin 16) (m : PtpMsg) (sec : BitVec 48) (ns : BitVec 32) (fu : BitVec 64) (at_ : Nat) (s : State) :
    Runs 16384 s (execSyncRx i m sec ns fu at_ s) := by
  unfold execSyncRx
  lift_lets
  intro t0
  exact (.next (.onlyIf (.refl _ _) fun _ g1 => (by
    split
    · exact g1
    · exact (.ite (.onlyIf g1 fun _ g2 => (.via (ptpSyncRx_keeps ..) rfl (.via (ptpTaken_keeps ..) rfl (.via (ptpTaken_keeps ..) rfl g2)))) (.via (ptpSyncRx_keeps ..) rfl (.via (ptpTaken_keeps ..) rfl g1))))))

theorem execTsqTimeout_keeps (i : Fin 16) (s : State) : Runs 16384 s (execTsqTimeout i s) := by
  unfold execTsqTimeout
  exact (.next (by
    split
    · exact (.via (ptpMiss_keeps ..) rfl (.via (ptpSet_keeps ..) rfl (.refl _ _)))
    · exact (.refl _ _)))

theorem ptpStore_keeps (e : Nat) (c : PtpClient) (s : State) : Keeps 16384 s (ptpStore e c s) := by
  unfold ptpStore
  exact (.via (ptpPutTable_keeps ..) rfl (.refl _ _))

theorem ptpCancel_keeps (i : Nat) (m : PtpMsg) (type : Nat) (s : State) : Keeps 18432 s (ptpCancel i m type s) := by
  unfold ptpCancel
  lift_lets
  intro t0
  have h0 : Keeps 18432 s t0 := by
    unfold t0
    exact (by
      split
      · exact (.via (ptpStore_keeps ..) rfl (.refl _ _))
      · exact (.refl _ _))
  exact (.via (ptpSignal_keeps ..) rfl h0)

theorem execUnicastCancel_keeps (i : Fin 16) (m : PtpMsg) (type : Fin 3) (s : State) :
    Runs 18432 s (execUnicastCancel i m type s) := by
  unfold execUnicastCancel
  exact (.next (.onlyIf (.refl _ _) fun _ g0 => (.via (ptpCancel_keeps ..) rfl (.via (ptpTaken_keeps ..) rfl g0))))

theorem ptpDeny_keeps (i : Nat) (m : PtpMsg) (type : Nat) (log : Byte) (s : State) : Keeps 18432 s (ptpDeny i m type log s) := by
  unfold ptpDeny
  exact (.via (ptpSignal_keeps ..) rfl (.via (ptpFlag_keeps ..) rfl (.via (State.count_keeps ..) rfl (.refl _ _))))

theorem ptpRequest_keeps (i : Nat) (m : PtpMsg) (type : Nat) (log : Byte) (dur at_ : Nat) (s : State) :
    Keeps 18432 s (ptpRequest i m type log dur at_ s) := by
  unfold ptpRequest
  lift_lets
  intro t0 t1
  exact (.ite (.via (ptpDeny_keeps ..) rfl (.refl _ _)) (by
    split
    · exact (.via (ptpDeny_keeps ..) rfl (.via (State.setFlag_keeps ..) rfl (.refl _ _)))
    · lift_lets
      intro t2 t3
      exact (.via (ptpSignal_keeps ..) rfl (.via (ptpStore_keeps ..) rfl (.refl _ _)))))

theorem execUnicastRequest_keeps (i : Fin 16) (m : PtpMsg) (type : Fin 3) (log : BitVec 8) (dur : BitVec 32) (at_ : Nat) (s : State) :
    Runs 18432 s (execUnicastRequest i m type log dur at_ s) := by
  unfold execUnicastRequest
  lift_lets
  intro t0
  exact (.next (.onlyIf (.refl _ _) fun _ g1 => (.via (ptpRequest_keeps ..) rfl (.via (ptpTaken_keeps ..) rfl g1))))

end Sys2Proof.Machine
end

