-- ==== Sys2Proof/Laws/KeepsVitrine.lean ====
section
/-! SUPPORT. What the operations of Vitrine.lean keep: the form of the state, the queue, and the parts outside their mask. -/

namespace Sys2Proof.Machine

theorem vitPinCheck_keeps (s : State) : Keeps 0 s (vitPinCheck s) := by
  unfold vitPinCheck
  exact (.onlyIf (.refl _ _) fun _ g0 => (.via (State.setFlag_keeps ..) rfl g0))

theorem vitArmed_keeps (t : Option Int) (s : State) : Keeps 4194304 s (vitArmed t s) := by
  unfold vitArmed
  lift_lets
  intro t0
  have h0 : Keeps 4194304 s t0 := (.via (State.putB_keeps ..) rfl (.refl _ _))
  intro t1
  exact (.vit rfl h0)

theorem vitArm_keeps (at_ : Nat) (s : State) : Keeps 4194304 s (vitArm at_ s) := by
  unfold vitArm
  lift_lets
  intro t0
  exact (.ite (.via (State.setFlag_keeps ..) rfl (.refl _ _)) (.via (vitArmed_keeps ..) rfl (.refl _ _)))

theorem execArmTod_keeps (at_ : Nat) (s : State) : Runs 4259840 s (execArmTod at_ s) := by
  unfold execArmTod
  exact (.next (.hostDo rfl (.refl _ _) fun _ g0 => (.via (vitArm_keeps ..) rfl g0)))

theorem execDisarmTod_keeps (s : State) : Runs 4259840 s (execDisarmTod s) := by
  unfold execDisarmTod
  exact (.next (.hostDo rfl (.refl _ _) fun _ g0 => (.via (vitArmed_keeps ..) rfl g0)))

theorem irqRefresh_keeps (s : State) : Keeps 0 s (irqRefresh s) :=
  .outbox (.grown (.irqUpdate _ (.refl _)) (.refl _ _))

theorem irqEoi_keeps (v : Nat) (s : State) : Keeps 0 s (irqEoi v s) := by
  unfold irqEoi
  lift_lets
  intro t0
  exact (.via (irqRefresh_keeps ..) rfl (.via (State.put64_keeps ..) rfl (.refl _ _)))

theorem execIrqEoi_keeps (v : BitVec 6) (s : State) : Runs 65536 s (execIrqEoi v s) := by
  unfold execIrqEoi
  exact (.next (.hostDo rfl (.refl _ _) fun _ g0 => (.via (irqEoi_keeps ..) rfl g0)))

theorem irqTest_keeps (src : Nat) (s : State) : Keeps 0 s (irqTest src s) := by
  unfold irqTest
  exact (.ite (.refl _ _) (.via (State.raise_keeps ..) rfl (.refl _ _)))

theorem execIrqTest_keeps (src : BitVec 8) (s : State) : Runs 65536 s (execIrqTest src s) := by
  unfold execIrqTest
  exact (.next (.hostDo rfl (.refl _ _) fun _ g0 => (.via (irqTest_keeps ..) rfl g0)))

theorem irqUnmask_keeps (v : Nat) (s : State) : Keeps 0 s (irqUnmask v s) := by
  unfold irqUnmask
  lift_lets
  intro t0
  have h0 : Keeps 0 s t0 := (.via (State.put_keeps ..) rfl (.refl _ _))
  exact (.ite (.via (State.emit_keeps ..) rfl (.via (State.put_keeps ..) rfl h0)) h0)

theorem vitRelease_keeps (s : State) : Keeps 4194304 s (vitRelease s) := by
  unfold vitRelease
  lift_lets
  intro t0
  have h0 : Keeps 4194304 s t0 := (.via (State.put_keeps ..) rfl (.refl _ _))
  intro t1
  exact (.vit rfl h0)

theorem vitLatch_keeps (src at_ : Nat) (s : State) : Keeps 4194304 s (vitLatch src at_ s) := by
  unfold vitLatch
  lift_lets
  intro t0 t1 t2
  have h2 : Keeps 4194304 s t2 := (.vit rfl (.refl _ _))
  intro t3
  have h3 : Keeps 4194304 s t3 := (.via (State.countWrap_keeps ..) rfl (.via (State.put_keeps ..) rfl (.via (State.put_keeps ..) rfl h2)))
  intro t4
  have h4 : Keeps 4194304 s t4 := (.via (State.put_keeps ..) rfl (.via (State.put64_keeps ..) rfl h3))
  exact (.via (State.setFlag_keeps ..) rfl (.via (State.count_keeps ..) rfl (.via (State.put_keeps ..) rfl h4)))

theorem vitTrigger_keeps (src at_ : Nat) (s : State) : Keeps 4194304 s (vitTrigger src at_ s) := by
  unfold vitTrigger
  exact (.ite (.refl _ _) (.ite (.via (State.put_keeps ..) rfl (.refl _ _)) (.ite (.via (State.setFlag_keeps ..) rfl (.via (State.count_keeps ..) rfl (.refl _ _))) (.via (vitLatch_keeps ..) rfl (.refl _ _)))))

theorem vitCtrl_keeps (w : Word) (at_ : Nat) (s : State) : Keeps 4194304 s (vitCtrl w at_ s) := by
  unfold vitCtrl
  lift_lets
  intro t0
  have h0 : Keeps 4194304 s t0 := (.onlyIf (.refl _ _) fun _ g1 => (.via (vitRelease_keeps ..) rfl g1))
  intro t2
  have h2 : Keeps 4194304 s t2 := (.onlyIf h0 fun _ g3 => (.via (vitTrigger_keeps ..) rfl g3))
  exact (.ite (.via (vitArmed_keeps ..) rfl h2) (.onlyIf h2 fun _ g4 => (.via (vitArm_keeps ..) rfl g4)))

theorem vitMatch_keeps (at_ : Nat) (s : State) : Keeps 4194304 s (vitMatch at_ s) := by
  unfold vitMatch
  exact (by
    split
    · exact (.ite (.via (vitTrigger_keeps ..) rfl (.via (vitArmed_keeps ..) rfl (.refl _ _))) (.refl _ _))
    · exact (.refl _ _))

theorem vitStep_keeps (move : Int) (s : State) : Keeps 4194304 s (vitStep move s) := by
  unfold vitStep
  exact (by
    split
    · exact (.ite (.via (vitMatch_keeps ..) rfl (.via (State.setFlag_keeps ..) rfl (.refl _ _))) (.refl _ _))
    · exact (.refl _ _))

theorem execTodMatch_keeps (at_ : Nat) (s : State) : Runs 4194304 s (execTodMatch at_ s) := by
  unfold execTodMatch
  exact (.next (.via (vitMatch_keeps ..) rfl (.refl _ _)))

theorem execVectorUnmask_keeps (v : Fin 64) (s : State) : Runs 65536 s (execVectorUnmask v s) := by
  unfold execVectorUnmask
  exact (.next (.hostDo rfl (.refl _ _) fun _ g0 => (.via (irqUnmask_keeps ..) rfl g0)))

theorem vitPinEdge_keeps (pin : Nat) (rising : Bool) (at_ : Nat) (s : State) :
    Keeps 4194312 s (vitPinEdge pin rising at_ s) := by
  unfold vitPinEdge
  lift_lets
  intro t0 t1 t2
  have h2 : Keeps 4194312 s t2 := (.sys rfl (.refl _ _))
  exact (.onlyIf h2 fun _ g3 => (.via (vitTrigger_keeps ..) rfl g3))

theorem execVitPinEdge_keeps (pin : Fin 32) (rising : Bool) (at_ : Nat) (s : State) :
    Runs 4194312 s (execVitPinEdge pin rising at_ s) := by
  unfold execVitPinEdge
  exact (.next (.via (vitPinEdge_keeps ..) rfl (.refl _ _)))

theorem execVitRelease_keeps (s : State) : Runs 4259840 s (execVitRelease s) := by
  unfold execVitRelease
  exact (.next (.hostDo rfl (.refl _ _) fun _ g0 => (.via (vitRelease_keeps ..) rfl g0)))

theorem execVitTrig_keeps (at_ : Nat) (s : State) : Runs 4259840 s (execVitTrig at_ s) := by
  unfold execVitTrig
  exact (.next (.hostDo rfl (.refl _ _) fun _ g0 => (.via (vitTrigger_keeps ..) rfl g0)))

end Sys2Proof.Machine
end

