-- ==== Sys2Proof/Laws/KeepsResets.lean ====
section
/-! SUPPORT. What the operations of Resets.lean keep: the form of the state, the queue, and the parts outside their mask. -/

namespace Sys2Proof.Machine

theorem blkReady_keeps (b : Blk) (s : State) : Keeps 4096 s (blkReady b s) := by
  unfold blkReady
  exact (by
    split
    · exact (.via (State.put_keeps ..) rfl (.refl _ _))
    · exact (.foldl _ (.via (State.put_keeps ..) rfl (.refl _ _)) fun _ _ g0 => (.via (State.putB_keeps ..) rfl g0))
    · exact (.via (State.put_keeps ..) rfl (.refl _ _))
    · exact (.via (State.put_keeps ..) rfl (.refl _ _))
    · exact (.via (State.put_keeps ..) rfl (.refl _ _))
    · exact (.via (State.put_keeps ..) rfl (.refl _ _))
    · exact (.via (State.put_keeps ..) rfl (.refl _ _))
    · exact (.via (State.put_keeps ..) rfl (.refl _ _))
    · exact (.via (State.put_keeps ..) rfl (.foldl _ (.refl _ _) fun _ _ g1 => (.via (ntsReseed_keeps ..) rfl g1)))
    · exact (.via (State.put_keeps ..) rfl (.refl _ _))
    · exact (.via (State.put_keeps ..) rfl (.refl _ _))
    · exact (.via (State.put_keeps ..) rfl (.refl _ _))
    · exact (.via (State.put_keeps ..) rfl (.refl _ _))
    · exact (.via (State.put_keeps ..) rfl (.refl _ _))
    · exact (.via (State.put_keeps ..) rfl (.refl _ _))
    · exact (.refl _ _))

theorem resetBad_keeps (s : State) : Keeps 0 s (resetBad s) := by
  unfold resetBad
  exact (.via (State.put_keeps ..) rfl (.refl _ _))

theorem instLeave_keeps (kind : InstKind) (n at_ : Nat) (s : State) : Keeps 691420 s (instLeave kind n at_ s) := by
  unfold instLeave
  exact (by
    split
    · exact (.via (rgsLeaveDisputes_keeps ..) rfl (.refl _ _))
    · exact (.via (loopAdvance_keeps ..) rfl (.refl _ _))
    · exact (rgsForSource_keeps rfl (.refl _ _) fun _ _ g0 => (.via (rgsSignal_keeps ..) rfl g0))
    · exact (.via (gnssFreePort_keeps ..) rfl (.refl _ _))
    · exact (.via (tbRepOff_keeps ..) rfl (.via (tbRepOff_keeps ..) rfl (.onlyIf (.refl _ _) fun _ g1 => (.via (portLinkDown_keeps ..) rfl g1))))
    · exact (ptpSlots_keeps rfl (.refl _ _) fun _ _ g2 => (.via (rgsSignal_keeps ..) rfl g2))
    · exact (.via (lkDown_keeps ..) rfl (.refl _ _))
    · exact (.via (bneStop_keeps ..) rfl (.refl _ _))
    · exact (.refl _ _))

theorem evtBanks_keeps (f : EvtBank → EvtBank) (s : State) :
    Keeps 32 s { s with evt := { s.evt with banks := s.evt.banks.map f } } :=
  .evt (fun w => ⟨w.evt.1, (List.length_map ..).trans w.evt.2⟩) rfl (.refl _ _)

theorem evtReset_keeps (cals : List Nat) (s : State) : Keeps 32 s (evtReset cals s) :=
  .after rfl (.foldl _ (.refl _ _) fun _ _ g => (.via (evtFill_keeps ..) rfl (.via (evtResetChan_keeps ..) rfl
    (.via (State.put_keeps ..) rfl g)))) (evtBanks_keeps _ _)

theorem blkState_keeps (b : Blk) (cals : List Nat) (s : State) : Keeps 4644832 s (blkState b cals s) := by
  unfold blkState
  lift_lets
  intro t0 t1 t2
  exact (by
    split
    · exact (.via (evtReset_keeps ..) rfl (.refl _ _))
    · exact (.rgs (fun _ => RgsState.reset_full) rfl (.refl _ _))
    · exact (.loops (fun w => (List.length_map ..).trans w.loops) rfl (.refl _ _))
    · exact (.ens (fun _ => EnsState.reset_full) rfl (.refl _ _))
    · exact (.out (fun _ => OutState.reset_full) rfl (.refl _ _))
    · exact (.gnss (fun _ => GnssState.reset_full) rfl (.refl _ _))
    · exact (.mac (fun _ => List.length_replicate ..) rfl (.refl _ _))
    · exact (.foldl _ (.refl _ _) fun _ _ g4 => (.via (ansAbort_keeps ..) rfl g4))
    · exact (.ptp (fun _ => PtpState.reset_full) rfl (.refl _ _))
    · exact (.bne (fun _ => BneState.reset_full) rfl (.refl _ _))
    · exact (.lnk (fun _ => LnkState.reset_full) rfl (.refl _ _))
    · exact (.pair (fun _ => ⟨rfl, fun _ h => nomatch h⟩) rfl (.refl _ _))
    · exact (.vit rfl (.refl _ _))
    · exact (.refl _ _))

theorem keysAbove_filterMap {α : Type} (g : Nat × α → Option (Nat × α)) (hg : ∀ e x, g e = some x → x.1 = e.1)
    (l : List (Nat × α)) (lo : Option Nat) (h : keysAbove lo l = true) : keysAbove lo (l.filterMap g) = true := by
  induction l generalizing lo with
  | nil => rfl
  | cons e l ih =>
    obtain ⟨k, v⟩ := e
    simp only [keysAbove, Bool.and_eq_true] at h
    cases hx : g (k, v) with
    | none =>
      rw [List.filterMap_cons_none hx]
      refine ih lo (keysAbove_mono h.2 ?_)
      intro b hb
      subst hb
      exact ⟨k, rfl, by have := h.1; simp at this; omega⟩
    | some x =>
      rw [List.filterMap_cons_some hx]
      obtain ⟨k', v'⟩ := x
      have hk : k' = k := hg _ _ hx
      subst hk
      simp only [keysAbove, Bool.and_eq_true]
      exact ⟨h.1, ih _ h.2⟩

theorem regReset_key (sel : RegHit → Bool) (base : Nat → Word) (e x : Nat × Word) (h : regReset sel base e = some x) :
    x.1 = e.1 := by
  unfold regReset at h
  split at h
  · split at h
    · split at h
      · cases h
      · cases h; rfl
    · cases h; rfl
  · cases h; rfl

theorem resetBy_rf {sel : RegHit → Bool} {r : RegFile} (hv : keysAbove none r.vals = true)
    (hs : keysAbove none r.staged = true) :
    keysAbove none (r.resetBy sel).vals = true ∧ keysAbove none (r.resetBy sel).staged = true :=
  ⟨keysAbove_filterMap _ (fun e x => regReset_key _ _ e x) _ _ hv, keysAbove_filter _ _ _ hs⟩

theorem resetRegs_keeps (sel : RegHit → Bool) (s : State) : Keeps 0 s (resetRegs sel s) :=
  .rf (fun w => (resetBy_rf w.vals w.staged).1) (fun w => (resetBy_rf (sel := sel) w.vals w.staged).2) (.refl _ _)

theorem cdcSides_keeps (a0 b k : Nat) (s : State) : Keeps 0 s (cdcSides a0 b k s) := by
  unfold cdcSides
  exact (.via (State.put_keeps ..) rfl (.via (State.put_keeps ..) rfl (.refl _ _)))

theorem cdcHold_keeps (k : Nat) (s : State) : Keeps 0 s (cdcHold k s) := by
  unfold cdcHold
  exact (.via (cdcSides_keeps ..) rfl (.refl _ _))

theorem blkReset_keeps (at_ : Nat) (b : Blk) (s : State) : Keeps 5169148 s (blkReset at_ b s) := by
  unfold blkReset
  lift_lets
  intro t0 t1
  have h1 : Keeps 5169148 s t1 := (.foldl _ (.refl _ _) fun _ _ g2 => (.via (instLeave_keeps ..) rfl g2))
  intro t3
  have h3 : Keeps 5169148 s t3 := (.onlyIf h1 fun _ g4 => (.via (bneWithdraw_keeps ..) rfl g4))
  intro t5
  have h5 : Keeps 5169148 s t5 := (.onlyIf h3 fun _ g6 => (.foldl _ g6 fun _ _ g7 => (.via (loopAdvance_keeps ..) rfl g7)))
  intro t8
  have h8 : Keeps 5169148 s t8 := (.via (blkState_keeps ..) rfl (.via (resetRegs_keeps ..) rfl h5))
  exact (.foldl _ h8 fun _ _ g9 => (.via (cdcHold_keeps ..) rfl g9))

theorem blkRequest_keeps (bits at_ : Nat) (s : State) : Keeps 5169148 s (blkRequest bits at_ s) := by
  unfold blkRequest
  lift_lets
  intro t0
  have h0 : Keeps 5169148 s t0 := (.foldl _ (.refl _ _) fun _ _ g1 => (.via (blkReset_keeps ..) rfl g1))
  intro t2
  have h2 : Keeps 5169148 s t2 := (.via (State.put_keeps ..) rfl h0)
  intro t3
  exact (.ite (.via (resetBad_keeps ..) rfl (.refl _ _)) (.ite (.refl _ _) (.sys rfl h2)))

theorem cdcRelease_keeps (k : Nat) (s : State) : Keeps 0 s (cdcRelease k s) := by
  unfold cdcRelease
  exact (.ite (.via (cdcSides_keeps ..) rfl (.refl _ _)) (.via (cdcSides_keeps ..) rfl (.refl _ _)))

theorem ptpLoadUm_keeps (i : Nat) (s : State) : Keeps 18432 s (ptpLoadUm i s) := by
  unfold ptpLoadUm
  exact (.foldl _ (.refl _ _) fun _ _ g0 => (.via (ptpUmWrite_keeps ..) rfl g0))

theorem instStart_keeps (kind : InstKind) (n : Nat) (s : State) : Keeps 150488 s (instStart kind n s) := by
  unfold instStart
  lift_lets
  intro t0
  have h0 : Keeps 150488 s t0 := (.foldl _ (.refl _ _) fun _ _ g1 => (.via (cdcRelease_keeps ..) rfl g1))
  intro t2
  have h2 : Keeps 150488 s t2 := (.via (ptpLoadUm_keeps ..) rfl h0)
  exact (by
    split
    · exact (.onlyIf h0 fun _ g3 => (.via (rgsEnable_keeps ..) rfl g3))
    · exact (.via (loopInstReset_keeps ..) rfl h0)
    · exact (.via (ensInstReset_keeps ..) rfl h0)
    · exact (.via (outAdopt_keeps ..) rfl h0)
    · exact (.via (vitPinCheck_keeps ..) rfl h0)
    · exact (.via (State.put_keeps ..) rfl h0)
    · exact (.ite (.via (ptpEnable_keeps ..) rfl (.via (State.put_keeps ..) rfl h2)) h2)
    · exact (.via (lkLock_keeps ..) rfl h0)
    · exact h0)

theorem startAll_keeps (kind : InstKind) (n : Nat) (s : State) : Keeps 150488 s (startAll kind n s) := by
  unfold startAll
  exact (.foldl _ (.refl _ _) fun _ _ g0 => (.via (instStart_keeps ..) rfl g0))

theorem blkStart_keeps (b : Blk) (s : State) : Keeps 449500 s (blkStart b s) := by
  unfold blkStart
  lift_lets
  intro t0
  have h0 : Keeps 449500 s t0 := (.via (blkReady_keeps ..) rfl (.foldl _ (.refl _ _) fun _ _ g1 => (.via (cdcRelease_keeps ..) rfl g1)))
  exact (by
    split
    · exact (.onlyIf h0 fun _ g2 => (.via (State.put_keeps ..) rfl g2))
    · exact (.via (rgsRefresh_keeps ..) rfl (.via (startAll_keeps ..) rfl h0))
    · exact (.via (startAll_keeps ..) rfl h0)
    · exact (.via (startAll_keeps ..) rfl h0)
    · exact (.via (vitPinCheck_keeps ..) rfl (.via (startAll_keeps ..) rfl h0))
    · exact (.foldl _ h0 fun _ _ g3 => (.via (State.put_keeps ..) rfl (.via (ansLoad_keeps ..) rfl g3)))
    · exact (.via (startAll_keeps ..) rfl h0)
    · exact (.via (bneStart_keeps ..) rfl h0)
    · exact (.via (lnkGlobal_keeps ..) rfl h0)
    · exact (.via (pairStart_keeps ..) rfl h0)
    · exact (.via (vitPinCheck_keeps ..) rfl h0)
    · exact h0)

theorem nvWrite_keeps (a n : Nat) (bs : List Byte) (s : State) :
    Keeps 1 s { s with nv := memWrite nvErased s.nv a bs, free := n } :=
  .step (.refl _ _) (fun w => { w with nv := memWrite_wf _ _ _ _ w.nv }) rfl
    fun p hp => by cases p <;> first | exact absurd hp (by decide) | rfl

theorem catTear_keeps (s : State) : Keeps 1 s (catTear s) := by
  unfold catTear
  split
  · exact nvWrite_keeps _ _ _ s
  · exact nvWrite_keeps _ _ _ s
  · exact .refl _ _

theorem cdcDevReset_keeps (kept : Bool) (s : State) : Keeps 0 s (cdcDevReset kept s) := by
  unfold cdcDevReset
  exact (.foldl _ (.refl _ _) fun _ _ g0 => (.via (cdcSides_keeps ..) rfl g0))

theorem cdcSettle_keeps (near far : Bool) (k : Nat) (s : State) : Keeps 0 s (cdcSettle near far k s) := by
  unfold cdcSettle
  lift_lets
  intro t0 t1
  exact (.via (cdcSides_keeps ..) rfl (.refl _ _))

theorem clearBlocks_keeps (s : State) : Keeps 8388596 s (clearBlocks s) :=
  .step (.refl _ _)
    (fun w => ⟨w.vals, w.staged, w.nv, memClear_wf _ _ _ _ w.bar2, rfl, fun _ h => (nomatch h), List.length_replicate, List.length_replicate,
      w.slots, TbState.reset_full, EvtState.reset_full, RgsState.reset_full, EnsState.reset_full, OutState.reset_full, GnssState.reset_full,
      AnsState.reset_full, PtpState.reset_full, BneState.reset_full, LnkState.reset_full, HifState.reset_full, ConState.reset_full⟩) rfl
    fun p hp => by cases p <;> first | exact absurd hp (by decide) | rfl

theorem resetCause_keeps (c : ResetCause) (s : State) : Keeps 0 s (resetCause c s) := by
  unfold resetCause
  exact (.via (State.put_keeps ..) rfl (.refl _ _))

theorem enterPhase_keeps (p : Nat) (s : State) : Keeps 0 s (enterPhase p s) := by
  unfold enterPhase
  exact (.via (State.emit_keeps ..) rfl (.via (State.put_keeps ..) rfl (.refl _ _)))

theorem resetDev_rf {r : RegFile} (hv : keysAbove none r.vals = true) (hs : keysAbove none r.staged = true) :
    keysAbove none r.resetDev.vals = true ∧ keysAbove none r.resetDev.staged = true := by
  have grown : ∀ (l : List Nat) (q : RegFile), q.Grown (l.foldl (fun r ofs => r.set ofs (r.reg ofs)) q) := by
    intro l
    induction l with
    | nil => exact fun q => .refl q
    | cons o l ih => exact fun q => .trans (.set _ _ (.refl q)) (ih _)
  have g := grown stickyRegs r
  unfold RegFile.resetDev
  exact resetBy_rf (g.keys hv) (by rw [g.staged]; exact hs)

theorem devReset_keeps (c : ResetCause) (s : State) : Keeps 8388605 s (devReset c s) := by
  have h : Keeps 8388605 s (clearBlocks (catTear s)) := .via (clearBlocks_keeps ..) rfl (.via (catTear_keeps ..) rfl (.refl _ _))
  exact .via (enterPhase_keeps ..) rfl (.via (cdcDevReset_keeps ..) rfl (.via (State.count_keeps ..) rfl
    (.via (resetCause_keeps ..) rfl (.step h (fun w => have k := resetDev_rf w.vals w.staged; { w with vals := k.1, staged := k.2 }) rfl
      fun p hp => by cases p <;> first | exact absurd hp (by decide) | rfl))))

theorem evtKeepStatus_keeps (n : Nat) (old s : State) : Keeps 0 s (evtKeepStatus n old s) := by
  unfold evtKeepStatus
  exact .onlyIf (.via (State.put_keeps ..) rfl (.refl _ _)) fun _ g =>
    .via (State.put_keeps ..) rfl (.via (State.put_keeps ..) rfl g)

theorem execBlkReset_keeps (blocks : BitVec 13) (at_ : Nat) (s : State) : Runs 5234684 s (execBlkReset blocks at_ s) := by
  unfold execBlkReset
  exact (.next (.hostDo rfl (.refl _ _) fun _ g0 => (.via (blkRequest_keeps ..) rfl g0)))

theorem resetDone_keeps (s : State) : Keeps 449500 s (resetDone s) := by
  unfold resetDone
  lift_lets
  intro t0 t1 t2
  have h2 : Keeps 449500 s t2 := (.via (State.put_keeps ..) rfl (.refl _ _))
  intro t3 t4
  have h4 : Keeps 449500 s t4 := (.sys rfl h2)
  intro t5
  have h5 : Keeps 449500 s t5 := (.foldl _ h4 fun _ _ g6 => (.via (blkStart_keeps ..) rfl g6))
  exact (by
    clear_value t1
    split
    · exact (by
        split
        · exact (.via (instStart_keeps ..) rfl h5)
        · exact h5)
    · exact h5)

theorem execBlkResetDone_keeps (s : State) : Runs 449500 s (execBlkResetDone s) := by
  unfold execBlkResetDone
  exact (.next (.ite (.via (resetDone_keeps ..) rfl (.refl _ _)) (.refl _ _)))

theorem instReset_keeps (kind : InstKind) (n at_ : Nat) (s : State) : Keeps 974844 s (instReset kind n at_ s) := by
  unfold instReset
  lift_lets
  intro t0
  have h0 : Keeps 974844 s t0 := (.refl _ _)
  intro t1
  have h1 : Keeps 974844 s t1 := (.via (resetRegs_keeps ..) rfl (.via (instLeave_keeps ..) rfl (.refl _ _)))
  intro t2
  have h2 : Keeps 974844 s t2 := (.foldl _ h1 fun _ _ g3 => (.via (cdcHold_keeps ..) rfl g3))
  exact (by
    split
    · exact (.via (evtFill_keeps ..) rfl (.via (evtResetChan_keeps ..) rfl (.via (evtKeepStatus_keeps ..) rfl h2)))
    · exact (.via (rgsRefresh_keeps ..) rfl (.via (rgsSetSlot_keeps ..) rfl h2))
    · exact (.via (loopSet_keeps ..) rfl h2)
    · exact (.via (ensSet_keeps ..) rfl h2)
    · exact (.via (outPutMuted_keeps ..) rfl (.via (outSet_keeps ..) rfl h2))
    · exact (.via (trgSet_keeps ..) rfl h2)
    · exact (.via (gnssSetPort_keeps ..) rfl h2)
    · exact (.via (gnssSetSol_keeps ..) rfl h2)
    · exact (.via (macSet_keeps ..) rfl h2)
    · exact (.via (ansAbort_keeps ..) rfl h2)
    · exact (.via (ptpSet_keeps ..) rfl h2)
    · exact (.via (lkSet_keeps ..) rfl h2)
    · exact h2)

theorem instRequest_keeps (block index at_ : Nat) (s : State) : Keeps 974844 s (instRequest block index at_ s) := by
  unfold instRequest
  exact (by
    split
    · lift_lets
      intro t0
      have h0 : Keeps 974844 s t0 := (.via (instReset_keeps ..) rfl (.refl _ _))
      intro t1
      have h1 : Keeps 974844 s t1 := (.via (State.put_keeps ..) rfl h0)
      intro t2
      exact (.ite (.via (resetBad_keeps ..) rfl (.refl _ _)) (.sys rfl h1))
    · exact (.via (resetBad_keeps ..) rfl (.refl _ _)))

theorem execInstReset_keeps (block : Fin 16) (index : Fin 256) (at_ : Nat) (s : State) :
    Runs 1040380 s (execInstReset block index at_ s) := by
  unfold execInstReset
  exact (.next (.hostDo rfl (.refl _ _) fun _ g0 => (.via (instRequest_keeps ..) rfl g0)))

theorem porReset_keeps (powerUp : Bool) (strap : Nat) (pfailLow : Bool) (s : State) :
    Keeps 8388605 s (porReset powerUp strap pfailLow s) := by
  have h : Keeps 8388605 s (clearBlocks (catTear s)) := .via (clearBlocks_keeps ..) rfl (.via (catTear_keeps ..) rfl (.refl _ _))
  exact .via (enterPhase_keeps ..) rfl (.via (resetCause_keeps ..) rfl (.via (cdcDevReset_keeps ..) rfl
    (.step h (fun w => { w with vals := rfl, staged := rfl }) rfl
      fun p hp => by cases p <;> first | exact absurd hp (by decide) | rfl)))

theorem execPor_keeps (powerUp : Bool) (strap : Fin 8) (pfailLow : Bool) (s : State) :
    Runs 8388605 s (execPor powerUp strap pfailLow s) := by
  unfold execPor
  exact (.next (.via (porReset_keeps ..) rfl (.refl _ _)))

theorem softReset_keeps (soft : Bool) (confirm : Nat) (s : State) : Keeps 8388605 s (softReset soft confirm s) := by
  unfold softReset
  exact (.onlyIf (.refl _ _) fun _ g0 => (.via (devReset_keeps ..) rfl g0))

theorem execSoftReset_keeps (confirm : BitVec 8) (s : State) : Runs 8388605 s (execSoftReset confirm s) := by
  unfold execSoftReset
  exact (.next (.hostDo rfl (.refl _ _) fun _ g0 => (.via (softReset_keeps ..) rfl g0)))

end Sys2Proof.Machine
end

