-- ==== Sys2Proof/Laws/KeepsCatalogue.lean ====
section
/-! SUPPORT. What the operations of Catalogue.lean keep: the form of the state, the queue, and the parts outside their mask. -/

namespace Sys2Proof.Machine

theorem keysAbove_map {α : Type} (g : Nat × α → Nat × α) (hg : ∀ e, (g e).1 = e.1) (l : List (Nat × α)) (lo : Option Nat)
    (h : keysAbove lo l = true) : keysAbove lo (l.map g) = true := by
  induction l generalizing lo with
  | nil => rfl
  | cons e l ih =>
    obtain ⟨k, v⟩ := e
    simp only [keysAbove, Bool.and_eq_true] at h
    obtain ⟨k', v', hk⟩ : ∃ a b, g (k, v) = (a, b) := ⟨_, _, rfl⟩
    have he : k' = k := by have := hg (k, v); rw [hk] at this; exact this
    subst he
    simp only [List.map_cons, hk, keysAbove, Bool.and_eq_true]
    exact ⟨h.1, ih _ h.2⟩

theorem regApply_key (img : List ImgRec) (e : Nat × Word) : (regApply img e).1 = e.1 := by
  unfold regApply
  split <;> rfl

theorem applyImage_keeps (img : List ImgRec) (s : State) : Keeps 0 s (applyImage img s) :=
  .rf (fun w => keysAbove_map _ (regApply_key img) _ _ w.vals) (fun w => w.staged) (.refl _ _)

theorem catFlag_keeps (f : Fld) (s : State) : Keeps 0 s (catFlag f s) := by
  unfold catFlag
  exact (.via (State.setFlag_keeps ..) rfl (.refl _ _))

theorem catCheckStart_keeps (bank : Nat) (s : State) : Keeps 2097152 s (catCheckStart bank s) := by
  unfold catCheckStart
  lift_lets
  intro t0
  have h0 : Keeps 2097152 s t0 := (.via (State.put_keeps ..) rfl (.refl _ _))
  intro t1
  exact (.ite (.refl _ _) (.ite (.via (catFlag_keeps ..) rfl (.refl _ _)) (.cat rfl h0)))

theorem catData_keeps (write : Bool) (v : Word) (s : State) : Keeps 2097160 s (catData write v s) := by
  unfold catData
  lift_lets
  intro t0 t1 t2 t3
  exact (.ite (.cat rfl (.refl _ _)) (.step (.refl _ _) (fun w => { w with }) rfl fun p hp => by cases p <;> first | exact absurd hp (by decide) | rfl))

theorem catEnd_keeps (s : State) : Keeps 2097152 s (catEnd s) := by
  unfold catEnd
  lift_lets
  intro t0
  have h0 : Keeps 2097152 s t0 := (.via (State.put_keeps ..) rfl (.refl _ _))
  intro t1
  exact (.cat rfl h0)

theorem catEffect_keeps (op : CatOp) (s : State) : Keeps 2097153 s (catEffect op s) := by
  unfold catEffect
  lift_lets
  intro t0
  exact (by
    split
    · exact (.cat rfl (.refl _ _))
    · exact (.nv (fun w => memWrite_wf _ _ _ _ w.nv) rfl (.refl _ _))
    · exact (.nv (fun w => memClear_wf _ _ _ _ w.nv) rfl (.refl _ _))
    · exact (.refl _ _))

theorem catDone_keeps (ok : Bool) (s : State) : Keeps 2097153 s (catDone ok s) := by
  unfold catDone
  exact (by
    split
    · exact (.refl _ _)
    · exact (.ite (.refl _ _) (.via (catEnd_keeps ..) rfl (.ite (.via (catEffect_keeps ..) rfl (.refl _ _)) (.via (catFlag_keeps ..) rfl (.via (catTear_keeps ..) rfl (.refl _ _))))))
    · exact (.refl _ _))

theorem catStart_keeps (op : CatOp) (s : State) : Keeps 2097160 s (catStart op s) := by
  unfold catStart
  exact (.ite (.refl _ _) (.ite (.via (catFlag_keeps ..) rfl (.refl _ _)) (.ite (.via (catFlag_keeps ..) rfl (.refl _ _)) (.cross rfl (.refl _ _) fun _ g0 => (by
    lift_lets
    intro t1
    have h1 : Keeps 2097160 s t1 := (.via (State.put_keeps ..) rfl g0)
    intro t2
    exact (.cat rfl h1))))))

theorem catErase_keeps (s : State) : Keeps 2097160 s (catErase s) := by
  unfold catErase
  exact (.via (catStart_keeps ..) rfl (.refl _ _))

theorem catPostBank_keeps (b : Nat) (r : Option (Nat × Nat)) (s : State) : Keeps 0 s (catPostBank b r s) := by
  unfold catPostBank
  lift_lets
  intro t0
  have h0 : Keeps 0 s t0 := (.via (State.put_keeps ..) rfl (.via (State.putB_keeps ..) rfl (.refl _ _)))
  exact (by
    split
    · lift_lets
      intro t1
      have h1 : Keeps 0 s t1 := (.via (State.put_keeps ..) rfl (.via (State.put_keeps ..) rfl (.via (State.put_keeps ..) rfl h0)))
      exact (.onlyIf (.via (State.emit_keeps ..) rfl h1) fun _ g2 => (.via (catFlag_keeps ..) rfl g2))
    · exact (.via (State.put_keeps ..) rfl (.via (State.put_keeps ..) rfl (.via (State.put_keeps ..) rfl h0))))

theorem catPost_keeps (l : CatLoad) (s : State) : Keeps 0 s (catPost l s) := by
  unfold catPost
  lift_lets
  intro t0
  have h0 : Keeps 0 s t0 := (.via (State.putB_keeps ..) rfl (.via (State.put_keeps ..) rfl (.refl _ _)))
  intro t1
  have h1 : Keeps 0 s t1 := (.via (State.putB_keeps ..) rfl (.via (State.putB_keeps ..) rfl h0))
  intro t2
  have h2 : Keeps 0 s t2 := (.foldl _ h1 fun _ _ g3 => (.via (catPostBank_keeps ..) rfl g3))
  intro t4
  have h4 : Keeps 0 s t4 := (.foldl _ h2 fun _ _ g5 => (.via (State.put_keeps ..) rfl g5))
  exact (.onlyIf h4 fun _ g6 => (.via (State.setEvent_keeps ..) rfl g6))

theorem catProgram_keeps (s : State) : Keeps 2097160 s (catProgram s) := by
  unfold catProgram
  exact (.via (catStart_keeps ..) rfl (.refl _ _))

theorem catRead_keeps (s : State) : Keeps 2097160 s (catRead s) := by
  unfold catRead
  exact (.via (catStart_keeps ..) rfl (.refl _ _))

theorem catUsed_keeps (s : State) : Keeps 0 s (catUsed s) := by
  unfold catUsed
  exact (.onlyIf (.refl _ _) fun _ g0 => (.via (State.put_keeps ..) rfl g0))

theorem execCheck_keeps (bank : Fin 2) (s : State) : Runs 2097152 s (execCheck bank s) := by
  unfold execCheck
  exact (.next (.via (catCheckStart_keeps ..) rfl (.refl _ _)))

theorem execCheckDone_keeps (ok : Bool) (s : State) : Runs 2097152 s (execCheckDone ok s) := by
  unfold execCheckDone
  exact (.next (by
    split
    · exact (.via (catFlag_keeps ..) rfl (.via (catPostBank_keeps ..) rfl (.via (catEnd_keeps ..) rfl (.refl _ _))))
    · exact (.refl _ _)))

theorem keepReg_grown (img : List ImgRec) (r : RegFile) (ofs : Nat) : r.Grown (keepReg img r ofs) := by
  have h : ∀ v, r.Grown (r.set ofs v) := fun v => .set _ _ (.refl r)
  unfold keepReg
  split
  · simp only
    split
    · split
      · exact ⟨(h _).keys, rfl⟩
      · exact h _
    · exact .refl r
  · exact .refl r

theorem loadImage_keeps (img : List ImgRec) (s : State) : Keeps 0 s (loadImage img s) := by
  have g : ∀ (l : List Nat) (r : RegFile), r.Grown (l.foldl (keepReg img) r) := by
    intro l
    induction l with
    | nil => exact fun r => .refl r
    | cons x l ih => exact fun r => .trans (keepReg_grown _ _ _) (ih _)
  have k := g ((s.rf.img ++ img).map (fun (x : ImgRec) => x.ofs) ++ s.rf.vals.map (·.1)) s.rf
  exact .rf (fun w => k.keys w.vals) (fun w => k.staged.symm ▸ w.staged) (.refl _ _)

theorem execNvCommandDone_keeps (ok : Bool) (s : State) : Runs 2097153 s (execNvCommandDone ok s) := by
  unfold execNvCommandDone
  exact (.next (.via (catDone_keeps ..) rfl (.refl _ _)))

theorem execNvDataAccess_keeps (write : Bool) (v : Word) (s : State) : Runs 2162696 s (execNvDataAccess write v s) := by
  unfold execNvDataAccess
  exact (.next (.ite (.hostDo rfl (.refl _ _) fun _ g0 => (.via (catData_keeps ..) rfl g0)) (.hostPop rfl (.refl _ _) fun _ g1 => (.via (catData_keeps ..) rfl g1))))

theorem execNvErase_keeps (s : State) : Runs 2097160 s (execNvErase s) := by
  unfold execNvErase
  exact (.next (.via (catErase_keeps ..) rfl (.refl _ _)))

theorem execNvProgram_keeps (s : State) : Runs 2097160 s (execNvProgram s) := by
  unfold execNvProgram
  exact (.next (.via (catProgram_keeps ..) rfl (.refl _ _)))

theorem execNvRead_keeps (s : State) : Runs 2097160 s (execNvRead s) := by
  unfold execNvRead
  exact (.next (.via (catRead_keeps ..) rfl (.refl _ _)))

theorem otpWrite_keeps (key sig : Bool) (confirm : Nat) (s : State) : Keeps 8 s (otpWrite key sig confirm s) := by
  unfold otpWrite
  lift_lets
  intro t0
  have f0 : ∀ a, Keeps 8 s a → Keeps 8 s (t0 a) := by
    intro a g1
    unfold t0
    exact (.via (catFlag_keeps ..) rfl g1)
  intro t2 t3
  have h3 : Keeps 8 s t3 := (.ite (.refl _ _) (.ite (f0 _ (.refl _ _)) (.sys rfl (.refl _ _))))
  intro t4
  exact (.ite (.refl _ _) (.ite (f0 _ (.refl _ _)) (.ite h3 (.ite (.sys rfl h3) (f0 _ h3)))))

theorem execProgramKey_keeps (confirm : BitVec 8) (s : State) : Runs 8 s (execProgramKey confirm s) := by
  unfold execProgramKey
  exact (.next (.via (otpWrite_keeps ..) rfl (.refl _ _)))

theorem execProgramSigReq_keeps (confirm : BitVec 8) (s : State) : Runs 8 s (execProgramSigReq confirm s) := by
  unfold execProgramSigReq
  exact (.next (.via (otpWrite_keeps ..) rfl (.refl _ _)))

end Sys2Proof.Machine
end

