-- ==== Sys2Proof/Laws/KeepsCdc.lean ====
section
/-! SUPPORT. What the operations of Cdc.lean keep: the form of the state, the queue, and the parts outside their mask. -/

namespace Sys2Proof.Machine

theorem cdcRestart_keeps (k : Nat) (s : State) : Keeps 16 s (cdcRestart k s) := by
  unfold cdcRestart
  exact (by
    split
    · lift_lets
      intro t0
      exact (.onlyIf (.via (tbRepOff_keeps ..) rfl (.refl _ _)) fun _ g1 => (.via (tbRepStart_keeps ..) rfl g1))
    · exact (.refl _ _))

theorem cdcTurn_keeps (k : Nat) (s : State) : Keeps 0 s (cdcTurn k s) := by
  unfold cdcTurn
  lift_lets
  intro t0
  have h0 : Keeps 0 s t0 := (.via (cdcSettle_keeps ..) rfl (.refl _ _))
  exact (.onlyIf h0 fun _ g1 => (.via (State.put_keeps ..) rfl g1))

theorem clockLoss_keeps (k : Nat) (s : State) : Keeps 0 s (clockLoss k s) := by
  unfold clockLoss
  exact (.via (cdcFlag_keeps ..) rfl (.via (State.count_keeps ..) rfl (.refl _ _)))

theorem clockAbsent_keeps (k : Nat) (s : State) : Keeps 16 s (clockAbsent k s) := by
  unfold clockAbsent
  lift_lets
  intro t0
  have h0 : Keeps 16 s t0 := (.via (cdcTurn_keeps ..) rfl (.via (clockLoss_keeps ..) rfl (.via (State.put_keeps ..) rfl (.refl _ _))))
  exact (by
    split
    · exact (.via (tbRepOff_keeps ..) rfl h0)
    · exact h0)

theorem coreClockAbsent_keeps (s : State) : Keeps 8 s (coreClockAbsent s) := by
  unfold coreClockAbsent
  lift_lets
  intro t0
  have h0 : Keeps 8 s t0 := (.via (clockLoss_keeps ..) rfl (.refl _ _))
  intro t1
  exact (.foldl _ (.sys rfl h0) fun _ _ g2 => (.via (cdcTurn_keeps ..) rfl g2))

theorem outHoldWords_keeps (s : State) : Keeps 512 s (outHoldWords s) :=
  .out (fun w => by exact ⟨(List.length_mapIdx ..).trans w.out.1, w.out.2⟩) rfl (.refl _ _)

theorem d2dRetrain_keeps (s : State) : Keeps 520 s (d2dRetrain s) := by
  unfold d2dRetrain
  lift_lets
  intro t0
  have h0 : Keeps 520 s t0 := (.via (outHoldWords_keeps ..) rfl (.refl _ _))
  intro t1
  have h1 : Keeps 520 s t1 := (.via (State.put_keeps ..) rfl (.via (State.put_keeps ..) rfl (.via (State.count_keeps ..) rfl h0)))
  intro t2
  exact (.via (cdcFlag_keeps ..) rfl (.sys rfl h1))

theorem execClockAbsent_keeps (k : Option (Fin 56)) (s : State) : Runs 24 s (execClockAbsent k s) := by
  unfold execClockAbsent
  exact (.next (.onlyIf (.refl _ _) fun _ g0 => (by
    split
    · exact (.onlyIf g0 fun _ g1 => (.via (clockAbsent_keeps ..) rfl g1))
    · exact (.via (coreClockAbsent_keeps ..) rfl g0))))

theorem execClockReturn_keeps (k : Option (Fin 56)) (s : State) : Runs 8 s (execClockReturn k s) := by
  unfold execClockReturn
  exact (.next (by
    split
    · exact (.onlyIf (.refl _ _) fun _ g0 => (.via (cdcTurn_keeps ..) rfl (.via (State.put_keeps ..) rfl g0)))
    · exact (.onlyIf (.refl _ _) fun _ g1 => (by
        lift_lets
        intro t2
        exact (.foldl _ (.sys rfl g1) fun _ _ g3 => (.via (cdcTurn_keeps ..) rfl g3))))))

theorem execD2dFault_keeps (s : State) : Runs 8388605 s (execD2dFault s) := by
  unfold execD2dFault
  lift_lets
  intro t0
  have h0 : Keeps 8388605 s t0 := (.via (State.setEvent_keeps ..) rfl (.refl _ _))
  intro t1
  exact (.next (.ite (.via (devReset_keeps ..) rfl (.via (outFaultMute_keeps ..) rfl (.sys rfl h0))) (.refl _ _)))

theorem execFlitCrcError_keeps (again : Bool) (s : State) : Runs 520 s (execFlitCrcError again s) := by
  unfold execFlitCrcError
  exact (.next (.onlyIf (.refl _ _) fun _ g0 => (by
    lift_lets
    intro t1 t2
    have h2 : Keeps 520 s t2 := (.via (State.count_keeps ..) rfl (.via (State.count_keeps ..) rfl g0))
    intro t3
    exact (.ite (.via (d2dRetrain_keeps ..) rfl h2) (.sys rfl h2)))))

theorem perst_keeps (low : Bool) (s : State) : Keeps 524296 s (perst low s) := by
  unfold perst
  lift_lets
  intro t0
  have h0 : Keeps 524296 s t0 := by
    unfold t0
    exact (.onlyIf (.refl _ _) fun _ g1 => (by
      lift_lets
      intro t2
      have h2 : Keeps 524296 s t2 := (.via (resetRegs_keeps ..) rfl g1)
      exact (.hif (fun _ => HifState.reset_full) rfl h2)))
  intro t3
  exact (.via (cdcTurn_keeps ..) rfl (.sys rfl h0))

theorem execPerst_keeps (low : Bool) (s : State) : Runs 524296 s (execPerst low s) := by
  unfold execPerst
  exact (.next (.ite (.refl _ _) (.via (perst_keeps ..) rfl (.refl _ _))))

theorem resync_keeps (k dropped flushed : Nat) (s : State) : Keeps 24 s (resync k dropped flushed s) := by
  unfold resync
  lift_lets
  intro t0 t1 t2
  have h2 : Keeps 24 s t2 := (.sys rfl (.refl _ _))
  intro t3
  have h3 : Keeps 24 s t3 := (.via (xsDrop_keeps ..) rfl (.via (State.count_keeps ..) rfl (.via (cdcSides_keeps ..) rfl h2)))
  intro t4
  have h4 : Keeps 24 s t4 := (.onlyIf (.via (State.count_keeps ..) rfl h3) fun _ g5 => (.via (cdcFlag_keeps ..) rfl g5))
  exact (.via (cdcRestart_keeps ..) rfl (.onlyIf h4 fun _ g6 => (.via (State.put_keeps ..) rfl g6)))

theorem execResyncComplete_keeps (k : Fin 56) (dropped flushed : Nat) (s : State) :
    Runs 24 s (execResyncComplete k dropped flushed s) := by
  unfold execResyncComplete
  exact (.next (.ite (.via (resync_keeps ..) rfl (.refl _ _)) (.refl _ _)))

theorem execRetrain_keeps (s : State) : Runs 520 s (execRetrain s) := by
  unfold execRetrain
  exact (.next (.onlyIf (.refl _ _) fun _ g0 => (.via (d2dRetrain_keeps ..) rfl g0)))

theorem execRetrainDone_keeps (s : State) : Runs 263008 s (execRetrainDone s) := by
  unfold execRetrainDone
  exact (.next (.onlyIf (.refl _ _) fun _ g0 => (by
    lift_lets
    intro t1
    have h1 : Keeps 263008 s t1 := (.via (State.put_keeps ..) rfl (.via (State.put_keeps ..) rfl g0))
    intro t2
    exact (.via (edgeRelease_keeps ..) rfl (.out (fun w => by exact ⟨(List.length_map ..).trans w.out.1, w.out.2⟩) rfl h1)))))

end Sys2Proof.Machine
end

