-- ==== Sys2Proof/Laws/KeepsCheckpoint.lean ====
section
/-! SUPPORT. What the operations of Checkpoint.lean keep: the form of the state, the queue, and the parts outside their mask. -/

namespace Sys2Proof.Machine

theorem ckptSet_keeps (i : Nat) (f : CkptSlot → CkptSlot) (s : State) : Keeps 2 s (ckptSet i f s) := by
  unfold ckptSet
  exact (.slots (fun w => (List.length_modify ..).trans w.slots) rfl (.refl _ _))

theorem ckptFail_keeps (s : State) : Keeps 1048578 s (ckptFail s) := by
  unfold ckptFail
  lift_lets
  intro t0
  have h0 : Keeps 1048578 s t0 := by
    unfold t0
    exact (by
      split
      · exact (.via (ckptSet_keeps ..) rfl (.refl _ _))
      · exact (.refl _ _))
  intro t1
  have h1 : Keeps 1048578 s t1 := (.via (State.put_keeps ..) rfl h0)
  intro t2 t3
  have h3 : Keeps 1048578 s t3 := (.con (fun w => by exact w.con) rfl h1)
  exact (.via (State.setFlag_keeps ..) rfl (.via (State.count_keeps ..) rfl h3))

theorem ckptBegin_keeps (kind at_ : Nat) (s : State) : Keeps 1048578 s (ckptBegin kind at_ s) := by
  unfold ckptBegin
  lift_lets
  intro t0 t1 t2 t3 t4
  have h4 : Keeps 1048578 s t4 := (.con (fun w => by exact w.con) rfl (.refl _ _))
  intro t5
  have h5 : Keeps 1048578 s t5 := (.via (ckptSet_keeps ..) rfl h4)
  intro t6
  have h6 : Keeps 1048578 s t6 := (.via (State.put_keeps ..) rfl h5)
  intro t7
  exact (.ite (.via (ckptFail_keeps ..) rfl h4) (.con (fun w => by exact w.con) rfl h6))

theorem ckptEffects_keeps (ck : Ckpt) (at_ : Nat) (s : State) : Keeps 335872 s (ckptEffects ck at_ s) := by
  unfold ckptEffects
  lift_lets
  intro t0
  have h0 : Keeps 335872 s t0 := by
    unfold t0
    exact (by
      split
      · exact (.ite (.via (pairSaved_keeps ..) rfl (.refl _ _)) (.refl _ _))
      · exact (.refl _ _))
  exact (.ite (.via (provCommitted_keeps ..) rfl h0) h0)

theorem ckptErased_keeps (i sector : Nat) (s : State) : Keeps 1048578 s (ckptErased i sector s) := by
  unfold ckptErased
  lift_lets
  intro t0
  have h0 : Keeps 1048578 s t0 := (.via (ckptSet_keeps ..) rfl (.refl _ _))
  intro t1
  have h1 : Keeps 1048578 s t1 := (.via (State.put_keeps ..) rfl h0)
  intro t2 t3
  have h3 : Keeps 1048578 s t3 := (.con (fun w => by exact w.con) rfl h1)
  intro t4
  have h4 : Keeps 1048578 s t4 := (.via (State.put_keeps ..) rfl h3)
  exact (.onlyIf h4 fun _ g5 => (.via (State.setFlag_keeps ..) rfl g5))

theorem ckptServe_keeps (at_ : Nat) (s : State) : Keeps 1048578 s (ckptServe at_ s) := by
  unfold ckptServe
  exact (.ite (.refl _ _) (.ite (.via (ckptBegin_keeps ..) rfl (.refl _ _)) (.ite (.via (ckptBegin_keeps ..) rfl (.refl _ _)) (.ite (.via (ckptBegin_keeps ..) rfl (.refl _ _)) (.refl _ _)))))

theorem ckptNow_keeps (at_ : Nat) (s : State) : Keeps 1048578 s (ckptNow at_ s) := by
  unfold ckptNow
  exact (.onlyIf (.refl _ _) fun _ g0 => (by
    lift_lets
    intro t1
    exact (.via (ckptServe_keeps ..) rfl (.con (fun w => by exact w.con) rfl g0))))

theorem ckptStored_keeps (w : CkptWrite) (s : State) : Keeps 1048578 s (ckptStored w s) := by
  unfold ckptStored
  lift_lets
  intro t0
  have h0 : Keeps 1048578 s t0 := (.via (ckptSet_keeps ..) rfl (.refl _ _))
  intro t1
  have h1 : Keeps 1048578 s t1 := (.via (State.put_keeps ..) rfl h0)
  intro t2 t3
  have h3 : Keeps 1048578 s t3 := (.con (fun w => by exact w.con) rfl h1)
  intro t4
  have h4 : Keeps 1048578 s t4 := (.via (State.put_keeps ..) rfl (.via (State.put_keeps ..) rfl (.via (State.put64_keeps ..) rfl h3)))
  exact (.via (State.setFlag_keeps ..) rfl (.via (State.count_keeps ..) rfl h4))

theorem conCfgWrite_keeps (v : Word) (s : State) : Keeps 0 s (conCfgWrite v s) := by
  unfold conCfgWrite
  exact (.via (State.setReg_keeps ..) rfl (.refl _ _))

theorem execCheckpointCommit_keeps (ok : Bool) (at_ : Nat) (s : State) : Runs 1384450 s (execCheckpointCommit ok at_ s) := by
  unfold execCheckpointCommit
  exact (.next (by
    split
    · exact (.via (ckptServe_keeps ..) rfl (.ite (.via (ckptEffects_keeps ..) rfl (.via (ckptStored_keeps ..) rfl (.refl _ _))) (.via (ckptFail_keeps ..) rfl (.refl _ _))))
    · exact (.refl _ _)))

theorem execCheckpointConfigWrite_keeps (v : Word) (s : State) : Runs 65536 s (execCheckpointConfigWrite v s) := by
  unfold execCheckpointConfigWrite
  exact (.next (.hostDo rfl (.refl _ _) fun _ g0 => (.via (conCfgWrite_keeps ..) rfl g0)))

theorem execCheckpointLate_keeps (at_ : Nat) (s : State) : Runs 1048576 s (execCheckpointLate at_ s) := by
  unfold execCheckpointLate
  exact (.next (.onlyIf (.refl _ _) fun _ g0 => (.via (State.deadline_keeps ..) rfl g0)))

theorem execCheckpointPeriodic_keeps (at_ : Nat) (s : State) : Runs 1048578 s (execCheckpointPeriodic at_ s) := by
  unfold execCheckpointPeriodic
  exact (.next (.onlyIf (.refl _ _) fun _ g0 => (by
    lift_lets
    intro t1
    exact (.via (ckptServe_keeps ..) rfl (.con (fun w => by exact w.con) rfl g0)))))

theorem execCheckpointRequest_keeps (at_ : Nat) (s : State) : Runs 1048578 s (execCheckpointRequest at_ s) := by
  unfold execCheckpointRequest
  exact (.next (.via (ckptServe_keeps ..) rfl (.refl _ _)))

theorem execCkptNow_keeps (at_ : Nat) (s : State) : Runs 1048578 s (execCkptNow at_ s) := by
  unfold execCkptNow
  exact (.next (.via (ckptNow_keeps ..) rfl (.refl _ _)))

theorem execEraseAhead_keeps (s : State) : Runs 1048576 s (execEraseAhead s) := by
  unfold execEraseAhead
  lift_lets
  intro t0
  have h0 : Keeps 1048576 s t0 := (.via (State.put_keeps ..) rfl (.refl _ _))
  intro t1 t2
  have f2 : ∀ x0 x1, Keeps 1048576 s (t2 x0 x1) := by
    intro _ _ 
    unfold t2
    exact (.con (fun w => by exact w.con) rfl h0)
  exact (.next (.ite (.refl _ _) (by
    split
    · exact (f2 _ _)
    · exact (f2 _ _)
    · exact (.refl _ _))))

theorem execEraseDone_keeps (at_ : Nat) (s : State) : Runs 1048578 s (execEraseDone at_ s) := by
  unfold execEraseDone
  exact (.next (by
    split
    · exact (.ite (.refl _ _) (.via (ckptServe_keeps ..) rfl (.via (ckptErased_keeps ..) rfl (.refl _ _))))
    · exact (.refl _ _)))

end Sys2Proof.Machine
end

