-- ==== Sys2Proof/Laws/KeepsConservator.lean ====
section
/-! SUPPORT. What the operations of Conservator.lean keep: the form of the state, the queue, and the parts outside their mask. -/

namespace Sys2Proof.Machine

theorem conLevels_keeps (s : State) : Keeps 0 s (conLevels s) := by
  unfold conLevels
  lift_lets
  intro t0
  have h0 : Keeps 0 s t0 := (.onlyIf (.refl _ _) fun _ g1 => (.via (State.setFlag_keeps ..) rfl g1))
  exact (.onlyIf h0 fun _ g2 => (.via (State.setFlag_keeps ..) rfl g2))

theorem testFlag_keeps (f : Fld) (s : State) : Keeps 0 s (testFlag f s) := by
  unfold testFlag
  exact (.via (State.setFlag_keeps ..) rfl (.refl _ _))

theorem testOut_keeps (t : Nat) (s : State) : Keeps 133208 s (testOut t s) := by
  unfold testOut
  exact (.ite (.via (portCfgWrite_keeps ..) rfl (.refl _ _)) (.via (lkEnable_keeps ..) rfl (.refl _ _)))

theorem conSelftest_keeps (t : Nat) (force : Bool) (s : State) : Keeps 1181784 s (conSelftest t force s) := by
  unfold conSelftest
  lift_lets
  intro t0
  have f0 : ∀ a, Keeps 1181784 s a → Keeps 1181784 s (t0 a) := by
    intro a g1
    unfold t0
    lift_lets
    intro t2
    exact (.con (fun w => by exact w.con) rfl g1)
  exact (.ite (.refl _ _) (.ite (f0 _ (.refl _ _)) (.ite (f0 _ (.via (testFlag_keeps ..) rfl (.via (testOut_keeps ..) rfl (.refl _ _)))) (.via (testFlag_keeps ..) rfl (.refl _ _)))))

theorem eccCount_keeps (n : Nat) (fr : EthFrame) (s : State) : Keeps 16384 s (eccCount n fr s) := by
  unfold eccCount
  exact (by
    split
    · exact (.ite (.via (ownerDropped_keeps ..) rfl (.refl _ _)) (.via (State.count_keeps ..) rfl (.refl _ _)))
    · exact (.onlyIf (.refl _ _) fun _ g0 => (.via (hifDrop_keeps ..) rfl g0)))

theorem eccFrame_keeps (n i : Nat) (s : State) : Keeps 18432 s (eccFrame n i s) := by
  unfold eccFrame
  lift_lets
  intro t0
  have h0 : Keeps 18432 s t0 := (.via (macSet_keeps ..) rfl (.refl _ _))
  exact (by
    split
    · exact (.via (tsqAppend_keeps ..) rfl (.via (eccCount_keeps ..) rfl h0))
    · exact (.refl _ _))

theorem eccReserved_keeps (n i : Nat) (s : State) : Keeps 18432 s (eccReserved n i s) := by
  unfold eccReserved
  lift_lets
  intro t0
  have h0 : Keeps 18432 s t0 := (.via (macSet_keeps ..) rfl (.refl _ _))
  exact (by
    split
    · exact (.onlyIf h0 fun _ g1 => (by
        split
        · exact (.via (State.count_keeps ..) rfl g1)
        · exact (.via (ownerDropped_keeps ..) rfl g1)))
    · exact (.refl _ _))

theorem eccRequest_keeps (p i : Nat) (s : State) : Keeps 268288 s (eccRequest p i s) := by
  unfold eccRequest
  exact (by
    split
    · exact (.via (pairDropped_keeps ..) rfl (.via (ansDrop_keeps ..) rfl (.via (State.count_keeps ..) rfl (.refl _ _))))
    · exact (.refl _ _))

theorem eccEffect_keeps (p : EccPlace) (at_ : Nat) (s : State) : Keeps 1890338 s (eccEffect p at_ s) := by
  unfold eccEffect
  lift_lets
  intro t0
  exact (by
    split
    · exact (.ans (fun w => by exact w.ans) rfl (.refl _ _))
    · exact (.via (evtDestroy_keeps ..) rfl (.refl _ _))
    · exact (.refl _ _)
    · exact (.via (ptpPutTable_keeps ..) rfl (.refl _ _))
    · exact (.via (bneMemoryError_keeps ..) rfl (.refl _ _))
    · exact (.onlyIf (.refl _ _) fun _ g1 => (.via (ckptServe_keeps ..) rfl (.via (ckptFail_keeps ..) rfl g1)))
    · exact (.via (eccFrame_keeps ..) rfl (.refl _ _))
    · exact (.via (eccReserved_keeps ..) rfl (.refl _ _))
    · exact (.via (hifDrop_keeps ..) rfl (.refl _ _))
    · exact (.ite (.via (hifDrop_keeps ..) rfl (.via (hifConsume_keeps ..) rfl (.refl _ _))) (.refl _ _))
    · exact (.via (eccRequest_keeps ..) rfl (.refl _ _)))

theorem eccError_keeps (at_ : Nat) (s : State) (e : EccError) : Keeps 1890338 s (eccError at_ s e) := by
  unfold eccError
  lift_lets
  intro t0
  have h0 : Keeps 1890338 s t0 := (.via (State.put_keeps ..) rfl (.via (State.put_keeps ..) rfl (.refl _ _)))
  intro t1
  have h1 : Keeps 1890338 s t1 := (.via (State.putB_keeps ..) rfl h0)
  exact (.ite (.via (eccEffect_keeps ..) rfl (.via (State.setEvent_keeps ..) rfl (.via (State.count_keeps ..) rfl h1))) (.via (State.setFlag_keeps ..) rfl (.via (State.count_keeps ..) rfl h1)))

theorem execConSelftest_keeps (target : BitVec 5) (force : Bool) (s : State) :
    Runs 1181784 s (execConSelftest target force s) := by
  unfold execConSelftest
  exact (.next (.via (conSelftest_keeps ..) rfl (.refl _ _)))

theorem execConSelftestDone_keeps (errors : Nat) (s : State) : Runs 1048576 s (execConSelftestDone errors s) := by
  unfold execConSelftestDone
  exact (.next (by
    split
    · lift_lets
      intro t0
      have h0 : Keeps 1048576 s t0 := (.via (State.putB_keeps ..) rfl (.via (State.put_keeps ..) rfl (.refl _ _)))
      intro t1
      have h1 : Keeps 1048576 s t1 := (.via (State.put_keeps ..) rfl h0)
      intro t2
      exact (.via (testFlag_keeps ..) rfl (.con (fun w => by exact w.con) rfl h1))
    · exact (.refl _ _)))

theorem execHostWatchdogExpiry_keeps (at_ : Nat) (s : State) : Runs 8388605 s (execHostWatchdogExpiry at_ s) := by
  unfold execHostWatchdogExpiry
  exact (.next (.ite (.via (devReset_keeps ..) rfl (.via (State.put_keeps ..) rfl (.refl _ _))) (.refl _ _)))

theorem linkCal_keeps (n : Nat) (tx rx : Int) (s : State) : Keeps 1048576 s (linkCal n tx rx s) := by
  unfold linkCal
  cases s.con.linkDelays.getD n none with
  | none => exact .con (fun w => by exact ⟨w.con.1, (List.length_set ..).trans w.con.2⟩) rfl (.via (State.putS_keeps ..) rfl (.via (State.putS_keeps ..) rfl (.refl _ _)))
  | some d =>
    exact .onlyIf (.onlyIf (.onlyIf (.con (fun w => by exact ⟨w.con.1, (List.length_set ..).trans w.con.2⟩) rfl (.refl _ _)) fun _ g => .via (State.putS_keeps ..) rfl g)
      fun _ g => .via (State.putS_keeps ..) rfl g) fun _ g => .via (calReject_keeps ..) rfl g

theorem execLinkCal_keeps (link : Fin 8) (tx rx : Int) (s : State) : Runs 1048576 s (execLinkCal link tx rx s) := by
  unfold execLinkCal
  exact (.next (.onlyIf (.refl _ _) fun _ g0 => (.via (linkCal_keeps ..) rfl g0)))

theorem execOutputCal_keeps (out : Fin 16) (delay : Int) (at_ : Nat) (s : State) :
    Runs 1048576 s (execOutputCal out delay at_ s) := by
  unfold execOutputCal
  exact (.next (.onlyIf (.refl _ _) fun _ g0 => (by
    lift_lets
    intro t1
    exact (.via (calServe_keeps ..) rfl (.con (fun w => by exact w.con) rfl g0)))))

theorem scrubNow_keeps (s : State) : Keeps 1048576 s (scrubNow s) := by
  unfold scrubNow
  exact (.onlyIf (.refl _ _) fun _ g0 => (by
    lift_lets
    intro t1
    exact (.con (fun w => by exact w.con) rfl g0)))

theorem wdKick_keeps (at_ : Nat) (s : State) : Keeps 1048576 s (wdKick at_ s) := by
  unfold wdKick
  exact (.onlyIf (.refl _ _) fun _ g0 => (by
    lift_lets
    intro t1
    exact (.con (fun w => by exact w.con) rfl g0)))

theorem execScrubNow_keeps (s : State) : Runs 1048576 s (execScrubNow s) := by
  unfold execScrubNow
  exact (.next (.via (scrubNow_keeps ..) rfl (.refl _ _)))

theorem execScrubPass_keeps (read : Bool) (errors : List EccError) (at_ : Nat) (s : State) :
    Runs 1890338 s (execScrubPass read errors at_ s) := by
  unfold execScrubPass
  exact (.next (.onlyIf (.refl _ _) fun _ g0 => (.foldl _ (.onlyIf g0 fun _ g2 => (by
    lift_lets
    intro t3
    exact (.con (fun w => by exact w.con) rfl g2))) fun _ _ g1 => (.via (eccError_keeps ..) rfl g1))))

theorem railRead_keeps (s : State) (p : Nat × BitVec 16) : Keeps 0 s (railRead s p) := by
  unfold railRead
  lift_lets
  intro t0
  exact (by
    split
    · lift_lets
      intro t1
      have h1 : Keeps 0 s t1 := (.via (State.putB_keeps ..) rfl (.via (State.put_keeps ..) rfl (.refl _ _)))
      exact (.via (State.putB_keeps ..) rfl h1))

theorem telemetry_keeps (temps rails : List (BitVec 16)) (s : State) : Keeps 0 s (telemetry temps rails s) := by
  unfold telemetry
  lift_lets
  intro t0
  have h0 : Keeps 0 s t0 := (.foldl _ (.refl _ _) fun _ _ g1 => (.via (State.put_keeps ..) rfl g1))
  intro t2
  have h2 : Keeps 0 s t2 := (.foldl _ h0 fun _ _ g3 => (.via (railRead_keeps ..) rfl g3))
  exact (.via (conLevels_keeps ..) rfl h2)

theorem execTelemetryRead_keeps (temps rails : List (BitVec 16)) (s : State) : Runs 0 s (execTelemetryRead temps rails s) := by
  unfold execTelemetryRead
  exact (.next (.onlyIf (.refl _ _) fun _ g0 => (.via (telemetry_keeps ..) rfl g0)))

theorem execWatchdogExpiry_keeps (s : State) : Runs 8388605 s (execWatchdogExpiry s) := by
  unfold execWatchdogExpiry
  exact (.next (.ite (.via (devReset_keeps ..) rfl (.via (State.put_keeps ..) rfl (.refl _ _))) (.refl _ _)))

theorem execWdKick_keeps (at_ : Nat) (s : State) : Runs 1048576 s (execWdKick at_ s) := by
  unfold execWdKick
  exact (.next (.via (wdKick_keeps ..) rfl (.refl _ _)))

end Sys2Proof.Machine
end

