-- ==== Sys2Proof/Laws/KeepsStartup.lean ====
section
/-! SUPPORT. What the operations of Startup.lean keep: the form of the state, the queue, and the parts outside their mask. -/

namespace Sys2Proof.Machine

theorem startFactory_keeps (s : State) : Keeps 0 s (startFactory s) := by
  unfold startFactory
  lift_lets
  intro t0
  have h0 : Keeps 0 s t0 := (.via (applyImage_keeps ..) rfl (.refl _ _))
  intro t1
  have h1 : Keeps 0 s t1 := (.foldl _ h0 fun _ _ g2 => (.via (cdcRelease_keeps ..) rfl g2))
  exact (.via (enterPhase_keeps ..) rfl (.via (cdcSettle_keeps ..) rfl h1))

theorem execFactoryApplied_keeps (s : State) : Runs 0 s (execFactoryApplied s) := by
  unfold execFactoryApplied
  exact (.next (.ite (.via (startFactory_keeps ..) rfl (.refl _ _)) (.refl _ _)))

theorem startImage_keeps (answersA answersB : Bool) (s : State) : Keeps 65552 s (startImage answersA answersB s) := by
  unfold startImage
  lift_lets
  intro t0 t1
  have h1 : Keeps 65552 s t1 := (.via (catPost_keeps ..) rfl (.via (applyImage_keeps ..) rfl (.via (catUsed_keeps ..) rfl (.refl _ _))))
  intro t2 t3
  exact (.via (enterPhase_keeps ..) rfl (.step h1 (fun w => { w with tb := (fun w => by exact w.tb) w }) rfl fun p hp => by cases p <;> first | exact absurd hp (by decide) | rfl))

theorem execImageSelected_keeps (answersA answersB : Bool) (s : State) :
    Runs 65552 s (execImageSelected answersA answersB s) := by
  unfold execImageSelected
  exact (.next (.ite (.via (startImage_keeps ..) rfl (.refl _ _)) (.refl _ _)))

theorem ntsHalt_keeps (s : State) : Keeps 8192 s (ntsHalt s) := by
  unfold ntsHalt
  lift_lets
  intro t0
  exact (.via (State.put_keeps ..) rfl (.nts rfl (.refl _ _)))

theorem loadClear_keeps (s : State) : Keeps 65560 s { s.put GLB_RST_STATUS.BUSY 0 with
    sys := { s.sys with blkHeld := 0, instHeld := none }, prov := { s.prov with cfgWrites := 0 },
    tb := { s.tb with reports := [] } } :=
  .step (.refl _ _) (fun w => have k := (State.put_keeps GLB_RST_STATUS.BUSY 0 s).wf w; { k with tb := w.tb }) rfl
    fun p hp => by cases p <;> first | exact absurd hp (by decide) | rfl

theorem liveLoad_keeps (answersA answersB : Bool) (s : State) : Keeps 5242876 s (liveLoad answersA answersB s) := by
  unfold liveLoad
  lift_lets
  intro l t1
  have h : Keeps 5242876 s t1 := .foldl _ (.refl _ _) fun _ _ g => .via (blkReset_keeps ..) rfl g
  clear_value t1
  exact .via (enterPhase_keeps ..) rfl (.foldl _ (.via (tbRefresh_keeps ..) rfl (.via (catPost_keeps ..) rfl
    (.via (loadImage_keeps ..) rfl (.via (catUsed_keeps ..) rfl (.via (ntsHalt_keeps ..) rfl
    (.via (resetRegs_keeps ..) rfl (.after rfl h (loadClear_keeps _))))))))
    fun _ _ g => .via (blkStart_keeps ..) rfl g)

theorem execLiveLoadDone_keeps (answersA answersB : Bool) (s : State) :
    Runs 5242876 s (execLiveLoadDone answersA answersB s) := by
  unfold execLiveLoadDone
  exact (.next (.ite (.via (liveLoad_keeps ..) rfl (.refl _ _)) (.refl _ _)))

theorem pivotFault_keeps (s : State) : Keeps 1311258 s (pivotFault s) := by
  unfold pivotFault
  lift_lets
  intro t0
  have h0 : Keeps 1311258 s t0 := (.via (State.put_keeps ..) rfl (.refl _ _))
  intro t1 t2
  have h2 : Keeps 1311258 s t2 := (.sys rfl h0)
  intro t3
  have h3 : Keeps 1311258 s t3 := (.onlyIf (.via (outFaultMute_keeps ..) rfl (.via (tbRefresh_keeps ..) rfl (.via (tbDiscard_keeps ..) rfl (.via (State.put_keeps ..) rfl h2)))) fun _ g4 => (.via (ckptFail_keeps ..) rfl g4))
  exact (.via (State.raise_keeps ..) rfl (.via (pairPivotFault_keeps ..) rfl h3))

theorem execPivotFault_keeps (s : State) : Runs 1311258 s (execPivotFault s) := by
  unfold execPivotFault
  exact (.next (.ite (.via (pivotFault_keeps ..) rfl (.refl _ _)) (.refl _ _)))

theorem execPivotLostAtStart_keeps (s : State) : Runs 8 s (execPivotLostAtStart s) := by
  unfold execPivotLostAtStart
  lift_lets
  intro t0
  exact (.next (.ite (.via (enterPhase_keeps ..) rfl (.via (cdcDevReset_keeps ..) rfl (.sys rfl (.refl _ _)))) (.refl _ _)))

theorem execPivotRecovered_keeps (s : State) : Runs 8388605 s (execPivotRecovered s) := by
  unfold execPivotRecovered
  exact (.next (.ite (.via (devReset_keeps ..) rfl (.refl _ _)) (.refl _ _)))

theorem execPivotStable_keeps (s : State) : Runs 8 s (execPivotStable s) := by
  unfold execPivotStable
  lift_lets
  intro t0
  exact (.next (.ite (.via (enterPhase_keeps ..) rfl (.sys rfl (.refl _ _))) (.refl _ _)))

theorem execPllLocked_keeps (s : State) : Runs 0 s (execPllLocked s) := by
  unfold execPllLocked
  exact (.next (.ite (.via (enterPhase_keeps ..) rfl (.refl _ _)) (.refl _ _)))

theorem reload_keeps (s : State) : Keeps 0 s (reload s) := by
  unfold reload
  exact (.ite (.refl _ _) (.ite (.via (catFlag_keeps ..) rfl (.refl _ _)) (.via (enterPhase_keeps ..) rfl (.refl _ _))))

theorem execReload_keeps (s : State) : Runs 0 s (execReload s) := by
  unfold execReload
  exact (.next (.via (reload_keeps ..) rfl (.refl _ _)))

theorem restoreReg_keeps (ck : Ckpt) (s : State) (ofs : Nat) : Keeps 0 s (restoreReg ck s ofs) := by
  unfold restoreReg
  split
  · have h := State.setReg_keeps ofs (by assumption) s
    cases regFind ofs with
    | none => exact h
    | some x => exact .ite (.rf (fun w => w.vals) (fun w => w.staged) h) h
  · exact .refl _ _

theorem restoreTb_keeps (ck : Ckpt) (whole : Bool) (s : State) : Keeps 16 s (restoreTb ck whole s) := by
  unfold restoreTb
  lift_lets
  intro t0
  have h0 : Keeps 16 s t0 := (.foldl _ (.refl _ _) fun _ _ g1 => (.via (restoreReg_keeps ..) rfl g1))
  intro t2 t3
  have h3 : Keeps 16 s t3 := (.tb (fun w => by exact w.tb) rfl h0)
  exact (.via (tbWarn_keeps ..) rfl (.via (State.put_keeps ..) rfl h3))

theorem restoreCon_keeps (slot : Nat) (ck : Ckpt) (s : State) : Keeps 0 s (restoreCon slot ck s) := by
  unfold restoreCon
  lift_lets
  intro t0
  have h0 : Keeps 0 s t0 := (.via (State.put_keeps ..) rfl (.via (State.put_keeps ..) rfl (.via (State.put64_keeps ..) rfl (.refl _ _))))
  exact (.via (State.put_keeps ..) rfl (.via (State.put_keeps ..) rfl h0))

theorem restoreNts_keeps (ck : Ckpt) (s : State) : Keeps 8192 s (restoreNts ck s) := by
  unfold restoreNts
  lift_lets
  intro t0 t1 t2
  have h2 : Keeps 8192 s t2 := (.nts rfl (.refl _ _))
  exact (.via (ntsRefresh_keeps ..) rfl (.via (State.put_keeps ..) rfl h2))

theorem restoreGnss_keeps (ck : Ckpt) (s : State) : Keeps 0 s (restoreGnss ck s) := by
  unfold restoreGnss
  exact (.foldl _ (.refl _ _) fun _ _ g0 => (by
    lift_lets
    intro t1
    have h1 : Keeps 0 s t1 := (.foldl _ g0 fun _ _ g2 => (.via (restoreReg_keeps ..) rfl g2))
    exact (.via (State.put_keeps ..) rfl h1)))

theorem restoreMember_keeps (ck : Ckpt) (s : State) (i : Nat) : Keeps 256 s (restoreMember ck s i) := by
  unfold restoreMember
  lift_lets
  intro t0 t1
  have h1 : Keeps 256 s t1 := (.via (State.put_keeps ..) rfl (.via (State.put_keeps ..) rfl (.via (State.put_keeps ..) rfl (.refl _ _))))
  intro t2
  have h2 : Keeps 256 s t2 := (.foldl _ h1 fun _ _ g3 => (.via (restoreReg_keeps ..) rfl g3))
  intro t4
  exact (.ite (.refl _ _) (.via (ensPutVar_keeps ..) rfl (.via (ensSet_keeps ..) rfl h2)))

theorem ensRebased_keeps (b : Bool) (s : State) : Keeps 256 s { s with ens := { s.ens with rebase := b } } :=
  .ens (fun w => w.ens) rfl (.refl _ _)

theorem restoreEns_keeps (ck : Ckpt) (s : State) : Keeps 256 s (restoreEns ck s) := by
  unfold restoreEns
  lift_lets
  intro t0
  have h0 : Keeps 256 s t0 := (.foldl _ (.refl _ _) fun _ _ g1 => (.via (restoreReg_keeps ..) rfl g1))
  intro t2
  have h2 : Keeps 256 s t2 := (.foldl _ h0 fun _ _ g3 => (.via (restoreMember_keeps ..) rfl g3))
  intro t4
  exact (.via (ensRefresh_keeps ..) rfl (.after rfl h2 (ensRebased_keeps _ _)))

theorem startRelease_keeps (ck : Option (Nat × Nat × Ckpt)) (whole : Bool) (s : State) :
    Keeps 1571804 s (startRelease ck whole s) := by
  unfold startRelease
  lift_lets
  intro t0
  have h0 : Keeps 1571804 s t0 := (.foldl _ (.refl _ _) fun _ _ g1 => (.via (blkStart_keeps ..) rfl g1))
  intro t2
  have h2 : Keeps 1571804 s t2 := by
    unfold t2
    exact (by
      split
      · lift_lets
        intro t3
        have h3 : Keeps 1571804 s t3 := (.via (restoreCon_keeps ..) rfl (.via (restoreNts_keeps ..) rfl h0))
        exact (.onlyIf h3 fun _ g4 => (.via (restoreGnss_keeps ..) rfl (.via (restoreEns_keeps ..) rfl g4)))
      · exact h0)
  intro t5
  have h5 : Keeps 1571804 s t5 := (.via (ntsRest_keeps ..) rfl h2)
  intro t6
  have h6 : Keeps 1571804 s t6 := (.via (ntsFirst_keeps ..) rfl h5)
  exact (.via (vbRenew_keeps ..) rfl (.via (provBoot_keeps ..) rfl h6))

theorem startRun_keeps (startMs : Nat) (s : State) : Keeps 1571804 s (startRun startMs s) := by
  unfold startRun
  lift_lets
  intro t0 t1 t2
  have h2 : Keeps 1571804 s t2 := (.via (State.putB_keeps ..) rfl (.refl _ _))
  intro t3
  have h3 : Keeps 1571804 s t3 := by
    unfold t3
    exact (by
      clear_value t0
      split
      · exact (.via (restoreTb_keeps ..) rfl h2)
      · exact h2)
  intro t4
  have h4 : Keeps 1571804 s t4 := (.via (enterPhase_keeps ..) rfl (.via (State.put_keeps ..) rfl h3))
  intro t5
  have h5 : Keeps 1571804 s t5 := (.via (State.put_keeps ..) rfl h4)
  intro t6
  have h6 : Keeps 1571804 s t6 := (.via (State.put_keeps ..) rfl h5)
  intro t7
  have h7 : Keeps 1571804 s t7 := (.onlyIf (.via (startRelease_keeps ..) rfl h6) fun _ g8 => (.via (State.raise_keeps ..) rfl g8))
  exact (.onlyIf h7 fun _ g9 => (.via (State.raise_keeps ..) rfl g9))

theorem execRestoreDone_keeps (startMs : Nat) (s : State) : Runs 1571804 s (execRestoreDone startMs s) := by
  unfold execRestoreDone
  exact (.next (.ite (.via (startRun_keeps ..) rfl (.refl _ _)) (.refl _ _)))

theorem execWarmupDone_keeps (s : State) : Runs 0 s (execWarmupDone s) := by
  unfold execWarmupDone
  exact (.next (.ite (.via (enterPhase_keeps ..) rfl (.refl _ _)) (.refl _ _)))

end Sys2Proof.Machine
end

