-- ==== Sys2Proof/Laws/KeepsHostAccess.lean ====
section
/-! SUPPORT. What the operations of HostAccess.lean keep: the form of the state, the queue, and the parts outside their mask. -/

namespace Sys2Proof.Machine

theorem RegHit.store_keeps (h : RegHit) (ofs : Nat) (v : Word) (s : State) : Keeps 0 s (RegHit.store h ofs v s) := by
  unfold RegHit.store
  exact (.via (State.setReg_keeps ..) rfl (.refl _ _))

theorem RegHit.storePair_keeps (h : RegHit) (k : Nat) (lo hi : Word) (s : State) : Keeps 0 s (RegHit.storePair h k lo hi s) := by
  unfold RegHit.storePair
  lift_lets
  intro t0 t1
  exact (.via (State.put64_keeps ..) rfl (.refl _ _))

theorem State.answer_keeps (v : Word) (s : State) : Keeps 8 s (State.answer v s) := by
  unfold State.answer
  lift_lets
  intro t0
  exact (.sys rfl (.refl _ _))

theorem accessBad_keeps (write : Bool) (s : State) : Keeps 8 s (accessBad write s) := by
  unfold accessBad
  exact (.onlyIf (.onlyIf (.refl _ _) fun _ g1 => (.via (State.answer_keeps ..) rfl g1)) fun _ g0 => (.via (State.setFlag_keeps ..) rfl (.via (State.count_keeps ..) rfl g0)))

theorem windowAccess_keeps (write : Bool) (a1 : Nat) (v : Word) (s : State) : Keeps 12 s (windowAccess write a1 v s) := by
  unfold windowAccess
  exact (.ite (.onlyIf (.refl _ _) fun _ g0 => (.via (State.answer_keeps ..) rfl g0)) (.ite (.ite (.via (State.count_keeps ..) rfl (.refl _ _)) (.via (State.answer_keeps ..) rfl (.refl _ _))) (.ite (.bar2 (fun w => memWrite_wf _ _ _ _ w.bar2) rfl (.refl _ _)) (.via (State.answer_keeps ..) rfl (.refl _ _)))))

theorem bar2Access_keeps (write : Bool) (ofs : Nat) (v : Word) (s : State) : Keeps 12 s (bar2Access write ofs v s) := by
  unfold bar2Access
  lift_lets
  intro t0
  exact (.ite (.via (windowAccess_keeps ..) rfl (.refl _ _)) (.ite (.refl _ _) (.ite (.via (State.answer_keeps ..) rfl (.refl _ _)) (.via (State.answer_keeps ..) rfl (.refl _ _)))))

theorem captureCopy_keeps (s : State) : Keeps 524296 s (captureCopy s) := by
  unfold captureCopy
  exact (by
    split
    · exact (.refl _ _)
    · exact (.ite (.via (hifConsume_keeps ..) rfl (.via (hifWrite_keeps ..) rfl (.refl _ _))) (.via (hifBadDesc_keeps ..) rfl (.refl _ _))))

theorem commitPair_keeps (h : RegHit) (k : Nat) (lo hi : Word) (at_ : Nat) (s : State) :
    Keeps 904 s (commitPair h k lo hi at_ s) := by
  unfold commitPair
  lift_lets
  intro t0 t1 t2
  exact (.ite (.ite (.refl _ _) (.via (RegHit.storePair_keeps ..) rfl (.refl _ _))) (.ite (.via (loopNumFF_keeps ..) rfl (.via (RegHit.storePair_keeps ..) rfl (.refl _ _))) (.ite (.via (loopNumPh_keeps ..) rfl (.refl _ _)) (.ite (.via (ensManPh_keeps ..) rfl (.refl _ _)) (.ite (.via (outRegWrite_keeps ..) rfl (.refl _ _)) (.ite (.via (outRegWrite_keeps ..) rfl (.refl _ _)) (.ite (.via (outOfsWrite_keeps ..) rfl (.refl _ _)) (.ite (.ite (.via (RegHit.storePair_keeps ..) rfl (.refl _ _)) (.refl _ _)) (.ite (.via (gnssCommit_keeps ..) rfl (.refl _ _)) (.via (RegHit.storePair_keeps ..) rfl (.refl _ _)))))))))))

theorem commitHigh_keeps (h : RegHit) (k : Nat) (v : Word) (at_ : Nat) (s : State) : Keeps 904 s (commitHigh h k v at_ s) :=
  .via (commitPair_keeps ..) rfl (.rf (fun w => w.vals) (fun w => keysAbove_tableErase _ _ _ w.staged) (.refl _ _))

theorem execAccessBad_keeps (write : Bool) (s : State) : Runs 8 s (execAccessBad write s) := by
  unfold execAccessBad
  exact (.next (.via (accessBad_keeps ..) rfl (.refl _ _)))

theorem execCaptureCopy_keeps (s : State) : Runs 524296 s (execCaptureCopy s) := by
  unfold execCaptureCopy
  exact (.next (.via (captureCopy_keeps ..) rfl (.refl _ _)))

theorem RegFile.Grown.latchSet {r q : RegFile} (k : Nat) (v : Word) (h : r.Grown q) : r.Grown (q.latchSet k v) :=
  ⟨h.keys, h.staged⟩

theorem latchHash_grown (r : RegFile) : r.Grown (latchHash r) := by
  have : ∀ (l : List Nat) (q : RegFile), r.Grown q →
      r.Grown (l.foldl (fun r w => r.latchSet (PROV_LAST_HASH.ofs w) (r.reg (PROV_LAST_HASH.ofs w))) q) := by
    intro l
    induction l with
    | nil => exact fun _ h => h
    | cons w l ih => exact fun q h => ih _ (h.latchSet _ _)
  exact this _ r (.refl r)

theorem readLow_keeps (h : RegHit) (k at_ : Nat) (s : State) : Keeps 8 s (readLow h k at_ s) := by
  have h0 : Keeps 8 s (s.onlyIf (decide (k = TB_TIME_SEC.ofs) && s.live .tb) fun s => tbCapture (s.timeAt at_) s) :=
    .onlyIf (.refl _ _) fun _ g => .via (tbCapture_keeps ..) rfl g
  unfold readLow
  simp only
  split
  · exact .via (State.answer_keeps ..) rfl (.grown (.trans (.latchSet _ _ (.refl _)) (latchHash_grown _)) h0)
  · exact .via (State.answer_keeps ..) rfl (.grown (.latchSet _ _ (.refl _)) h0)

theorem readPlain_keeps (h : RegHit) (ofs at_ : Nat) (s : State) : Keeps 8 s (readPlain h ofs at_ s) := by
  unfold readPlain
  lift_lets
  intro t0 t1
  have h1 : Keeps 8 s t1 := (.via (State.answer_keeps ..) rfl (.refl _ _))
  exact (.ite h1 (.via (State.setReg_keeps ..) rfl h1))

theorem readReg_keeps (h : RegHit) (ofs at_ : Nat) (s : State) : Keeps 2492424 s (readReg h ofs at_ s) := by
  unfold readReg
  exact (.ite (.ite (.via (State.answer_keeps ..) rfl (.refl _ _)) (.via (readLow_keeps ..) rfl (.refl _ _))) (.ite (.hostPop rfl (.refl _ _) fun _ g0 => (.via (tsqPop_keeps ..) rfl g0)) (.ite (.hostPop rfl (.refl _ _) fun _ g1 => (.via (State.answer_keeps ..) rfl (.via (lnkPop_keeps ..) rfl g1))) (.ite (.hostPop rfl (.refl _ _) fun _ g2 => (.via (pairHostAccess_keeps ..) rfl g2)) (.ite (.hostPop rfl (.refl _ _) fun _ g3 => (.via (catData_keeps ..) rfl g3)) (.ite (.via (State.answer_keeps ..) rfl (.refl _ _)) (.via (readPlain_keeps ..) rfl (.refl _ _))))))))

theorem hostRead_keeps (ofs at_ : Nat) (s : State) : Keeps 2492424 s (hostRead ofs at_ s) := by
  unfold hostRead
  exact (.ite (.via (accessBad_keeps ..) rfl (.refl _ _)) (by
    split
    · exact (.via (State.answer_keeps ..) rfl (.refl _ _))
    · exact (.ite (.via (State.answer_keeps ..) rfl (.refl _ _)) (by
        split
        · exact (.via (State.answer_keeps ..) rfl (.refl _ _))
        · exact (.via (readReg_keeps ..) rfl (.refl _ _))))))

theorem execRcRead_keeps (ofs at_ : Nat) (s : State) : Runs 2492424 s (execRcRead ofs at_ s) := by
  unfold execRcRead
  exact (.next (.via (hostRead_keeps ..) rfl (.refl _ _)))

theorem execReadLo_keeps (ofs at_ : Nat) (s : State) : Runs 2492424 s (execReadLo ofs at_ s) := by
  unfold execReadLo
  exact (.next (.via (hostRead_keeps ..) rfl (.refl _ _)))

theorem unmappedWrite_keeps (s : State) : Keeps 0 s (unmappedWrite s) := by
  unfold unmappedWrite
  exact (.onlyIf (.refl _ _) fun _ g0 => (.via (State.setFlag_keeps ..) rfl (.via (State.count_keeps ..) rfl g0)))

theorem writeCat_keeps (h : RegHit) (ofs : Nat) (v : Word) (at_ : Nat) (s : State) :
    Keeps 8388605 s (writeCat h ofs v at_ s) := by
  unfold writeCat
  exact (.ite (.via (softReset_keeps ..) rfl (.refl _ _)) (.ite (.via (blkRequest_keeps ..) rfl (.refl _ _)) (.ite (.onlyIf (.refl _ _) fun _ g0 => (.via (instRequest_keeps ..) rfl g0)) (.ite (.onlyIf (.onlyIf (.refl _ _) fun _ g2 => (.via (catCheckStart_keeps ..) rfl g2)) fun _ g1 => (.via (reload_keeps ..) rfl g1)) (.ite (.ite (by
    split
    · exact (.via (catRead_keeps ..) rfl (.refl _ _))
    · exact (.via (catProgram_keeps ..) rfl (.refl _ _))
    · exact (.via (catErase_keeps ..) rfl (.refl _ _))
    · exact (.refl _ _)) (.refl _ _)) (.ite (.via (catData_keeps ..) rfl (.refl _ _)) (.ite (.via (otpWrite_keeps ..) rfl (.refl _ _)) (.ite (.refl _ _) (.via (RegHit.store_keeps ..) rfl (.refl _ _))))))))))

theorem writeIrq_keeps (h : RegHit) (ofs : Nat) (v : Word) (s : State) : Keeps 0 s (writeIrq h ofs v s) := by
  unfold writeIrq
  exact (.ite (.via (irqEoi_keeps ..) rfl (.refl _ _)) (.ite (.onlyIf (.refl _ _) fun _ g0 => (.via (irqTest_keeps ..) rfl g0)) (.ite (.via (irqUnmask_keeps ..) rfl (.refl _ _)) (.via (irqRefresh_keeps ..) rfl (.via (RegHit.store_keeps ..) rfl (.refl _ _))))))

theorem writeVit_keeps (h : RegHit) (ofs : Nat) (v : Word) (at_ : Nat) (s : State) :
    Keeps 4194304 s (writeVit h ofs v at_ s) := by
  unfold writeVit
  exact (.ite (.via (vitCtrl_keeps ..) rfl (.refl _ _)) (.ite (.via (vitPinCheck_keeps ..) rfl (.via (RegHit.store_keeps ..) rfl (.refl _ _))) (.via (RegHit.store_keeps ..) rfl (.refl _ _))))

theorem writeCon_keeps (h : RegHit) (ofs : Nat) (v : Word) (at_ : Nat) (s : State) :
    Keeps 1181786 s (writeCon h ofs v at_ s) := by
  unfold writeCon
  lift_lets
  intro t0
  have h0 : Keeps 1181786 s t0 := (.via (RegHit.store_keeps ..) rfl (.refl _ _))
  intro t1
  exact (.ite (.onlyIf (.onlyIf (.onlyIf (.refl _ _) fun _ g4 => (.via (wdKick_keeps ..) rfl g4)) fun _ g3 => (.via (scrubNow_keeps ..) rfl g3)) fun _ g2 => (.via (ckptNow_keeps ..) rfl g2)) (.ite (.onlyIf (.refl _ _) fun _ g5 => (.via (conSelftest_keeps ..) rfl g5)) (.ite (.con (fun w => by exact w.con) rfl h0) (.ite (.via (conCfgWrite_keeps ..) rfl (.refl _ _)) (.via (conLevels_keeps ..) rfl (.via (RegHit.store_keeps ..) rfl (.refl _ _)))))))

theorem writeTb_keeps (h : RegHit) (ofs : Nat) (v : Word) (at_ : Nat) (s : State) : Keeps 16 s (writeTb h ofs v at_ s) := by
  unfold writeTb
  exact (.ite (.via (tbCtrl_keeps ..) rfl (.refl _ _)) (.ite (.via (tbStepAuth_keeps ..) rfl (.refl _ _)) (.ite (.via (tbLeapCfg_keeps ..) rfl (.refl _ _)) (.ite (.via (tbTempExt_keeps ..) rfl (.refl _ _)) (.ite (.foldl _ (.via (RegHit.store_keeps ..) rfl (.refl _ _)) fun _ _ g0 => (.onlyIf g0 fun _ g1 => (.via (tbLapse_keeps ..) rfl g1))) (.via (RegHit.store_keeps ..) rfl (.refl _ _)))))))

theorem writeRgs_keeps (h : RegHit) (ofs : Nat) (v : Word) (s : State) : Keeps 80 s (writeRgs h ofs v s) := by
  unfold writeRgs
  lift_lets
  intro t0
  exact (.ite (.via (rgsEnable_keeps ..) rfl (.via (State.putB_keeps ..) rfl (.via (RegHit.store_keeps ..) rfl (.refl _ _)))) (.ite (.onlyIf (.onlyIf (.refl _ _) fun _ g2 => (.via (rgsWtrEnd_keeps ..) rfl g2)) fun _ g1 => (.via (rgsHostClear_keeps ..) rfl g1)) (.via (RegHit.store_keeps ..) rfl (.refl _ _))))

theorem writeLoop_keeps (h : RegHit) (ofs : Nat) (v : Word) (at_ : Nat) (s : State) : Keeps 128 s (writeLoop h ofs v at_ s) := by
  unfold writeLoop
  lift_lets
  intro t0 t1 t2
  have h2 : Keeps 128 s t2 := (.via (State.putB_keeps ..) rfl (.via (RegHit.store_keeps ..) rfl (.refl _ _)))
  intro t3
  have h3 : Keeps 128 s t3 := (.via (loopOpen_keeps ..) rfl (.via (State.putB_keeps ..) rfl h2))
  exact (.ite (.ite h3 (.via (loopEnable_keeps ..) rfl h3)) (.ite (.via (loopAuthWrite_keeps ..) rfl (.refl _ _)) (.via (loopRefresh_keeps ..) rfl (.via (RegHit.store_keeps ..) rfl (.refl _ _)))))

theorem writeEns_keeps (h : RegHit) (ofs : Nat) (v : Word) (s : State) : Keeps 256 s (writeEns h ofs v s) := by
  unfold writeEns
  lift_lets
  intro t0 t1 t2
  have h2 : Keeps 256 s t2 := (.via (State.putB_keeps ..) rfl (.via (RegHit.store_keeps ..) rfl (.refl _ _)))
  exact (.ite (.ite h2 (.via (ensEnable_keeps ..) rfl h2)) (.ite (.onlyIf (.onlyIf (.refl _ _) fun _ g4 => (.via (ensRetry_keeps ..) rfl g4)) fun _ g3 => (.via (ensCmdSuspend_keeps ..) rfl g3)) (.via (RegHit.store_keeps ..) rfl (.refl _ _))))

theorem writeOut_keeps (h : RegHit) (ofs : Nat) (v : Word) (at_ : Nat) (s : State) : Keeps 520 s (writeOut h ofs v at_ s) := by
  unfold writeOut
  lift_lets
  intro t0
  exact (.ite (.via (outCfgWrite_keeps ..) rfl (.refl _ _)) (.ite (.via (outRegWrite_keeps ..) rfl (.refl _ _)) (.ite (.via (outRegWrite_keeps ..) rfl (.refl _ _)) (.ite (.via (vitPinCheck_keeps ..) rfl (.via (trgCfgWrite_keeps ..) rfl (.refl _ _))) (.ite (.ite (.via (trgDisarm_keeps ..) rfl (.refl _ _)) (.onlyIf (.refl _ _) fun _ g1 => (.via (trgArm_keeps ..) rfl g1))) (.via (RegHit.store_keeps ..) rfl (.refl _ _)))))))

theorem writeEvt_keeps (h : RegHit) (ofs : Nat) (v : Word) (s : State) : Keeps 40 s (writeEvt h ofs v s) := by
  unfold writeEvt
  lift_lets
  intro t0
  exact (.ite (.via (evtFrontWrite_keeps ..) rfl (.refl _ _)) (.ite (.via (evtFrontWrite_keeps ..) rfl (.refl _ _)) (.ite (.via (evtPairWrite_keeps ..) rfl (.refl _ _)) (.ite (.via (evtPairWrite_keeps ..) rfl (.refl _ _)) (.ite (.via (evtCalCmd_keeps ..) rfl (.refl _ _)) (.via (RegHit.store_keeps ..) rfl (.refl _ _)))))))

theorem writeGnss_keeps (h : RegHit) (ofs : Nat) (v : Word) (at_ : Nat) (s : State) :
    Keeps 1100 s (writeGnss h ofs v at_ s) := by
  unfold writeGnss
  lift_lets
  intro t0
  exact (.ite (.via (gnssPortCfg_keeps ..) rfl (.refl _ _)) (.ite (.via (gnssPortRate_keeps ..) rfl (.refl _ _)) (.ite (.via (gnssJamWrite_keeps ..) rfl (.refl _ _)) (.ite (.via (gnssSolCfg_keeps ..) rfl (.refl _ _)) (.ite (.via (gnssTkCmd_keeps ..) rfl (.refl _ _)) (.ite (.via (snapCtrl_keeps ..) rfl (.refl _ _)) (.via (RegHit.store_keeps ..) rfl (.refl _ _))))))))

theorem writeMac_keeps (h : RegHit) (ofs : Nat) (v : Word) (at_ : Nat) (s : State) : Keeps 2072 s (writeMac h ofs v at_ s) := by
  unfold writeMac
  lift_lets
  intro t0
  exact (.ite (.via (portCfgWrite_keeps ..) rfl (.refl _ _)) (.ite (.via (gateCfgWrite_keeps ..) rfl (.refl _ _)) (.ite (.via (gateEntWrite_keeps ..) rfl (.refl _ _)) (.via (RegHit.store_keeps ..) rfl (.refl _ _)))))

theorem writeAns_keeps (h : RegHit) (ofs : Nat) (v : Word) (s : State) : Keeps 268288 s (writeAns h ofs v s) := by
  unfold writeAns
  lift_lets
  intro t0
  exact (.ite (.via (ansCfgWrite_keeps ..) rfl (.refl _ _)) (.ite (.via (ansAddrCommit_keeps ..) rfl (.refl _ _)) (.ite (.onlyIf (.refl _ _) fun _ g1 => (.via (ansCommit_keeps ..) rfl g1)) (.ite (.via (ansRuleWrite_keeps ..) rfl (.refl _ _)) (.ite (.onlyIf (.refl _ _) fun _ g2 => (.via (vbClear_keeps ..) rfl g2)) (.via (RegHit.store_keeps ..) rfl (.refl _ _)))))))

theorem writeNts_keeps (h : RegHit) (ofs : Nat) (v : Word) (s : State) : Keeps 1060864 s (writeNts h ofs v s) := by
  unfold writeNts
  lift_lets
  intro t0
  have h0 : Keeps 1060864 s t0 := (.onlyIf (.refl _ _) fun _ g1 => (.via (ntsDue_keeps ..) rfl g1))
  intro t2
  have h2 : Keeps 1060864 s t2 := (.onlyIf h0 fun _ g3 => (.via (ntsZeroise_keeps ..) rfl g3))
  intro t4
  have h4 : Keeps 1060864 s t4 := (.via (RegHit.store_keeps ..) rfl (.refl _ _))
  exact (.ite (.onlyIf h2 fun _ g5 => (.via (ntsSelftest_keeps ..) rfl g5)) (.ite (.via (ntsFirst_keeps ..) rfl h4) (.ite (.via (ntsServe_keeps ..) rfl (.via (RegHit.store_keeps ..) rfl (.refl _ _))) (.via (RegHit.store_keeps ..) rfl (.refl _ _)))))

theorem writePtp_keeps (h : RegHit) (ofs : Nat) (v : Word) (at_ : Nat) (s : State) : Keeps 18512 s (writePtp h ofs v at_ s) := by
  unfold writePtp
  lift_lets
  intro t0
  exact (.ite (.via (ptpCfgWrite_keeps ..) rfl (.refl _ _)) (.ite (.via (ptpCommand_keeps ..) rfl (.refl _ _)) (.ite (.via (ptpUmWrite_keeps ..) rfl (.refl _ _)) (.ite (.via (ptpShow_keeps ..) rfl (.refl _ _)) (.via (RegHit.store_keeps ..) rfl (.refl _ _))))))

theorem writeBne_keeps (h : RegHit) (ofs : Nat) (v : Word) (at_ : Nat) (s : State) :
    Keeps 622604 s (writeBne h ofs v at_ s) := by
  unfold writeBne
  exact (.ite (.onlyIf (.refl _ _) fun _ g0 => (.via (bneSelftest_keeps ..) rfl g0)) (.ite (.onlyIf (.refl _ _) fun _ g1 => (.via (bneStop_keeps ..) rfl g1)) (.ite (.onlyIf (.refl _ _) fun _ g2 => (.via (provExtra_keeps ..) rfl g2)) (.via (RegHit.store_keeps ..) rfl (.refl _ _)))))

theorem writeLnk_keeps (h : RegHit) (ofs : Nat) (v : Word) (at_ : Nat) (s : State) :
    Keeps 131160 s (writeLnk h ofs v at_ s) := by
  unfold writeLnk
  lift_lets
  intro t0 t1 t2
  have h2 : Keeps 131160 s t2 := (.via (RegHit.store_keeps ..) rfl (.refl _ _))
  exact (.ite (.ite h2 (.via (lnkGlobal_keeps ..) rfl h2)) (.ite (.ite (.refl _ _) (.via (lkEnable_keeps ..) rfl (.refl _ _))) (.ite (.via (lkCommand_keeps ..) rfl (.refl _ _)) (.ite (.onlyIf (.refl _ _) fun _ g3 => (.via (lnkBcSend_keeps ..) rfl g3)) (.ite (.onlyIf (.refl _ _) fun _ g4 => (.via (lnkArrive_keeps ..) rfl g4)) (.ite (.onlyIf (.refl _ _) fun _ g5 => (.via (ttoIssue_keeps ..) rfl g5)) (.via (RegHit.store_keeps ..) rfl (.refl _ _))))))))

theorem writePair_keeps (h : RegHit) (ofs : Nat) (v : Word) (at_ : Nat) (s : State) :
    Keeps 1351688 s (writePair h ofs v at_ s) := by
  unfold writePair
  exact (.ite (.via (pairCfgWrite_keeps ..) rfl (.refl _ _)) (.ite (.via (pairCtrlWrite_keeps ..) rfl (.refl _ _)) (.ite (.via (pairHostAccess_keeps ..) rfl (.refl _ _)) (.via (RegHit.store_keeps ..) rfl (.refl _ _)))))

theorem writeHif_keeps (h : RegHit) (ofs : Nat) (v : Word) (s : State) : Keeps 0 s (writeHif h ofs v s) := by
  unfold writeHif
  exact (.ite (.via (hifCfgWrite_keeps ..) rfl (.refl _ _)) (.ite (.via (hifTailWrite_keeps ..) rfl (.refl _ _)) (.ite (.ite (.via (vbCommand_keeps ..) rfl (.refl _ _)) (.via (RegHit.store_keeps ..) rfl (.refl _ _))) (.via (RegHit.store_keeps ..) rfl (.refl _ _)))))

theorem writeReg_keeps (h : RegHit) (ofs : Nat) (v : Word) (at_ : Nat) (s : State) :
    Keeps 8388607 s (writeReg h ofs v at_ s) := by
  unfold writeReg
  exact (by
    split
    · exact (.via (writeCat_keeps ..) rfl (.refl _ _))
    · exact (.via (writeCat_keeps ..) rfl (.refl _ _))
    · exact (.via (RegHit.store_keeps ..) rfl (.refl _ _))
    · exact (.via (writeIrq_keeps ..) rfl (.refl _ _))
    · exact (.via (writeVit_keeps ..) rfl (.refl _ _))
    · exact (.via (writeCon_keeps ..) rfl (.refl _ _))
    · exact (.via (writeTb_keeps ..) rfl (.refl _ _))
    · exact (.via (writeRgs_keeps ..) rfl (.refl _ _))
    · exact (.via (writeLoop_keeps ..) rfl (.refl _ _))
    · exact (.via (writeEns_keeps ..) rfl (.refl _ _))
    · exact (.via (writeOut_keeps ..) rfl (.refl _ _))
    · exact (.via (writeEvt_keeps ..) rfl (.refl _ _))
    · exact (.via (writeGnss_keeps ..) rfl (.refl _ _))
    · exact (.via (writeMac_keeps ..) rfl (.refl _ _))
    · exact (.via (writeAns_keeps ..) rfl (.refl _ _))
    · exact (.via (writeNts_keeps ..) rfl (.refl _ _))
    · exact (.via (writePtp_keeps ..) rfl (.refl _ _))
    · exact (.via (writeBne_keeps ..) rfl (.refl _ _))
    · exact (.via (writeBne_keeps ..) rfl (.refl _ _))
    · exact (.via (writeLnk_keeps ..) rfl (.refl _ _))
    · exact (.via (writePair_keeps ..) rfl (.refl _ _))
    · exact (.via (writeHif_keeps ..) rfl (.refl _ _)))

theorem stageLow_keeps (k : Nat) (v : Word) (s : State) : Keeps 0 s (stageLow k v s) := by
  unfold stageLow
  split
  · exact .refl _ _
  · exact .rf (fun w => w.vals) (fun w => keysAbove_tableSet _ _ _ _ w.staged (by simp)) (.refl _ _)

theorem hostWrite_keeps (ofs : Nat) (v : Word) (at_ : Nat) (s : State) : Keeps 8388607 s (hostWrite ofs v at_ s) := by
  unfold hostWrite
  exact (.ite (.via (accessBad_keeps ..) rfl (.refl _ _)) (by
    split
    · exact (.via (unmappedWrite_keeps ..) rfl (.refl _ _))
    · lift_lets
      intro t0
      have h0 : Keeps 8388607 s t0 := (.ite (.via (writeReg_keeps ..) rfl (.refl _ _)) (.ite (.via (commitHigh_keeps ..) rfl (.refl _ _)) (.via (stageLow_keeps ..) rfl (.refl _ _))))
      exact (.ite (.via (hostCount_keeps ..) rfl h0) (.refl _ _))))

theorem execRegisterWrite_keeps (ofs : Nat) (v : Word) (at_ : Nat) (s : State) :
    Runs 8388607 s (execRegisterWrite ofs v at_ s) := by
  unfold execRegisterWrite
  exact (.next (.via (hostWrite_keeps ..) rfl (.refl _ _)))

theorem execTimeCapture_keeps (at_ : Nat) (s : State) : Runs 2492424 s (execTimeCapture at_ s) := by
  unfold execTimeCapture
  exact (.next (.via (hostRead_keeps ..) rfl (.refl _ _)))

theorem execUnmappedAccess_keeps (ofs : Nat) (write : Bool) (s : State) : Runs 8 s (execUnmappedAccess ofs write s) := by
  unfold execUnmappedAccess
  exact (.next (.onlyIf (.refl _ _) fun _ g0 => (.ite (.via (unmappedWrite_keeps ..) rfl g0) (.via (State.answer_keeps ..) rfl g0))))

theorem execWindowAccess_keeps (write : Bool) (ofs : Nat) (v : Word) (s : State) :
    Runs 12 s (execWindowAccess write ofs v s) := by
  unfold execWindowAccess
  exact (.next (.via (bar2Access_keeps ..) rfl (.refl _ _)))

theorem execWriteHi_keeps (ofs : Nat) (v : Word) (at_ : Nat) (s : State) : Runs 8388607 s (execWriteHi ofs v at_ s) := by
  unfold execWriteHi
  exact (.next (.onlyIf (.refl _ _) fun _ g0 => (.via (hostWrite_keeps ..) rfl g0)))

theorem execWriteLo_keeps (ofs : Nat) (v : Word) (s : State) : Runs 8388607 s (execWriteLo ofs v s) := by
  unfold execWriteLo
  exact (.next (.onlyIf (.refl _ _) fun _ g0 => (.via (hostWrite_keeps ..) rfl g0)))

end Sys2Proof.Machine
end

