-- ==== Sys2Proof/Laws/KeepsLate.lean ====
section
/-! SUPPORT. What the operations of Late.lean keep: the form of the state, the queue, and the parts outside their mask. -/

namespace Sys2Proof.Machine

theorem pfailHigh_keeps (at_ : Nat) (s : State) : Keeps 1048618 s (pfailHigh at_ s) := by
  unfold pfailHigh
  lift_lets
  intro t0 t1 t2
  have h2 : Keeps 1048618 s t2 := (.step (.refl _ _) (fun w => { w with con := (fun w => by exact w.con) w }) rfl fun p hp => by cases p <;> first | exact absurd hp (by decide) | rfl)
  exact (.via (ckptServe_keeps ..) rfl (.onlyIf h2 fun _ g3 => (.via (evtPfailHigh_keeps ..) rfl g3)))

theorem execPfailHigh_keeps (at_ : Nat) (s : State) : Runs 1048618 s (execPfailHigh at_ s) := by
  unfold execPfailHigh
  exact (.next (.ite (.via (pfailHigh_keeps ..) rfl (.refl _ _)) (.refl _ _)))

theorem pfailLow_keeps (at_ : Nat) (s : State) : Keeps 3769391 s (pfailLow at_ s) := by
  unfold pfailLow
  lift_lets
  intro t0 t1 t2
  have h2 : Keeps 3769391 s t2 := (.sys rfl (.refl _ _))
  intro t3
  have h3 : Keeps 3769391 s t3 := (.onlyIf h2 fun _ g4 => (.via (catEnd_keeps ..) rfl (.via (catTear_keeps ..) rfl g4)))
  intro t5
  have h5 : Keeps 3769391 s t5 := (.onlyIf h3 fun _ g6 => (.via (ckptFail_keeps ..) rfl g6))
  intro t7
  have h7 : Keeps 3769391 s t7 := (.onlyIf h5 fun _ g8 => (.via (ckptBegin_keeps ..) rfl g8))
  intro t9
  have h9 : Keeps 3769391 s t9 := (.onlyIf h7 fun _ g10 => (.via (evtPfailLow_keeps ..) rfl g10))
  intro t11
  have h11 : Keeps 3769391 s t11 := (.onlyIf h9 fun _ g12 => (.via (bnePfail_keeps ..) rfl g12))
  intro t13
  have h13 : Keeps 3769391 s t13 := (.onlyIf h11 fun _ g14 => (.via (gnssPfail_keeps ..) rfl g14))
  exact (.onlyIf h13 fun _ g15 => (.via (provPfail_keeps ..) rfl g15))

theorem execPfailLow_keeps (at_ : Nat) (s : State) : Runs 3769391 s (execPfailLow at_ s) := by
  unfold execPfailLow
  exact (.next (.ite (.refl _ _) (.via (pfailLow_keeps ..) rfl (.refl _ _))))

theorem ttoRun_keeps (at_ : Nat) (s : State) (o : TtoOp) : Keeps 4194304 s (ttoRun at_ s o) := by
  unfold ttoRun
  lift_lets
  intro t0
  have h0 : Keeps 4194304 s t0 := (.onlyIf (.via (lnkFlag_keeps ..) rfl (.refl _ _)) fun _ g1 => (.via (lnkFlag_keeps ..) rfl g1))
  exact (.onlyIf h0 fun _ g2 => (.via (vitTrigger_keeps ..) rfl g2))

theorem ttoFire_keeps (stepped : Bool) (at_ : Nat) (s : State) : Keeps 8388605 s (ttoFire stepped at_ s) := by
  unfold ttoFire
  lift_lets
  intro t0 t1 t2 t3
  have h3 : Keeps 8388605 s t3 := (.via (ttoRefresh_keeps ..) rfl (.lnk (fun w => by exact w.lnk) rfl (.refl _ _)))
  intro t4
  have h4 : Keeps 8388605 s t4 := (.onlyIf h3 fun _ g5 => (.via (lnkFlag_keeps ..) rfl g5))
  intro t6
  have h6 : Keeps 8388605 s t6 := (.foldl _ h4 fun _ _ g7 => (.via (ttoRun_keeps ..) rfl g7))
  exact (.ite (.refl _ _) (.onlyIf h6 fun _ g8 => (.via (devReset_keeps ..) rfl g8)))

theorem stepApply_keeps (c : Change) (s : State) : Keeps 8388605 s (stepApply c s) := by
  unfold stepApply
  lift_lets
  intro t0 t1
  have h1 : Keeps 8388605 s t1 := (.via (tbWarn_keeps ..) rfl (.via (tbApply_keeps ..) rfl (.refl _ _)))
  intro t2 t3 t4
  have h4 : Keeps 8388605 s t4 := (.via (ensStep_keeps ..) rfl (.via (loopStep_keeps ..) rfl (.via (rgsStep_keeps ..) rfl h1)))
  intro t5
  have h5 : Keeps 8388605 s t5 := (.via (gnssStep_keeps ..) rfl (.via (trgStep_keeps ..) rfl (.via (outStep_keeps ..) rfl h4)))
  intro t6
  have h6 : Keeps 8388605 s t6 := (.foldl _ (.via (ptpStep_keeps ..) rfl h5) fun _ _ g7 => (.via (ansStep_keeps ..) rfl g7))
  intro t8
  have h8 : Keeps 8388605 s t8 := (.foldl _ h6 fun _ _ g9 => (.via (portStep_keeps ..) rfl g9))
  intro t10
  have h10 : Keeps 8388605 s t10 := (.via (vitStep_keeps ..) rfl (.via (provStep_keeps ..) rfl (.via (lnkStep_keeps ..) rfl h8)))
  exact (.onlyIf h10 fun _ g11 => (.via (ttoFire_keeps ..) rfl g11))

theorem execStepApply_keeps (s : State) : Runs 8388605 s (execStepApply s) := by
  unfold execStepApply
  exact (.next (by
    split
    · exact (.ite (.via (stepApply_keeps ..) rfl (.refl _ _)) (.refl _ _))
    · exact (.refl _ _)))

theorem execTtoStrobe_keeps (at_ : Nat) (s : State) : Runs 8388605 s (execTtoStrobe at_ s) := by
  unfold execTtoStrobe
  exact (.next (.onlyIf (.refl _ _) fun _ g0 => (.via (ttoFire_keeps ..) rfl g0)))

end Sys2Proof.Machine
end

