-- ==== Sys2Proof/Machine/Pins.lean ====
section
/-! DEFINITION. The status pins STAT0 to STAT7 as functions of the state (R400, R401), and what the board reads over PCIe
configuration, I2C0 and JTAG (R381, R397). No command reads them: the pins follow their conditions, and the reads change nothing. -/

namespace Sys2Proof.Machine

/-- What a status pin drives. -/
inductive PinDrive where
  | low | high | released
deriving DecidableEq, Repr

/-- Whether a fault that an operator must see asserts STAT2: the conditions of R32, R111, R316, R318, R322, R338, R341, R351, R362 and
R363 that name it. -/
def statAlarm (s : State) : Bool :=
  s.sys.pivotFault || s.flag CDC_FLAGS.D2D_FAULT || (s.flag CAT_STATUS.FALLBACK && s.get CAT_STATUS.SOURCE == 1) ||
  s.sys.strap == 7 || conTempHi s || conRailBad s || s.con.escalated != 0 || s.flag RGS_STATUS.ANY_HOLD ||
  s.pair.undecided || s.pair.linkLost || (s.flag PAIR_CFG.EN && !s.sys.activeN && !pairActive s)

/-- GNSS_OK: an enabled solution has a HOLD verdict. -/
def statGnss (s : State) : Bool :=
  (List.range 4).any fun n =>
    s.flag (GNSS_SOL_CFG.EN n) && decide (2 ≤ s.get (GNSS_SOL_STATUS.VERDICT n) ∧ s.get (GNSS_SOL_STATUS.VERDICT n) ≤ 4)

/-- The condition that SEL names (R400). -/
def statCondition (s : State) (p sel : Nat) : Bool :=
  match sel with
  | 0 => statLocked s
  | 1 => statHoldover s
  | 2 => statAlarm s
  | 3 => pairStat3 s
  | 4 => s.flag TB_STATUS.VERIFIED
  | 5 => statGnss s
  | 6 => s.flag RGS_STATUS.ANY_DISPUTED || s.pair.undecided
  | 7 => conStat7 s
  | _ => s.flag (GLB_STAT_CFG.HOST_LEVEL p)

/-- The condition that a pin shows: from POR_N and through a DEV reset until RUN every condition shows inactive but ALARM, which shows
active. -/
def statShown (s : State) (p : Nat) : Bool :=
  let sel := s.get (GLB_STAT_CFG.SEL p)
  if 6 ≤ s.phase then statCondition s p sel else sel == 2

/-- What status pin `p` drives: POL inverts, OD drives low only; with PAIR_CFG.EN = 1, STAT3 is push-pull and active high. -/
def statPin (s : State) (p : Nat) : PinDrive :=
  if p = 3 ∧ s.flag PAIR_CFG.EN then (if decide (6 ≤ s.phase) && pairStat3 s then .high else .low)
  else
    let level := statShown s p != s.flag (GLB_STAT_CFG.POL p)
    if level then (if s.flag (GLB_STAT_CFG.OD p) then .released else .high) else .low

/-! ### What the board reads -/

/-- The words of the PCIe configuration header that R381 fixes: the identity at 0, and the class code with the revision at 8. -/
def pciConfig (s : State) (ofs : Nat) : Option Word :=
  match ofs with
  | 0 => some 0x96401F3A
  | 8 => some (0x11800000 ||| BitVec.ofNat 32 (s.get GLB_SIL.SIL_REV % 256))
  | _ => none

/-- The registers that I2C0, a target at address 0x4A, gives a board controller to read (R397). -/
def i2cReads (ofs : Nat) : Bool :=
  [GLB_ID.ofs, GLB_SIL.ofs, CON_STATUS.ofs].contains ofs || (List.range 16).any (fun i => ofs == CON_TEMP.ofs i) ||
  (List.range 8).any fun r => ofs == CON_RAIL.ofs r

/-- What a board controller reads on I2C0: the live value of a register of R397. -/
def i2cRead (s : State) (ofs at_ : Nat) : Option Word := if i2cReads ofs then some (s.view ofs at_) else none

/-- The JTAG IDCODE: version, part number, maker and the bit that IEEE 1149.1 sets (R397; assumption 184). -/
def jtagIdcode (s : State) : Word :=
  BitVec.ofNat 4 (s.get GLB_SIL.SIL_REV) ++ (0x9640 : BitVec 16) ++ Config.jtagMaker ++ (1 : BitVec 1)

end Sys2Proof.Machine
end

