-- ==== Sys2Proof/Tests/Slice0.lean ====
section
/-! SUPPORT. Tests: ill-formed commands are refused by name of their check, the words of the opcode table, the worked examples of the
spec, and for every statement a state and operands that meet its hypotheses. -/

namespace Sys2Proof.Tests

open Sys2Proof Sys2Proof.Machine

-- Each test waits for the kernel; one after another they need one thread, and not one each.
set_option Elab.async false

/-- A running device: start-up has reached RUN and the listed fields hold the listed values. -/
def live (fs : List (Fld × Nat)) : State := fs.foldl (fun s f => s.put f.1 f.2) (State.reset.put CAT_STATUS.PHASE 6)


/-- Both sides of a crossing in RUN. -/
def runs (k : Nat) : List (Fld × Nat) := [(CDC_XS_STATUS.STATE_A k, 0), (CDC_XS_STATUS.STATE_B k, 0)]

/-- The state that a command leaves. -/
def after (c : Instr) (s : State) : State := match exec c s with | .next t => t | _ => s

/-- The nine octets of the check values of the two CRCs. -/
def crcDigits : List Byte := [0x31, 0x32, 0x33, 0x34, 0x35, 0x36, 0x37, 0x38, 0x39]

/-- The check values that R190 and R328 print. -/
theorem test_crc_check_values : crc32 crcDigits = 0xCBF43926 ∧ crc32c crcDigits = 0xE3069283 := by decide +kernel

/-- BW_CODE 60 is 1 mHz, and 160 is 100 Hz (R117): the angular frequencies begin with the digits of 2π. -/
theorem test_bandwidths : omegaN 60 / 10 ^ 108 = 6283185307179586 ∧ omegaN 160 / 10 ^ 113 = 6283185307179586 := by decide +kernel

/-- The digits of ln 3 and of ln 10 = ln 2 + ln 5. -/
theorem test_logarithm : lnRatio 3 1 / 10 ^ 45 = 1098612288668109 ∧ lnRatio 10 1 / 10 ^ 45 = 2302585092994045 ∧ lnRatio 7 7 = 0 := by
  decide +kernel

/-- A PTP message of a host with a 6-byte MAC address and the given IP address. -/
def ptpMsgOf (mac ip : List Byte) : PtpMsg :=
  { mac := mac, ip := ip, id := ⟨1, 1⟩, domain := 0, seq := 0, correction := 0, unicast := true }

/-- One ill-formed command for each check of WellFormed: bar0Ok by alignment and by range, momentOk, frameOk, descOk for the
three sizes, bar2Ok, the two frames of a control frame, a digest, the sensors, the addresses of a PTP message, and the host state
area of an epoch. -/
theorem test_ill_formed_refused :
    ([.readLo 2 0, .writeLo (2 ^ 26) 0, .registerWrite 0 0 tickUnits, .frameRx 0 (List.replicate 13 0) 0,
      .descriptorFetch 28 (List.replicate 32 0), .descriptorFetch 29 (List.replicate 64 0), .descriptorFetch 0 [],
      .windowAccess true (2 ^ 25) 0, .windowAccess false 1 0, .controlFrame 0 [] (List.replicate 64 0) 0,
      .controlFrame 0 (List.replicate 64 0) [] 0, .rehearsalDigest (List.replicate 31 0) true,
      .telemetryRead (List.replicate 15 0) (List.replicate 8 0), .telemetryRead (List.replicate 16 0) (List.replicate 9 0),
      .delayRespRx 0 (ptpMsgOf [] []) 0 0, .delayRespRx 0 (ptpMsgOf (List.replicate 6 0) [1]) 0 0,
      .epochCommit ⟨0, 0, [], [(1, 1), (0, 1)]⟩ .good, .epochCommit ⟨0, 0, [], [(1, 0)]⟩ .good] : List Instr).all
      (fun c => !c.wf) = true := by decide +kernel

/-- And the same commands with operands at their bounds are well formed. -/
theorem test_well_formed_accepted :
    ([.readLo (2 ^ 26 - 4) (tickUnits - 1), .writeLo 0 0, .registerWrite 0 0 0, .frameRx 7 (List.replicate 14 0) 0,
      .descriptorFetch 28 (List.replicate 64 0), .descriptorFetch 29 (List.replicate 96 0), .descriptorFetch 0 (List.replicate 32 0),
      .windowAccess true (2 ^ 25 - 4) 0, .controlFrame 0 (List.replicate 64 0) (List.replicate 64 0) 0,
      .rehearsalDigest (List.replicate 32 0) true, .telemetryRead (List.replicate 16 0) (List.replicate 8 0),
      .delayRespRx 0 (ptpMsgOf (List.replicate 6 0) (List.replicate 16 0)) 0 0,
      .epochCommit ⟨0, 0, [], [(0, 1), (1, 1)]⟩ .good] : List Instr).all (fun c => c.wf) = true := by decide +kernel

/-- The opcode table gives no row any bits, so a word spells no command and leaves the queue as it was. -/
theorem test_no_words : decodeTableWord 0 0 = none ∧ decodeTableWord 32 0xFFFFFFFF = none ∧
    (State.reset.withFetchWord 32 0xFFFFFFFF).pending = [] := by decide +kernel

/-! ### EmptyQueueIdles -/

theorem meets_EmptyQueueIdles : State.reset.pending = [] := rfl

/-! ### EveryStepKeepsTheForm -/

theorem meets_EveryStepKeepsTheForm : State.reset.Wf :=
  ⟨by decide, by decide, by decide, by decide, by decide, nofun, by decide, by decide, by decide, List.length_replicate, ⟨List.length_replicate, List.length_replicate⟩, ⟨List.length_replicate, List.length_replicate⟩,
    List.length_replicate, ⟨List.length_replicate, List.length_replicate⟩,
    ⟨List.length_replicate, List.length_replicate, List.length_replicate⟩, List.length_replicate, List.length_replicate,
    List.length_replicate, List.length_replicate, List.length_replicate,
    ⟨List.length_replicate, List.length_replicate⟩⟩

/-! ### PairsAreReadLowHalfFirst -/

/-- The hit of an offset, where a register lies. -/
def hitAt (ofs : Nat) : RegHit := (regFind ofs).getD ⟨⟨"", 0, [], false, .blk, .tb, none, []⟩, [], false⟩

theorem meets_PairsAreRead : coreRuns (live []) = true ∧ vitHeld (live []) (hitAt TB_PEND_PH.ofs) = none ∧
    regFind TB_PEND_PH.ofs = some (hitAt TB_PEND_PH.ofs) ∧ (hitAt TB_PEND_PH.ofs).desc.pair = true ∧ (hitAt TB_PEND_PH.ofs).hi = false ∧
    (hitAt (TB_PEND_PH.ofs + 4)).hi = true ∧ regFind (TB_PEND_PH.ofs + 4) = some (hitAt (TB_PEND_PH.ofs + 4)) ∧
    regFind TB_STEP_CNT.ofs = some (hitAt TB_STEP_CNT.ofs) ∧ (hitAt TB_STEP_CNT.ofs).desc.pair = false ∧
    (hitAt TB_STEP_CNT.ofs).desc.base ∉ [EP_TSQ_POP.ofs 0, LK_BC_POP.ofs, PAIR_HS_DATA.ofs, CAT_NV_DATA.ofs, PROV_LAST_HASH.ofs 0] := by
  decide +kernel

/-! ### PairsAreWrittenLowHalfFirst -/

/-- The two halves of a pair lie at k and k + 4, in one description. -/
def pairAt (k : Nat) : Bool :=
  regFind k == some (hitAt k) && regFind (k + 4) == some { hitAt k with hi := true } && (hitAt k).desc.pair && !(hitAt k).hi

theorem meets_PairsAreWritten : pairAt TB_SET_SEC.ofs = true ∧ pairAt TB_LEAP_TAI.ofs = true ∧ pairAt (GNSS_SOL_POS_X.ofs 3) = true ∧
    (live []).hostReach .tb (hitAt TB_SET_SEC.ofs).owner = true ∧ (hitAt TB_SET_SEC.ofs).desc.blk = .tb ∧
    (live []).hostReach .gnss (hitAt (GNSS_SOL_POS_X.ofs 3)).owner = true ∧ (hitAt (GNSS_SOL_POS_X.ofs 3)).desc.blk = .gnss ∧
    (hitAt (GNSS_SOL_POS_X.ofs 3)).desc.base = GNSS_SOL_POS_X.ofs 0 ∧ (live []).flag (GNSS_SOL_CFG.POS_MODE 3) = false ∧
    (live [(TB_LEAP_CFG.ARM, 1)]).flag TB_LEAP_CFG.ARM = true ∧ State.reset.hostReach .tb none = false ∧
    (hitAt TB_SET_SEC.ofs).desc.clamps = [] ∧
    (hitAt TB_SET_SEC.ofs).desc.fields.map (fun f => (f.lo, f.width, f.acc)) = [(0, 64, .rw)] := by decide +kernel

/-! ### WritesFollowTheAccessCodes -/

theorem meets_Writes : (hitAt CDC_FLAGS.ofs).desc.pair = false ∧ (hitAt CDC_FLAGS.ofs).hi = false ∧ regFind CDC_FLAGS.ofs = some (hitAt CDC_FLAGS.ofs) ∧
    (hitAt CDC_FLAGS.ofs).desc.blk = .cdc ∧ (hitAt CDC_FLAGS.ofs).desc.clamps = [] ∧
    (live []).hostReach .cdc (hitAt CDC_FLAGS.ofs).owner = true ∧
    (∃ f ∈ (hitAt CDC_FLAGS.ofs).desc.fields, 0 < f.width ∧ f.lo + f.width ≤ 32 ∧
      ∀ g ∈ (hitAt CDC_FLAGS.ofs).desc.fields, g = f ∨ g.lo + g.width ≤ f.lo ∨ f.lo + f.width ≤ g.lo) := by decide +kernel

/-! ### UnmappedAndMalformedAccesses -/

theorem meets_Unmapped : coreRuns (live []) = true ∧ regFind 0x60000 = none ∧ regFind 0x3FFFFFC = none ∧
    (live []).flag HIF_FLAGS.UNMAPPED = false := by decide +kernel

/-! ### TimeIsCapturedInOneCycle -/

theorem meets_TimeIsCaptured : (live []).live .tb = true ∧ regFind TB_TIME_SEC.ofs = some (hitAt TB_TIME_SEC.ofs) ∧
    vitHeld (live []) (hitAt TB_TIME_SEC.ofs) = none := by decide +kernel

/-! ### UtcOffsetComesIntoForceAtTheNextSecond -/

/-- An insertion armed for second 86400 and reached. -/
def leapState (t : Int) (delete : Bool) : State :=
  { live [] with tb := { TbState.reset with dev := t, leap := some ⟨86400, delete, 38⟩ } }

theorem meets_UtcOffset : (live []).hostReach .tb none = true ∧ (leapState (86400 * secUnit) false).tb.leap = some ⟨86400, false, 38⟩ ∧
    86400 ≤ secOf ((leapState (86400 * secUnit) false).timeAt 0) := by decide +kernel

/-! ### TimebaseControls -/

theorem meets_TimebaseControls : (live [(TB_PM_TEMP_CFG.TEXT, 1), (TB_CFG.HOST_VERIFY_EN, 1), (TB_STATUS.VERIFIED, 1)]).hostReach .tb none
      = true ∧
    (live [(TB_PM_TEMP_CFG.TEXT, 1)]).flag TB_PM_TEMP_CFG.TEXT = true ∧
    (live [(TB_CFG.HOST_VERIFY_EN, 1)]).flag TB_CFG.HOST_VERIFY_EN = true ∧
    (live [(TB_CFG.HOST_VERIFY_EN, 1)]).flag TB_STATUS.STEP_PENDING = false ∧ (live []).flag TB_CFG.HOST_VERIFY_EN = false ∧
    (live [(TB_STATUS.VERIFIED, 1)]).flag TB_STATUS.VERIFIED = true ∧ (live []).flag TB_FLAGS.VERIFIED_LOST = false := by
  decide +kernel

/-! ### PendingStepIsResolvedByTheHost -/

theorem meets_PendingStep :
    (live [(TB_STATUS.STEP_PENDING, 1), (TB_PEND_INFO.SEQ, 3)]).hostReach .tb none = true ∧
    (live [(TB_STATUS.STEP_PENDING, 1), (TB_PEND_INFO.SEQ, 3)]).flag TB_STATUS.STEP_PENDING = true ∧
    (3 : BitVec 16).toNat = (live [(TB_STATUS.STEP_PENDING, 1), (TB_PEND_INFO.SEQ, 3)]).get TB_PEND_INFO.SEQ ∧
    (live [(TB_STATUS.STEP_PENDING, 1), (TB_PEND_INFO.SEQ, 3)]).tb.commit = none ∧ (live []).flag TB_STATUS.STEP_PENDING = false ∧
    (live [(TB_SET_NS.NS, 999999999)]).get TB_SET_NS.NS ≤ 999999999 ∧
    999999999 < (live [(TB_SET_NS.NS, 1000000000)]).get TB_SET_NS.NS := by decide +kernel

/-! ### LeapIsArmedCheckedAndShown -/

theorem meets_LeapIsArmed :
    (let s := { live [(whole TB_LEAP_TAI.ofs, 86400 * 3 + 1), (TB_STATUS.TIME_SRC, 2)] with tb := TbState.reset }
     s.hostReach .tb none = true ∧ s.tb.leap = none ∧ ((s.get64 TB_LEAP_TAI.ofs : Int) - (s.tb.utcOfs + 1)) % 86400 = 0 ∧
     s.timeAt 0 + 86400 * secUnit ≤ s.get64 TB_LEAP_TAI.ofs * secUnit ∧ s.get TB_STATUS.TIME_SRC ≠ 0) ∧
    ((live []).get64 TB_LEAP_TAI.ofs * secUnit < (live []).timeAt 0 + 86400 * secUnit ∧ (live []).tb.leap = none) ∧
    (secOf ((leapState (100 * secUnit) false).timeAt 0) + 1 ≠ 86400 ∧ (leapState (100 * secUnit) false).hostReach .tb none = true) ∧
    secOf ((leapState (86399 * secUnit) false).timeAt 0) + 1 = 86400 := by decide +kernel

/-! ### OwnerAndVerifyingReports -/

theorem meets_Reports :
    (let s := live [(TB_OWNER.KIND, 1), (whole TB_JUMP_LIMIT_PH.ofs, 65536), (TB_VERIFY_MASK.LOOPS, 2 ^ 23)]
     s.live .tb = true ∧ s.get TB_OWNER.KIND ≠ 0 ∧ s.flag TB_STATUS.STEP_PENDING = false ∧
     ((sat64 65536).natAbs : Int) ≤ s.getS TB_JUMP_LIMIT_PH.ofs ∧ s.getS TB_JUMP_LIMIT_PH.ofs < (sat64 (-65537)).natAbs ∧
     (s.get TB_VERIFY_MASK.LOOPS).testBit 23 = true) ∧
    tbRefQualified (live [(RGS_SEL_STATUS.VALID 23, 1), (RGS_SEL_STATUS.SLOT 23, 5), (RGS_SLOT_STATUS.STATE 5, 4)]) 23 = true ∧
    tbRefQualified (live []) 23 = false ∧ ((live []).get TB_VERIFY_MASK.LOOPS).testBit 23 = false := by decide +kernel

/-! ### ModelTickAdvancesDeviceTime -/

theorem meets_ModelTick : (live []).live .tb = true ∧ ∀ r ∈ (live []).tb.reports, r.fresh = false := by decide +kernel

/-! ### ReportsBeyondTheLimitPendAStep -/

/-- A device with standing reports and a jump limit of one nanosecond. -/
def reported (fs : List (Fld × Nat)) (rs : List Report) : State :=
  { live ((whole TB_JUMP_LIMIT_PH.ofs, 65536) :: fs) with tb := { TbState.reset with reports := rs } }

theorem meets_ReportsBeyond :
    (let s := reported [] [⟨none, 65536, true, false⟩, ⟨some 3, 65537, true, true⟩]
     s.live .tb = true ∧ s.flag TB_STATUS.STEP_PENDING = false ∧ ∃ r ∈ s.tb.reports, (r.x.natAbs : Int) ≤ s.getS TB_JUMP_LIMIT_PH.ofs) ∧
    (let s := reported [] [⟨some 3, -65537, true, false⟩, ⟨some 4, 65537, false, true⟩]
     s.live .tb = true ∧ s.flag TB_STATUS.STEP_PENDING = false ∧ (∃ q ∈ s.tb.reports, q.fresh = true) ∧
     ∀ q ∈ s.tb.reports, s.getS TB_JUMP_LIMIT_PH.ofs < q.x.natAbs) ∧
    (let s := reported [(TB_STATUS.STEP_PENDING, 1)] [⟨none, 65537, true, false⟩]
     s.live .tb = true ∧ s.flag TB_STATUS.STEP_PENDING = true ∧ s.tb.commit = none ∧
     ∀ q ∈ s.tb.reports, s.getS TB_JUMP_LIMIT_PH.ofs < q.x.natAbs) := by decide +kernel

/-! ### StepIsAppliedToDeviceTime -/

theorem meets_StepIsApplied : (live []).live .tb = true ∧ (∀ o ∈ (live []).lnk.armed, o.op ≠ 2) ∧
    ({ live [] with tb := { TbState.reset with commit := some ⟨.step 0, 0⟩ } } : State).tb.commit = some ⟨.step 0, 0⟩ ∧
    ({ live [] with tb := { TbState.reset with commit := some ⟨.set 5, 0⟩ } } : State).tb.commit = some ⟨.set 5, 0⟩ := by decide +kernel

/-! ### ReplicasAreCompared -/

theorem meets_Replicas :
    (live [(TB_REP_STATUS.STATE 23, 2)]).get (TB_REP_STATUS.STATE 23) = 2 ∧ 65536 < 5 * (13108 : Int).natAbs ∧
    (live [(TB_REP_STATUS.STATE 0, 1)]).get (TB_REP_STATUS.STATE 0) = 1 ∧ 10 * (6553 : Int).natAbs ≤ 65536 ∧
    65536 < (65537 : Int).natAbs ∧
    63 ≤ (({ live [] with tb := { TbState.reset with replicas := List.replicate 24 ⟨63, 0, 0, []⟩ } } : State).tb.replicas.getD 0
      Replica.off).run := by decide +kernel

/-! ### SelectedEdgesAreStampedAndStored -/

/-- Channel 127 enabled for both edges, with its last accepted edge at pivot instant 0. -/
def chan127 (last : Option Nat) : State :=
  let s := live (runs 0 ++ [(EVT_CH_CFG.EN 127, 1), (EVT_CH_CFG.EDGE 127, 3), (EVT_CH_CFG.HOST_EN 127, 1)])
  { s with evt := { s.evt with chans := s.evt.chans.modify 127 fun c => { c with last := last } } }

theorem meets_SelectedEdges :
    ((chan127 (some 0)).sys.pivotFault = false ∧ (chan127 (some 0)).live .evt = true ∧
     (chan127 (some 0)).flag (EVT_CH_CFG.EN 127) = true ∧ ((chan127 (some 0)).get (EVT_CH_CFG.EDGE 127)).testBit 0 = true ∧
     (chan127 (some 0)).flag EVT_STATUS.PFAIL_HOLD = false ∧ (chan127 (some 0)).flag (EVT_CH_CFG.HOST_EN 127) = true ∧
     (chan127 (some 0)).flag CDC_STATUS.D2D_RETRAINING = false ∧ (chan127 (some 0)).get (CDC_XS_STATUS.STATE_B 0) = 0 ∧
     0 + 81920 ≤ (chan127 (some 0)).pivotAt 81920 ∧ (evtBank (chan127 (some 0)) 7).forced ≠ some 15 ∧
     evtStopsOf (chan127 (some 0)) 127 true = [] ∧ evtIsStop (chan127 (some 0)) 127 true = false ∧
     (evtChan (chan127 (some 0)) 127).queue.length < 4096) ∧
    ((evtChan (chan127 (some 0)) 127).last = some 0 ∧ (chan127 (some 0)).pivotAt 81919 < 0 + 81920) ∧
    (evtBank { chan127 none with evt := { (chan127 none).evt with banks := List.replicate 8 { EvtBank.reset with forced := some 15 } } } 7).forced
      = some 15 ∧
    ((evtEdge (chan127 none) 127 true 0).isSome ∧
     (let s := (chan127 none).put CDC_STATUS.D2D_RETRAINING 1
      (evtEdge s 127 true 0).isSome ∧ s.flag CDC_STATUS.D2D_RETRAINING = true ∧ s.evt.held = []) ∧
     ((chan127 none).put (CDC_XS_STATUS.STATE_B 0) 1).get (CDC_XS_STATUS.STATE_B 0) = 1) ∧
    (live []).flag (EVT_CH_CFG.EN 0) = false := by decide +kernel

/-- The record of the worked example after R77, byte by byte. -/
theorem test_record_bytes : evtBytes 21
    ⟨(0x70DC1A25 * 10 ^ 9 + 1100) * 4096 + 16, true, 0x0B, 0, 41, false⟩ =
    [0x25, 0x1A, 0xDC, 0x70, 0x4C, 0x04, 0x00, 0x40, 0x10, 0x50, 0xB1, 0x00, 0x29, 0x00, 0x00, 0x00] := by decide +kernel

/-! ### IntervalsArePairedAndExpire -/

/-- Channel 21 stops against channel 20 on rising edges, W = 200 ns, with one start held at 1,000 ns. -/
def paired21 (start : Int) : State :=
  let s := live (runs 0 ++ [(EVT_CH_CFG.EN 21, 1), (EVT_CH_CFG.EDGE 21, 1), (EVT_CH_CFG.HOST_EN 21, 1), (EVT_CH_PAIR.PAIR_EN 21, 1),
    (EVT_CH_PAIR.START 21, 20), (EVT_CH_PAIR_WIN.W 21, 200)])
  { s with evt := { s.evt with chans := s.evt.chans.modify 21 fun c => { c with starts := [start] } } }

theorem meets_Intervals :
    ((paired21 0).sys.pivotFault = false ∧ (paired21 0).live .evt = true ∧ (paired21 0).flag (EVT_CH_CFG.EN 21) = true ∧
     ((paired21 0).get (EVT_CH_CFG.EDGE 21)).testBit 0 = true ∧ (paired21 0).flag EVT_STATUS.PFAIL_HOLD = false ∧
     (paired21 0).flag (EVT_CH_CFG.HOST_EN 21) = true ∧ (evtChan (paired21 0) 21).last = none ∧
     (evtBank (paired21 0) 1).forced ≠ some 5 ∧ evtStopsOf (paired21 0) 21 true = [] ∧ evtIsStop (paired21 0) 21 true = true ∧
     (evtChan (paired21 0) 21).queue.length < 4096 ∧ (evtChan (paired21 0) 21).starts = [0] ∧
     (evtChan (paired21 0) 21).waiting = [] ∧ (evtChan (paired21 0) 21).ahead = [] ∧
     (paired21 0).flag CDC_STATUS.D2D_RETRAINING = false ∧ (paired21 0).get (CDC_XS_STATUS.STATE_B 0) = 0 ∧
     (evtChan (paired21 0) 21).queue = [] ∧
     evtRecordTime (paired21 0) ((paired21 0).get (EVT_CH_PAIR.START 21)) 0 = evtRecordTime (paired21 0) 21 0 ∧
     evtRecordTime ((paired21 0).put (EVT_CH_OFS_PH.ofs 20 |> fun o => ⟨o, 0, 32⟩) 65536) 20 0 < evtRecordTime (paired21 0) 21 0 ∧
     ((paired21 0).timeAt (200 * 4096) - (paired21 0).getS (EVT_CH_OFS_PH.ofs 21) * phUnit + 2 ^ 47) / 2 ^ 48 - 0 ≤
       max 1 ((paired21 0).get (EVT_CH_PAIR_WIN.W 21) : Int) * 4096) ∧
    ((paired21 0).flag (EVT_CH_PAIR.PAIR_EN 21) = true ∧ (paired21 0).get (EVT_CH_PAIR_CNT1.UNP_START 21) + 1 ≤ 0xFFFF) := by
  decide +kernel

/-! ### ChannelsAreConfiguredAndCommitted -/

/-- A device with one stored record of channel 0 and its event ring enabled. -/
def stored0 : State :=
  let s := live (runs 25 ++ [(HIF_Q_CFG.EN 0, 1), (HIF_Q_CFG.SIZE_LOG2 0, 6)])
  { s with evt := { s.evt with chans := s.evt.chans.modify 0 fun c => { c with queue := [⟨0, true, 0, 0, 0, false⟩] } } }

theorem meets_Channels : (live []).hostReach .evt (some (0, 127)) = true ∧ (evtChan stored0 0).queue = [⟨0, true, 0, 0, 0, false⟩] ∧
    hifRoom stored0 0 = true ∧ stored0.get (CDC_XS_STATUS.STATE_A 25) = 0 ∧
    hifRoom (stored0.put (CDC_XS_STATUS.STATE_A 25) 1) 0 = true ∧ (stored0.put (CDC_XS_STATUS.STATE_A 25) 1).get (CDC_XS_STATUS.STATE_A 25) = 1 ∧
    (stored0.get (CDC_XS_STATUS.STATE_A 0)) ≠ 1 := by decide +kernel

/-! ### StampersCalibrateInTurn -/

theorem meets_Stampers :
    ((live [(EVT_BK_CFG.CAL_EN 7, 1)]).live .evt = true ∧ (live [(EVT_BK_CFG.CAL_EN 7, 1)]).flag (EVT_BK_CFG.CAL_EN 7) = true) ∧
    ((live [(EVT_BK_STATUS.RELIEF_STATE 7, 1)]).get (EVT_BK_STATUS.RELIEF_STATE 7) = 1 ∧ (evtBank (live []) 7).delay = none) ∧
    (live [(EVT_BK_STATUS.RELIEF_STATE 7, 2)]).get (EVT_BK_STATUS.RELIEF_STATE 7) = 2 ∧
    (live [(EVT_BK_STATUS.RELIEF_STATE 7, 4)]).get (EVT_BK_STATUS.RELIEF_STATE 7) = 4 ∧
    (let s := live [(EVT_BK_STATUS.RELIEF_STATE 7, 3), (EVT_BK_STATUS.RELIEF_POS 7, 15), (EVT_CH_CFG.EN 127, 1)]
     s.get (EVT_BK_STATUS.RELIEF_STATE 7) = 3 ∧ (evtBank s 7).forced = none ∧ s.flag (EVT_BK_CFG.CAL_REC_EN 7) = false ∧
     s.flag (EVT_CH_CFG.EN (16 * 7 + s.get (EVT_BK_STATUS.RELIEF_POS 7))) = true ∧ (evtChan s 127).delay = none) ∧
    (let s := live (runs 0 ++ [(EVT_BK_STATUS.RELIEF_STATE 0, 6), (EVT_BK_STATUS.RELIEF_STATE 1, 5)])
     s.hostReach .evt none = true ∧ s.get (CDC_XS_STATUS.STATE_A 0) = 0 ∧ s.get (EVT_BK_STATUS.RELIEF_STATE 0) = 6 ∧
     s.get (EVT_BK_STATUS.RELIEF_STATE 1) = 5) ∧ (live [(CDC_XS_STATUS.STATE_A 0, 2)]).get (CDC_XS_STATUS.STATE_A 0) ≠ 0 ∧
    (live [(EVT_CH_STATUS.CAL_STATE 127, 1)]).get (EVT_CH_STATUS.CAL_STATE (16 * 7 + 15)) = 1 ∧
    (evtBank { live [] with evt := { EvtState.reset with banks := List.replicate 8 { EvtBank.reset with reliefCal := 1 } } } 0).reliefCal = 1 := by
  decide +kernel

/-! ### SlotsAreSampledAndGraded -/

/-- Slot 63 of the Registrar, of a type, with the listed fields and its internal state. -/
def slot63 (fs : List (Fld × Nat)) (x : RgsSlot) : State :=
  let s := live (runs 9 ++ fs)
  { s with rgs := { s.rgs with now := 1000, slots := s.rgs.slots.modify 63 fun _ => x } }

/-- A ledger line for second 100, grade 2, time valid, whose CRC is that of its 32 bytes. -/
def line100 : List Byte :=
  let b : List Byte := [0xA5, 0x4C, 1, 36] ++ leBytes 8 100 ++ leBytes 4 0 ++ [2, 8] ++ leBytes 2 37 ++ leBytes 4 0 ++ leBytes 4 7 ++ leBytes 4 0
  b ++ leBytes 4 (crc32c b)

theorem meets_SlotsAreSampled :
    ((slot63 [(RGS_SLOT_BIND.TYPE 63, 3), (EP_STATUS.LINK 0, 1)] { RgsSlot.reset with origin := some 5 }).live .rgs = true ∧
     (slot63 [(RGS_SLOT_BIND.TYPE 63, 3), (EP_STATUS.LINK 0, 1)] { RgsSlot.reset with origin := some 5 }).get (RGS_SLOT_BIND.TYPE 63) = 3 ∧
     (slot63 [(RGS_SLOT_BIND.TYPE 63, 3), (EP_STATUS.LINK 0, 1)] { RgsSlot.reset with origin := some 5 }).flag (EP_STATUS.LINK 0) = true ∧
     xsRuns (slot63 [] RgsSlot.reset) 9 = true) ∧
    (let s := slot63 [(RGS_SLOT_BIND.TYPE 63, 6), (LK_STATUS.STATE 0, 3)] RgsSlot.reset
     let s := { s with lnk := { s.lnk with links := s.lnk.links.modify 0 fun l => { l with winX := [7] } } }
     s.get (LK_STATUS.STATE 0) = 3 ∧ (s.lnk.links.getD 0 LkLink.reset).winX = [7]) ∧
    (let s := slot63 [(RGS_SLOT_BIND.TYPE 63, 1), (RGS_SLOT_BIND.LL_EN 63, 1), (RGS_SLOT_STATUS.SIG 63, 1)]
       { RgsSlot.reset with pulse := some (0, 0, false), llMiss := 2 }
     (rgsSlot s 63).spoiled = false ∧ 0 + max 1 (rgsLineTicks s 63 36) ≤ s.pivotAt (900 * 10 ^ 6 * 4096) ∧
     s.live .rgs = true ∧ s.get (RGS_SLOT_BIND.TYPE 63) = 1 ∧ s.flag (RGS_SLOT_BIND.LL_EN 63) = true ∧
     (rgsSlot s 63).pulse = some (0, 0, false) ∧ 0 + 900 * 10 ^ 6 * 4096 ≤ s.pivotAt (900 * 10 ^ 6 * 4096) ∧
     rgsLineForm line100 = true ∧ rgsLineSeq s 63 line100 = true ∧ rgsLineForm [] = false ∧
     rgsInWindow s 63 1 (s.pivotAt 0) = false ∧ s.flag (RGS_SLOT_STATUS.SIG 63) = true ∧ (rgsSlot s 63).llMiss + 1 = 3) := by
  decide +kernel

/-! ### SlotsQualifyAndFail -/

theorem meets_SlotsQualify :
    ((slot63 [(RGS_SLOT_STATUS.STATE 63, 2), (RGS_SLOT_STATUS.EVER_QUAL 63, 1), (RGS_SLOT_WTR.WTR 63, 11)] RgsSlot.reset).get
       (RGS_SLOT_STATUS.STATE 63) = 2 ∧
     (slot63 [(RGS_SLOT_STATUS.EVER_QUAL 63, 1), (RGS_SLOT_WTR.WTR 63, 11)] RgsSlot.reset).rgs.now < 0 + 100 * 11 ∧
     0 + 100 * 10 ≤ (slot63 [] RgsSlot.reset).rgs.now) ∧
    (slot63 [(RGS_SLOT_STATUS.STATE 63, 3)] RgsSlot.reset).hostReach .rgs (some (1, 63)) = true ∧
    (let s := slot63 [(RGS_SLOT_STATUS.STATE 63, 5)] RgsSlot.reset
     s.get (RGS_SLOT_STATUS.STATE 63) = 5 ∧ s.flag (RGS_SLOT_STATUS.SIG 63) = false) ∧
    (let s := slot63 [(RGS_SLOT_STATUS.STATE 63, 1), (RGS_SLOT_STATUS.SIG 63, 1), (RGS_SLOT_BIND.TYPE 63, 1),
       (RGS_SLOT_CFG.GRADE_SRC 63, 1), (RGS_SLOT_CFG.FIXED_GRADE 63, 14)] RgsSlot.reset
     s.live .rgs = true ∧ s.get (RGS_SLOT_STATUS.STATE 63) = 1 ∧ s.flag (RGS_SLOT_STATUS.SIG 63) = true ∧ rgsFixed s 63 = true) ∧
    State.reset.live .rgs = false := by decide +kernel

/-! ### ReferencesAreSelectedAndDisputed -/

/-- Slots 0 and 63 qualified for more than the dispute interval at grade 2, with frequencies one part in 10^11 apart or equal. -/
def disputed (apart : Int) (ds : List Dispute) : State :=
  let s := live [(RGS_CFG.DISPUTE_EN, 1), (RGS_CFG.DISPUTE_TAU, 10), (RGS_SLOT_STATUS.STATE 0, 4), (RGS_SLOT_STATUS.STATE 63, 4),
    (RGS_SLOT_STATUS.GRADE 0, 2), (RGS_SLOT_STATUS.GRADE 63, 2), (RGS_SLOT_LOOPS.LOOPS 0, 1), (RGS_SLOT_LOOPS.LOOPS 63, 1)]
  let x (d : Int) : RgsSlot := { RgsSlot.reset with samples := [(2000, d), (1000, 0)] }
  { s with rgs := { s.rgs with now := 2000, disputes := ds, slots := (s.rgs.slots.modify 0 fun _ => x 0).modify 63 fun _ => x apart } }

/-- Where only slots 0 and 63 are qualified, no other pair can be compared. -/
theorem pairs_of_states (s : State) (h : (rgsSlots.all fun a => a == 0 || a == 63 || rgsStateOf s a != 4) = true) :
    (rgsPairs.all fun p => p == (0, 63) || !rgsComparable s p.1 p.2) = true := by
  have key : (rgsPairs.all fun p => decide (p.1 ∈ rgsSlots) && decide (p.2 ∈ rgsSlots) &&
      (p == (0, 63) || !((p.1 == 0 || p.1 == 63) && (p.2 == 0 || p.2 == 63)))) = true := by decide +kernel
  rw [List.all_eq_true] at *
  intro p hp
  have k := key p hp
  simp only [Bool.and_eq_true, decide_eq_true_eq] at k
  have h1 := h p.1 k.1.1
  have h2 := h p.2 k.1.2
  have k3 := k.2
  simp only [rgsComparable] at *
  revert h1 h2 k3
  cases (p == (0, 63)) <;> cases (p.1 == 0) <;> cases (p.1 == 63) <;> cases (p.2 == 0) <;> cases (p.2 == 63) <;>
    simp +contextual [bne]

theorem meets_Disputes :
    (let s := disputed (2 ^ 40) []
     s.live .rgs = true ∧ s.flag RGS_CFG.DISPUTE_EN = true ∧ rgsComparable s 0 63 = true ∧
     (rgsSlots.all fun a => a == 0 || a == 63 || rgsStateOf s a != 4) = true ∧
     (rgsY (rgsSlot s 0) (rgsTau s)).isSome = true ∧ (rgsY (rgsSlot s 63) (rgsTau s)).isSome = true) ∧
    (let s := (disputed 0 [⟨0, 63, true, 63⟩]).put (RGS_SLOT_STATUS.DISPUTED 63) 1
     (rgsSlots.all fun a => a == 0 || a == 63 || rgsStateOf s a != 4) = true ∧ rgsComparable s 0 63 = false ∧ (rgsSlot s 63).qualAt + rgsTau s ≤ s.rgs.now ∧
     s.hostReach .rgs (some (1, 63)) = true ∧ s.flag (RGS_SLOT_STATUS.DISPUTED 63) = true) ∧
    (live [(RGS_SEL_STATUS.SW_STATE 23, 2)]).get (RGS_SEL_STATUS.SW_STATE 23) = 2 ∧
    rgsBest (live [(RGS_SLOT_LOOPS.LOOPS 63, 1), (RGS_SLOT_STATUS.STATE 63, 4), (RGS_SLOT_STATUS.GRADE 63, 2),
      (RGS_SLOT_BIND.CAP 63, 1)]) 0 = some 63 := by
  decide +kernel

/-! ### LoopsAreCommandedByTheHost -/

theorem meets_LoopsAreCommanded :
    (let s := live [(LOOP_STATUS.STATE 23, 7), (LOOP_PEND_INFO.SEQ 23, 0xFFFF), (LOOP_CFG.OPEN 23, 1)]
     s.hostReach .loop (some (2, 23)) = true ∧ s.get (LOOP_INFO.ROLE 23) < 2 ∧ s.get (LOOP_STATUS.STATE 23) = 7 ∧
     (0xFFFF#16).toNat = s.get (LOOP_PEND_INFO.SEQ 23) ∧ (0#16).toNat ≠ s.get (LOOP_PEND_INFO.SEQ 23) ∧
     s.flag (LOOP_CFG.OPEN 23) = true) ∧
    (let s := live [(RGS_SLOT_LOOPS.LOOPS 63, 1), (RGS_SLOT_STATUS.STATE 63, 4), (RGS_SLOT_STATUS.GRADE 63, 2), (RGS_SLOT_BIND.CAP 63, 1),
       (RGS_SEL_STATUS.VALID 0, 1), (RGS_SEL_STATUS.SLOT 0, 63), (RGS_SEL_STATUS.SW_STATE 0, 0)]
     s.get (LOOP_STATUS.STATE 0) = 0 ∧ s.flag (LOOP_CFG.OPEN 0) = false ∧ rgsIncumbent s 0 = some 63 ∧
     s.get (RGS_SEL_STATUS.SW_STATE 0) = 0 ∧ rgsEligible s 0 63 = true) := by decide +kernel

/-! ### LoopsFilterRefuseAndHoldOver -/

/-- Loop 23 tracking slot 63, a GNSS slot with a sample x not yet taken. -/
def tracking (st : Nat) (x : Int) (lim : Int) (l : LoopState) : State :=
  let s := (slot63 [(RGS_SLOT_BIND.TYPE 63, 5), (RGS_SLOT_STATUS.SIG 63, 1), (RGS_SLOT_STATUS.STATE 63, 4), (RGS_SLOT_STATUS.GRADE 63, 2),
    (RGS_SEL_STATUS.VALID 23, 1), (RGS_SEL_STATUS.SLOT 23, 63), (LOOP_STATUS.STATE 23, st), (LOOP_LOCK.LOCK_CNT 23, 8),
    (LOOP_LOCK.LOCK_THR 23, 1), (RGS_SEL_STATUS.SW_STATE 23, 0)] { RgsSlot.reset with sampleNo := 1 })
  let s := (s.putS (RGS_SLOT_PH.ofs 63) x).putS TB_JUMP_LIMIT_PH.ofs lim
  { s with loops := s.loops.modify 23 fun _ => l }

theorem meets_LoopsFilter :
    (let s := tracking 2 65536 65536 { LoopState.reset with lockRun := 7 }
     s.live .loop = true ∧ s.get (LOOP_INFO.ROLE 23) < 2 ∧ s.flag (LOOP_CFG.OPEN 23) = false ∧ s.get (LOOP_STATUS.STATE 23) = 2 ∧
     s.get (RGS_SEL_STATUS.SW_STATE 23) < 3 ∧ s.flag (RGS_SEL_STATUS.HOLD_ON_DISPUTE 23) = false ∧ (loopSt s 23).auth = none ∧
     rgsIncumbent s 23 = some 63 ∧ loopNewX s 23 (loopMeasure s 23 none 0) = some 65536 ∧
     (loopSt s 23).lockRun + 1 = max 1 (s.get (LOOP_LOCK.LOCK_CNT 23)) ∧ (loopSt s 23).r = 0 ∧
     Config.quot (65536 * phUnit - 0 - 0) phUnit = 65536 ∧ (65536 : Int) ≤ s.getS TB_JUMP_LIMIT_PH.ofs ∧
     (65536 : Int) ≤ s.get (LOOP_LOCK.LOCK_THR 23) * 65536) ∧
    (let s := tracking 3 131073 131072 { LoopState.reset with unlockRun := 3 }
     loopNewX s 23 (loopMeasure s 23 none 0) = some 131073 ∧ s.getS TB_JUMP_LIMIT_PH.ofs < 131073 ∧
     2 * ((s.get (LOOP_LOCK.LOCK_THR 23) : Int) * 65536) < 131073 ∧ (loopSt s 23).unlockRun = 3) ∧
    (let s := tracking 4 0 0 { LoopState.reset with sawNone := true }
     (loopSt s 23).sawNone = true ∧ s.get (RGS_SEL_STATUS.SW_STATE 23) ≠ 3 ∧ (loopSt s 23).sawHold = false) ∧
    (let s := (tracking 6 0 0 LoopState.reset).put (RGS_SEL_STATUS.SW_STATE 23) 4
     s.get (LOOP_STATUS.STATE 23) = 6 ∧ s.get (RGS_SEL_STATUS.SW_STATE 23) = 4) ∧
    (let s := (tracking 1 0 0 LoopState.reset).put (RGS_SEL_STATUS.SW_STATE 23) 3
     s.flag (LOOP_STATUS.FIRST_DONE 23) = false ∧ s.get (RGS_SEL_STATUS.SW_STATE 23) = 3 ∧ 0 ≤ s.getS TB_JUMP_LIMIT_PH.ofs) := by
  decide +kernel

/-! ### EnsembleMembersAreCommanded -/

theorem meets_EnsembleMembers :
    (live [(MB_STATUS.STATE 31, 3)]).hostReach .ens (some (3, 31)) = true ∧ (live []).get (MB_STATUS.STATE 31) = 0 ∧
    (live [(MB_STATUS.STATE 31, 3)]).get (MB_STATUS.STATE 31) = 3 ∧ (live [(MB_STATUS.STATE 31, 2)]).get (MB_STATUS.STATE 31) = 2 ∧
    (live []).hostReach .ens none = true ∧ (∀ k, k < 24 → (live []).get (LOOP_INFO.ROLE k) ≠ 3) ∧
    (live [(LOOP_INFO.ROLE 23, 3)]).get (LOOP_INFO.ROLE 23) = 3 := by decide +kernel

/-! ### EnsembleEpochKeepsTheTimescale -/

theorem meets_EnsembleEpoch : (live [(MB_STATUS.STATE 31, 2)]).live .ens = true ∧ (live [(MB_STATUS.STATE 31, 2)]).get (MB_STATUS.STATE 31) = 2 ∧
    ensMeasure (live [(MB_STATUS.STATE 31, 2)]) 31 0 = none ∧ State.reset.live .ens = false := by decide +kernel

/-! ### OutputsAreConfiguredAndMuted -/

/-- Output 15 enabled, bound to device time, with the time once verified. -/
def output15 (fs : List (Fld × Nat)) : State :=
  let s := live (fs ++ [(OUT_CFG.EN 15, 1), (OUT_BIND.VALID 15, 1), (TB_STATUS.READY, 1)])
  { s with tb := { s.tb with wasVerified := true } }

theorem meets_Outputs :
    (output15 []).hostReach .out (some (4, 15)) = true ∧ OutReg.freq ≠ OutReg.cfg ∧
    outWritten (output15 []) 15 ≠ { OutCfg.reset with period := 20 } ∧
    outMuted (output15 [(⟨OUT_GLB_STATUS.MUTED.ofs, 31, 1⟩, 1)]) 15 = true ∧ outCauses (output15 []) 15 = 0 ∧
    outMuted (output15 [(⟨OUT_GLB_STATUS.MUTED.ofs, 31, 1⟩, 0), (OUT_CFG.HOST_MUTE 15, 1)]) 15 = false ∧
    outCauses (output15 [(OUT_CFG.HOST_MUTE 15, 1)]) 15 = 2 ∧ (output15 []).live .out = true ∧
    (output15 []).getS (OUT_OFS_PH.ofs 15) = 0 ∧ clampInt (-(10 ^ 9 * 65536)) (10 ^ 9 * 65536) (BitVec.ofNat 64 (2 ^ 63)).toInt ≠ 0 ∧
    (output15 [(OUT_STATUS.ALIGN_STATE 15, 2)]).get (OUT_STATUS.ALIGN_STATE 15) = 2 ∧ xsRuns (output15 (runs 0)) 0 = true ∧
    (output15 (runs 47)).get (CDC_XS_STATUS.STATE_A (32 + 15)) = 0 ∧
    (output15 [(CDC_XS_STATUS.STATE_A 47, 1)]).get (CDC_XS_STATUS.STATE_A (32 + 15)) = 1 := by decide +kernel

/-! ### TriggersFireOnTheirSchedule -/

/-- Trigger 31 in a periodic mode, with its start in second 1 and the given width in ns, counting `n` instants. -/
def trigger31 (w n : Nat) : State :=
  let s := (live [(TRG_CFG.MODE 31, 3), (TRG_WIDTH.WIDTH 31, w)]).put64 (TRG_START_SEC.ofs 31) 1
  ((s.setReg (TRG_START_NS.ofs 31) 0).setReg (TRG_PERIOD.ofs 31) 20).setReg (TRG_COUNT.ofs 31) (BitVec.ofNat 32 n)

theorem meets_Triggers :
    ((trigger31 10 2).hostReach .out (some (5, 31)) = true ∧ 2 ≤ (trigger31 10 2).get (TRG_CFG.MODE 31) ∧
     trgTime (trigger31 10 2) 31 ((trigger31 10 2).timeAt 0) + 2000 * nsUnit ≤ timeOf ((trigger31 10 2).get64 (TRG_START_SEC.ofs 31)) 0 0 ∧
     ((trigger31 10 2).reg (TRG_START_NS.ofs 31)).toNat ≤ 999999999 ∧ (trigger31 10 2).flag (TRG_CFG.TSRC 31) = false ∧
     (trigger31 10 2).get (TRG_WIDTH.WIDTH 31) + 10 ≤ ((trigger31 10 2).reg (TRG_PERIOD.ofs 31)).toNat ∧
     5 ≤ (trigger31 10 2).get (TRG_WIDTH.WIDTH 31)) ∧
    ¬ 5 ≤ (trigger31 4 2).get (TRG_WIDTH.WIDTH 31) ∧
    (let t := after (.triggerArm 31 0) (trigger31 10 2)
     t.live .out = true ∧ (trgSt t 31).old = [] ∧ (trgSt t 31).plan = some ⟨secUnit, 20 * nsUnit, some 2, 0⟩) := by decide +kernel

/-! ### TrackingChannelsChangeState -/

/-- Tracking channels 0 and 1 pinned, port 3 running at 4 MHz about 1575.42 MHz with GPS enabled. -/
def port3 : State :=
  let s := live ([(GNSS_PORT_CFG.EN 3, 1), (GNSS_PORT_STATUS.CLK_OK 3, 1), (GNSS_PORT_RATE.RATE 3, 4000), (GNSS_PORT_CFG.TK_QUOTA 3, 2),
    (GNSS_CFG.SYS_EN, 1)] ++ (List.range 2).map fun k => (GNSS_TK_STATUS.PINNED k, 1))
  s.put64 (GNSS_PORT_CENTRE.ofs 3) 1575420000000

theorem meets_TrackingChannels :
    (live [(GNSS_TK_STATUS.STATE 255, 4)]).get (GNSS_TK_STATUS.STATE 255) = 4 ∧
    (live [(GNSS_TK_STATUS.PINNED 255, 1)]).flag (GNSS_TK_STATUS.PINNED 255) = true ∧ port3.hostReach .gnss none = true ∧
    gnssQuota port3 3 < port3.get (GNSS_PORT_CFG.TK_QUOTA 3) ∧ gnssHas port3 3 0 1 0 = false ∧
    port3.live .gnss = true ∧ gnssAllowed port3 ⟨0, 1, 0, 3, none⟩ = true ∧ port3.get (GNSS_TK_STATUS.STATE 2) = 0 ∧
    port3.flag (GNSS_TK_STATUS.PINNED 2) = false ∧ (∀ j, j < 2 → port3.flag (GNSS_TK_STATUS.PINNED j) = true) := by decide +kernel

/-! ### SamplesClocksAndObservables -/

/-- Tracking channel 255 of port 3 in TRACK with a measurement, and observables at 1 Hz to an enabled ring. -/
def track255 : State :=
  let s := live (runs 25 ++ runs 29 ++ [(GNSS_TK_STATUS.STATE 255, 3), (GNSS_TK_STATUS.PORT 255, 3), (GNSS_CFG.OBS_RATE, 1), (HIF_Q_CFG.EN 8, 1),
    (HIF_Q_CFG.SIZE_LOG2 8, 6), (GNSS_PORT_CFG.EN 3, 1), (GNSS_PORT_RATE.RATE 3, 4000), (GNSS_PORT_STATUS.CLK_OK 3, 1)])
  let m : TkMeas := ⟨0, 0, 0, 160, true, true, false, true⟩
  { s with gnss := { s.gnss with tks := s.gnss.tks.modify 255 (fun x => { x with meas := some m }),
                                 ports := s.gnss.ports.modify 3 fun p => { p with point := some (-secUnit) } } }

theorem meets_SamplesClocks :
    track255.live .gnss = true ∧ track255.flag (GNSS_PORT_CFG.EN 3) = true ∧
    (gnssPort track255 3).point = some (-secUnit) ∧ -secUnit < track255.timeAt 0 ∧ track255.gnss.snap = none ∧
    ((track255.get (GNSS_PORT_RATE.RATE 3) : Int) * 1000 * 2 ^ 32 < 100 * ((0 : Int) - 4000 * 1000 * 2 ^ 32).natAbs) ∧
    track255.flag (GNSS_PORT_STATUS.CLK_OK 3) = true ∧ (gnssPort (live []) 3).point = none ∧ (gnssPort track255 3).base.time < 60 * secUnit ∧
    ((track255.get (GNSS_PORT_RATE.RATE 3) : Int) = 4000) ∧
    track255.get (GNSS_TK_STATUS.STATE 255) ≠ 0 ∧ track255.get GNSS_CFG.OBS_RATE ≠ 0 ∧
    (∀ j, j < 256 → (track255.get (GNSS_TK_STATUS.STATE j) = 3 ↔ j = 255)) ∧ (gnssTk track255 255).meas.isSome = true ∧
    hifRoom track255 8 = true ∧ track255.get (CDC_XS_STATUS.STATE_A 25) = 0 ∧ track255.get (CDC_XS_STATUS.STATE_B (26 + 3)) = 0 ∧
    (track255.put (CDC_XS_STATUS.STATE_B 29) 1).get (CDC_XS_STATUS.STATE_B (26 + 3)) = 1 := by decide +kernel

/-! ### SolutionsPositionsAndSnapshots -/

/-- A running snapshot of port 3 with one sample taken of the one wanted. -/
def snapped (running : Bool) : State :=
  let s := live []
  { s with gnss := { s.gnss with snap := some ⟨0, running, [⟨3, 1, some 0, 0, [0x7F], false, false⟩]⟩ } }

theorem meets_Solutions :
    (let s := track255.put (GNSS_SOL_CFG.EN 3) 1 |>.put (GNSS_SOL_CFG.PORTS 3) 8 |>.put (GNSS_SOL_STATUS.POS_HELD 3) 1 |>.put GNSS_MISC.CN0_MAX 60
     s.live .gnss = true ∧ s.flag (GNSS_SOL_CFG.EN 3) = true ∧ gnssTakesPart s 3 ⟨255, 100, (26000000000, 0, 0), 0, 90, some 1⟩ = true ∧
     (gnssTk s 255).excl = none ∧ s.get (GNSS_TK_STATUS.CN0 255) ≤ 4 * s.get GNSS_MISC.CN0_MAX ∧ s.get (GNSS_TK_STATUS.SYS 255) ≤ 4 ∧
     (gnssSol s 3).fits = [[], [], [], []] ∧ (gnssSol s 3).excl = [none, none, none, none] ∧ s.flag (GNSS_SOL_STATUS.POS_HELD 3) = true) ∧
    (let s := { live [] with gnss := { GnssState.reset with sols := List.replicate 4 { GnssSol.reset with fixes := 60 } } }
     s.flag (GNSS_SOL_CFG.POS_MODE 3) = false ∧ s.flag (GNSS_SOL_STATUS.POS_HELD 3) = false ∧ (gnssSol s 3).fixes ≠ 0) ∧
    (live []).hostReach .gnss (some (7, 3)) = true ∧ (live [(GNSS_SOL_CFG.POS_MODE 3, 1)]).flag (GNSS_SOL_CFG.POS_MODE 3) = true ∧
    snapReason (snapped true) none 0 = 1 ∧
    snapReason (track255.put GNSS_SNAP_CFG.PORTS 8 |>.put GNSS_SNAP_CFG.DURATION 32001) none 0 = 5 ∧
    snapReason (track255.put GNSS_SNAP_CFG.PORTS 8 |>.put GNSS_SNAP_CFG.DURATION 1) none 0 = 0 ∧
    (snapped false).gnss.snap.isSome = true ∧ 0 ≤ (snapped false).timeAt 0 ∧ snapComplete (snapped true) = true ∧
    (snapped true).hostReach .gnss none = true := by decide +kernel

/-! ### PortsFollowLinkPauseAndEsmc -/

/-- Port 7 enabled in MODE 0 with a link and the ESMC transmitter on. -/
def port7 (fs : List (Fld × Nat)) : State :=
  live (runs 8 ++ runs 16 ++ [(EP_CFG.EN 7, 1), (EP_CFG.MODE 7, 0), (EP_CFG.FEC 7, 0), (EP_STATUS.LINK 7, 1), (EP_CFG.ESMC_TX_EN 7, 1), (EP_CFG.RX_PAUSE_EN 7, 1),
    (RGS_SLOT_BIND.TYPE 63, 3), (RGS_SLOT_BIND.INDEX 63, 7)] ++ fs)

/-- An ESMC PDU with SSM 2 and the enhanced code of an ePRTC. -/
def esmcPdu : EsmcPdu := ⟨0x0180C2000002, 0x8809, 0x0A, 0x0019A7, 1, 1, some 2, some 0x21⟩

theorem meets_Ports :
    portUsable (port7 []) 7 = true ∧ portUsable (port7 [(EP_CFG.EN 7, 0)]) 7 = false ∧ xsFarHeld (port7 []) (1 + 7) = false ∧
    xsFarHeld (port7 []) (9 + 7) = false ∧ (port7 []).get (TB_REP_STATUS.STATE 7) = 0 ∧ (port7 []).flag (EP_STATUS.LINK 7) = true ∧
    (live []).flag (EP_STATUS.LINK 7) = false ∧ (port7 []).flag (EP_CFG.RX_PAUSE_EN 7) = true ∧ (macPort (port7 []) 7).pauseEnd ≤ 0 ∧
    esmcAccepted esmcPdu = true ∧ esmcPdu.ql = some 2 ∧ (port7 []).get (RGS_SLOT_BIND.TYPE 63) = 3 ∧
    (port7 []).get (RGS_SLOT_BIND.INDEX 63) = 7 ∧ esmcAccepted { esmcPdu with ql := none } = false ∧ esmcOn (port7 []) 7 = true := by
  decide +kernel

/-! ### GateListsOpenAndChange -/

/-- Port 7 with one staged entry of a 64 ns cycle and the given operational list. -/
def gated7 (oper : Option GateList) (admin : Option (GateList × Int)) : State :=
  let s := (live [(EP_GATE_CFG.ADMIN_START 7, 1023), (EP_GATE_CFG.ADMIN_LEN 7, 1)]).setReg (EP_GATE_CYCLE.ofs 7) 64
  { s with mac := s.mac.modify 7 fun p => { p with oper := oper, admin := admin } }

theorem meets_GateLists :
    (gated7 none none).hostReach .mac (some (8, 7)) = true ∧ (gated7 none none).get (EP_GATE_STATUS.STATE 7) = 0 ∧
    (macPort (gated7 (some ⟨0, 1, 0, 64, 0⟩) none) 7).oper.isSome = true ∧ (macPort (gated7 none none) 7).oper = none ∧
    (gateStaged (gated7 none none) 7).len = 1 ∧ (gateStaged (gated7 none none) 7).cycle = 64 ∧
    ((gated7 none none).reg (EP_GATE_BASE_NS.ofs 7)).toNat ≤ 999999999 ∧
    GateList.overlaps ⟨1023, 1, 0, 64, 0⟩ (gateStaged (gated7 none none) 7) = true ∧
    GateList.overlaps ⟨1022, 1, 0, 64, 0⟩ (gateStaged (gated7 none none) 7) = false ∧
    (macPort (gated7 none (some (⟨1023, 1, 0, 64, 0⟩, 5))) 7).admin = some (⟨1023, 1, 0, 64, 0⟩, 5) := by decide +kernel

/-! ### FramesDepartAndAreTimestamped -/

/-- Port 7 with a link, a locked replica, one reservation and one waiting frame of 60 bytes, and a full departure in MODE 0. -/
def sending7 (fr : Option EthFrame) (fs : List (Fld × Nat)) : State :=
  let s := port7 ([(TB_REP_STATUS.LOCKED 7, 1)] ++ fs)
  { s with mac := s.mac.modify 7 fun p =>
      { p with resv := [⟨.ans 3 1, 25 * secUnit, 94, 0, false, true, fr⟩], waiting := [⟨List.replicate 60 0, 7, none, false, none⟩],
               tsq := [⟨.host 65535, false, false, false, false, secUnit + nsUnit⟩] } }

theorem meets_FramesDepart :
    (let fr : EthFrame := ⟨List.replicate 90 0, 6, none, true, none⟩
     let s := sending7 (some fr) []
     (macPort s 7).resv = [⟨.ans 3 1, 25 * secUnit, 94, 0, false, true, some fr⟩] ∧ s.get (CDC_XS_STATUS.STATE_A (1 + 7)) = 0 ∧
     (s.put (CDC_XS_STATUS.STATE_A 8) 1).get (CDC_XS_STATUS.STATE_A (1 + 7)) = 1 ∧ pairSends s = true ∧
     depCause s 7 (25 * secUnit) fr = none ∧
     depCause (s.put (EP_STATUS.PAUSED 7) 1) 7 (25 * secUnit) fr = some (EP_DEP_DROP2.PAUSE 7) ∧
     pairSends (s.put PAIR_CFG.EN 1) = false ∧ (macPort s 7).waiting[0]? = some ⟨List.replicate 60 0, 7, none, false, none⟩ ∧
     portMayStart s 7 ⟨List.replicate 60 0, 7, none, false, none⟩ (lineOf (repTime s 7 0)) = true ∧
     portMayStart (s.put (EP_STATUS.PAUSED 7) 1) 7 ⟨List.replicate 60 0, 7, none, false, none⟩ (lineOf (repTime s 7 0)) = false ∧
     s.hostReach .mac (some (8, 7)) = true ∧ ((macPort s 7).tsq.find? fun e => e.hostId.isSome).isSome = true) ∧
    (macPort (sending7 none []) 7).resv = [⟨.ans 3 1, 25 * secUnit, 94, 0, false, true, none⟩] ∧ (macPort (live []) 7).resv = [] ∧
    ((macPort (live []) 7).tsq.find? fun e => e.hostId.isSome) = none := by decide +kernel

/-! ### FramesAreClassifiedAdmittedAndAnswered -/

/-- An NTP client request to 10.0.0.1, without options. -/
def ntpFrame : List Byte :=
  [2, 2, 3, 4, 5, 6, 2, 2, 3, 4, 5, 7, 8, 0] ++
  [0x45, 0, 0, 76, 0, 0, 0, 0, 64, 17, 0, 0, 10, 0, 0, 2, 10, 0, 0, 1] ++ [0x10, 0, 0, 123, 0, 56, 0, 0] ++
  [0x23, 0, 6, 0xEC] ++ List.replicate 36 0 ++ [1, 2, 3, 4, 5, 6, 7, 8]

/-- Pipeline 3 enabled with one rule of an action, port 7 linked and promiscuous with a locked receive replica, and requests. -/
def pipe3 (action : Nat) (reqs : List AnsReq) (fs : List (Fld × Nat)) : State :=
  let s := live (runs 16 ++ runs 25 ++ [(EP_CFG.EN 7, 1), (EP_STATUS.LINK 7, 1), (EP_CFG.PROMISC 7, 1), (ANS_CFG.EN 3, 1), (TB_REP_STATUS.LOCKED 15, 1),
    (HIF_Q_CFG.EN 19, 1), (HIF_Q_CFG.SIZE_LOG2 19, 6), (ANS_SLACK.SLACK 3, 65535), (EP_CFG.DEP_TC 7, 6)] ++ fs)
  let x : AnsPipe := { AnsPipe.reset with
    active := [⟨1, 0, 0, BitVec.ofNat 32 (action + 8 * 7 + 256)⟩], addrs := [some (false, [10, 0, 0, 1])], reqs := reqs }
  let r : Resv := ⟨.ans 3 5, 25 * secUnit, 94, 0, false, true, none⟩
  { s with ans := { s.ans with pipes := s.ans.pipes.set 3 x },
           mac := s.mac.modify 7 fun p => { p with resv := if reqs.isEmpty then [] else [r] } }

/-- A Sync message of domain 0 in an Ethernet frame. -/
def ptpFrame : List Byte := List.replicate 12 2 ++ [0x88, 0xF7, 0, 2] ++ List.replicate 44 0

/-- A request in flight at port 7. -/
def req5 (td : Option Int) : AnsReq :=
  ⟨5, 7, ntpFrame, false, false, 0, 25 * secUnit, 94, td, [], [], false, none, .waiting⟩

theorem meets_FramesAreClassified :
    (∀ a ∈ [0, 1, 2, 3], let s := pipe3 a [] []
      s.live .mac = true ∧ s.flag (EP_STATUS.LINK 7) = true ∧ portAccepts s 7 (ntpFrame.take 6) = true ∧ s.live .ans = true ∧
      ansMatch (ansPipe s 3).active 1 (ansLocal s 3 (parseFrame ntpFrame) ntpFrame) (parseFrame ntpFrame) ntpFrame = some 0) ∧
    (let s := pipe3 2 [] []
     ansMatch (ansPipe s 3).active 1 (ansLocal s 3 (parseFrame ptpFrame) ptpFrame) (parseFrame ptpFrame) ptpFrame = some 0 ∧
     ptpParse (parseFrame ntpFrame) ntpFrame = none ∧
     ([0, 0xC, 0xD].map fun ty => (ptpParse (parseFrame ptpFrame) (ptpFrame.set 14 ty)).map (·.1)) = [some 0, some 12, some 13]) ∧
    (∀ a ∈ [0, 1, 2, 3], let s := pipe3 a [] []
      s.get (CDC_XS_STATUS.STATE_B 16) = 0 ∧ s.get (CDC_XS_STATUS.STATE_A 25) = 0) ∧
    ((pipe3 1 [] []).put (CDC_XS_STATUS.STATE_B 16) 1).get (CDC_XS_STATUS.STATE_B 16) = 1 ∧
    hifRoom (pipe3 1 [] []) 19 = true ∧ (live []).flag (EP_STATUS.LINK 7) = false ∧ portAccepts (live []) 7 (ntpFrame.take 6) = false ∧
    (let s := pipe3 3 [] []
     s.flag TB_STATUS.PIVOT_FAULT = false ∧ s.flag ANS_GLB_CFG.UNVER_DROP = false ∧
     ansAnswerable s 3 false (parseFrame ntpFrame) ntpFrame = true ∧ vbActive s = false ∧ (ansPipe s 3).reqs.length < 1024) ∧
    48 ≤ (parseFrame ntpFrame).payload.length := by decide +kernel

theorem meets_RequestsAreAnswered :
    (let s := pipe3 3 [req5 none] []
     let g : BlockGrid := ⟨0, []⟩
     ansNext s 3 = some (req5 none) ∧ ansUnready (req5 none) = false ∧ depRoom s 7 = true ∧
     (depChoose s 7 94 g (25 * secUnit - lineOf (portTxd s 7)) (25 * secUnit - 400 * lineNs) (s.get (ANS_SLACK.SLACK 3) * lineNs)).isSome =
       true ∧
     depChoose (s.put (ANS_SLACK.SLACK 3) 0) 7 94 ⟨1, []⟩ (25 * secUnit - lineOf (portTxd s 7)) (25 * secUnit - 400 * lineNs) 0 = none) ∧
    ansNext (live []) 3 = none ∧
    (let s := pipe3 3 [req5 (some (25 * secUnit))] []
     ansReq s 3 5 = some (req5 (some (25 * secUnit))) ∧ ansReq s 3 6 = none ∧ (depFind s 7 (.ans 3 5)).isSome = true ∧
     lineOf (repTime s 7 0) + 100 * lineNs ≤ 25 * secUnit ∧ s.hostReach .ans (some (9, 3)) = true ∧ s.flag (ANS_CFG.EN 3) = true ∧
     25 * secUnit < lineOf (repTime { s with tb := { s.tb with dev := 2 * secUnit } } 7 0) +
       100 * lineNs) := by decide +kernel

/-! ### RuleBanksAndTheVisitorBookAreKept -/

theorem meets_RuleBanks :
    (let s := pipe3 1 [] [(ANS_STATUS.COMMIT_BUSY 3, 1)]
     s.hostReach .ans (some (9, 3)) = true ∧ s.flag (ANS_STATUS.COMMIT_BUSY 3) = true ∧ s.flag (ANS_FLAGS.CFG_BAD 3) = false ∧
     s.live .ans = true) ∧
    (live []).flag (ANS_STATUS.COMMIT_BUSY 3) = false ∧ (ansPipe (live []) 3).swap = false ∧
    (ansPipe (after (.ruleCommit 3) (live [])) 3).swap = true ∧ State.reset.live .ans = false ∧
    (live [(ANS_GLB_STATUS.VB_BUSY, 1), (HIF_VB_RES.BUSY, 1)]).flag ANS_GLB_STATUS.VB_BUSY = true ∧
    (live []).hostReach .hif none = true ∧ (live []).flag HIF_VB_RES.BUSY = false := by decide +kernel

/-- A rule bank of 64 rules reaches the registers of the last rule: its K2 word is read back. -/
theorem test_bankSwap_last_rule :
    let s := pipe3 1 [] []
    let x : AnsPipe := { ansPipe s 3 with active := List.replicate 63 ⟨0, 0, 0, 0⟩ ++ [⟨1, 2, 3, 4⟩], swap := true }
    (after (.bankSwap 3) { s with ans := { s.ans with pipes := s.ans.pipes.set 3 x } }).reg (ANS_RULE_K2.ofs 3 63) = 3 := by
  decide +kernel

/-! ### ZeroiseErasesTheKeyStore -/

theorem meets_Zeroise : (live []).hostReach .nts none = true := by decide +kernel

/-- ZEROISE with 0xC3 leaves a store that held a key empty. -/
theorem test_zeroise :
    (after (.zeroise 0xC3) { live [] with nts := { NtsState.reset with cur := some ⟨7, []⟩ } }).nts.cur = none ∧
    (after (.zeroise 0xC2) { live [] with nts := { NtsState.reset with cur := some ⟨7, []⟩ } }).nts.cur = some ⟨7, []⟩ := by
  decide +kernel

/-! ### KeysRotateAndCookiesOpen -/

theorem meets_KeysRotate :
    (let s := live [(NTS_CFG.EN, 1), (NTS_CFG.ROT_EN, 1), (NTS_GEN_NEXT.NEXT, 2 ^ 32 - 1)]
     s.live .nts = true ∧ s.flag NTS_CFG.EN = true ∧ s.get NTS_STATUS.ROT_STATE = 0 ∧ s.hostReach .nts none = true ∧
     (s.put NTS_STATUS.ROT_STATE 3).flag NTS_CFG.ROT_EN = true ∧ s.get PAIR_STATUS.STATE ≠ 3 ∧
     (after .ntsEnable s).get NTS_GEN_NEXT.NEXT = 1 ∧ (after .ntsEnable s).get NTS_STATUS.ROT_STATE = 2) ∧
    (List.replicate 64 (0 : Byte)).length = 64 := by decide +kernel

/-! ### ThePoolWorksInTwoPhasesAndMints -/

/-- An NTS request as an extension-field body: a Unique Identifier, a cookie, and an authenticator over a 16 byte nonce. -/
def ntsFields (gen : Nat) : List Byte :=
  [1, 4, 0, 36] ++ List.replicate 32 1 ++ [2, 4, 0, 104] ++ beBytes 4 gen ++ List.replicate 96 2 ++
  [4, 4, 0, 40, 0, 16, 0, 16] ++ List.replicate 32 3

/-- The same as a frame that reaches pipeline 3. -/
def ntsFrame (gen : Nat) : List Byte :=
  [2, 2, 3, 4, 5, 6, 2, 2, 3, 4, 5, 7, 8, 0] ++
  [0x45, 0, 1, 0, 0, 0, 0, 0, 64, 17, 0, 0, 10, 0, 0, 2, 10, 0, 0, 1] ++ [0x10, 0, 0, 123, 0, 236, 0, 0] ++
  [0x23, 0, 6, 0xEC] ++ List.replicate 44 0 ++ ntsFields gen

/-- A request of that frame on unit 15 of pipeline 3. -/
def ntsReq (td : Option Int) (w : NtsWork) : AnsReq :=
  ⟨5, 7, ntsFrame 9, true, false, 0, 25 * secUnit, 94, td, [], [], false, some 15, w⟩

theorem meets_PoolWorks :
    (let s := pipe3 4 [ntsReq none .running] []
     (ntsRunning s 15).isSome = true ∧ ntsSecond s 15 = none ∧ ntsRunning (live []) 15 = none ∧ (ntsParse s (parseFrame (ntsFrame 9))).isSome = true ∧
     ntsHeld s 9 = none) ∧
    (let s := pipe3 4 [ntsReq (some (25 * secUnit)) (.ready [] [])] []
     (ntsSecond s 15).isSome = true ∧ (depFind s 7 (.ans 3 5)).isSome = true ∧ lineOf (repTime s 7 0) + 100 * lineNs ≤ 25 * secUnit ∧
     25 * secUnit < lineOf (repTime { s with tb := { s.tb with dev := 2 * secUnit } } 7 0) + 100 * lineNs) ∧
    ntsNeeded (live []) 15 = true ∧ ((live [(NTS_UNIT_STATUS.TESTING, 2 ^ 15)]).get NTS_UNIT_STATUS.TESTING).testBit 15 = true := by
  decide +kernel

/-- Under the key of its cookie a request reaches phase 2: a cookie sealed by the model, and its authenticator. -/
def ntsGood : NtsParts :=
  let c := ntsSeal ⟨9, List.replicate 64 5⟩ (List.replicate 12 6) (List.replicate 32 7) (List.replicate 32 8)
  let p := sivSeal (List.replicate 32 7) [[], List.replicate 16 3] []
  ⟨[], c, 0, List.replicate 16 3, p.1, 0⟩

theorem meets_PhaseOneKeys :
    (match ntsCheck { live [] with nts := { NtsState.reset with cur := some ⟨9, List.replicate 64 5⟩ } } (parseFrame []) ntsGood with
     | .keys a b => decide (a = List.replicate 32 7 ∧ b = List.replicate 32 8) | .nak _ => false) = true := by decide +kernel

theorem meets_Minting :
    (let d : List Byte := [15, 0, 8] ++ List.replicate 77 0
     let s := live (runs 25 ++ [(NTS_CFG.EN, 1), (NTS_UNIT_CFG.EN, 2 ^ 16 - 1), (NTS_UNIT_CFG.MINT_EN, 1)])
     let s := hifSetQueue 29 (fun q => { q with fetched := [d] }) { s with nts := { NtsState.reset with cur := some ⟨9, []⟩ } }
     hifDescriptor s 29 = some d ∧ mintStatus s d = 0 ∧ mintReady s = true ∧ s.get (CDC_XS_STATUS.STATE_A 25) = 0 ∧
     mintReady (s.put NTS_UNIT_CFG.EN 0) = false ∧ mintStatus (s.put NTS_CFG.EN 0) d = 4) ∧ hifDescriptor (live []) 29 = none ∧
    hifRoom (live (runs 25 ++ [(HIF_Q_CFG.EN 11, 1), (HIF_Q_CFG.SIZE_LOG2 11, 6)])) 11 = true := by decide +kernel

/-! ### PtpServersSendSyncAndAnnounce -/

/-- Instance 15 enabled on port 7 as a server or client with the given transport; its receive replica is locked. -/
def ptp15 (role : Nat) (fs : List (Fld × Nat)) (x : PtpInst) : State :=
  let s := live ([(PTP_CFG.EN, 1), (PTP_INST_CFG.EN 15, 1), (PTP_INST_BIND.VALID 15, 1), (PTP_INST_BIND.ROLE 15, role),
    (PTP_INST_BIND.PORT 15, 7), (PTP_SLACK.SLACK, 65535), (PTP_INST_CFG.DOMAIN 15, 24)] ++ fs)
  { s with ptp := { s.ptp with insts := s.ptp.insts.set 15 x } }

/-- A message of a client in domain 24. -/
def ptpMsg (unicast : Bool) : PtpMsg := ⟨[2, 0, 0, 0, 0, 1], [10, 0, 0, 9], ⟨77, 1⟩, 24, 65535, 0, unicast⟩

theorem meets_PtpServers :
    (let s := ptp15 0 [] { PtpInst.reset with inbox := [⟨1, ptpMsg true, false, [], 9, 7, false⟩] }
     ptpServer s 15 = true ∧ s.flag (PTP_INST_CFG.TWO_STEP 15) = false ∧ (ptpSyncInstant s 15 none 1).isSome = true ∧ depRoom s 7 = true ∧
     (depChoose s 7 64 ⟨0, []⟩ (lineOf secUnit) (lineOf secUnit - 400 * lineNs) (s.get PTP_SLACK.SLACK * lineNs)).isSome = true ∧
     depChoose s 7 64 ⟨1, []⟩ (lineOf secUnit) (lineOf secUnit - 400 * lineNs) 0 = none ∧
     (ptpWaiting s 15 (isDelayReq (ptpMsg true) 9)).isSome = true ∧ ptpWaiting s 15 (isDelayReq (ptpMsg true) 8) = none ∧
     ptpProfile s 15 ≠ 2 ∧ ptpProfile (s.put (PTP_INST_CFG.PROFILE 15) 2) 15 = 2 ∧
     ptpRespGrant s 15 (ptpMsg true) = false ∧ ptpServer (live []) 15 = false ∧ ansUnverified (s.put TB_STATUS.VERIFIED 0) = true) ∧
    (ptp15 0 [(PTP_INST_CFG.TWO_STEP 15, 1)] PtpInst.reset).flag (PTP_INST_CFG.TWO_STEP 15) = true ∧
    (let s := ptp15 0 [] { PtpInst.reset with awaiting := [⟨65535, false, [], [], 0⟩] }
     let s := { s with mac := s.mac.modify 7 fun p => { p with tsq := [⟨.ptp 15 65535, false, false, false, false, secUnit⟩] } }
     ((macPort s 7).tsq.find? (TsEntry.isPtp 15)).isSome = true ∧
     ((ptpInst s 15).awaiting.find? fun a => a.seq == 65535).isSome = true ∧ (ptpInst (live []) 15).awaiting = []) ∧
    (let s := { live [] with ptp := { PtpState.reset with table := [(16383, ⟨15, 7, [], [], ⟨77, 1⟩, some ⟨0, 9⟩, none, none⟩)] } }
     ((tableGet s.ptp.table 16383).bind (·.ann)).isSome = true) := by decide +kernel

/-! ### PtpGrantsAndTheChoiceOfAMaster -/

/-- A foreign master heard twice in one announce interval. -/
def master (times : List Int) : Foreign := ⟨ptpMsg false, ⟨128, 6, 0x20, 0x4E5D, 128, 77, 0⟩, times⟩

theorem meets_PtpGrants :
    (let tlv (k n : Byte) (l : List Byte) : List Byte := [0, k, 0, n] ++ l
     let s := ptp15 0 [(PTP_INST_CFG.UNICAST 15, 1)] { PtpInst.reset with inbox := [⟨12, ptpMsg true, false, tlv 4 6 [0, 0xF9, 0, 0, 0, 10], 9, 7, false⟩, ⟨12, ptpMsg true, false, tlv 6 2 [0, 0], 9, 7, false⟩] }
     ptpUnicast s 15 = true ∧ (ptpWaiting s 15 (isRequest (ptpMsg true) 1 (-7) 10 9)).isSome = true ∧
     (ptpWaiting s 15 (isCancel (ptpMsg true) 1)).isSome = true ∧ ptpWaiting s 15 (isCancel (ptpMsg true) 0) = none ∧
     ptpGrantable 1 (-7) 10 = true ∧ ptpGrantable 0 (-4) 10 = false ∧ (ptpPlace s 15 (ptpMsg true)).isSome = true ∧
     ptpEntry s 7 (ptpMsg true) = none ∧ ptpFreeEntry 1 0 [(0, ⟨15, 7, [], [], ⟨77, 1⟩, none, none, none⟩)] = none) ∧
    (let s := ptp15 1 [(PTP_INST_CFG.PROFILE 15, 2)] { PtpInst.reset with um := [none, none, none, some ([10, 0, 0, 9], 1)], inbox := [⟨11, ptpMsg false, false, List.replicate 13 0 ++ ptpDataBytes (master []).data, 9, 7, false⟩] }
     ptpClient s 15 = true ∧ ptpProfile s 15 = 2 ∧ ((ptpInst s 15).um.getD 3 none).isSome = true ∧ ptpAllowed s 15 (ptpMsg false) = true ∧
     (ptpWaiting s 15 (isAnnounce (ptpMsg false) (master []).data 9)).isSome = true ∧ ptpState s 15 ≠ 2) ∧
    (let s := ptp15 1 [(PTP_INST_STATUS.PORT_STATE 15, 3)] { PtpInst.reset with foreign := [master [1, 0]] }
     ptpState s 15 = 3 ∧ (ptpBest s 15).isSome = true ∧ (ptpInst s 15).chosen ≠ some (ptpMsg false).id ∧
     s.hostReach .ptp (some (10, 15)) = true ∧ s.get64 PTP_CLOCK_ID.ofs = 0 ∧ (s.put64 PTP_CLOCK_ID.ofs 5).get64 PTP_CLOCK_ID.ofs ≠ 0 ∧
     ptpBest (live []) 15 = none) := by decide +kernel

/-! ### PtpClientsMeasureAndRequalify -/

/-- A Delay_Req that has paired with a Sync of master 77. -/
def pairedReq (unlocked : Bool) : ReqRec := ⟨65535, 500, 0, some ⟨⟨77, 1⟩, 0, 100, 0, unlocked, 0⟩⟩

theorem meets_PtpClients :
    (let s := ptp15 1 [(PTP_INST_STATUS.PORT_STATE 15, 3)] { PtpInst.reset with chosen := some ⟨77, 1⟩, reqs := [pairedReq false], inbox := [⟨0, ptpMsg false, false, List.replicate 10 0, 9, 7, false⟩, ⟨0, ptpMsg false, true, [], 8, 7, false⟩, ⟨9, ptpMsg false, false, List.replicate 10 0, 9, 7, false⟩] }
     ptpClient s 15 = true ∧ (ptpInst s 15).chosen = some (ptpMsg false).id ∧ (ptpWaiting s 15 (isDelayResp (ptpMsg false) 0 0)).isSome = true ∧
     (ptpWaiting s 15 (isSync (ptpMsg false) 0 0 9)).map (·.twoStep) = some false ∧ (ptpWaiting s 15 (isSync (ptpMsg false) 0 0 8)).map (·.twoStep) = some true ∧
     ptpWaiting s 15 (isFollowUp (ptpMsg false) 0 0 0) = none ∧
     ptpState s 15 = 3 ∧ depRoom s 7 = true ∧ ((ptpInst s 15).reqs.find? fun r => r.seq == (ptpMsg false).seq.toNat) = some (pairedReq false) ∧
     (depChoose s 7 64 ⟨0, []⟩ (lineOf secUnit) (lineOf secUnit - 400 * lineNs) (s.get PTP_SLACK.SLACK * lineNs)).isSome = true) ∧
    (let s := ptp15 1 [(PTP_INST_STATUS.PORT_STATE 15, 2)] { PtpInst.reset with exch := [(4 * phUnit, 2 * phUnit)], refs := List.replicate 16 0, run := [(1, 9), (2, 9)] }
     ptpClient s 15 = true ∧ ptpState s 15 = 2 ∧ ptpRequal s 15 = false ∧ ptpWithin s 15 0 = true ∧ ptpWithin s 15 (65536 * 65536) = false) ∧
    (let s := ptp15 1 [(PTP_INST_STATUS.PATH_STATE 15, 1)] PtpInst.reset
     s.hostReach .ptp (some (10, 15)) = true ∧ s.flag (PTP_INST_STATUS.PATH_STATE 15) = true ∧ (ptpInst s 15).exch = [] ∧
     ptpState s 15 ≠ 3 ∧ (live []).flag (PTP_INST_STATUS.PATH_STATE 15) = false) := by decide +kernel

/-! ### JobsAreTakenValidatedAndCompleted -/

/-- A descriptor of a primitive on slot 15 with two-word operands. -/
def bneDesc (op n e : Byte) : List Byte :=
  [op, 0, 0, 0, 15, 0, n, 0, e, 0, 0, 0, 1, 2, 3, 4] ++ [0, 0, 0, 0] ++ [16, 0, 0, 0] ++ [32, 0, 0, 0] ++ [0, 0, 0, 0] ++ [48, 0, 0, 0] ++
    List.replicate 28 0

/-- The engine ready, slot 15 in a state, a descriptor fetched, and operands in the window of slot 15: M = 2^120 + 1. -/
def engine (st : Nat) (x : BneSlot) (fetched : List (List Byte)) (op : Byte) (fs : List (Fld × Nat)) : State :=
  let s := live (runs 25 ++ [(BNE_CFG.EN, 1), (BNE_STATUS.READY, 1), (BNE_SLOT_STATUS.STATE 15, st), (BNE_STATUS.RNG_OK, 1),
    (HIF_Q_CFG.EN 10, 1), (HIF_Q_CFG.SIZE_LOG2 10, 6)] ++ fs)
  let s := hifSetQueue 28 (fun q => { q with fetched := fetched }) s
  { s with bne := { s.bne with slots := s.bne.slots.set 15 x },
           bar2 := memWrite 0 [] (15 * bneWindow) (1 :: List.replicate 14 0 ++ [1, op]) }

theorem meets_Jobs :
    (let s := engine 0 BneSlot.reset [bneDesc 3 2 0] 7 []
     hifDescriptor s 28 = some (bneDesc 3 2 0) ∧ bneStateOf s 15 = 0 ∧ (bneParse (bneDesc 3 2 0)).slot = 15 ∧
     bneValid (bneDesc 3 2 0) = true ∧ bneValid (bneDesc 3 0 0) = false ∧ s.get BNE_CORE_STATUS.FAULT ≠ 0xFFFF ∧
     (List.range 16).find? (bneCoreFree s) = some 0 ∧ hostMay .bne s = true ∧ hifDescriptor (live []) 28 = none ∧
     bneValidate s 15 (bneParse (bneDesc 3 2 0)) = 0 ∧ bneValidate s 15 (bneParse (bneDesc 4 2 0)) = 0) ∧
    (let s := engine 2 { BneSlot.reset with desc := bneDesc 4 2 0, valid := true } [] 0 []
     bneStateOf s 15 = 2 ∧ (bneSlot s 15).valid = true ∧ bneValidate s 15 (bneParse (bneDesc 4 2 0)) = 2 ∧
     bneStateOf s (0x1FFFFC / 0x20000) ≠ 0) ∧
    (let s := { live [(BNE_STATUS.READY, 1)] with bne := { BneState.reset with queue := [15], waiting := [.ledger] } }
     s.bne.queue = [15] ∧ s.bne.waiting = [.ledger] ∧ s.flag BNE_STATUS.READY = true ∧ s.sys.pfailLow = false) := by decide +kernel

/-- The durations of the worked example for 32-word operands. -/
theorem test_bne_durations :
    bneTVal (bneParse (bneDesc 5 32 32)) = 712 ∧ bneTJob (bneParse (bneDesc 5 32 32)) = 1619696 ∧
    bneTJob (bneParse (bneDesc 4 32 0)) = 75592 := by decide +kernel

/-! ### TheEngineAbortsZeroisesAndTests -/

theorem meets_TheEngine :
    (let s := engine 3 { BneSlot.reset with ending := some [1] } [] 0 [(BNE_CFG.SELFTEST_INT, 1)]
     s.hostReach .bne (some (12, 15)) = true ∧ bneStateOf s 15 = 3 ∧ (bneSlot s 15).ending = some [1] ∧ s.get BNE_CFG.SELFTEST_INT ≠ 0 ∧
     s.bne.duePeriodic = 0 ∧ s.bne.dueCommand = 0 ∧ (s.get BNE_CORE_BUSY.BUSY).testBit 15 = false ∧
     bits16 (s.get BNE_CORE_STATUS.TESTING) < 2 ∧ s.hostReach .bne none = true ∧ s.bne.running = none) ∧
    (let s := engine 2 BneSlot.reset [] 0 [(BNE_SLOT_STATUS.CORE 15, 15), (BNE_CORE_BUSY.BUSY, 2 ^ 15), (BNE_CORE_STATUS.FAULT, 2 ^ 15 - 1)]
     bneStateOf s 15 = 2 ∧ s.get (BNE_SLOT_STATUS.CORE 15) = 15 ∧
     bits16 (s.get BNE_CORE_STATUS.FAULT ||| s.get BNE_CORE_STATUS.TESTING ||| 2 ^ 15) = 16 ∧
     (∀ k, k < 16 → k ≠ 15 → bneStateOf s k = 2 → s.get (BNE_SLOT_STATUS.CORE k) ≠ 15)) ∧
    (let s := live [(BNE_CORE_STATUS.TESTING, 2 ^ 15)]
     let s := { s with bne := { s.bne with starting := 2 ^ 15 } }
     (s.get BNE_CORE_STATUS.TESTING).testBit 15 = true ∧ s.bne.starting = 2 ^ 15 ∧ s.bne.waiting = [] ∧
     { PairState.reset with want := some .pairSign }.want = some BneRequest.pairSign) := by decide +kernel

/-! ### LedgerRecordsAreLatchedIssuedAndDelivered -/

/-- A ledger in service with latched and waiting records; its request runs on core 15. -/
def ledger (latched : Nat) (waiting : Nat) (last : Option (Nat × List Byte)) : State :=
  let s := live (runs 25 ++ [(PROV_CFG.EN, 1), (HIF_Q_CFG.EN 9, 1), (HIF_Q_CFG.SIZE_LOG2 9, 6)])
  { s with prov := { s.prov with restarted := true, booting := true, last := last, waiting := List.replicate waiting [1],
                                 latched := List.replicate latched ⟨2, coreUnits, 0, 0, false, [], [], []⟩ },
           bne := { s.bne with running := some (.ledger, 15) } }

theorem meets_Ledger :
    provMay (ledger 3 0 none) = true ∧ provAtPeriod (ledger 3 0 none) 0 = true ∧ provTwin (ledger 3 0 none) 0 = none ∧
    (provTwin (ledger 3 0 none) coreUnits).isSome = true ∧ (ledger 4 0 none).prov.latched.length = 4 ∧ provMay (live []) = false ∧
    (ledger 2 0 none).hostReach .prov none = true ∧ bneRuns (ledger 1 0 none) .ledger = true ∧ (ledger 1 0 none).prov.latched ≠ [] ∧
    (ledger 1 32 (some (1, []))).prov.waiting.length = 32 ∧ (ledger 1 31 none).prov.waiting.length < 32 ∧
    hifRoom (ledger 0 1 none) 9 = true ∧ (ledger 0 1 none).prov.waiting ≠ [] ∧ (ledger 0 0 none).prov.booting = true := by
  decide +kernel

/-- The head of a periodic record: MAGIC, FMT and KIND (R284). -/
theorem test_record_head :
    ((after (.ledgerPeriod 0) (ledger 0 0 none)).prov.latched.map (·.head.take 6)) = [[0x50, 0x52, 0x56, 0x4C, 1, 0]] := by
  decide +kernel

/-! ### LinksLockMeetTheirPeerAndMeasure -/

/-- Link 7, an UP link of device 0x043 with peer 0, and the listed fields and internal state. -/
def link7 (fs : List (Fld × Nat)) (l : LkLink) : State :=
  let s := live (runs 24 ++ runs 55 ++ [(LK_GLB_CFG.EN, 1), (LK_CFG.EN 7, 1), (LK_BIND.ROLE 7, 1), (LK_GLB_STATUS.ADDR, 0x043)] ++ fs)
  { s with lnk := { s.lnk with links := s.lnk.links.modify 7 fun _ => l } }

theorem meets_Links :
    (let s := link7 [] LkLink.reset
     lkOn s 7 = true ∧ lkState s 7 = 0 ∧ xsRuns s 24 = true ∧ s.flag (CDC_XS_STATUS.CLK_ABSENT 24) = false ∧ s.get (CDC_XS_STATUS.STATE_A 55) = 0 ∧ s.hostReach .lnk (some (11, 7)) = true ∧ s.get (TB_REP_STATUS.STATE 23) = 0 ∧
     (lkSt (link7 [] { LkLink.reset with lock := true }) 7).lock = true) ∧
    (let s := link7 [(LK_STATUS.STATE 7, 1)] LkLink.reset
     lkState s 7 = 1 ∧ (0#12).toNat = s.get (LK_BIND.PEER 7) ∧ (lkRole s 7, 2) ∈ [(1, 2), (2, 1), (3, 3)] ∧
     (0xFFF#12).toNat ≠ s.get (LK_BIND.PEER 7) ∧ s.flag (LK_FLAGS.PEER_BAD 7) = false) ∧
    (let s := link7 [(LK_STATUS.STATE 7, 3), (TB_STATUS.VERIFIED, 1)]
       { LkLink.reset with deps := [7], arr := some 5, winF := [2], winRaw := [3], winX := [3], refs := List.replicate 1526 0,
                           runF := List.replicate 1525 9 }
     lkState s 7 = 3 ∧ (lkSt s 7).deps[0]? = some 7 ∧ lkRunning s 1 = [7] ∧ s.get LK_GLB_STATUS.ADDR ≠ 0 ∧ lkRole s 7 ≠ 2 ∧
     s.flag TB_STATUS.VERIFIED = true ∧ loopStatus s = 24 ∧ lkWithin s 7 0 = true ∧ lkWithin s 7 (10 ^ 9) = false ∧
     1526 ≤ ((10 ^ 9) :: (lkSt s 7).runF).length ∧ (lkSt s 7).winF ≠ [] ∧ s.flag (LK_STATUS.PATH_STATE 7) = false) ∧
    (let s := (link7 [(LK_STATUS.STATE 7, 3), (LK_STATUS.PATH_STATE 7, 1), (RGS_SLOT_BIND.TYPE 63, 5), (RGS_SLOT_BIND.CAP 63, 1),
       (RGS_SLOT_STATUS.STATE 63, 4), (LK_PATH_CNT.CONFIRM_CNT 7, 1)] { LkLink.reset with winF := [2], winRaw := [3], refs := [4] }).put64 (LK_CONFIRM.ofs 7) (2 ^ 63)
     s.flag (LK_STATUS.PATH_STATE 7) = true ∧ lkAgrees s 7 3 = true ∧ lkAgrees s 7 (10 ^ 9) = false ∧ (lkSt s 7).refs.sum ≠ 0 ∧
     (lkSt s 7).nRaw + 1 = max 1 (s.get (LK_PATH_CNT.CONFIRM_CNT 7)) ∧ lkAgrees s 7 (10 ^ 9 - (10 ^ 9 - 3)) = true) := by
  decide +kernel

/-- The worked example of R301, in picoseconds for the unit of the stamps: f is 1,470.600 ns. -/
theorem test_one_hop :
    let s := link7 [(LK_STATUS.STATE 7, 3)] { LkLink.reset with deps := [0], arr := some 839370 }
    let s := (s.putS (LK_TX_DLY_PH.ofs 7) 41500).putS (LK_TX_EXT_PH.ofs 7) 2000
    let s := (s.putS (LK_RX_DLY_PH.ofs 7) 58600).putS (LK_RX_EXT_PH.ofs 7) 2000
    (lkSt (after (.timingBlockRx 7 0 ⟨0, 839430, 0, 43200, 60900, 0⟩ 0) s) 7).winF = [1470600] := by decide +kernel

/-! ### TheControlPlaneBroadcastsBarsAndTriggers -/

/-- A broadcast for the collection, a late report and an operation for time zero, as control frames. -/
def ctrl (type : Nat) : List Byte := Control.bytes ⟨type, 0, 9, 0, 0, [1]⟩

/-- A root with link 7 DOWN in RUN. -/
def root7 (mail : Nat) (b : Option Barrier) (armed : List TtoOp) : State :=
  let s := link7 [(LK_BIND.ROLE 7, 2), (LK_STATUS.STATE 7, 3), (LK_GLB_STATUS.ADDR, 0), (VIT_CFG.TTO_EN, 1)] LkLink.reset
  { s with lnk := { s.lnk with mailbox := List.replicate mail (0, 0, []), barrier := b, armed := armed } }

theorem meets_ControlFrames :
    (let s := link7 [(LK_STATUS.STATE 7, 3)] LkLink.reset
     lkState s 7 = 3 ∧ lkRole s 7 = 1 ∧ s.get (LK_STATUS.TAG_RX 7) / 16 % 8 < 5 ∧ controlGood [] = false ∧
     s.flag (LK_FLAGS.CTRL_CRC 7) = false ∧ s.lnk.mailbox.length < 16 ∧ s.hostReach .lnk none = true ∧ s.flag LK_BC_STATUS.TX_BUSY = false ∧
     [1, 3, 4, 5, 6].all (fun n => controlGood (ctrl n) && (controlOf (ctrl n)).type == n && lnkInScope s (controlOf (ctrl n))) = true ∧
     (5 : Nat) ≤ (s.put (LK_STATUS.TAG_RX 7) 0x50).get (LK_STATUS.TAG_RX 7) / 16 % 8) ∧
    (let s := root7 16 (some ⟨1, [7], false⟩) []
     lkState s 7 = 3 ∧ lkRole s 7 = 2 ∧ s.get LK_GLB_STATUS.ADDR = 0 ∧ 16 ≤ s.lnk.mailbox.length ∧
     leField (controlOf (ctrl 3)).body 0 1 = 1 ∧ s.flag LK_BAR_STATUS.WAIT = false ∧ lkRunning s 2 = [7] ∧ (lkSt s 7).arrive ≠ some 5 ∧
     (s.put LK_BAR_STATUS.WAIT 1).flag LK_BAR_STATUS.WAIT = true) := by decide +kernel

theorem meets_TimeTriggered :
    (let s := root7 0 none []
     (let s := s.put64 LK_TTO_SEC.ofs (2 ^ 63)
      s.timeAt 0 + (s.get LK_GLB_CFG.TOPO_DEPTH * 1500 + 2000) * nsUnit ≤ timeOf (s.get64 LK_TTO_SEC.ofs) (s.get LK_TTO_NS.NS) 0 ∧
      s.get LK_TTO_NS.NS ≤ 999999999) ∧ s.live .vit = true ∧
     timeOf 0 0 0 < s.timeAt 0 + (s.get LK_GLB_CFG.TOPO_DEPTH * 1500 + 2000) * nsUnit ∧ s.live .lnk = true) ∧
    (let s := root7 0 none [⟨0, 1, 0⟩, ⟨0, 2, 1⟩]
     (⟨0, 2, 1⟩ : TtoOp) ∈ s.lnk.armed ∧ 0 ≤ s.timeAt 0 ∧ s.flag VIT_STATUS.HELD = false ∧ s.flag VIT_CFG.TTO_EN = true ∧
     lnkInColl s = true ∧ lnkInColl (link7 [] LkLink.reset) = false ∧ (∀ o ∈ (root7 0 none []).lnk.armed, s.timeAt 0 < o.t)) := by
  decide +kernel

/-! ### PairUnitsKeyAndChangeState -/

/-- A paired unit in a state, its pair link (link 7) in RUN. -/
def paired (st : Nat) (fs : List (Fld × Nat)) (p : PairState) : State :=
  let s := live ([(PAIR_CFG.EN, 1), (PAIR_STATUS.STATE, st), (PAIR_BIND.VALID, 1), (PAIR_BIND.LINK, 7), (LK_STATUS.STATE 7, 3),
    (LK_BIND.PEER 7, 5)] ++ fs)
  { s with pair := p, sys := { s.sys with partnerOk := false } }

theorem meets_PairUnitsKey :
    (let s := live []
     s.hostReach .pair none = true ∧ s.flag PAIR_CFG.EN = false ∧ pairStateOf s = 0 ∧ s.pair.failed = false ∧
     bneRuns s .pairKey = false ∧ bneRuns s .pairSign = false ∧ bneRuns s .pairSecret = false) ∧
    (let x : PairKx := ⟨[1], [2], [3], true⟩
     let s := paired 6 [] { PairState.reset with key := some [], failed := true, kx := some x, peer := some ([4], [5]) }
     s.flag PAIR_CFG.EN = true ∧ pairStateOf s = 6 ∧ s.pair.failed = true ∧ s.hostReach .pair none = true ∧
     [7] ≠ s.pair.seen ∧ s.pair.kx = some x ∧ pairLinkUp s = true ∧ s.pair.key.isSome = true ∧ pairStateOf s ≠ 3 ∧
     [BneRequest.pairKey, .pairSign, .pairSecret].all (fun r => bneRuns { s with bne := { s.bne with running := some (r, 15) } } r) = true) ∧
    (let s := paired 1 [] PairState.reset
     pairStateOf s = 1 ∧ s.flag PAIR_STATUS.KEYED = false ∧ s.sys.partnerOk = false ∧
     s.get LK_GLB_STATUS.ADDR < s.get (LK_BIND.PEER (s.get PAIR_BIND.LINK)) ∧ (s.put PAIR_STATUS.KEYED 1).flag PAIR_STATUS.KEYED = true) ∧
    (let s := paired 4 [(PAIR_STATUS.HB_OK, 1)] { PairState.reset with arb := true, m := some (10 ^ 9), key := some [] }
     pairStateOf s = 4 ∧ s.flag PAIR_STATUS.HB_OK = true ∧ s.pair.arb = true ∧ s.flag PAIR_FLAGS.FAILED_EV = false ∧
     max 1 (s.get PAIR_ARB_TOL.ARB_TOL) * 65536 < ((10 : Int) ^ 9).natAbs ∧
     (0#64).toInt.natAbs ≤ max 1 (s.get PAIR_ARB_TOL.ARB_TOL) * 65536) := by decide +kernel

/-! ### PairUnitsArePromotedCompareAndCopy -/

theorem meets_PairUnitsCompare :
    (let e : PairEpoch := ⟨7, 0, [], []⟩
     let s := paired 3 [(PAIR_CFG.REHEARSE_EN, 1), (TB_STATUS.VERIFIED, 1)]
       { PairState.reset with key := some [1], committed := some e, own := [[1]], stamp := some 5 }
     s.hostReach .pair none = true ∧ pairStateOf s = 3 ∧ s.pair.committed = some e ∧ s.flag PAIR_CFG.REHEARSE_EN = true ∧
     pairHealth s 0 ≠ 2 ∧ pairHealth (live []) 0 = 2 ∧ s.flag PAIR_FLAGS.PROMOTED = false ∧ pairLinkUp s = true ∧ s.pair.own = [[1]] ∧
     pairD s = some 80 ∧ (80 : Int).natAbs ≤ max 1 (s.get PAIR_THR.THR) * 65536 ∧
     pairD { s with pair := { s.pair with stamp := some (10 ^ 11) } } = some (16 * 10 ^ 11) ∧
     max 1 (s.get PAIR_THR.THR) * 65536 < (16 * 10 ^ 11 : Int).natAbs) ∧
    (let k : NtsKey := ⟨9, []⟩
     let s := paired 4 [] { PairState.reset with key := some [1], sent := [(0, 9)], saved := some 9 }
     let s := { s with nts := { s.nts with staging := some k } }
     pairStateOf s = 4 ∧ max (s.get PAIR_EPOCH_TX.EPOCH) (s.get PAIR_EPOCH_RX.EPOCH) + 1 < 2 ^ 32 ∧ s.flag PAIR_STATUS.HB_OK = false ∧
     s.pair.sent.lookup (0#32).toNat = some 9 ∧ s.nts.staging = some k ∧ s.pair.saved = some k.gen) ∧
    (let s := paired 2 [] { PairState.reset with key := some (List.replicate 96 1) }
     pairStateOf s = 2 ∧ pairUnwrap (List.replicate 96 1) (pairWrap (List.replicate 96 1) [5]) = some [5]) := by decide +kernel

/-! ### DeviceResetsAndCrossings -/

/-- A running device with a pivot fault in force, PERST_N low and a checkpoint being written. -/
def faulty (fs : List (Fld × Nat)) : State :=
  let s := live fs
  { s with sys := { s.sys with pivotFault := true, perst := true } }

theorem meets_DeviceResets :
    (let s := faulty [(CDC_STATUS.D2D_RETRAINING, 1), (CON_CFG.HOST_WD_EN, 1)]
     s.hostReach .glb none = true ∧ s.sys.pivotFault = true ∧ s.flag CDC_STATUS.D2D_RETRAINING = true ∧ 2 ≤ s.phase ∧
     s.live .con = true ∧ s.flag CON_CFG.HOST_WD_EN = true ∧ s.cat.op = none ∧ s.sys.perst = true ∧
     (regFind 0x90000).any (fun h => decide (h.desc.dom ≠ .pwr) && h.sticky == 0) = true) ∧
    (let s := live [(CDC_STATUS.D2D_UP, 1)]
     6 ≤ s.phase ∧ s.sys.pivotFault = false ∧ s.sys.perst = false ∧ s.con.writing = none ∧ s.flag CDC_STATUS.D2D_UP = true ∧
     (regFind (HIF_Q_CFG.ofs 31)).any perstPick = true ∧ (regFind 0x90000).any (fun h => !perstPick h) = true ∧
     State.reset.phase < 2) ∧
    (let s := live [(CDC_XS_STATUS.CLK_ABSENT 24, 1), (CDC_XS_STATUS.STATE_A 17, 3), (CDC_XS_STATUS.STATE_B 17, 3), (LK_CFG.EN 0, 1)]
     s.flag (CDC_XS_STATUS.CLK_ABSENT 24) = true ∧ s.flag (CDC_XS_STATUS.CLK_ABSENT 55) = false ∧ cdcHeld s 24 = false ∧
     cdcHeld { s with sys := { s.sys with instHeld := some (11, 7) } } 24 = true ∧ s.get (CDC_XS_STATUS.STATE_A 17) = 3 ∧
     s.get (CDC_XS_STATUS.STATE_B 17) = 3 ∧ s.flag (LK_CFG.EN 0) = true ∧ s.live .lnk = true ∧ s.get (TB_REP_STATUS.STATE 16) = 0) := by
  decide +kernel

/-! ### BlocksRestartAndStartUpRuns -/

theorem meets_BlocksRestart :
    (let s := live []
     s.hostReach .glb none = true ∧ s.flag GLB_RST_STATUS.BUSY = false ∧ (s.put GLB_RST_STATUS.BUSY 1).flag GLB_RST_STATUS.BUSY = true ∧
     (List.range 13).all (fun i => (blocksOf (2 ^ i)).length == 1) = true ∧ blocksOf 2 = [.rgs] ∧ instOf 12 = some (.bneSlot, 16) ∧
     instOf 15 = none ∧ (regFind (LK_CFG.ofs 7)).any (fun h => h.ofInst .link 7 && h.ofBlock .lnk && h.sticky == 0) = true ∧
     lkOn (link7 [] LkLink.reset) 7 = true) := by decide +kernel

/-- A device in a phase of start-up. -/
def phased (p : Nat) : State := State.reset.put CAT_STATUS.PHASE p

theorem meets_StartUp :
    State.reset.phase = 0 ∧ State.reset.sys.strap ≠ 7 ∧ State.reset.sys.pfailHold = false ∧ (phased 1).phase = 1 ∧ (phased 2).phase = 2 ∧
    (phased 5).phase = 5 ∧ tableGet (phased 2).rf.vals 0x90000 = none ∧ ckptNewest (phased 5) = none ∧
    (let ck : Ckpt := ⟨0, 9, 0, [], 5, [], 37, none, [], none, none, none, 0, none, 4, 0, none⟩
     let s := { phased 5 with slots := [⟨1, 1023, [(0, ckptImage 0 ck true)], []⟩, CkptSlot.reset] }
     ckptNewest s = some (0, 0, ck) ∧ ck.hash ≠ catHash s) := by decide +kernel

/-! ### ImagesAreSelectedAndTheNvMemoryIsWritten -/

/-- Four bytes of bank A that hold MAGIC. -/
def magicA : List (Nat × Byte) := [(0, 0x57), (1, 0x43), (2, 0x54), (3, 0x47)]

theorem meets_Images :
    (let s := phased 3
     s.phase = 3 ∧ s.flag CAT_CFG.FACTORY_NEXT = false ∧ (catCheck 0 true s).1 = 1 ∧ (catCheck 1 false s).1 = 9 ∧
     (let s := { s with nv := magicA }
      bankPresent s.nv 0 = true ∧ (catCheck 0 true s).1 = 2) ∧
     (s.put CAT_CFG.FACTORY_NEXT 1).flag CAT_CFG.FACTORY_NEXT = true ∧ (phased 7).phase = 7) ∧
    (let s := (live []).put CAT_NV_ADDR.ADDR 0x800100
     s.phase = 6 ∧ s.flag CAT_NV_STATUS.BUSY = false ∧ s.hostReach .cat none = true ∧ s.sys.ownerKey = none ∧ s.cat.op = none ∧
     s.get CAT_NV_ADDR.ADDR / 256 * 256 = 0x800100 ∧ ¬ 0x1000000 < s.get CAT_NV_ADDR.ADDR + 256 ∧
     s.get (CAT_STATUS.SOURCE) = 0 ∧ (s.put CAT_NV_STATUS.BUSY 1).flag CAT_NV_STATUS.BUSY = true ∧
     (s.put CAT_STATUS.SOURCE 3).get CAT_STATUS.SOURCE = 3 ∧ State.reset.phase < 3) := by decide +kernel

/-! ### CheckpointsAreLatchedWrittenAndCommitted -/

/-- A running device with a checkpoint stored, a key staged and the listed requests. -/
def saved (block : Bool) (writing : Bool) (pfail : Bool) : State :=
  let ck : Ckpt := ⟨0, 9, 0, [], 5, [], 37, none, [], none, none, none, 0, some 3, 0, 0, none⟩
  let s := live [(CON_CFG.CKPT_EN, 1), (NTS_STATUS.ROT_STATE, 2), (PROV_CFG.EN, 1)]
  { s with slots := [⟨1, 8, [(0, ckptImage 0 ck true)], []⟩, ⟨0, 0, [], []⟩], sys := { s.sys with pfailLow := pfail },
           nts := { s.nts with staging := some ⟨3, []⟩ }, prov := { s.prov with booting := true },
           con := { s.con with blockReq := block, writing := if writing then some ⟨1, 0, ck⟩ else none, erasing := some (1, 127) } }

theorem meets_Checkpoints :
    (let s := saved true false false
     s.live .con = true ∧ s.con.writing = none ∧ s.flag CON_CFG.CKPT_EN = true ∧ s.con.blockReq = true ∧ s.sys.pivotFault = false ∧
     ckptTarget s = 1 ∧ (ckptSlot s 1).erased < 3 ∧ 3 ≤ (ckptSlot { s with slots := s.slots.set 1 CkptSlot.reset } 1).erased ∧
     ckptTarget { s with slots := s.slots.set 1 CkptSlot.reset } = 1 ∧ 3 ≤ (ckptSlot (ckptErased 1 127 s) 1).erased ∧
     (ckptNewest s).isSome = true ∧ s.hostReach .con none = true ∧ s.sys.pfailLow = false ∧ s.con.erasing = some (1, 127) ∧
     s.con.pfailHighAt = none ∧ s.cat.op = none ∧ s.live .evt = true ∧ s.live .bne = true ∧ s.live .prov = true) ∧
    (let s := saved false true true
     s.con.writing.isSome = true ∧ s.sys.pfailLow = true ∧ s.con.blockReq = false ∧ s.nts.staging = some ⟨3, []⟩ ∧
     s.get NTS_STATUS.ROT_STATE = 2 ∧ pairActive s = false ∧ s.prov.booting = true ∧ s.flag PROV_CFG.EN = true) ∧
    (let s := { saved false false false with con := ConState.reset }
     s.con.erasing = none ∧ ckptNextErase s 0 = some 1 ∧ ckptNextErase s 1 = some 0 ∧
     ckptNextErase { s with slots := [⟨1, 9, [], []⟩, ⟨0, 0, [], []⟩] } 0 = none) := by decide +kernel

/-! ### TheConservatorScrubsCalibratesAndTests -/

theorem meets_TheConservator :
    (let s := live [(OUT_CFG.EN 15, 1), (EP_CFG.EN 7, 1), (LK_CFG.EN 7, 1)]
     s.live .con = true ∧ s.live .out = true ∧ s.live .lnk = true ∧ s.flag (OUT_CFG.EN 15) = true ∧ s.con.test = none ∧
     s.flag (EP_CFG.EN (8 - 1)) = true ∧ s.flag (LK_CFG.EN (16 - 9)) = true ∧ s.con.linkDelays.getD 7 none = none ∧
     bneStateOf s 15 ≤ 2 ∧ (17#5).toNat = 17 ∧ (List.replicate 16 (0#16)).length = 16 ∧
     (let s := { s with con := { s.con with outDelays := List.replicate 16 (some ⟨0, 0, 0⟩), linkDelays := List.replicate 8 (some (0, 0)), test := some 9 } }
      s.con.outDelays.getD 15 none = some ⟨0, 0, 0⟩ ∧ calBusy s = false ∧ s.con.calWait = [] ∧ 20 * 65536 < 1000 * ((1311 : Int) - 0).natAbs ∧ 1000 * ((1310 : Int) - 0).natAbs ≤ 20 * 65536 ∧
      s.con.linkDelays.getD 7 none = some (0, 0) ∧ s.con.test = some 9)) ∧
    State.reset.live .con = false := by decide +kernel

/-! ### SnapshotsLatchAndInterruptsAreServed -/

/-- A Vitrine that holds a snapshot or not, watches pin 31 and has a match armed at time 0. -/
def vitrine (held lock : Nat) : State :=
  let s := live [(VIT_STATUS.HELD, held), (VIT_CFG.LOCK, lock), (VIT_CFG.PIN_EN, 1), (VIT_CFG.PIN, 31), (VIT_CFG.PIN_EDGE, 1)]
  { s with vit := { s.vit with armed := some 0 } }

theorem meets_Snapshots :
    (let s := vitrine 1 1
     s.hostReach .vit none = true ∧ s.flag VIT_STATUS.HELD = true ∧ s.flag VIT_CFG.LOCK = true ∧ s.flag (VIT_CFG.PIN_EN) = true ∧
     s.get VIT_CFG.PIN = 31 ∧ s.get (TRG_CFG.MODE 31) = 0 ∧ (s.get VIT_CFG.PIN_EDGE).testBit 0 = true ∧ s.live .vit = true ∧
     vitTwin s 0 = false ∧ (after (.vitTrig 1) (vitrine 0 1)).hostReach .vit none = true ∧ vitTwin (after (.vitTrig 1) (vitrine 0 1)) 2 = true ∧
     s.vit.armed = some 0 ∧ 0 ≤ s.timeAt 0 ∧ s.timeAt 0 < 1 ∧ s.flag VIT_FLAGS.TAKEN = false) ∧
    (let s := (vitrine 0 0).put VIT_TOD_NS.NS 2000
     s.flag VIT_STATUS.HELD = false ∧ s.get VIT_TOD_NS.NS ≤ 999999999 ∧
     2000 * nsUnit ≤ timeOf (s.get64 VIT_TOD_SEC.ofs) (s.get VIT_TOD_NS.NS) 0 - s.timeAt 0 ∧
     timeOf 0 1999 0 - s.timeAt 0 < 2000 * nsUnit ∧ (live []).vit.armed = none) := by decide +kernel

theorem meets_Interrupts :
    (let s := live [(IRQ_CFG.EN, 1), (IRQ_EN.EN 7, 1), (IRQ_MAP.VEC0 56, 63), (MSIX_CTRL.MASK 63, 0)]
     s.hostReach .irq none = true ∧ s.get IRQ_CFG.EN = 1 ∧ s.rf.vectorOf 224 = 63 ∧ (s.get (IRQ_EN.EN (224 / 32))).testBit (224 % 32) = true ∧
     (s.get64 IRQ_VEC_INSVC.ofs).testBit 63 = false ∧ s.get (MSIX_CTRL.MASK 63) = 0 ∧ (after (.irqTest 224) s).rf.assertedSet.testBit 63 = true ∧
     s.rf.assertedSet.testBit 63 = false) ∧
    (let s := live [(MSIX_CTRL.MASK 63, 1), (MSIX_PBA.PEND 63, 1)]
     s.get (MSIX_CTRL.MASK 63) = 1 ∧ s.get (MSIX_PBA.PEND 63) = 1 ∧ (live []).get (MSIX_PBA.PEND 63) = 0) := by decide +kernel

/-! ### QueuesAreServedByDma -/

/-- A device whose queue q is enabled with the descriptors ds fetched and one more posted. -/
def queued (q : Nat) (ds : List (List Byte)) : State :=
  let s := live [(HIF_Q_CFG.EN q, 1), (HIF_Q_CFG.SIZE_LOG2 q, 6), (HIF_Q_TAIL.TAIL q, ds.length + 1), (HIF_Q_IRQ.THRESH q, 1),
    (HIF_Q_IRQ.TIMER q, 1), (HIF_Q_CFG.EN 10, 1), (HIF_Q_CFG.SIZE_LOG2 10, 6), (EP_CFG.EN 7, 1), (EP_STATUS.LINK 7, 1),
    (CDC_XS_STATUS.STATE_A 25, 0), (CDC_XS_STATUS.STATE_B 25, 0)]
  hifSetQueue q (fun x => { x with fetched := ds, unnotified := 1 }) s

theorem meets_Queues :
    (let d : List Byte := List.replicate 8 0 ++ [60, 0] ++ List.replicate 6 0
     let s := queued 27 [d]
     s.hostReach .hif none = true ∧ (hifQueue s (20 + 7)).fetched = [d] ∧ leNat ((d.drop 8).take 2) = 60 ∧
     s.flag (EP_CFG.EN 7) = true ∧ s.flag (EP_STATUS.LINK 7) = true ∧ (hifQueue s 27).fetched.length < 2 ∧ s.sys.pfailLow = false ∧
     s.get (HIF_Q_TAIL.TAIL 27) = 2 ∧ s.get (CDC_XS_STATUS.STATE_A 25) = 0 ∧ s.get (CDC_XS_STATUS.STATE_B 25) = 0 ∧ s.get (HIF_Q_IRQ.THRESH 27) ≤ (hifQueue s 27).unnotified + 1 ∧ s.get (HIF_Q_IRQ.TIMER 27) ≠ 0 ∧
     (hifQueue s 27).unnotified ≠ 0 ∧ s.flag (HIF_Q_CFG.EN 26) = false) ∧
    (let s := queued 28 []
     hifFill s 10 + (hifQueue s 10).claims < hifSize s 10 ∧ s.flag (HIF_Q_CFG.EN 10) = true ∧
     2 ^ s.get (HIF_Q_CFG.SIZE_LOG2 28) < (65 + 2 ^ 32 - s.get (HIF_Q_HEAD.HEAD 28)) % 2 ^ 32 ∧
     (64 + 2 ^ 32 - s.get (HIF_Q_HEAD.HEAD 28)) % 2 ^ 32 ≤ 2 ^ s.get (HIF_Q_CFG.SIZE_LOG2 28)) ∧
    (let d : List Byte := [0, 0, 0, 0, 64] ++ List.replicate 27 0
     (hifQueue (queued 30 [d]) 30).fetched = [d] ∧ descField d 0 4 % 64 = 0 ∧ descField d 4 4 = 64 ∧ descField d 16 16 = 0 ∧
     descField [1] 0 4 % 64 ≠ 0) := by decide +kernel

end Sys2Proof.Tests
end

section
/-! The UTC offset (R50, R52): a written offset reads back, comes into force at the next whole second, and is replaced when an
armed leap completes. The rules on raised interrupts and on counted host writes that the proof needs come first. -/

namespace Sys2Proof.Machine

/-! ### The raw bit of a raised source (R378, R380)

Bringing the vectors up to date writes IRQ_VEC_ASSERTED, IRQ_VEC_INSVC and the MSI-X pending bits; the raw bits, the enables and
the map lie between these. -/

theorem RegFile.deliver_reg_below_msix (p : RegFile × List Out) (v o : Nat) (h : o < 0x38000) :
    (RegFile.deliver p v).1.reg o = p.1.reg o := by
  unfold RegFile.deliver
  split
  · exact RegFile.reg_put_other _ _ _ _ (by simp only [MSIX_PBA.PEND]; omega)
  · rfl

theorem RegFile.serve_reg_source (a : Nat) (p : RegFile × List Out) (v o : Nat) (hl : 0x30030 ≤ o) (h : o < 0x38000) :
    (RegFile.serve a p v).1.reg o = p.1.reg o := by
  unfold RegFile.serve
  split
  · rw [RegFile.deliver_reg_below_msix _ _ _ h]
    exact RegFile.reg_put64_other _ _ _ _ (by simp only [IRQ_VEC_INSVC.ofs]; omega) (by simp only [IRQ_VEC_INSVC.ofs]; omega)
  · rfl

theorem RegFile.irqUpdate_reg_source (p : RegFile × List Out) (o : Nat) (hl : 0x30030 ≤ o) (h : o < 0x38000) :
    (RegFile.irqUpdate p).1.reg o = p.1.reg o := by
  have asserted : (p.1.put64 IRQ_VEC_ASSERTED.ofs p.1.assertedSet).reg o = p.1.reg o :=
    RegFile.reg_put64_other _ _ _ _ (by simp only [IRQ_VEC_ASSERTED.ofs]; omega) (by simp only [IRQ_VEC_ASSERTED.ofs]; omega)
  unfold RegFile.irqUpdate
  simp only
  split
  · exact asserted
  · refine List.foldlRecOn (motive := fun q : RegFile × List Out => q.1.reg o = p.1.reg o) (List.range 64) _ asserted fun q hq v _ => ?_
    exact (RegFile.serve_reg_source _ q v o hl h).trans hq

theorem State.raised_raise (s : State) (src : Nat) (hs : src < 256) : Raised src (s.raise src) := by
  have kept := RegFile.irqUpdate_reg_source (s.rf.put ⟨IRQ_RAW.ofs (src / 32), src % 32, 1⟩ 1, []) (IRQ_RAW.ofs (src / 32))
    (by simp only [IRQ_RAW.ofs]; omega) (by simp only [IRQ_RAW.ofs]; omega)
  have written := RegFile.get_put_same s.rf ⟨IRQ_RAW.ofs (src / 32), src % 32, 1⟩ 1 (by simp only; omega)
  unfold Raised State.get RegFile.get State.raise RegFile.irqRaise
  rw [kept]
  exact written

theorem State.raised_setFlag (s : State) (f : Fld) (src : Nat) (hs : src < 256) (h : s.flag f = false) :
    Raised src (s.setFlag f src) := by
  rw [State.setFlag, h]
  exact State.raised_raise _ _ hs

/-! ### Host writes that the ledger counts (R284) -/

@[simp] theorem hostCount_rf (c : Bool) (s : State) : (hostCount c s).rf = s.rf := by
  unfold hostCount
  split <;> rfl

@[simp] theorem hostCount_tb (c : Bool) (s : State) : (hostCount c s).tb = s.tb := by
  unfold hostCount
  split <;> rfl

@[simp] theorem hostCount_get (c : Bool) (s : State) (f : Fld) : (hostCount c s).get f = s.get f := by
  rw [State.get, hostCount_rf, State.get]

theorem cfgWrites_hostCount (c : Bool) {s t : State} (h : t.prov = s.prov) : CfgWrites s (hostCount c t) := by
  cases c with
  | false => exact .inl h
  | true => exact .inr (by rw [← h]; rfl)

/-- A host write that reaches its block takes effect, and at most the ledger counts it. -/
theorem State.hostDo_of_reach {b : Blk} {inst : Option (Nat × Nat)} {s : State} (watch : List Nat) (f : State → State)
    (h : s.hostReach b inst = true) : ∃ c, s.hostDo b inst watch f = hostCount c (f s) :=
  ⟨_, if_pos h⟩

theorem State.sameFields_put (s : State) (f : Fld) (x : Nat) : SameFields [f] s (s.put f x) :=
  fun g hg => s.get_put_other f g x (hg f List.mem_cons_self)

/-! ### The UTC offset and the end of a leap (R50, R52) -/

/-- A host write of TB_UTC_OFS changes the value that reads back, not the offset in force. -/
theorem execUtcOfsWrite_spec (s : State) (v : BitVec 16) (h : s.hostReach .tb none = true) :
    ∃ t, execUtcOfsWrite v s = .next t ∧ t.get TB_UTC_OFS.OFS = v.toNat ∧ t.tb = s.tb ∧ SameFields [TB_UTC_OFS.OFS] s t ∧
      CfgWrites s t := by
  obtain ⟨c, hc⟩ := State.hostDo_of_reach [TB_UTC_OFS.ofs] (State.put TB_UTC_OFS.OFS v.toNat) h
  refine ⟨hostCount c (s.put TB_UTC_OFS.OFS v.toNat), congrArg _ hc, ?_, by simp, ?_, cfgWrites_hostCount c rfl⟩
  · rw [hostCount_get, State.get_put_same _ _ _ (by decide)]
    exact Nat.mod_eq_of_lt v.isLt
  · intro g hg
    rw [hostCount_get]
    exact s.sameFields_put _ _ g hg

/-- The writes to registers when a leap with new offset `o` completes: the offset shown, ARM cleared, LEAP_DONE set. -/
def leapDoneRegs (o : Int) (s : State) : State :=
  ((s.putI TB_UTC_OFS.OFS o).put TB_LEAP_CFG.ARM 0).setFlag TB_FLAGS.LEAP_DONE 35

theorem tbLeapDone_of_reached {s : State} {l : Leap} {at_ : Nat} (hl : s.tb.leap = some l) (h : l.sL ≤ secOf (s.timeAt at_)) :
    tbLeapDone at_ s = { leapDoneRegs l.oNew s with
      tb := { s.tb with utcOfs := l.oNew, leap := none, warn := ⟨0, false, false, false⟩ } } := by
  have kept : (leapDoneRegs l.oNew s).tb = s.tb := by simp [leapDoneRegs, setFlag_tbKept]
  rw [← kept]
  simp only [tbLeapDone, hl, h, if_true]
  rfl

theorem leapDoneRegs_ofs (o : Int) (s : State) : (leapDoneRegs o s).get TB_UTC_OFS.OFS = patternOf 16 o := by
  rw [leapDoneRegs, State.get_setFlag_other _ _ _ _ (by decide) (.inr (by decide)) (.inl (by decide)),
    State.get_put_other _ _ _ _ (.inl (by decide)), State.putI, State.get_put_same _ _ _ (by decide)]
  refine Nat.mod_eq_of_lt ?_
  simp only [TB_UTC_OFS.OFS, patternOf]
  omega

theorem leapDoneRegs_arm (o : Int) (s : State) : (leapDoneRegs o s).get TB_LEAP_CFG.ARM = 0 := by
  rw [leapDoneRegs, State.get_setFlag_other _ _ _ _ (by decide) (.inr (by decide)) (.inl (by decide)),
    State.get_put_same _ _ _ (by decide), Nat.zero_mod]

theorem leapDoneRegs_done (o : Int) (s : State) : (leapDoneRegs o s).get TB_FLAGS.LEAP_DONE = 1 :=
  State.get_setFlag_same _ _ _ (by decide) (.inr (by decide)) (by decide) rfl

theorem leapDoneRegs_raised (o : Int) (s : State) (h : s.flag TB_FLAGS.LEAP_DONE = false) : Raised 35 (leapDoneRegs o s) := by
  refine State.raised_setFlag _ _ _ (by decide) ?_
  have kept : ((s.putI TB_UTC_OFS.OFS o).put TB_LEAP_CFG.ARM 0).get TB_FLAGS.LEAP_DONE = s.get TB_FLAGS.LEAP_DONE := by
    rw [State.get_put_other _ _ _ _ (.inl (by decide)), State.putI, State.get_put_other _ _ _ _ (.inl (by decide))]
  exact (congrArg (· == 1) kept).trans h

theorem leapDoneRegs_same (o : Int) (s : State) :
    SameOffIrq [TB_UTC_OFS.OFS, TB_LEAP_CFG.ARM, TB_FLAGS.LEAP_DONE] s (leapDoneRegs o s) := by
  intro g hoff hg
  rw [leapDoneRegs, State.get_setFlag_other _ _ _ _ (by decide) hoff (hg _ (by simp)),
    State.get_put_other _ _ _ _ (hg _ (by simp)), State.putI, State.get_put_other _ _ _ _ (hg _ (by simp))]

/-- Settles O11: the write, the next whole second and the end of a leap, each by the lemma about its command. -/
theorem utcOffsetComesIntoForceAtTheNextSecond : Obligations.UtcOffsetComesIntoForceAtTheNextSecond := by
  intro s
  refine ⟨fun v h => execUtcOfsWrite_spec s v h, ⟨_, rfl, rfl, rfl⟩, fun l at_ hl h => ?_⟩
  exact ⟨_, congrArg Host.Outcome.next (tbLeapDone_of_reached hl h), rfl, leapDoneRegs_ofs l.oNew s, leapDoneRegs_arm l.oNew s,
    leapDoneRegs_done l.oNew s, leapDoneRegs_raised l.oNew s, leapDoneRegs_same l.oNew s⟩

end Sys2Proof.Machine
end

section
/-! ZEROISE (R228): the key store it leaves, what that store means for cookies, checkpoints and the next key, and the command that
writes it. The rules on what a change leaves, which other commands share, come first. -/

namespace Sys2Proof.Machine

/-! ### What a change leaves -/

theorem Keeps.onlyParts {m : Nat} {ps : List Part} {s t : State} (h : Keeps m s t)
    (hm : ∀ p, p ∉ ps → m.testBit p.idx = false) : OnlyParts ps s t :=
  ⟨h.queue, fun p hp => h.parts p (hm p hp)⟩

theorem State.onlyIf_eq (c : Bool) (f : State → State) (s : State) : s.onlyIf c f = s ∨ s.onlyIf c f = f s := by
  cases c
  · exact .inl rfl
  · exact .inr rfl

theorem SameFields.sameOffIrq {fs : List Fld} {s t : State} (h : SameFields fs s t) : SameOffIrq fs s t :=
  fun g _ hg => h g hg

theorem SameFields.trans {fs gs : List Fld} {a b c : State} (h : SameFields fs a b) (k : SameFields gs b c) :
    SameFields (fs ++ gs) a c :=
  fun g hg => (k g fun f hf => hg f (List.mem_append_right _ hf)).trans (h g fun f hf => hg f (List.mem_append_left _ hf))

theorem SameOffIrq.trans {fs gs : List Fld} {a b c : State} (h : SameOffIrq fs a b) (k : SameOffIrq gs b c) :
    SameOffIrq (fs ++ gs) a c :=
  fun g hoff hg => (k g hoff fun f hf => hg f (List.mem_append_right _ hf)).trans
    (h g hoff fun f hf => hg f (List.mem_append_left _ hf))

theorem State.sameOffIrq_setFlag (s : State) (f : Fld) (src : Nat) (hs : src < 256) : SameOffIrq [f] s (s.setFlag f src) :=
  fun g hoff hg => s.get_setFlag_other f g src hs hoff (hg f List.mem_cons_self)

/-- A host write that reaches its block and can change no RW field is not counted by the ledger (R284). -/
theorem State.hostDo_unwatched {b : Blk} {inst : Option (Nat × Nat)} {s : State} (f : State → State)
    (h : s.hostReach b inst = true) : s.hostDo b inst [] f = f s := by
  rw [State.hostDo, if_pos h]
  simp [hostCount]

/-! ### The registers that show the store (R224, R226) -/

theorem sameFields_ntsRefresh (s : State) :
    SameFields [NTS_KEYID.KEYID 0, NTS_KEYID.KEYID 1, NTS_KEYID.KEYID 2, NTS_STATUS.GEN_VALID] s (ntsRefresh s) := by
  unfold ntsRefresh
  exact (((s.sameFields_put _ _).trans (State.sameFields_put _ _ _)).trans (State.sameFields_put _ _ _)).trans
    (State.sameFields_put _ _ _)

theorem sameFields_ntsRest (s : State) : SameFields [NTS_STATUS.ROT_STATE] s (ntsRest s) := State.sameFields_put _ _ _

/-- Without a current key the store comes to rest EMPTY. -/
theorem ntsRest_get_rotState (s : State) (h : s.nts.cur = none) : (ntsRest s).get NTS_STATUS.ROT_STATE = 0 := by
  rw [ntsRest, h]
  exact State.get_put_same _ _ _ (by decide)

/-! ### A store without a key -/

/-- The store holds no generation of keys and stages none. -/
structure NtsState.NoKey (x : NtsState) : Prop where
  cur : x.cur = none
  old1 : x.old1 = none
  old2 : x.old2 = none
  staging : x.staging = none

theorem ntsHeld_of_noKey {s : State} (h : s.nts.NoKey) (gen : Nat) : ntsHeld s gen = none := by
  simp [ntsHeld, h.cur, h.old1, h.old2]

/-- A request that names a generation which is not held is answered with a NAK for want of the key (R231). -/
theorem ntsCheck_of_not_held {s : State} {q : NtsParts} (f : Parsed) (h : ntsHeld s (beNat (q.cookie.take 4)) = none) :
    ntsCheck s f q = .nak NTS_CNT_NAK.KEY := by
  rw [ntsCheck, h]

/-- A checkpoint latched from a store without a key holds none (R225). -/
theorem ckptLatch_of_noKey {s : State} (h : s.nts.NoKey) (kind at_ : Nat) :
    (ckptLatch kind at_ s).cur = none ∧ (ckptLatch kind at_ s).old1 = none ∧ (ckptLatch kind at_ s).old2 = none ∧
      (ckptLatch kind at_ s).staged = none := by
  simp [ckptLatch, h.cur, h.old1, h.old2, h.staging]

/-- Enabling the block does nothing, or draws a first key (R226). -/
theorem execNtsEnable_eq (s : State) : execNtsEnable s = .next s ∨ execNtsEnable s = .next (ntsDraw s) := by
  rw [execNtsEnable]
  rcases State.onlyIf_eq (s.live .nts) ntsFirst s with keep | live
  · exact .inl (congrArg _ keep)
  · rw [live, ntsFirst]
    exact (State.onlyIf_eq _ ntsDraw s).imp (congrArg _) (congrArg _)

theorem ntsDraw_staging (s : State) : (ntsDraw s).nts.staging = some ⟨s.get NTS_GEN_NEXT.NEXT, s.freeBytes 64⟩ := rfl

/-- The key that enabling the block stages, where none was staged, takes the next generation number. -/
theorem execNtsEnable_staged_gen {s u : State} {k : NtsKey} (hs : s.nts.staging = none) (hu : execNtsEnable s = .next u)
    (hk : u.nts.staging = some k) : k.gen = s.get NTS_GEN_NEXT.NEXT := by
  rcases execNtsEnable_eq s with keep | draw
  · cases keep.symm.trans hu
    cases hs.symm.trans hk
  · cases draw.symm.trans hu
    cases (ntsDraw_staging s).symm.trans hk
    rfl

/-! ### ZEROISE (R228) -/

/-- The keys erased and a checkpoint requested, before any register shows it. -/
def ntsErase (s : State) : State :=
  { s with nts := { s.nts with cur := none, old1 := none, old2 := none, staging := none },
           con := { s.con with blockReq := true } }

/-- What a confirmed ZEROISE leaves: the store erased, the registers brought up to date, ZEROISED set. -/
def ntsZeroised (s : State) : State := ntsFlag NTS_FLAGS.ZEROISED (ntsRest (ntsRefresh (ntsErase s)))

theorem ntsErase_noKey (s : State) : (ntsErase s).nts.NoKey := ⟨rfl, rfl, rfl, rfl⟩

theorem ntsZeroise_confirmed (s : State) : ntsZeroise 0xC3 s = ntsZeroised s := if_pos rfl

theorem ntsZeroised_keeps (s : State) : Keeps 0 (ntsErase s) (ntsZeroised s) :=
  .via (ntsFlag_keeps ..) rfl (.via (ntsRest_keeps ..) rfl (ntsRefresh_keeps _))

theorem ntsZeroised_nts (s : State) : (ntsZeroised s).nts = (ntsErase s).nts := (ntsZeroised_keeps s).parts .nts rfl

theorem ntsZeroised_con (s : State) : (ntsZeroised s).con = (ntsErase s).con := (ntsZeroised_keeps s).parts .con rfl

theorem ntsZeroised_noKey (s : State) : (ntsZeroised s).nts.NoKey := ntsZeroised_nts s ▸ ntsErase_noKey s

theorem ntsZeroised_onlyParts (s : State) : OnlyParts [.nts, .con] s (ntsZeroised s) := by
  rw [← ntsZeroise_confirmed]
  exact (ntsZeroise_keeps 0xC3 s).onlyParts fun p => by cases p <;> decide

theorem ntsZeroised_same (s : State) :
    SameOffIrq [NTS_KEYID.KEYID 0, NTS_KEYID.KEYID 1, NTS_KEYID.KEYID 2, NTS_STATUS.GEN_VALID, NTS_STATUS.ROT_STATE,
      NTS_FLAGS.ZEROISED] s (ntsZeroised s) :=
  ((sameFields_ntsRefresh (ntsErase s)).trans (sameFields_ntsRest _)).sameOffIrq.trans
    (State.sameOffIrq_setFlag _ NTS_FLAGS.ZEROISED 156 (by decide))

theorem ntsZeroised_flag (s : State) : (ntsZeroised s).get NTS_FLAGS.ZEROISED = 1 :=
  State.get_setFlag_same _ _ _ (by decide) (.inr (by decide)) (by decide) rfl

theorem ntsZeroised_rotState (s : State) : (ntsZeroised s).get NTS_STATUS.ROT_STATE = 0 := by
  rw [ntsZeroised, ntsFlag, State.get_setFlag_other _ _ _ _ (by decide) (.inr (by decide)) (.inl (by decide))]
  exact ntsRest_get_rotState _ rfl

theorem ntsZeroised_genNext (s : State) : (ntsZeroised s).get NTS_GEN_NEXT.NEXT = s.get NTS_GEN_NEXT.NEXT :=
  ntsZeroised_same s _ (.inr (by decide)) (by unfold Fld.apart; decide)

theorem execZeroise_confirmed {s : State} (h : s.hostReach .nts none = true) : execZeroise 0xC3 s = .next (ntsZeroised s) :=
  congrArg _ ((State.hostDo_unwatched _ h).trans (ntsZeroise_confirmed s))

theorem execZeroise_unconfirmed {s : State} {confirm : Byte} (h : s.hostReach .nts none = true) (hc : confirm ≠ 0xC3) :
    execZeroise confirm s = .next (s.setFlag NTS_FLAGS.CFG_BAD 157) := by
  have hne : confirm.toNat ≠ 0xC3 := fun e => hc (BitVec.eq_of_toNat_eq e)
  rw [execZeroise, State.hostDo_unwatched _ h, ntsZeroise, if_neg hne, ntsFlagLow]

/-- Settles O41: a confirmed ZEROISE leaves `ntsZeroised`, whose store has no key; any other value reaches only CFG_BAD. -/
theorem zeroiseErasesTheKeyStore : Obligations.ZeroiseErasesTheKeyStore := by
  intro s confirm _ hreach
  refine ⟨fun hc => ?_, fun hc => ?_⟩
  · subst hc
    have noKey := ntsZeroised_noKey s
    have held := ntsHeld_of_noKey noKey
    have nextKey : ∀ u k, exec .ntsEnable (ntsZeroised s) = .next u → u.nts.staging = some k →
        k.gen = s.get NTS_GEN_NEXT.NEXT := fun u k hu hk =>
      (execNtsEnable_staged_gen noKey.staging hu hk).trans (ntsZeroised_genNext s)
    exact ⟨ntsZeroised s, execZeroise_confirmed hreach, ntsZeroised_nts s, congrArg ConState.blockReq (ntsZeroised_con s),
      ckptLatch_of_noKey noKey, ntsZeroised_flag s, held, fun f q => ntsCheck_of_not_held f (held _), ntsZeroised_genNext s,
      nextKey, ntsZeroised_rotState s, ntsZeroised_same s, ntsZeroised_onlyParts s, ntsZeroised_con s⟩
  · exact ⟨s.setFlag NTS_FLAGS.CFG_BAD 157, execZeroise_unconfirmed hreach hc,
      State.get_setFlag_same _ _ _ (by decide) (.inr (by decide)) (by decide) rfl,
      s.sameOffIrq_setFlag _ _ (by decide), (s.setFlag_keeps _ _).onlyParts fun p _ => Nat.zero_testBit _⟩

end Sys2Proof.Machine
end
